-- ==== Sys2Proof/Word.lean ====
section
/-! DEFINITION. The word types of the MHX-5120 and the plainest arithmetic over them.
Register words are bit vectors; network times, counts and indexes are natural numbers; signed
quantities of the manual are integers. -/
namespace Sys2Proof

/-- One 32-bit register word (spec/00_scope.md R5). -/
abbrev Word := BitVec 32
/-- One byte. -/
abbrev Byte := BitVec 8
/-- The tag of an Ilucy command (13_ilucy R378). -/
abbrev Tag := BitVec 16

/-- Sparse data by key: strictly rising keys, no entry equal to the default. The operations are in
Machine/Maps.lean. -/
abbrev SMap (α : Type) := List (Nat × α)

end Sys2Proof
end

