-- ==== Sys2Proof/Syntax/Records.lean ====
section
/-! DEFINITION. The records that commands carry and State holds: the payloads of Ilucy commands as
named fields (the manual lays out most payloads by field, not by byte; NOTES.md, log 5), the frames
of the ports, of Hedgerow and of the mirror link, and the names the manual gives to fixed sets. -/
namespace Sys2Proof.Machine

/-- Operating modes (01_architecture R31). -/
inductive Mode where
  | boot | calibrate | standby | active | degraded | hold | sleep | factoryTest
  deriving DecidableEq, Repr, Inhabited

/-- Discipline sources (02_network_time R51). -/
inductive Source where
  | none | gptp | hedge
  deriving DecidableEq, Repr, Inhabited

/-- Element modes (05_loop_modes R137). -/
inductive ElemMode where
  | ff | lk | hd | pk
  deriving DecidableEq, Repr, Inhabited

/-- Kinds of failed cell (03_fabric R96). -/
inductive FailKind where
  | stuckBar | stuckCross | dark
  deriving DecidableEq, Repr, Inhabited

/-- Evidence for a failed cell (03_fabric R97). -/
inductive Evidence where
  | calibration | unlockable | driveFault | host
  deriving DecidableEq, Repr, Inhabited

/-- The status codes of an answer (13_ilucy R388). -/
inductive Status where
  | ok | unknownCommand | badHeader | badLength | outOfRange | busy | notPermitted | inUse
  | tooLate | tooSoon | notStepped | alreadyStepped | blocked | noSpace | tagInUse | failed
  | aborted | full | signature | rollback
  deriving DecidableEq, Repr, Inhabited

/-- The kinds of submission queue (12_host_queues R347). -/
inductive QKind where
  | tx | rx | fcq
  deriving DecidableEq, Repr, Inhabited

/-- One submission queue: TXQ00-63, RXQ00-63, FCQ00-15. -/
structure QId where
  kind : QKind
  idx : Nat
  deriving DecidableEq, Repr, Inhabited

/-- gPTP settings of TIME_SET_PTP (02_network_time R56, R78). Roles are used when `external` is set
(external port configuration); the numbers are 0 disabled, 1 slave, 2 master, 3 passive. -/
structure PtpCfg where
  domain : Nat
  ports : BitVec 4
  external : Bool
  roles : List Nat
  priority1 : Nat
  gmCapable : Bool
  logSync : Int
  logPdelay : Int
  npdtNs : Nat
  deriving DecidableEq, Repr, Inhabited

/-- What a gPTP frame brings (R56): a Sync measurement with its domain, a peer-delay result, an Announce with its
domain, the grandmaster and the steps removed from it, or another message. Offsets are in 1/16 ns, rates in 10^-12. -/
inductive GptpMsg where
  | sync (domain : Nat) (valid : Bool) (offset : Int) (rate : Int) (sourceTime : Nat)
  | pdelay (delayNs : Nat)
  | announce (domain priority1 : Nat) (grandmaster : BitVec 64) (steps : Nat)
  | other
  deriving DecidableEq, Repr, Inhabited

/-- A parameter record of eight words (04_element_loops R129). -/
structure ParamRec where
  w0 : Word
  w1 : Word
  w2 : Word
  w3 : Word
  w4 : Word
  w5 : Word
  w6 : Word
  w7 : Word
  deriving DecidableEq, Repr, Inhabited

/-- Settings of a VOA group (05_loop_modes R149-R151); attenuations in 0.01 dB. -/
structure VoaGroupCfg where
  enabled : Bool
  inputs : Bool
  fibres : List Nat
  pin : Nat
  pulse : Bool
  aLo : Nat
  aHi : Nat
  slew : BitVec 16
  deriving DecidableEq, Repr, Inhabited

/-- Spare policy thresholds and windows (07_calibration_spares R218). Windows in minutes (loop
cell), hours (row) and seconds (lane); the segment threshold in 0.01 LSB; the lane threshold is the
negated decimal exponent of the bit error ratio. -/
structure SparePolicy where
  cellEvents : Nat
  cellWindowMin : Nat
  blockEvents : Nat
  rowEvents : Nat
  rowWindowH : Nat
  segmentCentiLsb : Nat
  laneExp : Nat
  laneWindowS : Nat
  deriving DecidableEq, Repr, Inhabited

/-- A part whose wear threshold can be met (R218). -/
inductive Part where
  | loopCell (region block cell : Nat)
  | block (region block : Nat)
  | row (inst row : Nat)
  | segment (channel segment : Nat)
  | lane (port : Nat)
  deriving DecidableEq, Repr, Inhabited

/-- PORT_SET_MODE payload (08_network_ports R228, R231, R236, R239). -/
structure PortModeCfg where
  mode : Nat
  fec : Nat
  clause37 : Bool
  address : BitVec 48
  maxLen : BitVec 2
  stripFcs : Bool
  badDelivery : Bool
  badq : Nat
  deriving DecidableEq, Repr, Inhabited

/-- PORT_SET_PAUSE payload (R244-R248); times in ms. -/
structure PauseCfg where
  generate : Bool
  share : Nat
  high : Nat
  low : Nat
  pq : Nat
  cableM : Nat
  pausable : BitVec 8
  rxpWdMs : Nat
  rearmMs : Nat
  txpWdMs : Nat
  deriving DecidableEq, Repr, Inhabited

/-- GATE_SET_CONFIG payload (09_gates_preemption R271, R275, R279). -/
structure GateCfg where
  enable : Bool
  preemptable : BitVec 8
  addFrag : Nat
  verifyEn : Bool
  verifyTimeMs : Nat
  holdAdvance : Nat
  guardSafe : BitVec 8
  ptpClass : Nat
  deriving DecidableEq, Repr, Inhabited

/-- A gate control list entry, two words (R259). -/
structure GateEntry where
  w0 : Word
  interval : Word
  deriving DecidableEq, Repr, Inhabited

/-- An Axaro signature block (18_trust R518). -/
structure AxaroBlock where
  kind : Byte
  slot : Nat
  target : BitVec 64
  signature : BitVec 512
  deriving DecidableEq, Repr, Inhabited

/-- RULE_SET_PROFILE payload (11_thresher R337): profile MISS actions, per-port ENTRY and
PROFILE_DEF, DEEP_DEFAULT and LEN_DEFAULT (true: COPY_MP). Action records are four words. -/
structure ProfileCfg where
  misses : List (Nat × List Word)
  entries : List (Nat × BitVec 12)
  profileDefs : List (Nat × BitVec 6)
  deep : Option (List Word)
  lenCopyMp : Option Bool
  deriving DecidableEq, Repr, Inhabited

/-- RULE_GET queries (R337); `shadow` selects the generation. -/
inductive RuleQuery where
  | program (shadow : Bool) (start count : Nat)
  | hashed (shadow : Bool) (first count : Nat)
  | ternary (shadow : Bool) (first count : Nat)
  | patterns (shadow : Bool) (first count : Nat)
  | profiles (shadow : Bool)
  | lookup (shadow : Bool) (profile : BitVec 6) (flags : Byte) (key : BitVec 320)
  deriving DecidableEq, Repr, Inhabited

/-- Destination of a mirror session (R328). -/
inductive MirrorDest where
  | off
  | port (port tc : Nat)
  | queue (q : Nat)
  deriving DecidableEq, Repr, Inhabited

/-- Hedgerow configuration (14_hedgerow R404, R413, R415, R416, R436); H in µs, the rest in ns.
`slots` are (slot, owner node) above 15 and `frameIds` (frame ID, owner node). -/
structure HedgeCfg where
  hUs : Nat
  ns : Nat
  nm : Nat
  pw : Nat
  dA : Nat
  dB : Nat
  tenLead : Nat
  syncNode : Bool
  cfgId : Byte
  chanA : Bool
  chanB : Bool
  slots : List (Nat × Nat)
  frameIds : List (Nat × Nat)
  deriving DecidableEq, Repr, Inhabited

/-- UNIT_SET_PAIR payload (15_unit_redundancy R438, R441, R459). -/
structure PairCfg where
  partner : Nat
  paired : Bool
  roleWaitMs : Nat
  holdoffMs : Nat
  failback : Bool
  deriving DecidableEq, Repr, Inhabited

/-- Parameters of a Gleaner source (16_gleaner R467). -/
structure SrcParams where
  n : Nat
  windowMs : Nat
  graceMs : Nat
  action : Nat
  fwClear : Bool
  deriving DecidableEq, Repr, Inhabited

/-- FAULT_INJECT payload (R481). -/
inductive InjectOp where
  | start (source count intervalUs : Nat)
  | resetShadow
  deriving DecidableEq, Repr, Inhabited

/-- A signed revocation or return record (18_trust R514, R520). -/
structure SignedRecord where
  signer : Nat
  serial : BitVec 64
  nonce : BitVec 256
  signature : BitVec 512
  deriving DecidableEq, Repr, Inhabited

/-- DEVICE_FW_DATA payload (13_ilucy R396): bytes in the payload, or bytes that firmware reads from
host memory at an address (Ilucy 2). -/
inductive FwData where
  | direct (bytes : List Byte)
  | host (addr : BitVec 64) (bytes : List Byte)
  deriving DecidableEq, Repr, Inhabited

/-- The straps sampled at a class P or H reset release (19_package_electrical R543). -/
structure Straps where
  unitId : BitVec 4
  pref : Bool
  coldstart : Bool
  deriving DecidableEq, Repr, Inhabited

/-- A received Ethernet frame as the MAC and PCS hand it over (08_network_ports R237, R239):
the bytes from the destination address to the FCS, and what the lower layers found. -/
structure RxFrame where
  bytes : List Byte
  fcsOk : Bool
  codeErr : Bool
  fecUncorr : Bool
  reasmErr : Bool
  deriving DecidableEq, Repr, Inhabited

/-- A received mPacket (09_gates_preemption R272, R277), with what the lower layers found (08_network_ports R239).
`elapsedPs` of the start of a frame places its time-stamp point against the last tick (02_network_time R553). -/
inductive MPacket where
  | verify
  | respond
  | smdS (frag : Nat) (bytes : List Byte) (final crcOk codeErr fecUncorr : Bool) (elapsedPs : Int)
  | smdC (frag : Nat) (bytes : List Byte) (final crcOk codeErr fecUncorr : Bool)
  | unknown
  deriving DecidableEq, Repr, Inhabited

/-- A commit record (15_unit_redundancy R445). -/
structure CommitRec where
  epoch : Word
  bytes : Nat
  baseline : Bool
  handback : Bool
  digest : BitVec 64
  deriving DecidableEq, Repr, Inhabited

/-- The first 24 bytes of a HEARTBEAT payload (14_hedgerow R414) and its commit records. -/
structure Heartbeat where
  tTx : Nat
  phase : Nat
  mode : Mode
  control : Bool
  pref : Bool
  unit : Bool
  paired : Bool
  hstate : Nat
  source : Source
  stepped : Bool
  locked : Bool
  severe : Bool
  partner : Nat
  epoch : Word
  genNum : Word
  recs : List CommitRec
  deriving DecidableEq, Repr, Inhabited

/-- A NOTICE payload (R417). -/
structure Notice where
  instant : Nat
  sheafId : BitVec 16
  stookId : BitVec 16
  kind : Nat
  outcome : Byte
  hostTag : Word
  deriving DecidableEq, Repr, Inhabited

/-- The content of a Hedgerow frame by TYPE (R409). -/
inductive HedgeBody where
  | null
  | heartbeat (h : Heartbeat)
  | commit (recs : List CommitRec)
  | notice (n : Notice)
  | reserved
  deriving DecidableEq, Repr, Inhabited

/-- The header fields of a Hedgerow frame (R408), its payload length, and its payload as sent. -/
structure HedgeHead where
  sync : Bool
  startup : Bool
  node : Nat
  frameId : Nat
  cycle : Nat
  cfgId : Byte
  payload : List Byte
  deriving DecidableEq, Repr, Inhabited

/-- What a channel brings in a slot or minislot (R402, R408, R411): activity that does not decode,
or the octets of a frame, header to CRC. -/
inductive HedgeRx where
  | undecodable
  | frame (bytes : List Byte)
  deriving DecidableEq, Repr, Inhabited

/-- Memories and checks in which an error can be detected (01_architecture R23, 16_gleaner R466). -/
inductive MemErr where
  | blockCorrectable (region block row : Nat)
  | blockUncorrectable (element : Nat)
  | unfinishedSlot (region block cell : Nat)
  | missedSweep (region block : Nat)
  | interconnectParity
  | granaryCorrectable (channel : Nat)
  | granaryUncorrectable (channel : Nat)
  | packetBuffer
  | mgmtSram
  | thresherTable
  | gateBank (port : Nat)
  | commitRegister
  | broadcastParity
  | flash
  | switchSupply (region : Nat)
  deriving DecidableEq, Repr, Inhabited

/-- What a host memory read was for (12_host_queues R364), and how it ended. -/
inductive MemAnswer where
  | descriptors (q : QId) (ok : Bool)
  | buffer (q : QId) (ok : Bool)
  | sheafRecord (q : QId) (ok : Bool) (words : List Word)
  deriving DecidableEq, Repr, Inhabited

/-- A transmit, fabric or receive descriptor of 32 bytes (R349-R351, 06_sheaves R192). -/
abbrev Descriptor := List Byte

/-- An item of epoch data on the mirror link (15_unit_redundancy R444, R450, R460). The manual names
what is mirrored and lays out no item (NOTES.md, DESIGN CHOICE, log 5). -/
inductive MirItem where
  /-- The header that opens an epoch (R444). -/
  | header (close : Nat) (tbStatus : Word) (incr : BitVec 36) (refresh : Nat)
  /-- The mode-record fields of one element (R450). -/
  | element (e : Nat) (mode : ElemMode) (cross : Bool) (target rampSlew : Nat) (ff : Option (Nat × Nat))
  /-- The connection map of a refresh slice (R448). -/
  | map (inputs : List (Option Nat))
  | failed (plane stage cell : Nat) (entry : Option (FailKind × Evidence × Nat))
  | armed (fcq : Option (Nat × Nat)) (words : List Word)
  | sheafEnd (id : BitVec 16) (outcome detail : Nat)
  | gateBank (port : Nat) (oper1 : Bool) (bank n lct : Nat) (listTag : Word) (entries : List GateEntry)
  | gateList (port : Nat) (state : Nat) (change : Option (Nat × Bool)) (cfg : GateCfg)
  | stream (n : Nat) (entry : List Word)
  | counter (n value : Nat)
  | cover (set : Nat) (enable : Bool) (wStart wEnd : Nat)
  | genNum (g : Word) (swappedAt : Nat)
  /-- Only ahead of a hand-back (R460). -/
  | staged (words : List Word)
  | stook (id : BitVec 16) (name : BitVec 128) (stop : Bool) (members : List (List Word)) (running : Option Nat)
  deriving DecidableEq, Repr, Inhabited

/-- A frame of the mirror link (R443-R447, R454, R459, R460). That a keepalive carries READY, and that a
catch-up is reported (06 R191), is this model's choice: the manual names no carrier (NOTES.md, DESIGN CHOICE, log 28). -/
inductive MlFrame where
  | keepalive (mode : Mode) (control ready : Bool) (version : BitVec 16)
  | caughtUp (id : BitVec 16)
  | claim
  | item (epoch : Word) (baseline : Bool) (item : MirItem) (bytes : List Byte)
  | endOfData (epoch : Word)
  | baselineRequest
  | failbackRequest
  | handback (at_ : Nat)
  | counters (values : List (Nat × Nat))
  deriving DecidableEq, Repr, Inhabited

end Sys2Proof.Machine
end

