-- ==== Sys2Proof/Syntax.lean ====
section
/-! DEFINITION. The commands and events of the MHX-5120: one constructor for each row of
spec/opcode_table.json, with the operands of its rule. A row of an Ilucy group stands for firmware
carrying out the command in flight with its tag (DESIGN CHOICE, log 4). -/
namespace Sys2Proof

open Machine

/-- The rows of the table of operations and events. -/
inductive Instr where
  /-- TIME_GET_STATUS: R78 Returns TB_STATUS, offset, rate estimate, source, gPTP port states, grandmaster identity and NOTICE_MERGED. -/
  | timeGetStatus (tag : Tag)
  /-- TIME_SET: R47 Makes the single step of the counter, refused with ALREADY_STEPPED once STEPPED is 1. -/
  | timeSet (tag : Tag) (time : BitVec 64) (frac : BitVec 32)
  /-- TIME_REANCHOR: R49 Makes a second step of the counter after disarming sheaves, disabling gates, withdrawing swaps, clearing the cycle and stopping SYNC_IN and SYNC_OUT. -/
  | timeReanchor (tag : Tag) (time : BitVec 64) (frac : BitVec 32)
  /-- TIME_SET_SOURCE: R79 Selects primary and fall-back discipline sources and sets tau, lock threshold and large-offset limit. -/
  | timeSetSource (tag : Tag) (primary fallback : BitVec 2) (tauMs lockNs largeNs : Nat)
  /-- TIME_SET_CYCLE: R62 Sets a new base time and cycle time that take effect at a future boundary B'. -/
  | timeSetCycle (tag : Tag) (b : BitVec 64) (c : BitVec 32)
  /-- TIME_FOLD_SHIFT: R68 Requests that S be folded into B at the next common boundary and SYNC_LIMIT be cleared. -/
  | timeFoldShift (tag : Tag)
  /-- TIME_SET_SYNCIN: R64 Enables or disables SYNC_IN shifting and sets the capture window and deadband. -/
  | timeSetSyncin (tag : Tag) (enable : Bool) (wNs deadband : Nat)
  /-- TIME_SET_SYNCOUT: R71 Sets the SYNC_OUT mode, pulse width and notice lead time. -/
  | timeSetSyncout (tag : Tag) (mode : Nat) (p : Option Nat) (lNs : Nat)
  /-- TIME_SET_PTP: R79 Sets gPTP domain, ports, role selection, priority1, log intervals and delay threshold. -/
  | timeSetPtp (tag : Tag) (cfg : PtpCfg)
  /-- TIME_SET_PORT_LATENCY: R57 Sets the ingress and egress time-stamp corrections of a port. -/
  | timeSetPortLatency (tag : Tag) (port : Nat) (ingress egress : Int)
  /-- FABRIC_GET_MAP: R552 Returns the connection map with per-plane inputs, HALF_LIT and VOA_PENDING for each output. -/
  | fabricGetMap (tag : Tag)
  /-- FABRIC_GET_PATH: R104 Returns the 19 stage, cell and state entries of one connection in one plane. -/
  | fabricGetPath (tag : Tag) (plane output : Nat)
  /-- FABRIC_GET_CELLS: R105 Returns the state codes of up to 1,024 cells of one plane. -/
  | fabricGetCells (tag : Tag) (plane first count : Nat)
  /-- FABRIC_GET_FAILED: R104 Returns one plane's failed-cell list. -/
  | fabricGetFailed (tag : Tag) (plane : Nat)
  /-- FABRIC_SET_FAILED: R99 Declares a fabric cell failed with its kind, affecting staged and armed sheaves and connections through it. -/
  | fabricSetFailed (tag : Tag) (plane stage cell kind : Nat)
  /-- FABRIC_CLEAR_FAILED: R102 Re-tests a failed cell and, on pass, returns it to PARK and clears its declaration. -/
  | fabricClearFailed (tag : Tag) (plane stage cell : Nat)
  /-- FABRIC_GET_LEVELS: R104 Returns per-fibre relative and indicative absolute levels. -/
  | fabricGetLevels (tag : Tag) (output : Bool) (first count : Nat)
  /-- FABRIC_SET_REPAIR: R100 Enables or disables automatic repair and sets the repair lead time. -/
  | fabricSetRepair (tag : Tag) (enable : Bool) (leadNs : Nat)
  /-- FABRIC_SET_PARKING: R85 Enables or disables idle parking and sets the park delay. -/
  | fabricSetParking (tag : Tag) (enable : Bool) (delayNs : Nat)
  /-- SHEAF_STAGE: R162 Stages a sheaf header and changes, validating it whole unless MORE keeps it open. -/
  | sheafStage (tag : Tag) (more : Bool) (words : List Word)
  /-- SHEAF_APPEND: R195 Adds changes to an open sheaf and validates it at the last part. -/
  | sheafAppend (tag : Tag) (id : BitVec 16) (more : Bool) (words : List Word)
  /-- SHEAF_CANCEL: R177 Cancels a staged or armed sheaf before its cut-off. -/
  | sheafCancel (tag : Tag) (id : BitVec 16)
  /-- SHEAF_GET_STATUS: R195 Returns the state, outcome, DETAIL, HOST_TAG and instant of a sheaf. -/
  | sheafGetStatus (tag : Tag) (id : BitVec 16)
  /-- SHEAF_GET_RESULT: R176 Returns one page of excluded elements of a sheaf with their causes. -/
  | sheafGetResult (tag : Tag) (id : BitVec 16) (page : Nat)
  /-- SHEAF_LIST: R195 Returns IDs and instants of staged and armed sheaves in order of instant. -/
  | sheafList (tag : Tag) (page : Nat)
  /-- SHEAF_SET_TIMING: R166 Sets ARM_LEAD and PREP_LEAD. -/
  | sheafSetTiming (tag : Tag) (armLead prepLead : Nat)
  /-- SOLVE_CONNECT: R183 Asks the route solver to add connections and stage the resulting sheaves. -/
  | solveConnect (tag : Tag) (instant : Nat) (move dryRun : Bool) (pairs : List (Nat × Nat))
  /-- SOLVE_DISCONNECT: R183 Asks the route solver to release connections. -/
  | solveDisconnect (tag : Tag) (instant : Nat) (move dryRun : Bool) (inputs outputs : List Nat)
  /-- SOLVE_PERMUTE: R183 Asks the route solver to reach a whole target map. -/
  | solvePermute (tag : Tag) (instant : Nat) (move dryRun : Bool) (target : List (Option Nat))
  /-- SOLVE_GET_REPORT: R186 Returns one page of route solver report entries. -/
  | solveGetReport (tag : Tag) (page : Nat)
  /-- STOOK_DEFINE: R188 Defines a stook with its name, failure policy and member sheaves, verifying any Axaro signature. -/
  | stookDefine (tag : Tag) (id : BitVec 16) (name : BitVec 128) (stop : Bool) (members : List (List Word)) (sig : Option AxaroBlock)
  /-- STOOK_START: R188 Starts a stook at T_S after validating all its members. -/
  | stookStart (tag : Tag) (id : BitVec 16) (ts : Nat)
  /-- STOOK_STOP: R188 Abandons every member of a stook not yet at its cut-off. -/
  | stookStop (tag : Tag) (id : BitVec 16)
  /-- STOOK_GET_STATUS: R195 Returns a stook's members with their instants and outcomes. -/
  | stookGetStatus (tag : Tag) (id : BitVec 16)
  /-- STOOK_DELETE: R195 Removes a stook that is not running and its members. -/
  | stookDelete (tag : Tag) (id : BitVec 16)
  /-- LOOP_GET_PARAMS: R133 Returns the parameter records of up to 64 elements. -/
  | loopGetParams (tag : Tag) (first count : Nat)
  /-- LOOP_SET_PARAMS: R131 Writes parameter records of up to 64 elements, except SETPOINT, effective in one loop frame. -/
  | loopSetParams (tag : Tag) (first : Nat) (recs : List ParamRec)
  /-- LOOP_GET_STATE: R133 Returns the loop state of up to 64 elements. -/
  | loopGetState (tag : Tag) (first count : Nat)
  /-- LOOP_GET_FLAGS: R133 Returns the sticky status words of up to 1,024 elements. -/
  | loopGetFlags (tag : Tag) (first count : Nat)
  /-- LOOP_CLEAR_FLAGS: R127 Clears masked sticky status bits, except UNLOCKABLE, in a range of elements. -/
  | loopClearFlags (tag : Tag) (first count : Nat) (mask : BitVec 16)
  /-- LOOP_CAPTURE: R134 Arms a capture of one element for a number of consecutive samples. -/
  | loopCapture (tag : Tag) (element samples time : Nat)
  /-- LOOP_GET_CAPTURE: R133 Returns one page of captured samples and the capture state. -/
  | loopGetCapture (tag : Tag) (element page : Nat)
  /-- LOOP_GET_MODE: R157 Returns mode records of up to 254 elements. -/
  | loopGetMode (tag : Tag) (first count : Nat)
  /-- LOOP_SET_HANDOVER: R157 Sets DWELL, RETRY and HO_TOL for gates or VOAs. -/
  | loopSetHandover (tag : Tag) (voa : Bool) (dwellUs retryUs hoTol : Nat)
  /-- LOOP_RETRY_LOCK: R145 Clears UNLOCKABLE and REFUSALS and makes the next sample a hand-over attempt. -/
  | loopRetryLock (tag : Tag) (first count : Nat)
  /-- LOOP_HOLD_REGION: R156 Sets or releases cause REGION on every element of one region from the next frame. -/
  | loopHoldRegion (tag : Tag) (region : Nat) (hold : Bool)
  /-- LOOP_SET_VOA_GROUP: R149 Defines, enables or disables a VOA group following a TRIM_IN pin. -/
  | loopSetVoaGroup (tag : Tag) (group : Nat) (cfg : VoaGroupCfg)
  /-- LOOP_GET_VOA_GROUP: R157 Returns a VOA group's configuration and state. -/
  | loopGetVoaGroup (tag : Tag) (group : Nat)
  /-- CAL_GET_STATUS: R227 Returns calibration stage, counters, image copy state, rotation position and band-gap states. -/
  | calGetStatus (tag : Tag)
  /-- CAL_GET_ELEMENT: R227 Returns calibration data of up to 64 elements. -/
  | calGetElement (tag : Tag) (first count : Nat)
  /-- CAL_SAVE: R200 Saves the calibration image to the copy not in use. -/
  | calSave (tag : Tag)
  /-- CAL_RECAL_ELEMENT: R217 Performs an electrical visit and reloads stored data of up to 64 elements, clearing UNLOCKABLE. -/
  | calRecalElement (tag : Tag) (first count : Nat)
  /-- CAL_SET_BACKGROUND: R214 Enables or disables background recalibration and sets the rotation period. -/
  | calSetBackground (tag : Tag) (enable : Bool) (periodMs : Nat)
  /-- CAL_SET_SPARE_POLICY: R218 Sets spare substitution thresholds and windows. -/
  | calSetSparePolicy (tag : Tag) (policy : SparePolicy)
  /-- CAL_SUBSTITUTE: R227 Substitutes a named loop cell or block at once. -/
  | calSubstitute (tag : Tag) (wholeBlock : Bool) (region block cell : Nat)
  /-- CAL_GET_LOG: R224 Returns one page of substitution log entries. -/
  | calGetLog (tag : Tag) (seq : Nat)
  /-- CAL_GET_SPARES: R227 Returns spares left and proof state of every pool. -/
  | calGetSpares (tag : Tag)
  /-- PORT_GET_STATUS: R253 Returns a port's link, lane, fault, LPI, pause and occupancy state. -/
  | portGetStatus (tag : Tag) (port : Nat)
  /-- PORT_SET_MODE: R228 Sets a port's line mode, FEC, address, MAX_LEN, FCS stripping and bad-frame delivery. -/
  | portSetMode (tag : Tag) (port : Nat) (cfg : PortModeCfg)
  /-- PORT_GET_CONFIG: R253 Returns every setting of a port. -/
  | portGetConfig (tag : Tag) (port : Nat)
  /-- PORT_SET_PAUSE: R247 Sets a port's pause generation, share, watermarks, quanta and watchdogs. -/
  | portSetPause (tag : Tag) (port : Nat) (cfg : PauseCfg)
  /-- PORT_SET_FILTER: R243 Writes up to 16 consecutive filters atomically per entry. -/
  | portSetFilter (tag : Tag) (first : Nat) (entries : List (List Word))
  /-- PORT_GET_FILTER: R253 Returns up to 64 filters with match counts. -/
  | portGetFilter (tag : Tag) (first count : Nat)
  /-- PORT_SET_LPI: R249 Sets a port's low-power idle mode and IDLE_T. -/
  | portSetLpi (tag : Tag) (port mode idleNs : Nat)
  /-- PORT_GET_STATS: R251 Returns and restarts a port's counters sampled at one network time. -/
  | portGetStats (tag : Tag) (port : Option Nat)
  /-- PORT_GET_HISTORY: R252 Returns one page of one-second counter history. -/
  | portGetHistory (tag : Tag) (port page : Nat)
  /-- PORT_SET_SPARES: R233 Sets the wiring masks of the spare lanes. -/
  | portSetSpares (tag : Tag) (mask0 mask1 : BitVec 4)
  /-- PORT_SUBST_LANE: R234 Starts a lane substitution of a port at once. -/
  | portSubstLane (tag : Tag) (port : Nat)
  /-- GATE_GET_STATUS: R281 Returns per-port gate list, hold and preemption state. -/
  | gateGetStatus (tag : Tag) (port : Nat)
  /-- GATE_SET_CONFIG: R271 Sets preemption parameters, HOLD_ADVANCE, GUARD_SAFE and PTP_CLASS of a port. -/
  | gateSetConfig (tag : Tag) (port : Nat) (cfg : GateCfg)
  /-- GATE_SET_ADMIN: R281 Writes entries of the admin gate list bank. -/
  | gateSetAdmin (tag : Tag) (port start n lct : Nat) (listTag : Word) (entries : List GateEntry)
  /-- GATE_GET_LIST: R281 Reads entries of the admin or oper bank. -/
  | gateGetList (tag : Tag) (port : Nat) (oper : Bool) (first count : Nat)
  /-- GATE_COMMIT: R264 Commits the admin list to become oper at a change time on a cycle boundary. -/
  | gateCommit (tag : Tag) (port ct : Nat) (sig : Option AxaroBlock)
  /-- GATE_CANCEL_COMMIT: R265 Withdraws a pending gate commit up to 100 us before its change time. -/
  | gateCancelCommit (tag : Tag) (port : Nat)
  /-- GATE_DISABLE: R265 Disables the oper list at a change time. -/
  | gateDisable (tag : Tag) (port ct : Nat)
  /-- GATE_GET_WINDOWS: R279 Returns longest open windows per class and GUARD entry offsets. -/
  | gateGetWindows (tag : Tag) (port : Nat)
  /-- STREAM_GET_STATUS: R303 Returns stream entries in use, LATENT bitmap, cover set states and NO_ENTRY. -/
  | streamGetStatus (tag : Tag)
  /-- STREAM_SET: R287 Writes up to 16 stream table entries, validated whole. -/
  | streamSet (tag : Tag) (first : Nat) (entries : List (List Word))
  /-- STREAM_GET: R303 Returns stream entries with COUNTER and recovery state. -/
  | streamGet (tag : Tag) (first count : Nat)
  /-- STREAM_GET_STATS: R302 Returns and restarts the counters of up to 16 streams. -/
  | streamGetStats (tag : Tag) (first count : Nat)
  /-- STREAM_RESET_RECOVERY: R294 Sets TAKE_ANY for a range of streams. -/
  | streamResetRecovery (tag : Tag) (first count : Nat)
  /-- STREAM_SET_COVER: R299 Sets a cover set's window and enable. -/
  | streamSetCover (tag : Tag) (set : Nat) (enable : Bool) (wStart wEnd : Nat)
  /-- STREAM_GET_COVER: R303 Returns a cover set's window, state, HITS and member count. -/
  | streamGetCover (tag : Tag) (set : Nat)
  /-- STREAM_CLEAR_LATENT: R295 Clears LATENT for a range of streams. -/
  | streamClearLatent (tag : Tag) (first count : Nat)
  /-- RULE_GET_STATUS: R335 Returns GEN_NUMs, GEN_MISMATCH, swap state and table usage. -/
  | ruleGetStatus (tag : Tag)
  /-- RULE_LOAD_PROGRAM: R317 Writes validated Thresher instructions to the shadow program store. -/
  | ruleLoadProgram (tag : Tag) (start : Nat) (words : List Word)
  /-- RULE_SET_PROFILE: R337 Sets profile MISS actions, ENTRY, PROFILE_DEF and defaults in the shadow. -/
  | ruleSetProfile (tag : Tag) (cfg : ProfileCfg)
  /-- RULE_ADD_HASH: R323 Adds or replaces hashed entries in the shadow, moving entries if needed. -/
  | ruleAddHash (tag : Tag) (recs : List (List Byte))
  /-- RULE_DEL_HASH: R337 Removes hashed entries from the shadow. -/
  | ruleDelHash (tag : Tag) (keys : List (BitVec 6 × Byte × BitVec 320))
  /-- RULE_SET_TERNARY: R325 Writes ternary entries in the shadow. -/
  | ruleSetTernary (tag : Tag) (first : Nat) (recs : List (List Byte))
  /-- RULE_SET_PATTERN: R319 Writes payload patterns in the shadow. -/
  | ruleSetPattern (tag : Tag) (first : Nat) (recs : List (List Byte))
  /-- RULE_CLONE: R334 Copies the active generation into the shadow. -/
  | ruleClone (tag : Tag)
  /-- RULE_SWAP: R333 Schedules the swap of shadow and active generations at AT. -/
  | ruleSwap (tag : Tag) (swapAt : Nat)
  /-- RULE_CANCEL_SWAP: R334 Withdraws a pending swap more than 100 us away. -/
  | ruleCancelSwap (tag : Tag)
  /-- RULE_GET: R337 Reads entries or looks up a key in either generation. -/
  | ruleGet (tag : Tag) (query : RuleQuery)
  /-- RULE_GET_STATS: R336 Returns and restarts Thresher device and rule counters. -/
  | ruleGetStats (tag : Tag) (first count : Nat)
  /-- RULE_SET_MIRROR: R328 Sets a mirror session's destination and truncation. -/
  | ruleSetMirror (tag : Tag) (session : Nat) (dest : MirrorDest) (trunc : Nat)
  /-- RULE_SET_MP: R328 Sets MP_RATE of copies to the management processor. -/
  | ruleSetMp (tag : Tag) (rate : Nat)
  /-- RULE_GET_COPIES: R328 Returns the last copies to the management processor. -/
  | ruleGetCopies (tag : Tag) (count : Nat)
  /-- HEDGE_GET_STATUS: R436 Returns Hedgerow state, synchronisation values and per-node heartbeats. -/
  | hedgeGetStatus (tag : Tag)
  /-- HEDGE_SET_CONFIG: R436 Writes the pending Hedgerow configuration. -/
  | hedgeSetConfig (tag : Tag) (cfg : HedgeCfg)
  /-- HEDGE_GET_CONFIG: R436 Returns the configuration in force and pending. -/
  | hedgeGetConfig (tag : Tag)
  /-- HEDGE_SAVE_CONFIG: R436 Saves the pending configuration to flash. -/
  | hedgeSaveConfig (tag : Tag)
  /-- HEDGE_RESTART: R436 Stops sending, applies the pending configuration, restores held channels and enters LISTEN. -/
  | hedgeRestart (tag : Tag) (force : Bool)
  /-- HEDGE_GET_STATS: R435 Returns and restarts Hedgerow counters. -/
  | hedgeGetStats (tag : Tag)
  /-- HEDGE_SET_NOTICE: R417 Sets the notice policy. -/
  | hedgeSetNotice (tag : Tag) (policy : Nat)
  /-- HEDGE_GET_NOTICES: R418 Returns accepted notices after a sequence number. -/
  | hedgeGetNotices (tag : Tag) (seq : Nat)
  /-- UNIT_GET_STATUS: R463 Returns role, evidence, READY, epochs, DIVERGE, mirror version and hand-back state. -/
  | unitGetStatus (tag : Tag)
  /-- UNIT_SET_PAIR: R438 Sets partner node, pairing, ROLE_WAIT, hold-off and fail-back, saved to flash. -/
  | unitSetPair (tag : Tag) (cfg : PairCfg) (force : Bool)
  /-- UNIT_DRILL: R461 Starts a hand-back of control to the partner. -/
  | unitDrill (tag : Tag)
  /-- UNIT_SAVE_STARTUP_MAP: R442 Saves or clears the start-up connection map. -/
  | unitSaveStartupMap (tag : Tag) (clear : Bool)
  /-- UNIT_RESYNC: R447 Requests a mirror baseline from the partner. -/
  | unitResync (tag : Tag)
  /-- UNIT_GET_EPOCHS: R463 Returns the last 64 epochs and their fate. -/
  | unitGetEpochs (tag : Tag)
  /-- FAULT_GET_STATUS: R487 Returns latched Gleaner status, summary, records and reset cause. -/
  | faultGetStatus (tag : Tag)
  /-- FAULT_GET_SOURCE: R487 Returns parameters and state of up to 64 Gleaner sources. -/
  | faultGetSource (tag : Tag) (first count : Nat)
  /-- FAULT_SET_SOURCE: R467 Sets parameters of up to 64 Gleaner sources. -/
  | faultSetSource (tag : Tag) (first : Nat) (params : List SrcParams)
  /-- FAULT_CLEAR: R472 Clears Gleaner sources as GL_CLEAR does, with the full SEQ. -/
  | faultClear (tag : Tag) (source : Option Nat) (seq : Word)
  /-- FAULT_GET_RECORD: R487 Returns the open, last closed or retained record. -/
  | faultGetRecord (tag : Tag) (which : Nat)
  /-- FAULT_SAVE_CONFIG: R487 Saves source parameters to flash. -/
  | faultSaveConfig (tag : Tag)
  /-- FAULT_GET_LOG: R484 Returns one page of the Gleaner flash log. -/
  | faultGetLog (tag : Tag) (seq : Nat)
  /-- FAULT_RAISE: R487 Raises one real event on source 191. -/
  | faultRaise (tag : Tag)
  /-- FAULT_INJECT: R481 Starts injection of shadow events on a source, or resets shadow state. -/
  | faultInject (tag : Tag) (op : InjectOp)
  /-- FAULT_GET_INJECT: R487 Returns shadow records and masked counts. -/
  | faultGetInject (tag : Tag)
  /-- POWER_GET_STATUS: R507 Returns mode, hold causes, rail measurements, LPI and link power state and retention area. -/
  | powerGetStatus (tag : Tag)
  /-- POWER_HOLD: R507 Sets or releases the POWER hold cause. -/
  | powerHold (tag : Tag) (hold : Bool)
  /-- POWER_SLEEP: R491 Starts entry into SLEEP from STANDBY or HOLD. -/
  | powerSleep (tag : Tag)
  /-- TRUST_GET_STATUS: R524 Returns life-cycle, policy, key slots, MIN_SVN and boot record state. -/
  | trustGetStatus (tag : Tag)
  /-- TRUST_GET_IDENTITY: R515 Returns the device, CA and root certificates. -/
  | trustGetIdentity (tag : Tag)
  /-- TRUST_ATTEST: R516 Captures state at a loop frame start and returns a signed attestation record. -/
  | trustAttest (tag : Tag) (nonce : BitVec 256)
  /-- TRUST_ADVANCE_SVN: R513 Blows MIN_SVN up to the running image's SVN. -/
  | trustAdvanceSvn (tag : Tag)
  /-- TRUST_REVOKE_KEY: R514 Blows one key revocation bit. -/
  | trustRevokeKey (tag : Tag) (axaro : Bool) (slot : Nat) (rec : Option SignedRecord)
  /-- TRUST_SET_AXARO_KEY: R522 Writes an empty Axaro key slot. -/
  | trustSetAxaroKey (tag : Tag) (slot : Nat) (key : BitVec 256)
  /-- TRUST_SET_POLICY: R522 Blows POLICY_SIGNED. -/
  | trustSetPolicy (tag : Tag)
  /-- TRUST_GET_NONCE: R524 Returns a one-use 32-byte nonce. -/
  | trustGetNonce (tag : Tag)
  /-- TRUST_SET_LIFECYCLE: R520 Moves the life-cycle state one step forward. -/
  | trustSetLifecycle (tag : Tag) (target : Nat) (rec : Option SignedRecord)
  /-- TRUST_FACTORY_TEST: R523 Stores a factory-test request and performs a class H reset. -/
  | trustFactoryTest (tag : Tag)
  /-- DEVICE_GET_INFO: R394 Returns the device identity and firmware record. -/
  | deviceGetInfo (tag : Tag)
  /-- DEVICE_GET_COMMANDS: R393 Returns served command codes and generations. -/
  | deviceGetCommands (tag : Tag) (start : Nat)
  /-- DEVICE_FW_BEGIN: R395 Opens a firmware update session and starts erasing the other slot. -/
  | deviceFwBegin (tag : Tag) (size : Nat)
  /-- DEVICE_FW_DATA: R396 Delivers or compares firmware image bytes at an offset. -/
  | deviceFwData (tag : Tag) (offset : Nat) (data : FwData)
  /-- DEVICE_FW_COMMIT: R397 Verifies the received image and stages it. -/
  | deviceFwCommit (tag : Tag)
  /-- DEVICE_FW_ABORT: R393 Closes the update session and discards the slot contents. -/
  | deviceFwAbort (tag : Tag)
  /-- DEVICE_FW_STATUS: R393 Returns the update session state. -/
  | deviceFwStatus (tag : Tag)
  /-- DEVICE_RESET: R398 Performs a class S reset of a subsystem or a class H reset of the device. -/
  | deviceReset (tag : Tag) (scope subsystem : Byte) (force : Bool)
  /-- DEVICE_ECHO: R393 Returns its payload unchanged. -/
  | deviceEcho (tag : Tag) (data : List Byte)
  /-- FCQ_SUBMIT: R193 A fabric command descriptor submits a sheaf record read from host memory. -/
  | fcqSubmit (q : Nat) (ack : Bool) (words : List Word)
  /-- FCQ_CANCEL: R177 A fabric command descriptor cancels a sheaf. -/
  | fcqCancel (q : Nat) (id : BitVec 16)
  /-- MB_DOORBELL_RING: R380 A doorbell write posts the command in a mailbox body. -/
  | mbDoorbellRing (mailbox : Nat) (value : Word)
  /-- MB_ANSWER_READ: R377 A read of MB_ANSWER returns and removes the oldest answer record. -/
  | mbAnswerRead
  /-- MAILBOX_BODY_WRITE: R375 A BAR2 write to a mailbox body, ignored with IGNORED_WRITE while POSTED. -/
  | mailboxBodyWrite (mailbox offset : Nat) (value : Word)
  /-- HELD_ANSWER_WRITE: R392 Answers held for host memory are written once host memory can be written again. -/
  | heldAnswerWrite
  /-- TB_TIME_LO_READ: R76 A read of TB_TIME_LO latches the whole counter. -/
  | tbTimeLoRead
  /-- TB_COUNTS_READ: R77 A read of TB_COUNTS returns and clears the SYNC_IN counts. -/
  | tbCountsRead
  /-- GL_STATUS0_READ: R486 A read of GL_STATUS0 latches GL_STATUS and GL_SHADOW. -/
  | glStatus0Read
  /-- GL_CLEAR_SOURCE: R472 A GL_CLEAR write with ALL 0 clears one Gleaner source. -/
  | glClearSource (value : Word)
  /-- GL_CLEAR_ALL: R472 A GL_CLEAR write with ALL 1 clears every member of the open record. -/
  | glClearAll (value : Word)
  /-- GL_EVENTS_WRITE: R486 A write of 1 to GL_EVENTS bits clears them. -/
  | glEventsWrite (value : Word)
  /-- UN_EVENTS_WRITE: R462 A write of 1 to UN_EVENTS bits clears them. -/
  | unEventsWrite (value : Word)
  /-- UN_COUNTS_READ: R462 A read of UN_COUNTS returns and clears its counts. -/
  | unCountsRead
  /-- MB_STATE_WRITE: R376 A write of 1 to IGNORED_WRITE or OVERRUN clears it. -/
  | mbStateWrite (mailbox : Nat) (value : Word)
  /-- HQ_ENABLE: R362 ENABLE written 1 starts a submission queue or puts it in ERROR for a bad configuration. -/
  | hqEnable (q : QId)
  /-- HQ_DISABLE: R363 ENABLE written 0 drains a submission queue, discarding unretired entries. -/
  | hqDisable (q : QId)
  /-- HQ_IDX_RESET: R347 IDX_RESET sets HEAD and TAIL of a disabled queue to 0. -/
  | hqIdxReset (q : QId)
  /-- HQ_TAIL_WRITE: R346 A write of HQ_TAIL publishes entries, or stops the queue with error TAIL. -/
  | hqTailWrite (q : QId) (value : Word)
  /-- HQ_DROP_READ: R347 A read of HQ_DROP returns and clears the receive drop counts. -/
  | hqDropRead (q : Nat)
  /-- CQ_ENABLE_WRITE: R348 Setting or clearing ENABLE or IRQ_EN of a completion queue. -/
  | cqEnableWrite (q : Nat) (enable irqEn : Bool)
  /-- CQ_IDX_RESET: R348 IDX_RESET zeroes CQ indices, clears ERR and discards held completions. -/
  | cqIdxReset (q : Nat)
  /-- CQ_HEAD_WRITE: R346 A write of CQ_HEAD consumes completions or sets ERR when invalid. -/
  | cqHeadWrite (q : Nat) (value : Word)
  /-- REGISTER_WRITE: R5 A write to a register without a row of its own, stored or ignored by its access type. -/
  | registerWrite (offset : Nat) (value : Word)
  /-- D3HOT_ENTRY: R343 The function is put in D3hot and stops memory requests and messages. -/
  | d3hotEntry
  /-- D0_RETURN: R343 Return to D0 writes held completions and delivers pending vectors. -/
  | d0Return
  /-- BUS_MASTER_ENABLE_WRITE: R344 Bus Master Enable cleared or set changes whether the device acts as in D3hot. -/
  | busMasterEnableWrite (enable : Bool)
  /-- POWER_ON: R493 VWAKE comes up and PWR_EN rises 2 ms later. -/
  | powerOn
  /-- BROWN_OUT: R495 VCORE or VAUX falls below its threshold and a class P reset follows. -/
  | brownOut
  /-- RESET_N_ASSERT: R497 RESET_N low is recognised and a class H reset starts. -/
  | resetNAssert
  /-- PERST_ASSERT: R497 PERST# low is recognised and a class H reset starts. -/
  | perstAssert
  /-- RESET_RELEASE: R494 The internal class P or H reset is released once rails, TB_REF and reset pins allow, starting the wipe. -/
  | resetRelease (straps : Straps)
  /-- WIPE_COMPLETE: R499 The memory and Granary wipe completes and the boot ROM reads flash. -/
  | wipeComplete
  /-- FW_READY: R17 Firmware sets FW_READY and the device passes to CALIBRATE or FACTORY_TEST. -/
  | fwReady
  /-- FW_CONFIRM: R511 After 60 s of running without reset firmware writes TRIAL 0. -/
  | fwConfirm
  /-- PCIE_HOT_RESET: R500 A PCIe hot reset starts a class F reset. -/
  | pcieHotReset
  /-- FUNCTION_LEVEL_RESET: R500 A function-level reset starts a class F reset. -/
  | functionLevelReset
  /-- CLASS_F_WIPE_COMPLETE: R500 The class F wipe of packet buffer and queue state completes. -/
  | classFWipeComplete
  /-- HOLD_N_ASSERT: R154 HOLD_N read low at two successive frame starts is recognised. -/
  | holdNAssert
  /-- HOLD_N_RELEASE: R154 HOLD_N read high at two successive frame starts releases that hold cause. -/
  | holdNRelease
  /-- WAKE_RISE: R492 WAKE high for 100 us is recognised and starts SLEEP exit. -/
  | wakeRise
  /-- PWR_EN_RISE: R493 PWR_EN rises at the later of wake recognition and t4 plus T_OFF. -/
  | pwrEnRise
  /-- SLEEP_SHUTDOWN: R491 1 ms after the POWER_SLEEP answer, Hedgerow, mirror link, ports and watchdog stop. -/
  | sleepShutdown
  /-- SLEEP_PARK: R491 At the first frame start after shutdown every element goes to PK and drives turn off. -/
  | sleepPark
  /-- PWR_EN_FALL: R491 PWR_EN falls and the board removes every rail except VWAKE. -/
  | pwrEnFall
  /-- TB_REF_LOSS: R537 TB_REF showing no edge for 50 ns raises the TIMEBASE source. -/
  | tbRefLoss
  /-- RAIL_EXCURSION: R466 A rail outside its operating range raises its RAIL source event. -/
  | railExcursion (rail : Nat) (millivolts : Int)
  /-- PACE_UPDATE: R18 Every 1 ms the pace index is updated, raising an event below 0x0A00. -/
  | paceUpdate (pace : BitVec 16)
  /-- SYNC_IN_EDGE: R64 A rising SYNC_IN edge is time-stamped and accepted or rejected against the capture window. -/
  | syncInEdge (elapsedPs : Nat)
  /-- SYNC_OUT_PULSE: R71 A SYNC_OUT rising edge is placed at its cycle, PPS or sheaf-notice instant. -/
  | syncOutPulse
  /-- SCHEDULE_BOUNDARY: R60 A schedule cycle boundary arrives. -/
  | scheduleBoundary
  /-- GPTP_MESSAGE_RECEIVED: R56 A gPTP frame is taken by the gPTP engine. -/
  | gptpMessageReceived (port : Nat) (msg : GptpMsg)
  /-- GPTP_MESSAGE_TRANSMIT: R56 A gPTP Sync or Pdelay message is sent at its interval. -/
  | gptpMessageTransmit (port : Nat) (sync : Bool)
  /-- GPTP_SYNC_TIMEOUT: R54 Three Sync intervals without valid Sync lose the source and change to fall-back or holdover. -/
  | gptpSyncTimeout
  /-- LOOP_SAMPLE: R122 At its slot strobe an element resolves its mode and evaluates its loop sample. -/
  | loopSample (element : Nat) (m1 m2 : BitVec 12) (residueFail : Bool)
  /-- HANDOVER_ATTEMPT: R142 At dwell or retry expiry an element attempts hand-over or hand-back to LK. -/
  | handoverAttempt (element : Nat) (m1 m2 : BitVec 12)
  /-- TRIM_IN_SAMPLE: R150 Every 10 us a VOA group forms x and updates following TARGETs. -/
  | trimInSample (group microvolts : Nat)
  /-- VOA_GROUP_LOST: R152 A pulse-mode group with no valid x for 2 ms becomes LOST. -/
  | voaGroupLost (group : Nat)
  /-- HEATER_POWER_MEASURE: R110 Every 1 s heater full-scale power is measured and U_CAP recomputed. -/
  | heaterPowerMeasure (element nanowatts : Nat)
  /-- BANDGAP_CHECK: R197 Every 100 ms the three band-gaps are compared and an outlier excluded. -/
  | bandgapCheck (a b c : Nat)
  /-- TEMPERATURE_SAMPLE: R198 Every 10 ms the temperature diodes are read. -/
  | temperatureSample (junction : Int) (diodes : List Int)
  /-- DELAY_LINE_EXCHANGE: R210 Every 10 ms delay-line twins exchange roles on a free tick. -/
  | delayLineExchange (line : Nat) (busy : Bool)
  /-- BACKGROUND_VISIT: R213 Background recalibration visits one element of a block. -/
  | backgroundVisit (region block : Nat)
  /-- SPARE_PROOF: R219 An unused spare cell or block is proven in shadow for 1,000 frames. -/
  | spareProof (region block : Nat) (same : Bool)
  /-- SPARE_THRESHOLD_MET: R218 A part's event count reaches its threshold and firmware decides a substitution. -/
  | spareThresholdMet (part : Part)
  /-- LOOP_CELL_SWITCH: R220 At the switch frame spare cell 21 takes over a loop cell's slots. -/
  | loopCellSwitch (region block cell : Nat) (selfTest : Bool)
  /-- BLOCK_SWITCH: R221 At the switch frame block 16 takes over a block. -/
  | blockSwitch (region block : Nat) (selfTest : Bool)
  /-- ROW_REPAIR: R222 A memory row is remapped to a spare row when not accessed. -/
  | rowRepair (inst row : Nat)
  /-- SPARE_MAP_WRITE: R202 The spare map or failed-cell lists are written to flash after a change. -/
  | spareMapWrite
  /-- LOG_ENTRY_WRITE: R224 A substitution log entry is written to flash. -/
  | logEntryWrite
  /-- CAL_AUTO_SAVE: R202 The calibration image is saved automatically once a day when tracked data changed. -/
  | calAutoSave
  /-- CAL_SAVE_COMPLETE: R200 A calibration save finishes writing and raises the copy's sequence number. -/
  | calSaveComplete (ok : Bool)
  /-- CAL_STAGE_COMPLETE: R203 A calibration stage completes and the next one starts, or CALIBRATE ends. -/
  | calStageComplete
  /-- ROLE_WAIT_EXPIRY: R441 A waiting unit's 40 s or ROLE_WAIT expires and it takes control. -/
  | roleWaitExpiry
  /-- IDLE_PARK_TIMEOUT: R85 A cell idle for the park delay is parked. -/
  | idleParkTimeout (plane stage cell : Nat)
  /-- SHEAF_ARM_START: R166 Arming of a sheaf starts at I minus ARM_LEAD or when a slot frees. -/
  | sheafArmStart (id : BitVec 16)
  /-- SHEAF_ARM_COMMIT: R167 After all block acknowledgements the commit bit is set. -/
  | sheafArmCommit (id : BitVec 16) (allAcks : Bool)
  /-- SHEAF_CUTOFF: R168 At I minus 2,000 ns the commit bit freezes and an unarmed sheaf completes LATE. -/
  | sheafCutoff (id : BitVec 16)
  /-- SHEAF_INSTANT: R170 At the instant's tick comparators fire and the sheaf is applied in every block or none. -/
  | sheafInstant (id : BitVec 16) (driveFaults : List Nat)
  /-- ARM_SLOT_FREE: R170 2,000 ns after the instant the arm slot is freed. -/
  | armSlotFree (slot : Nat)
  /-- SHEAF_HORIZON: R172 At the horizon the outcome is recorded and the completion written. -/
  | sheafHorizon (id : BitVec 16)
  /-- FRAME_RECEIVED: R237 A frame received on a port is checked, counted, stored and filtered. -/
  | frameReceived (port : Nat) (frame : RxFrame) (elapsedPs : Int)
  /-- RX_PAUSE: R246 A received pause frame stops the pausable classes for q quanta. -/
  | rxPause (port : Nat) (quanta : BitVec 16)
  /-- PAUSE_EXPIRY: R246 Received pause time runs out and the paused classes resume. -/
  | pauseExpiry (port : Nat)
  /-- PAUSE_REFRESH: R245 Every floor(PQ/2) quanta a pause is repeated while occupancy stays at or above LOW. -/
  | pauseRefresh (port : Nat)
  /-- RXP_WATCHDOG: R248 Received pause holding classes longer than RXP_WD trips the receive watchdog. -/
  | rxpWatchdog (port : Nat)
  /-- REARM_EXPIRY: R248 After REARM without pause frames the port honours pause again. -/
  | rearmExpiry (port : Nat)
  /-- TXP_WATCHDOG: R248 Own pause in force longer than TXP_WD trips the transmit watchdog. -/
  | txpWatchdog (port : Nat)
  /-- PORT_LINK_UP: R229 A port becomes up after 1 ms without faults or on PCS synchronisation. -/
  | portLinkUp (port : Nat)
  /-- PORT_LINK_DOWN: R229 A port goes down on a fault and raises its LINK source. -/
  | portLinkDown (port : Nat) (remote : Bool)
  /-- LANE_LOSS_OF_LOCK: R234 Loss of lock on the serving lane starts a lane substitution. -/
  | laneLossOfLock (port : Nat)
  /-- LANE_SWITCH: R234 At t2 the lane selector and internal lane map switch to the spare lane. -/
  | laneSwitch (port : Nat)
  /-- LPI_IDLE_TIMEOUT: R249 The transmit path idle for IDLE_T enters sleep. -/
  | lpiIdleTimeout (port : Nat)
  /-- LPI_SLEEP_ENTRY: R250 In SCHEDULED mode the transmit side sleeps between gate events. -/
  | lpiSleepEntry (port : Nat)
  /-- LPI_WAKE: R250 The port wakes T_WAKE plus 100 ns before a gate event or on an early frame. -/
  | lpiWake (port : Nat) (early : Bool)
  /-- VERIFY_TIMER: R272 Each VERIFY_TIME a verify mPacket is sent, or status becomes FAILED after three. -/
  | verifyTimer (port : Nat)
  /-- MPACKET_RECEIVED: R277 A received mPacket is reassembled, answered or discarded. -/
  | mpacketReceived (port : Nat) (packet : MPacket)
  /-- TX_SELECT: R255 When the transmit path is free the port selects and admits the next head frame. -/
  | txSelect (port : Nat)
  /-- TX_FRAME_DONE: R357 The last octet of a frame leaves and its completion becomes due. -/
  | txFrameDone (port : Nat)
  /-- GATE_EVENT: R262 A gate list entry starts and sets the class gates. -/
  | gateEvent (port : Nat)
  /-- GATE_HOLD_ASSERT: R275 HOLD_ADVANCE before a SET_HOLD entry the hold is asserted. -/
  | gateHoldAssert (port : Nat)
  /-- STATS_HISTORY_TICK: R252 Once per second counters are added to the Granary history. -/
  | statsHistoryTick
  /-- THRESHER_DISPATCH: R306 A waiting or recirculated packet is taken by a free thread and latches a generation. -/
  | thresherDispatch (thread : Nat)
  /-- DONE: R320 Ends the pass and looks up PROFILE, FLAGS and KEY. -/
  | thDone (thread : Nat)
  /-- MOV: R311 Loads a register with the operand. -/
  | thMov (thread : Nat)
  /-- ADD: R311 Adds the operand to a register. -/
  | thAdd (thread : Nat)
  /-- SUB: R311 Subtracts the operand from a register. -/
  | thSub (thread : Nat)
  /-- AND: R311 ANDs the operand into a register. -/
  | thAnd (thread : Nat)
  /-- OR: R311 ORs the operand into a register. -/
  | thOr (thread : Nat)
  /-- SHL: R311 Shifts a register left. -/
  | thShl (thread : Nat)
  /-- SHR: R311 Shifts a register right with zero fill. -/
  | thShr (thread : Nat)
  /-- CMP: R311 Sets Z and LT from a comparison. -/
  | thCmp (thread : Nat)
  /-- LDB: R311 Loads a window byte into a register. -/
  | thLdb (thread : Nat)
  /-- LDH: R311 Loads a window halfword into a register. -/
  | thLdh (thread : Nat)
  /-- LDM: R312 Loads a metadata item into a register. -/
  | thLdm (thread : Nat)
  /-- KLD: R311 Copies window bytes into the key. -/
  | thKld (thread : Nat)
  /-- KMOV: R311 Copies a register into two key bytes. -/
  | thKmov (thread : Nat)
  /-- BR: R312 Branches when its condition holds. -/
  | thBr (thread : Nat)
  /-- HDR: R314 Closes a header, checks lengths and fragments, and advances CUR. -/
  | thHdr (thread : Nat)
  /-- PROF: R311 Sets PROFILE. -/
  | thProf (thread : Nat)
  /-- MARK: R316 Copies KEY and PROFILE into the L2 or OUTER mark. -/
  | thMark (thread : Nat)
  /-- PM: R318 Starts a payload pattern search. -/
  | thPm (thread : Nat)
  /-- PM_RESULT: R318 The payload matcher returns its result to the waiting thread. -/
  | pmResult (thread : Nat)
  /-- RECIRC: R331 Ends pass 1 and queues the packet for pass 2. -/
  | thRecirc (thread : Nat)
  /-- THRESHER_RELEASE: R306 A classified frame is released in ingress order to its actions. -/
  | thresherRelease (port : Nat)
  /-- RULE_SWAP_AT: R333 At AT new packets latch the former shadow and GEN_NUM increments. -/
  | ruleSwapAt
  /-- RULE_SWAP_DRAIN: R333 The swap completes when no packet of the old generation remains. -/
  | ruleSwapDrain
  /-- RECOVERY_RESET_TIMER: R292 RESET_MS without a passed frame sets TAKE_ANY. -/
  | recoveryResetTimer (stream : Nat)
  /-- LATENT_PERIOD: R295 Each LED_PERIOD the latent error test is evaluated. -/
  | latentPeriod (stream : Nat)
  /-- COVER_WINDOW_START: R301 At W_START a cover set becomes OPEN. -/
  | coverWindowStart (set : Nat)
  /-- COVER_WINDOW_END: R301 At W_END a cover set closes, records HITS and runs deferred resets. -/
  | coverWindowEnd (set : Nat)
  /-- TX_CHAIN_FETCH: R361 Weighted round robin fetches a whole chain from a transmit or fabric command queue. -/
  | txChainFetch (q : QId) (entries : List Descriptor) (buffers : List Byte)
  /-- RX_RESERVATION: R368 Entries are reserved for the oldest waiting frame and the frame written to host memory. -/
  | rxReservation (q : Nat) (entries : List Descriptor)
  /-- RX_DROP_DELAY: R369 A frame unreserved for DROP_DELAY is dropped and DROPPING sets. -/
  | rxDropDelay (q : Nat)
  /-- COMPLETION_WRITE: R366 A held completion is written when its completion queue has room. -/
  | completionWrite (cq : Nat)
  /-- QUEUE_DRAIN_COMPLETE: R362 A draining queue becomes DISABLED once its requests are answered. -/
  | queueDrainComplete (q : QId)
  /-- MODERATION_TIMER: R371 ELAPSED reaching MOD_TIME triggers a vector. -/
  | moderationTimer (vector : Nat)
  /-- PENDING_VECTOR_DELIVER: R371 A pending vector sends its message when it becomes deliverable. -/
  | pendingVectorDeliver (vector : Nat)
  /-- HEDGEROW_SLOT_SEND: R413 A node sends its frame in an owned static slot. -/
  | hedgerowSlotSend (slot : Nat)
  /-- NOTICE_SEND: R416 A pending NOTICE is sent in its minislot when it fits. -/
  | noticeSend (frameId minislot : Nat)
  /-- HEDGEROW_FRAME_RECEIVED: R411 A received Hedgerow frame is validated, accepted or rejected, and measured. -/
  | hedgerowFrameReceived (chanB : Bool) (slot : Nat) (rx : HedgeRx) (elapsedPs : Int)
  /-- LISTEN_TIMEOUT: R420 A coldstart node's listen timeout expires and it enters COLDSTART. -/
  | listenTimeout
  /-- HEDGEROW_MIDPOINT: R426 After the last static slot the fault-tolerant midpoint offset is formed. -/
  | hedgerowMidpoint
  /-- HEDGEROW_CORRECTION: R427 1 us into the NIT theta is corrected and the servo fed. -/
  | hedgerowCorrection
  /-- HEDGEROW_CYCLE_END: R428 At cycle end rates are updated, heartbeats missed, and start-up and loss conditions evaluated. -/
  | hedgerowCycleEnd
  /-- ML_KEEPALIVE_SEND: R443 A keepalive is sent on the mirror link every 10 us. -/
  | mlKeepaliveSend
  /-- ML_FRAME_RECEIVED: R443 A keepalive, claim, epoch item or request arrives on the mirror link. -/
  | mlFrameReceived (frame : MlFrame)
  /-- ML_DOWN_TIMEOUT: R443 No valid mirror link frame for 100 us takes ML down. -/
  | mlDownTimeout
  /-- EPOCH_CLOSE: R444 A 250 us epoch closes and the next opens with its header. -/
  | epochClose
  /-- COMMIT_RECORD_CREATE: R445 When an epoch's data is complete its commit record is created. -/
  | commitRecordCreate
  /-- EPOCH_APPLY: R446 The Standby applies or discards an epoch once its data and commit record are present. -/
  | epochApply
  /-- PARTNER_ALIVE_TIMEOUT: R453 No PARTNER_ALIVE edge for 3 ms causes takeover or ALIVE_WIRE_FAULT. -/
  | partnerAliveTimeout
  /-- PARTNER_ALIVE_EDGE: R457 A late PARTNER_ALIVE edge from a silent partner demotes the unit in control. -/
  | partnerAliveEdge
  /-- FAILBACK_HOLDOFF: R459 A preferred READY Standby requests control back after the hold-off. -/
  | failbackHoldoff
  /-- HANDBACK_INSTANT: R460 At T_hb control moves to the partner. -/
  | handbackInstant
  /-- GLEANER_EVALUATION: R468 Every microsecond the Gleaner compares copies, applies clears, adds events and sets ALIVE. -/
  | gleanerEvaluation (mismatch : Bool)
  /-- GLEANER_WINDOW_EXPIRY: R469 A source's window ends and its count returns to 0. -/
  | gleanerWindowExpiry (source : Nat)
  /-- SOURCE_SEVERE: R469 A source's count reaches N and it opens or joins a record. -/
  | sourceSevere (source : Nat)
  /-- GLEANER_DEADLINE: R471 An uncleared member's grace expires and its action executes. -/
  | gleanerDeadline (source : Nat)
  /-- REGION_REINIT_COMPLETE: R475 Region reinitialisation completes and firmware restores records, arming and releases REGION. -/
  | regionReinitComplete (region : Nat)
  /-- FIRMWARE_CLEAR: R473 1 ms after a repair with no events firmware clears the member. -/
  | firmwareClear (source : Nat)
  /-- RECORD_FLASH_WRITE: R484 A closed record is written to the flash log. -/
  | recordFlashWrite
  /-- WATCHDOG_EXPIRY: R476 The management core watchdog expires and raises source 144. -/
  | watchdogExpiry
  /-- COMPARATOR_SELF_TEST: R478 Every 10 ms the comparator tests itself with a forced mismatch. -/
  | comparatorSelfTest (flagged : Bool)
  /-- ALIVE_EDGE: R479 Every 500 Gleaner ticks the ALIVE wave toggles. -/
  | aliveEdge
  /-- FAULT_INJECT_EVENT: R481 An injected shadow event arrives at its interval. -/
  | faultInjectEvent
  /-- FW_ERASE_COMPLETE: R395 The erase of the update slot completes and data may be received. -/
  | fwEraseComplete
  /-- GRANARY_RETRAIN: R538 Every 10 ms the Granary channels retrain on idle cycles. -/
  | granaryRetrain (channelB ok : Bool)
  /-- BYPASS: R546 TAP instruction BYPASS. -/
  | tapBypass
  /-- IDCODE: R546 TAP instruction IDCODE. -/
  | tapIdcode
  /-- SAMPLE_PRELOAD: R546 TAP instruction SAMPLE/PRELOAD. -/
  | tapSamplePreload (preload : List Bool)
  /-- EXTEST: R546 TAP instruction EXTEST, effective only in reset or failed boot. -/
  | tapExtest
  /-- CLAMP: R546 TAP instruction CLAMP, effective only in reset or failed boot. -/
  | tapClamp
  /-- HIGHZ: R546 TAP instruction HIGHZ, effective only in reset or failed boot. -/
  | tapHighz
  /-- SYNC_OUT_PULSE_END: R72 A SYNC_OUT pulse ends P after its rising edge, or after the later merged notice, or as clamped by R73. -/
  | syncOutPulseEnd
  /-- RECEIVED_LPI: R249 The link partner enters low-power idle on a port, which is honoured and counted in LPI_RX_ENTRIES. -/
  | receivedLpi (port : Nat) (entering : Bool)
  /-- PCIE_LINK_CHANGE: R466 The PCIe link goes down, comes up or retrains below its configured width or speed, and source 188 gets an event when the link is lost or degraded. -/
  | pcieLinkChange (up : Bool) (lanes speed : Nat)
  /-- ML_LANE_LOSS_OF_LOCK: R466 A mirror link lane loses lock and raises source 189. -/
  | mlLaneLossOfLock
  /-- PLL_LOSS_OF_LOCK: R466 A SerDes or Granary PLL loses lock and raises source 190 (CLOCKS). -/
  | pllLossOfLock
  /-- MEMORY_ERROR: R23 A correctable or uncorrectable memory error, or a parity error, is detected in a block, the Granary, the packet buffer, SRAM, the Thresher tables, the interconnect, the gate banks or the commit register, and is corrected, counted or raised to the Gleaner. -/
  | memoryError (err : MemErr)
  /-- MEMORY_REQUEST_ANSWERED: R364 A host memory read for a descriptor, buffer or sheaf record returns its data, or returns an error completion or poisoned data. -/
  | memoryRequestAnswered (answer : MemAnswer)
  /-- USER_CONFIG_SAVE_COMPLETE: R436 A save of Hedgerow, pairing, start-up map or Gleaner parameters to the flash user-configuration area completes, and the BUSY condition ends. -/
  | userConfigSaveComplete
  /-- RESET_DEVICE_DELAY_EXPIRY: R398 1 ms after the answer record of a DEVICE_RESET with scope DEVICE is pushed, the class H reset begins with cause 0x07. -/
  | resetDeviceDelayExpiry
  /-- VWAKE_LOSS: R504 VWAKE is removed, all power is lost and the retention area is lost. -/
  | vwakeLoss
  /-- TB_REF_RETURN: R494 TB_REF resumes after a loss, and this satisfies the 1 ms running condition for reset release. -/
  | tbRefReturn
  /-- TRIM_IN_PULSE_EDGE: R150 An edge on a TRIM_IN pin in pulse mode is captured, which measures the period and high time. -/
  | trimInPulseEdge (pin : Nat) (rising : Bool) (elapsedPs : Nat)
  deriving DecidableEq, Repr, Inhabited

end Sys2Proof
end

