-- ==== Sys2Proof/Decode.lean ====
section
/-! DEFINITION. The table of operations and events gives no row any bits: the commands of this block travel as
mailbox messages, register accesses, descriptors, frames and pin events, not as encoded words. No word spells a
command (DESIGN CHOICE, log 1). -/
namespace Sys2Proof

/-- The command that a word spells by the bits of the table: none, for no row has bits. -/
def decodeTableWord (_nbits _w : Nat) : Option Instr := none

end Sys2Proof
end

