-- ==== Sys2Proof/Machine/Operands.lean ====
section
/-! DEFINITION. Operand forms: bit fields of words, signed fields, exact scaling and rounding, byte
order, and the element names and parameter record fields that commands carry. -/
namespace Sys2Proof.Machine

/-- Bits [hi:lo] of a word. -/
def fld (w : Word) (hi lo : Nat) : Nat := (w.toNat >>> lo) % 2 ^ (hi - lo + 1)

/-- Bit `i` of a word. -/
def bit (w : Word) (i : Nat) : Bool := fld w i i = 1

/-- A `k`-bit field read in two's complement (00_scope R3). -/
def sint (k n : Nat) : Int := if n < 2 ^ (k - 1) then (n : Int) else (n : Int) - 2 ^ k

/-- `x` clamped to the signed `k`-bit range (04_element_loops R122). -/
def sat (k : Nat) (x : Int) : Int := max (-(2 ^ (k - 1))) (min (2 ^ (k - 1) - 1) x)

/-- The magnitude of a signed quantity. -/
def mag (x : Int) : Int := x.natAbs

/-- `x` clamped to `lo`..`hi`. -/
def clampInt (lo hi x : Int) : Int := max lo (min hi x)

/-- round(x × 2^e) with round(x) = floor(x + 1/2); no rounding where e is not negative (R121). -/
def scale (x : Int) (e : Int) : Int :=
  if 0 ≤ e then x * 2 ^ e.toNat else (x + 2 ^ ((-e).toNat - 1)) / 2 ^ (-e).toNat

/-- round(a / b) for positive b, with round(x) = floor(x + 1/2). -/
def roundDiv (a b : Int) : Int := (2 * a + b) / (2 * b)

/-- The four bytes of a word, little-endian (13_ilucy R378). -/
def leBytes (w : Word) : List Byte :=
  [w.setWidth 8, (w >>> 8).setWidth 8, (w >>> 16).setWidth 8, (w >>> 24).setWidth 8]

/-- The bytes of a list of words, each little-endian. -/
def wordsBytes (ws : List Word) : List Byte := ws.flatMap leBytes

/-- `n` bytes of a number, the lowest first. -/
def leNat : Nat → Nat → List Byte
  | 0, _ => []
  | n + 1, v => BitVec.ofNat 8 v :: leNat n (v / 256)

/-- The number that bytes spell, the lowest first. -/
def ofLe : List Byte → Nat
  | [] => 0
  | b :: bs => b.toNat + 256 * ofLe bs

/-- The number that bytes spell, the highest first (network order). -/
def ofBe (bs : List Byte) : Nat := bs.foldl (fun a b => 256 * a + b.toNat) 0

/-- Byte `i` of a list, 0 beyond its end. -/
def byteAt (bs : List Byte) (i : Nat) : Byte := bs.getD i 0

/-- `n` bytes from byte `i`. -/
def slice (bs : List Byte) (i n : Nat) : List Byte := (bs.drop i).take n

/-- Bit set or cleared as `b` says, as a number. -/
def flag (b : Bool) (i : Nat) : Nat := if b then 2 ^ i else 0

/-- 1 or 0. -/
def b2i (b : Bool) : Int := if b then 1 else 0

/-- MODE as R137 and R160 encode it. -/
def ElemMode.code : ElemMode → Nat
  | .ff => 0 | .lk => 1 | .hd => 2 | .pk => 3

/-! Element names (00_scope R11). -/

/-- Number of elements. -/
def numElements : Nat := 21504
/-- The plane of an element, 0 for A and 1 for B. -/
def planeOf (e : Nat) : Nat := e / 10752
/-- The local number within the plane. -/
def localOf (e : Nat) : Nat := e % 10752
/-- Local numbers below 9,728 are gates. -/
def isGate (e : Nat) : Bool := decide (localOf e < 9728)
/-- The region, A0 0, A1 1, B0 2, B1 3. -/
def regionOf (e : Nat) : Nat := planeOf e * 2 + (if 5376 ≤ localOf e then 1 else 0)
/-- The block within the region. -/
def blockOf (e : Nat) : Nat := localOf e % 5376 / 336
/-- The loop cell within the block. -/
def loopCellOf (e : Nat) : Nat := localOf e % 5376 % 336 / 16
/-- The slot within the loop cell. -/
def slotOf (e : Nat) : Nat := localOf e % 16
/-- The element at an address. -/
def elementAt (region block cell slot : Nat) : Nat :=
  region / 2 * 10752 + region % 2 * 5376 + block * 336 + cell * 16 + slot
/-- The lead gate of a fabric cell; the tail gate is the next element. -/
def gateAt (plane stage cell : Nat) : Nat := plane * 10752 + stage * 512 + cell * 2
/-- The fabric cell of a gate: plane, stage, cell (03_fabric, Elements in fabric terms). -/
def fabricCellOf (e : Nat) : Nat × Nat × Nat :=
  (planeOf e, localOf e / 512, localOf e % 512 / 2)
/-- The input VOA of FI `i` in a plane. -/
def inVoa (plane i : Nat) : Nat := plane * 10752 + 9728 + i
/-- The output VOA of FO `i` in a plane. -/
def outVoa (plane i : Nat) : Nat := plane * 10752 + 10240 + i

/-! The parameter record (04_element_loops R129). -/

def ParamRec.b0 (p : ParamRec) : Int := sint 16 (fld p.w0 31 16)
def ParamRec.b1 (p : ParamRec) : Int := sint 16 (fld p.w0 15 0)
def ParamRec.b2 (p : ParamRec) : Int := sint 16 (fld p.w1 31 16)
def ParamRec.b3 (p : ParamRec) : Int := sint 16 (fld p.w1 15 0)
def ParamRec.a1 (p : ParamRec) : Int := sint 16 (fld p.w2 31 16)
def ParamRec.a2 (p : ParamRec) : Int := sint 16 (fld p.w2 15 0)
def ParamRec.kiM (p : ParamRec) : Nat := fld p.w3 31 16
def ParamRec.ei (p : ParamRec) : Int := (fld p.w3 15 11 : Int) - 8
def ParamRec.eb (p : ParamRec) : Int := sint 5 (fld p.w3 10 6)
def ParamRec.ea (p : ParamRec) : Nat := fld p.w3 5 4
/-- ORDER: true for 2p2z. -/
def ParamRec.two (p : ParamRec) : Bool := bit p.w3 3
/-- SGN as +1 or -1. -/
def ParamRec.sgn (p : ParamRec) : Int := if bit p.w3 2 then -1 else 1
def ParamRec.hBar (p : ParamRec) : Bool := bit p.w3 1
def ParamRec.kb (p : ParamRec) : Nat := fld p.w4 31 16
def ParamRec.slew (p : ParamRec) : Nat := fld p.w4 15 0
def ParamRec.uMin (p : ParamRec) : Nat := fld p.w5 31 16
def ParamRec.uMax (p : ParamRec) : Nat := fld p.w5 15 0
def ParamRec.eClamp (p : ParamRec) : Nat := fld p.w6 31 16
def ParamRec.nlFloor (p : ParamRec) : Nat := fld p.w7 31 20
/-- The exponent of a gain field (R108). -/
def gainExp (f : Nat) : Nat := 3 * f
def ParamRec.gH (p : ParamRec) : Nat := gainExp (fld p.w7 19 18)
def ParamRec.gO (p : ParamRec) : Nat := gainExp (fld p.w7 17 16)
def ParamRec.mRef (p : ParamRec) : Nat := fld p.w7 15 4

/-- The eight words, with the set-point `r` in force in SETPOINT (R131) and the reserved bits 0. -/
def ParamRec.words (p : ParamRec) (r : Nat) : List Word :=
  [p.w0, p.w1, p.w2, p.w3 &&& 0xFFFFFFFE#32, p.w4, p.w5,
   (p.w6 &&& 0xFFFF0000#32) ||| BitVec.ofNat 32 (r % 65536), p.w7 &&& 0xFFFFFFF0#32]

/-- The denominator is stable (R130): with a1' = 2^EA a1 and a2' = 2^EA a2. -/
def ParamRec.stable (p : ParamRec) : Bool :=
  let a1 := p.a1 * 2 ^ p.ea
  let a2 := p.a2 * 2 ^ p.ea
  let one : Int := 32768
  if p.two then decide (mag a1 < one) else decide (mag a2 < one) && decide (mag a1 < one + a2)

/-- The byte offset of the first offending field of a record, `none` where R130 passes it. The list
is in rising order of byte offset, so its first hit is the field reported. -/
def ParamRec.offends (p : ParamRec) (gate : Bool) : Option Nat :=
  let stab := !p.stable
  let checks : List (Bool × Nat) :=
    [ (stab && !p.two, 8), (stab && p.two, 10), (bit p.w3 0, 12),
      (decide (p.kb > 0x8000), 18), (decide (p.uMin > p.uMax), 20),
      (decide (p.eClamp = 0), 26), (decide (fld p.w7 3 0 ≠ 0), 28),
      (!gate && decide (p.mRef = 0), 28),
      (decide (fld p.w7 19 18 = 3) || decide (fld p.w7 17 16 = 3), 30),
      (decide (p.nlFloor = 0), 30) ]
  (checks.find? (·.1)).map (·.2)

/-- The fields whose change clears the shaping histories: B0-B3, A1, A2, EB, EA, ORDER (R131). -/
def ParamRec.shaping (p : ParamRec) : List Int :=
  [p.b0, p.b1, p.b2, p.b3, p.a1, p.a2, p.eb, (p.ea : Int), b2i p.two]

end Sys2Proof.Machine
end

