-- ==== Sys2Proof/Config.lean ====
section
/-! DEFINITION. What an implementation fixes and the free values: constants with no body, so that no
proof can see what they are (DESIGN CHOICE, logs 5, 7, 8, 10, 16 and 33). Each names the point the manual leaves open. -/
namespace Sys2Proof.Machine

/-- The calibration of one element as the flash image holds it (07 R201, R205, R212). -/
structure ImgEl where
  prm : ParamRec
  ffBar : Nat
  ffCross : Nat
  levelBar : Nat
  levelCross : Nat
  deskew : Nat
  delay : Nat
  settling : Nat
  vstate : Nat
  table : List Nat
  block : Nat
  count : Nat
  time : Nat
  deriving DecidableEq, Repr, Inhabited

/-- Calibration data within the ranges of their codes (04 R107, R129, 06 R171, 07 R201, R212, R555; 03 R92): a free value
stays within them. -/
def ImgEl.bounded (i : ImgEl) : ImgEl :=
  { i with
    prm := { i.prm with w3 := i.prm.w3 &&& 0xFFFFFFFE#32, w7 := i.prm.w7 &&& 0xFFFFFFF0#32 }
    ffBar := min 65535 i.ffBar, ffCross := min 65535 i.ffCross, levelBar := min 4095 i.levelBar
    levelCross := min 4095 i.levelCross, deskew := min 15 i.deskew, delay := min 40 i.delay, settling := min 250 i.settling
    vstate := min 3 i.vstate, table := (List.range 21).map fun k => min 65535 (i.table.getD k 0), block := min 65535 i.block
    count := min 65535 i.count }

/-- The calibration of one monitor channel (07 R201, R209, R211). -/
structure ChanCal where
  /-- Mismatch of each of the 67 converter segments as last measured, in 0.01 LSB. -/
  mismatch : List Nat
  /-- The segments that wear has retired (R218), and the 63 selected. -/
  retired : List Nat
  segs : List Nat
  /-- The front-end path that serves, and the gain and offset error of paths 0 and 1 as last measured, in ppm. -/
  path : Nat
  err0 : Nat
  err1 : Nat
  /-- The gain ratios of x8 and x64 to x1, as their deviation in ppm. -/
  gain8 : Int
  gain64 : Int
  /-- The 6-bit threshold trim of each of the 12 bit decisions, and whether they are in use (R211). -/
  trims : List Nat
  fallback : Bool
  deriving DecidableEq, Repr, Inhabited

/-- The 63 of the 67 converter segments with the least mismatch, but for those retired (07 R209). -/
def ChanCal.least (c : ChanCal) : List Nat :=
  let key (k : Nat) : Nat := c.mismatch.getD k 0 * 128 + k
  let rank (k : Nat) : Nat := ((List.range 67).filter fun j => !c.retired.contains j && decide (key j < key k)).length
  (List.range 67).filter fun k => !c.retired.contains k && decide (rank k < 63)

/-- The front-end path with the smaller error; the serving one where they are equal (07 R209). -/
def ChanCal.better (c : ChanCal) : Nat :=
  if c.err1 < c.err0 then 1 else if c.err0 < c.err1 then 0 else c.path

/-- Channel data within its ranges, as a unit is delivered: no segment retired, and the selections those of R209. -/
def ChanCal.bounded (c : ChanCal) : ChanCal :=
  let d := { c with
    mismatch := (List.range 67).map fun k => min 100 (c.mismatch.getD k 0), retired := [], path := min 1 c.path
    trims := (List.range 12).map fun k => min 63 (c.trims.getD k 0), fallback := false }
  { d with segs := d.least, path := d.better }

/-- The tap tables of a delay line: the cumulative delay in ps of each of the 128 taps of twins A and B (07 R210). -/
structure LineCal where
  tapsA : List Nat
  tapsB : List Nat
  deriving DecidableEq, Repr, Inhabited

/-- A table of cumulative delays from the delay of each tap, which lies between 60 ps and 110 ps (07 R210). -/
def tapTable (tap : Nat → Nat) : List Nat :=
  (List.range 128).map fun k => ((List.range (k + 1)).map fun j => 60 + tap j % 51).sum

/-- Tables of a line that are tables of taps in their range. -/
def LineCal.bounded (l : LineCal) : LineCal :=
  { tapsA := tapTable fun k => l.tapsA.getD k 0, tapsB := tapTable fun k => l.tapsB.getD k 0 }

end Sys2Proof.Machine

namespace Sys2Proof

open Machine

namespace Config

/-- The calibration image of each element as the part was characterised. -/
opaque imageOf (element : Nat) : ImgEl
/-- Full-scale heater power of an element at calibration, in nW (04 R107, R110). -/
opaque fullScale (element : Nat) : Nat
/-- A quantity that the device measures and the manual does not determine, by kind, place and order
of measurement. -/
opaque measure (kind place draw : Nat) : Int
/-- The bytes of an answer payload whose fields the manual names and does not place. -/
opaque payloadBytes (code : BitVec 16) (fields : List Int) : List Byte
/-- The fixed order in which the firmware version breaks the ties of the route solver (06 R184): the rank of a choice of
cell states, by lead gate. -/
opaque solverRank (choice : List (Nat × Bool)) : Nat
/-- An Ed25519 signature verifies under a public key, over a SHA-512 digest (18_trust). -/
opaque signatureOk (key : List Byte) (digest : List Byte) (signature : List Byte) : Bool
/-- A signature that the key engine makes with the identity key derived from ID_SEED, over a SHA-512 digest
(18 R515, R516). -/
opaque sign (seed : BitVec 256) (digest : List Byte) : List Byte
/-- The three certificates of the flash identity area (18 R515). -/
opaque certificates : List Byte
/-- The images in firmware slots 0 and 1 as the part was delivered. -/
opaque slotImage (slot : Nat) : List Byte
/-- A random value of the device (18 R520). -/
opaque random (draw : Nat) : BitVec 256
/-- A gPTP message of a port (02 R56, IEEE 802.1AS), of which this manual lays out no byte. -/
opaque gptpFrame (port : Nat) (sync : Bool) (draw : Nat) : List Byte
/-- The clock identity of the device (02 R56, IEEE 802.1AS). -/
opaque clockId : BitVec 64
/-- CKEY0-CKEY3, fused by Claord (18 R508). -/
opaque claordKey (slot : Nat) : List Byte
/-- Boot ROM version, revisions of Ilucy 2 and of the mirror protocol (13 R394). -/
opaque romVer : Word
opaque il2Rev : BitVec 16
opaque mirrorVer : BitVec 16
/-- The calibrated latency of the mirror link in ns (15 R451). -/
opaque mirrorLatency : Nat
/-- The digest of a copy of the calibration image (07 R200, 18 R516), whose layout no rule gives: it follows all that the
copy holds. -/
opaque calDigest (seq : Nat) (els : List (Nat × Option ImgEl)) (chans : List (Nat × Option ChanCal)) (lines : List (Nat × Option LineCal))
  (count time : Nat) (serial : BitVec 64) (phoRev : Nat) : BitVec 512
/-- The calibration of each monitor channel and delay line as the part was characterised (07 R201, R555). -/
opaque chanOf (channel : Nat) : ChanCal
opaque lineOf (line : Nat) : LineCal
/-- How many delay lines and memory instances the device has: at most 4,096 and 256 by their location words (07 R225),
which is all that the rules say. -/
opaque delayLines : Nat
opaque memories : Nat
/-- Claord's JEDEC manufacturer code (19 R546). -/
opaque jedec : BitVec 11
/-- The bytes of an item of epoch data on the mirror link (15 R444), which the manual does not lay
out. -/
opaque mirrorBytes (item : MirItem) : List Byte

end Config
end Sys2Proof
end

