-- ==== Sys2Proof/Machine/Maps.lean ====
section
/-! DEFINITION. Sparse data by key in one canonical form: keys strictly rising, and no entry equal to
what an unlisted key reads as. Memory (a list of address and byte pairs) is the case `α = Byte`. -/
namespace Sys2Proof.Machine

/-- What key `k` reads as; `d` is what an unlisted key reads as. -/
def mapGet {α : Type} (d : α) : SMap α → Nat → α
  | [], _ => d
  | (a, v) :: m, k => if k = a then v else if k < a then d else mapGet d m k

/-- `m` with `v` at key `k`; writing the value an unlisted key reads as removes the entry. -/
def mapSet {α : Type} [DecidableEq α] (d : α) : SMap α → Nat → α → SMap α
  | [], k, v => if v = d then [] else [(k, v)]
  | (a, x) :: m, k, v =>
    if k = a then (if v = d then m else (k, v) :: m)
    else if k < a then (if v = d then (a, x) :: m else (k, v) :: (a, x) :: m)
    else (a, x) :: mapSet d m k v

/-- `m` with `f` applied at key `k`. -/
def mapMod {α : Type} [DecidableEq α] (d : α) (m : SMap α) (k : Nat) (f : α → α) : SMap α :=
  mapSet d m k (f (mapGet d m k))

/-- `m` with `f` applied at each key of the list `ks`. -/
def mapModAll {α : Type} [DecidableEq α] (d : α) (f : Nat → α → α) : List Nat → SMap α → SMap α
  | [], m => m
  | k :: ks, m => mapModAll d f ks (mapMod d m k (f k))

/-- `m` with the values of the list `vs` at keys `k`, `k + 1` and so on. -/
def mapSetList {α : Type} [DecidableEq α] (d : α) : SMap α → Nat → List α → SMap α
  | m, _, [] => m
  | m, k, v :: vs => mapSetList d (mapSet d m k v) (k + 1) vs

/-- `m` with `f` applied at every listed key. -/
def mapListed {α : Type} [DecidableEq α] (d : α) (f : Nat → α → α) (m : SMap α) : SMap α :=
  (m.map fun p => (p.1, f p.1 p.2)).filter fun p => p.2 ≠ d

/-- The values at keys `k`, `k + 1`, up to `n` of them. -/
def mapRead {α : Type} (d : α) (m : SMap α) (k n : Nat) : List α :=
  (List.range n).map fun i => mapGet d m (k + i)

/-- Keys strictly rising, each above `lo`, and no entry equal to `d`. -/
def mapWfAbove {α : Type} [DecidableEq α] (d : α) : Nat → SMap α → Bool
  | _, [] => true
  | lo, (a, v) :: m => decide (lo ≤ a) && decide (v ≠ d) && mapWfAbove d (a + 1) m

/-- The canonical form. -/
def mapWf {α : Type} [DecidableEq α] (d : α) (m : SMap α) : Bool := mapWfAbove d 0 m

end Sys2Proof.Machine
end

