-- ==== Sys2Proof/Machine/LoopMath.lean ====
section
/-! DEFINITION. The arithmetic of one loop evaluation: 04_element_loops R109-R126. Signed quantities
are exact integers, narrowed by `sat` where the manual saturates. -/
namespace Sys2Proof.Machine

/-- What steps 1 to 3 of R122 give. `yRaw` is y before any clamp; `flags` are status bits of R127. -/
structure Measure where
  y : Nat
  noLight : Bool
  e : Int
  flags : Nat
  deriving DecidableEq, Repr

/-- The leakage measure of a gate (R111): readings of the intended and the other tap. -/
def gateY (p : ParamRec) (mh mo : Nat) : Nat :=
  if mh = 0 then 65535 else min 65535 (mo * 2 ^ (16 + p.gH) / (mh * 2 ^ p.gO))

/-- The level measure of a VOA (R112). M_REF is not 0 in a record that R130 passes. -/
def voaY (p : ParamRec) (m : Nat) : Nat := min 65535 (m * 2 ^ 16 / (p.mRef * 2 ^ p.gH))

/-- The no-light test (R114). -/
def noLight (p : ParamRec) (gate : Bool) (mh mo : Nat) : Bool :=
  if gate then decide (mh / 2 ^ p.gH + mo / 2 ^ p.gO < p.nlFloor)
  else decide (mh / 2 ^ p.gH < p.nlFloor)

/-- Steps 1 to 3 of R122 with set-point `r`; `mo` is not used for a VOA. -/
def measure (p : ParamRec) (gate : Bool) (mh mo r : Nat) : Measure :=
  let y := if gate then gateY p mh mo else voaY p mh
  let nl := noLight p gate mh mo
  let raw := p.sgn * ((y : Int) - r)
  let cl : Int := p.eClamp
  let e := if nl then 0 else clampInt (-cl) cl raw
  let fl := flag nl 0 ||| flag (mh = 4095) 1 ||| flag (gate && decide (mo = 4095)) 2
    ||| flag (mh = 0 || gate && decide (mo = 0)) 3 ||| flag (!nl && decide (e ≠ raw)) 4
  { y := y, noLight := nl, e := e, flags := fl }

/-- The loop state that an evaluation reads and writes (R120). -/
structure LoopRegs where
  e1 : Int := 0
  e2 : Int := 0
  e3 : Int := 0
  v1 : Int := 0
  v2 : Int := 0
  w : Int := 0
  u : Nat := 0
  deriving DecidableEq, Repr, Inhabited

/-- Steps 4 to 10 of R122. `preset` is `some u_act` at a preset sample (R124). Answers the new registers and the status
bits that set. Of SLEW_BOUND R122 says only that it sets where the slew limit binds: here it sets wherever the limit moves
the code, also where U_CAP then overrides the slewed code (DEDUCED, log 13). -/
def compensate (p : ParamRec) (uCap : Nat) (q : LoopRegs) (e : Int) (preset : Option Nat) :
    LoopRegs × Nat :=
  let q := if preset.isSome then { q with e1 := 0, e2 := 0, e3 := 0, v1 := 0, v2 := 0 } else q
  let b3 := if p.two then 0 else p.b3
  let a2 := if p.two then 0 else p.a2
  let pp := p.b0 * e + p.b1 * q.e1 + p.b2 * q.e2 + b3 * q.e3
  let nq := scale pp (p.eb - 7)
  let d := p.a1 * q.v1 + a2 * q.v2
  let dq := scale d ((p.ea : Int) - 15)
  let vx := nq - dq
  let v := sat 32 vx
  let delta := scale ((p.kiM : Int) * v) (p.ei - 24)
  let wx := match preset with
    | some ua => (ua : Int) * 2 ^ 16
    | none => q.w + delta
  let wu := sat 40 wx
  let ur := (wu + 2 ^ 15) / 2 ^ 16
  let uh : Int := min (p.uMax : Int) uCap
  let ua := min uh (max (p.uMin : Int) ur)
  let ul : Int := q.u
  let s : Int := p.slew
  let slewed := max (ul - s) (min (ul + s) ua)
  let u : Int := if p.slew > 0 then min (uCap : Int) slewed else ua
  let w2x := wu + scale ((p.kb : Int) * (u - ur) * 2 ^ 16) (-15)
  let w2 := sat 40 w2x
  let lo := decide (ur < p.uMin)
  let hi := decide (max (p.uMin : Int) ur > uh) || (decide (p.slew > 0) && decide (slewed > uCap))
  let sb := decide (p.slew > 0) && decide (slewed ≠ ua)
  let fl := flag lo 5 ||| flag hi 6 ||| flag sb 7 ||| flag (decide (v ≠ vx)) 8
    ||| flag (decide (wu ≠ wx) || decide (w2 ≠ w2x)) 9
  ({ e1 := e, e2 := q.e1, e3 := q.e2, v1 := v, v2 := q.v1, w := w2, u := u.toNat }, fl)

/-! Decibels. An attenuation n/d dB is at most that of a level t of 65,536 exactly where 10^n × t^(10 d) ≤ 65,536^(10 d).
No level of 1 to 65,535 has an attenuation that is a fraction other than 0, so nothing is ever halfway or on a bound. -/

/-- The greatest number from `lo` to `hi` for which `p` holds, which holds up to some number above `lo`; `fuel` bounds
the halvings. -/
def greatest (p : Nat → Bool) : Nat → Nat → Nat → Nat
  | 0, lo, _ => lo
  | fuel + 1, lo, hi =>
    if hi ≤ lo then lo
    else if p ((lo + hi + 1) / 2) then greatest p fuel ((lo + hi + 1) / 2) hi
    else greatest p fuel lo ((lo + hi + 1) / 2 - 1)

/-- -10 × log10(t / 65,536) is at least n/d. -/
def attenuationAtLeast (t n d : Nat) : Bool := decide (10 ^ n * t ^ (10 * d) ≤ 65536 ^ (10 * d))

/-- The whole dB at or below the attenuation of a target, at most 20 (06_sheaves R161). -/
def wholeDb (t : Nat) : Nat := greatest (fun k => attenuationAtLeast t k 1) 5 0 20

/-- The entry of a 1 dB table nearest a set-point, by dB (07_calibration_spares R213, DEDUCED, log 9). -/
def nearestDb (t : Nat) : Nat := greatest (fun k => attenuationAtLeast t (2 * k - 1) 2) 5 0 20

/-- The FF code of a VOA for a target: its attenuation, limited to 20 dB, interpolated in dB between the entries of
its table and rounded (06_sheaves R161). -/
def voaCode (table : List Nat) (target : Nat) : Nat :=
  let k := wholeDb target
  let a := table.getD k 0
  let b := table.getD (k + 1) 0
  let d := if a ≤ b then b - a else a - b
  let j := greatest (fun j => attenuationAtLeast target (2 * d * k + 2 * j - 1) (2 * d)) 17 0 d
  if k = 20 then a else if a ≤ b then a + j else a - j

/-- round(65,536 × 10^(-a/10)) for `a` in units of 1/255 of 0.01 dB (05_loop_modes R151). -/
def linearOf (a : Nat) : Nat :=
  let g := Nat.gcd a 255000
  greatest (fun y => decide ((2 * y - 1) ^ (255000 / g) * 10 ^ (a / g) ≤ 131072 ^ (255000 / g))) 17 0 65536

/-- One step of the set-point ramp (05_loop_modes R148). -/
def rampStep (target slew r : Nat) : Nat :=
  if slew = 0 then target
  else if r < target then min target (r + slew)
  else if target < r then max target (r - slew)
  else r

end Sys2Proof.Machine
end

