-- ==== Sys2Proof/Machine/Parts/Loops.lean ====
section
/-! DEFINITION. The part of State for the elements and their loops: 04_element_loops and
05_loop_modes. -/
namespace Sys2Proof.Machine

/-- The fields that a sheaf change writes, as they stood before it, with the sheaf and its instant (R140). -/
structure ModeRec where
  sheaf : Nat
  instant : Nat
  fast : Nat
  block : Bool
  mode : ElemMode
  cross : Bool
  reqLk : Bool
  prior : ElemMode
  refusals : Nat
  target : Nat
  rampSlew : Nat
  tLast : BitVec 32
  ff : Option (Nat × Nat)
  r : Nat
  cSheaf : Bool
  unlockable : Bool
  attempt : Option Nat
  deriving DecidableEq, Repr, Inhabited

/-- One element: its mode record (R136), its loop registers (R120) and status (R127). An element that
no record lists is in PK with every field 0, as after a class P reset. -/
structure Elem where
  mode : ElemMode := .pk
  cross : Bool := false
  reqLk : Bool := false
  /-- PRIOR: the mode held before the present HD; `pk` stands for 0b11. -/
  prior : ElemMode := .pk
  refusals : Nat := 0
  cSheaf : Bool := false
  cBlock : Bool := false
  cRegion : Bool := false
  cDevice : Bool := false
  cCell : Bool := false
  group : Nat := 0
  /-- FF_BAR and FF_CROSS; `none` while no value has replaced the calibration image's. -/
  ff : Option (Nat × Nat) := none
  /-- FF_BAR is the block code of a VOA at BLOCK (R135, 06 R161). -/
  block : Bool := false
  target : Nat := 0
  rampSlew : Nat := 0
  tLast : BitVec 32 := 0
  /-- Fast-section code (gates). -/
  fast : Nat := 2048
  /-- The record in force; `none` while it is the calibration image's. -/
  prm : Option ParamRec := none
  r : Nat := 0
  q : LoopRegs := {}
  /-- The FF code is due in one step at the next sample (R141). -/
  ffJump : Bool := false
  /-- Histories to be cleared at the next evaluation (R131). -/
  histPend : Bool := false
  /-- Network time at or after which the next attempt falls (R142, R144). -/
  attempt : Option Nat := none
  flags : BitVec 16 := 0
  last : BitVec 16 := 0
  mH : Nat := 0
  mO : Nat := 0
  y : Nat := 0
  e : Int := 0
  tSample : Nat := 0
  /-- Samples in a row without NO_LIGHT, LIM_LO, LIM_HI and SLEW_BOUND, to 1,000 (07 R213). -/
  clean : Nat := 0
  /-- U_CAP; `none` while it is that of the element's full-scale power at calibration (R110). -/
  uCap : Option Nat := none
  /-- Elapsed time of the last measurement of its full-scale power (R110). -/
  capAt : Option Nat := none
  /-- Start of the loop frame of its last sample: each frame holds one (R116, R117). -/
  frame : Option Nat := none
  /-- The code in force until network time `uAt`, from which `q.u` is in force (R116). -/
  uPrev : Nat := 0
  uAt : Nat := 0
  /-- The change that it has taken since its last sample, by the record before it (R140). -/
  since : Option ModeRec := none
  /-- A hold cause other than SHEAF has been released since its last sample (R140). -/
  clearing : Bool := false
  deriving DecidableEq, Repr, Inhabited

/-- What an element reads as where State lists nothing for it. -/
def Elem.park : Elem := {}

/-- Hand-over parameters of one kind of element, times in ns (R146). -/
structure Handover where
  dwell : Nat
  retry : Nat
  tol : Nat
  deriving DecidableEq, Repr, Inhabited

/-- A VOA group (R149-R152). -/
structure VoaGroup where
  cfg : VoaGroupCfg := default
  table : List Nat := []
  lastX : Nat := 0
  lost : Bool := false
  invalid : Nat := 0
  /-- Valid values of x in a row while LOST. -/
  good : Nat := 0
  /-- Elapsed time of the last valid x. -/
  lastValid : Nat := 0
  /-- The multiple of 10,000 of network time at which x was last formed, or found invalid (R150). -/
  formedAt : Option Nat := none
  deriving DecidableEq, Repr, Inhabited

/-- A TRIM_IN pin in pulse mode (R150): instants of the last edges in elapsed time, and the last
complete period as period and high time in 0.1 ns. -/
structure TrimPin where
  lastRise : Option Nat := none
  lastFall : Option Nat := none
  period : Option (Nat × Nat) := none
  deriving DecidableEq, Repr, Inhabited

/-- States of a capture (R133). -/
inductive CapState where
  | armed | running | complete | aborted
  deriving DecidableEq, Repr, Inhabited

/-- A capture of one element (R133, R134); samples oldest first, each the 24 bytes of R134. -/
structure Capture where
  element : Nat
  start : Nat
  count : Nat
  samples : List (List Byte)
  state : CapState
  deriving DecidableEq, Repr, Inhabited

/-- What a loop frame start brings: records of LOOP_SET_PARAMS (04 R133), a region's cause REGION as its setters
then say (R156, 16 R474, R475), the entry into HOLD by a cause of the Gleaner or of
POWER_HOLD (R154, 16 R474), selections of monitor channels (07 R209, R215), the answer of an attestation (18 R516), or
the increment of a holdover that a reset of HEDGE began (02 R46, R54). -/
inductive FrameAct where
  | params (first : Nat) (recs : List ParamRec)
  | region (r : Nat)
  | hold
  | select
  | attest (tag : Tag) (nonce : BitVec 256)
  | holdover
  deriving DecidableEq, Repr, Inhabited

/-- The loops. -/
structure Loops where
  elems : SMap Elem := []
  gate : Handover := { dwell := 3000, retry := 10000, tol := 2048 }
  voa : Handover := { dwell := 60000, retry := 10000, tol := 3277 }
  /-- LOOP_HOLD_REGION holds by region (R156). -/
  regionHold : BitVec 4 := 0
  groups : SMap VoaGroup := []
  trim : SMap TrimPin := []
  /-- The last capture of each region. -/
  captures : SMap (Option Capture) := []
  /-- What waits for a loop frame start, with the network time of that frame, in the order asked. -/
  frames : List (Nat × FrameAct) := []
  deriving DecidableEq, Repr, Inhabited

end Sys2Proof.Machine
end

