-- ==== Sys2Proof/Machine/Parts/Fabric.lean ====
section
/-! DEFINITION. The parts of State for the fabric and for sheaves, stooks and the route solver:
03_fabric and 06_sheaves. -/
namespace Sys2Proof.Machine

/-- An entry of a failed-cell list (R104). -/
structure FailedCell where
  plane : Nat
  stage : Nat
  cell : Nat
  kind : FailKind
  evidence : Evidence
  time : Nat
  deriving DecidableEq, Repr, Inhabited

/-- The fabric: failed-cell lists (kept with the calibration data), repair and parking settings. -/
structure Fabric where
  failed : List FailedCell := []
  repairOn : Bool := true
  repairLead : Nat := 200000
  parkOn : Bool := false
  parkDelay : Nat := 1000000000
  lastSheaf : Nat := 0
  /-- Outputs whose planes carry different inputs, kept for the rising edge of HALF_LIT (R81). -/
  halfLit : List Nat := []
  /-- The connection map as last found, by output: where the planes carry different inputs, the one that both or one
  carried last, which automatic repair restores (R100; DESIGN CHOICE, log 10). -/
  map : List (Option Nat) := []
  /-- The cells that carry a connection, by lead gate, and for each cell the network time up to
  which it is known to have carried one (R85). -/
  carrying : List Nat := []
  lastCarried : SMap Nat := []
  deriving DecidableEq, Repr, Inhabited

/-- A change entry (R160); `ff` is the FF code of a VOA that firmware computes when it arms the change (05 R136, R161). -/
structure Change where
  element : Nat
  mode : ElemMode
  cross : Bool
  levelValid : Bool
  level : Nat
  target : Nat
  slew : Nat
  ff : Option Nat := none
  deriving DecidableEq, Repr, Inhabited

/-- Where a sheaf stands (R195 SHEAF_GET_STATUS): `committed` is fully armed, `applied` is between
the instant and the horizon. -/
inductive SheafPhase where
  | staged | arming | committed | applied | done
  deriving DecidableEq, Repr, Inhabited

/-- Who submitted a sheaf, and so where its completion goes. -/
inductive Submitter where
  | mailbox | fcq (q idx : Nat) | firmware | stook (id : Nat)
  deriving DecidableEq, Repr, Inhabited

/-- Causes of an exclusion (R176). -/
inductive ExclCause where
  | drive | heldElement | failedCell
  deriving DecidableEq, Repr, Inhabited

/-- A sheaf (R159) with its course. -/
structure Sheaf where
  id : Nat
  prep : Bool
  rel : Bool
  gwEn : Bool
  instant : Nat
  gwOpen : Nat
  gwClose : Nat
  cover : Nat
  stook : Nat
  step : Nat
  hostTag : Word
  changes : List Change
  submitter : Submitter := .mailbox
  phase : SheafPhase := .staged
  slot : Option Nat := none
  accepted : Nat := 0
  /-- IDs of the sheaves that checks 9 and 10 took as applied (R163, R164). -/
  basis : List Nat := []
  excluded : List (Nat × ExclCause) := []
  outcome : Nat := 0x0B
  detail : Nat := 0
  nRefused : Nat := 0
  /-- Network time at which it was fully armed (R72, R167). -/
  armedAt : Nat := 0
  /-- Its SYNC_OUT notice has been given (R72). -/
  noticed : Bool := false
  /-- The instant by the counter without its steps, in units of 2⁻³² ns, from which the slot is freed and the horizon
  falls (R170). -/
  firedAt : Option Nat := none
  /-- D of the horizon (R172). -/
  dwell : Nat := 0
  /-- The sheaf came over the mirror link and is applied on the Standby (R190). -/
  mirrored : Bool := false
  deriving DecidableEq, Repr, Inhabited

/-- A stook definition (R188). Members are their record words. -/
structure Stook where
  id : Nat
  name : BitVec 128
  stop : Bool
  members : List Sheaf
  /-- The signature block and the payload that it signs (18 R518, R519). -/
  sig : Option AxaroBlock := none
  content : List Byte := []
  /-- Started, and not stopped since. It runs while a member has not reached its outcome. -/
  running : Bool := false
  ts : Nat := 0
  deriving DecidableEq, Repr, Inhabited

/-- A report entry of the route solver (R186), by its fields. -/
abbrev ReportEntry := List Int

/-- Sheaves, arm slots, stooks and the solver. -/
structure Sheaves where
  /-- Every sheaf from acceptance on, the oldest first; a finished one stays until its ID is used
  again (R175, R176, R196). -/
  store : List Sheaf := []
  /-- Open sheaves (R195 MORE): the words received. -/
  opened : List (Nat × List Word) := []
  /-- Arm slots in use (R166), and those of sheaves that have met their instants, with the time at which each is freed
  by the counter without its steps (R170). -/
  slots : List Nat := []
  freeing : List (Nat × Nat) := []
  armLead : Nat := 1000000
  prepLead : Nat := 100000
  stooks : List Stook := []
  report : List ReportEntry := []
  /-- The next firmware sheaf ID (R159). -/
  nextFwId : Nat := 0xF001
  deriving DecidableEq, Repr, Inhabited

end Sys2Proof.Machine
end

