-- ==== Sys2Proof/Machine/Fabric.lean ====
section
/-! DEFINITION. The wiring of the fabric and what it carries: 03_fabric R80-R91, R105, R552. -/
namespace Sys2Proof.Machine

/-- rotr(p, k) (03_fabric, Stage wiring). -/
def rotr (p k : Nat) : Nat :=
  let low := p % 2 ^ k
  p - low + low / 2 + low % 2 * 2 ^ (k - 1)

/-- rotl(p, k). -/
def rotl (p k : Nat) : Nat :=
  let low := p % 2 ^ k
  p - low + low % 2 ^ (k - 1) * 2 + low / 2 ^ (k - 1)

/-- swap08(p). -/
def swap08 (p : Nat) : Nat :=
  let b0 := p % 2
  let b8 := p / 256
  p - b0 - 256 * b8 + b8 + 256 * b0

/-- The link L_s(p) from stage s (R86). -/
def link (s p : Nat) : Nat :=
  if s = 0 then swap08 p
  else if s ≤ 8 then rotr p (10 - s)
  else if s ≤ 16 then rotl p (s - 7)
  else swap08 p

/-- What a fabric cell does to light (R82, R84, R96). `none_` passes none. -/
inductive CellPath where
  | bar | cross | park | mixed
  deriving DecidableEq, Repr, Inhabited

/-- The failed-cell entry of a cell, if listed. -/
def failedAt (fs : List FailedCell) (plane stage cell : Nat) : Option FailedCell :=
  fs.find? fun f => f.plane = plane && f.stage = stage && f.cell = cell

/-- The path of a cell whose two gates stand as given. -/
def pathOfGates (l t : Elem) : CellPath :=
  if l.mode = .pk && t.mode = .pk then .park
  else if l.mode = .pk || t.mode = .pk || l.cross ≠ t.cross then .mixed
  else if l.cross then .cross else .bar

/-- What a cell does: fixed for a STUCK cell, nothing for a DARK one (R96). -/
def cellPath (m : SMap Elem) (fs : List FailedCell) (plane stage cell : Nat) : CellPath :=
  match failedAt fs plane stage cell with
  | some f => match f.kind with
    | .stuckBar => .bar
    | .stuckCross => .cross
    | .dark => .park
  | none =>
    let g := gateAt plane stage cell
    pathOfGates (mapGet Elem.park m g) (mapGet Elem.park m (g + 1))

/-- FABRIC_GET_CELLS codes (R105). -/
def cellCode (m : SMap Elem) (fs : List FailedCell) (plane stage cell : Nat) : Nat :=
  match failedAt fs plane stage cell with
  | some f => match f.kind with
    | .stuckBar => 4
    | .stuckCross => 5
    | .dark => 6
  | none =>
    let g := gateAt plane stage cell
    let l := mapGet Elem.park m g
    let t := mapGet Elem.park m (g + 1)
    match pathOfGates l t with
    | .park => 2
    | .mixed => 7
    | .bar => if l.mode = .hd && t.mode = .hd then 3 else 0
    | .cross => if l.mode = .hd && t.mode = .hd then 3 else 1

/-- The path from input port `p` of stage `19 - n` through the last `n` stages: the cells passed and
the output port, `none` where a cell passes no defined path. -/
def tracePath (m : SMap Elem) (fs : List FailedCell) (plane : Nat) :
    Nat → Nat → Option (List (Nat × Nat × CellPath) × Nat)
  | 0, p => some ([], p)
  | n + 1, p =>
    let s := 18 - n
    let c := cellPath m fs plane s (p / 2)
    let go (q : Nat) :=
      (tracePath m fs plane n (if s = 18 then q else link s q)).map fun r =>
        ((s, p / 2, c) :: r.1, r.2)
    match c with
    | .bar => go p
    | .cross => go (if p % 2 = 0 then p + 1 else p - 1)
    | .park => none
    | .mixed => none

/-- The output that input `i` reaches through the cells of a plane. -/
def traced (m : SMap Elem) (fs : List FailedCell) (plane i : Nat) : Option Nat :=
  (tracePath m fs plane 19 i).map (·.2)

/-- A VOA blocks: it is parked, or in FF at its block code with no hand-over requested (R89, R161, 05 R135). -/
def voaBlocked (v : Elem) : Bool :=
  v.mode = .pk || (v.block && !v.reqLk && (v.mode = .ff || (v.mode = .hd && v.prior = .ff)))

/-- The input that a plane carries to output `j`, if any (R552): a path joins them and both VOAs are
open. -/
def carried (m : SMap Elem) (fs : List FailedCell) (plane j : Nat) : Option Nat :=
  if voaBlocked (mapGet Elem.park m (outVoa plane j)) then none
  else (List.range 512).find? fun i =>
    !voaBlocked (mapGet Elem.park m (inVoa plane i)) && traced m fs plane i = some j

/-- The entry INPUT of the connection map (R552). -/
def mapInput (a b : Option Nat) : Option Nat :=
  match a, b with
  | some x, some y => if x = y then some x else none
  | some x, none => some x
  | none, y => y

/-- The outputs that the planes do not carry alike (R81, R552). -/
def halfLitOutputs (m : SMap Elem) (fs : List FailedCell) : List Nat :=
  (List.range 512).filter fun j => carried m fs 0 j ≠ carried m fs 1 j

/-- The connection map, one entry per output. -/
def connectionMap (m : SMap Elem) (fs : List FailedCell) : List (Option Nat) :=
  (List.range 512).map fun j => mapInput (carried m fs 0 j) (carried m fs 1 j)

/-- An output is on a connection of either plane whose path passes a cell (R102 IN_USE, R85). -/
def cellCarries (m : SMap Elem) (fs : List FailedCell) (plane stage cell : Nat) : Bool :=
  (List.range 512).any fun i =>
    !voaBlocked (mapGet Elem.park m (inVoa plane i)) &&
    match tracePath m fs plane 19 i with
    | some (cs, j) => !voaBlocked (mapGet Elem.park m (outVoa plane j)) &&
        cs.any (fun c => c.1 = stage && c.2.1 = cell)
    | none => false

/-- The cells that carry a connection in some plane, by lead gate. -/
def carryingCells (m : SMap Elem) (fs : List FailedCell) : List Nat :=
  ([0, 1].flatMap fun pl => (List.range 512).flatMap fun i =>
    if voaBlocked (mapGet Elem.park m (inVoa pl i)) then []
    else match tracePath m fs pl 19 i with
      | some (cs, j) =>
        if voaBlocked (mapGet Elem.park m (outVoa pl j)) then []
        else cs.map fun c => gateAt pl c.1 c.2.1
      | none => []).eraseDups

end Sys2Proof.Machine
end

