-- ==== Sys2Proof/Machine/Elements.lean ====
section
/-! DEFINITION. What moves an element: hold causes, parking, sheaf changes, hand-over and samples, as
functions of one element: 05_loop_modes R135-R148 and 04_element_loops R122-R131. -/
namespace Sys2Proof.Machine

/-- UNLOCKABLE, bit 12 of the status word (R127). -/
def Elem.unlockable (x : Elem) : Bool := x.flags.getLsbD 12

/-- The element with UNLOCKABLE clear and REFUSALS 0 (R145). -/
def Elem.relock (x : Elem) : Elem :=
  { x with flags := x.flags &&& 0xEFFF#16, refusals := 0 }

/-- Any hold cause set (R139). -/
def Elem.held (x : Elem) : Bool := x.cSheaf || x.cBlock || x.cRegion || x.cDevice || x.cCell

/-- Any hold cause other than SHEAF (R140). -/
def Elem.heldHard (x : Elem) : Bool := x.cBlock || x.cRegion || x.cDevice || x.cCell

/-- Bits [31:0] of a network time. -/
def low32 (t : Nat) : BitVec 32 := BitVec.ofNat 32 t

/-- The trim code in force at network time `t`: a code evaluated at a strobe is applied at the end of its evaluation
window, 500 ns later (R116, R119). -/
def Elem.inForce (t : Nat) (x : Elem) : Nat :=
  if t < x.uAt && decide (x.uAt ≤ t + 500) then x.uPrev else x.q.u

/-- Row 6 of R141: an element in FF or LK enters HD at the code in force; in PK it stays (R139). -/
def Elem.freeze (t : Nat) (x : Elem) : Elem :=
  if x.mode = .ff || x.mode = .lk then
    { x with mode := .hd, prior := x.mode, tLast := low32 t, attempt := none, q := { x.q with u := x.inForce t }, uAt := 0 }
  else { x with attempt := none }

/-- Row 9 of R141: into PK. -/
def Elem.parked (t : Nat) (x : Elem) : Elem :=
  { x.relock with
    mode := .pk, prior := .pk, fast := 2048, q := {}, r := x.target, reqLk := false
    cSheaf := false, cBlock := false, cRegion := false, cDevice := false, cCell := false
    ffJump := false, attempt := none, uAt := 0, block := false
    tLast := if x.mode = .pk then x.tLast else low32 t }

/-- The hand-over parameters of an element's kind. -/
def handoverOf (l : Loops) (e : Nat) : Handover := if isGate e then l.gate else l.voa

/-- Rows 7 and 8 of R141 for an element in HD whose last cause has cleared: with PRIOR FF it returns
to FF, with PRIOR LK it waits for its hand-back (R144). -/
def Elem.leaveHd (dwell t : Nat) (x : Elem) : Elem :=
  if x.mode = .hd && !x.held then
    match x.prior with
    | .ff => { x with mode := .ff, prior := .pk, ffJump := true, tLast := low32 t
                      attempt := if x.reqLk && !x.unlockable then some (t + dwell) else none }
    | .lk => { x with attempt := if x.unlockable then none else some (t + dwell) }
    | .hd => x
    | .pk => x
  else x

/-- The record before a sheaf's change (R140). -/
def Elem.before (sheaf t : Nat) (x : Elem) : ModeRec :=
  { sheaf := sheaf, instant := t, fast := x.fast, block := x.block, mode := x.mode, cross := x.cross, reqLk := x.reqLk
    prior := x.prior, refusals := x.refusals, target := x.target, rampSlew := x.rampSlew, tLast := x.tLast, ff := x.ff
    r := x.r, cSheaf := x.cSheaf, unlockable := x.unlockable, attempt := x.attempt }

/-- The change taken since the last sample is not applied after all: a hold cause has arisen before that sample (R140
steps 1 and 2; DEDUCED, log 13). -/
def Elem.undone (x : Elem) : Elem :=
  match x.since with
  | none => x
  | some p =>
    { x with
      fast := p.fast, block := p.block, mode := p.mode, cross := p.cross, reqLk := p.reqLk, prior := p.prior
      refusals := p.refusals, target := p.target, rampSlew := p.rampSlew, tLast := p.tLast, ff := p.ff, r := p.r
      cSheaf := p.cSheaf, attempt := p.attempt, ffJump := false, since := none
      flags := if p.unlockable then x.flags ||| 0x1000#16 else x.flags &&& 0xEFFF#16 }

/-- A sheaf change to one element at instant `t` (R138, R140, R141). `level` is the fast level that
it sets and `ffv` the FF code of a VOA. A following VOA keeps its target (R149). FF to FF is no mode change (R136, DEDUCED, log 13).
REFUSALS returns to 0 in row 2 and where the state changes (R141, R145), and PRIOR stays in row 8. -/
def Elem.change (c : Change) (gate : Bool) (level : Nat) (ffv : Option Nat) (dwell t : Nat)
    (x : Elem) : Elem :=
  match c.mode with
  | .pk => x.parked t
  | .hd => { (if x.held then x else x.freeze t) with cSheaf := true }
  | m =>
    let lk := m == .lk
    let moved := gate && (x.cross ≠ c.cross)
    let same := !moved && (!gate || x.fast = level)
    let x0 := { x with cSheaf := false }
    let x1 := if moved then x0.relock else x0
    let tgt0 := if x.group = 0 then { x1 with target := c.target, rampSlew := c.slew } else x1
    let tgt := match ffv with
      | some f => { tgt0 with ff := some (f, 0), block := c.mode = .ff && tgt0.target = 0 }
      | none => tgt0
    let go := { tgt with
      mode := .ff, prior := .pk, cross := gate && c.cross
      fast := if gate then level else x.fast
      reqLk := lk, ffJump := true, tLast := if x.mode = .ff then x.tLast else low32 t
      refusals := if x.mode = .ff && !tgt.unlockable then 0 else tgt.refusals
      attempt := if lk && !tgt.unlockable then some (t + dwell) else none }
    match x.mode with
    | .pk => { go with q := { u := x.q.u }, r := tgt.target }
    | .ff => go
    | .lk => if lk && same && !x.unlockable then tgt else go
    | .hd =>
      if lk && same && !x.unlockable then
        { tgt with reqLk := x.reqLk || x.prior = .ff, attempt := some (t + dwell) }
      else go

/-- The exact record with the image's where none was written. -/
def Elem.record (img : ImgEl) (x : Elem) : ParamRec := x.prm.getD img.prm

/-- The FF code in force (R136). -/
def Elem.ffCode (img : ImgEl) (gate : Bool) (x : Elem) : Nat :=
  let f := x.ff.getD (img.ffBar, img.ffCross)
  if gate && x.cross then f.2 else f.1

/-- U_CAP = floor(65,536 × 0.9 mW / P_fs), P_fs in nW (R110). -/
def uCapOf (pfsNw : Nat) : Nat := min 65535 (65536 * 900000 / pfsNw)

/-- U_CAP of an element. -/
def Elem.cap (pfs : Nat) (x : Elem) : Nat := x.uCap.getD (uCapOf pfs)

/-- What one sample reads from outside the element's own fields. -/
structure SampleIn where
  prm : ParamRec
  gate : Bool
  cap : Nat
  ff : Nat
  mh : Nat
  mo : Nat
  /-- The frame start and the strobe, in ns of network time, rounded down (R116, R134). -/
  frame : Nat
  t : Nat
  deriving DecidableEq, Repr

/-- A code above U_CAP is applied as U_CAP and sets LIM_HI (R110). -/
def capped (cap u : Nat) : Nat × Nat := (min u cap, flag (decide (u > cap)) 6)

/-- The trim code of a sample in FF: in one step after a change (R141), else towards the FF code
under SLEW (R136). -/
def ffMove (slew cap ff u : Nat) (jump : Bool) : Nat × Nat :=
  let goal := if jump || slew = 0 then ff else rampStep ff slew u
  capped cap goal

/-- The element after a sample, with the bits that it sets in the status word. -/
def Elem.latch (i : SampleIn) (ms : Measure) (fl : Nat) (x : Elem) : Elem :=
  let bits := BitVec.ofNat 16 (ms.flags ||| fl)
  { x with mH := i.mh, mO := i.mo, y := ms.y, e := ms.e, tSample := i.t
           clean := if bits &&& 0x00E1#16 = 0 then min 1000 (x.clean + 1) else 0
           last := bits, flags := x.flags ||| bits }

/-- Histories cleared by a parameter change (R131). -/
def Elem.histories (x : Elem) : Elem × Nat :=
  if x.histPend then
    ({ x with histPend := false, q := { x.q with e1 := 0, e2 := 0, e3 := 0, v1 := 0, v2 := 0 } }, 2 ^ 13)
  else (x, 0)

/-- The set-point before the sample's step 3: the ramp runs in FF and LK, and is paused in HD (R135,
R148). -/
def Elem.ramped (x : Elem) : Elem :=
  if x.mode = .ff || x.mode = .lk then { x with r := rampStep x.target x.rampSlew x.r } else x

/-- An evaluation in LK, or a preset sample (R122, R124). -/
def Elem.evaluate (i : SampleIn) (preset : Bool) (x : Elem) : Elem :=
  let (x1, hf) := x.histories
  let ms := measure i.prm i.gate i.mh i.mo x1.r
  let (q, fl) := compensate i.prm i.cap x1.q ms.e (if preset then some x1.q.u else none)
  ({ x1 with q := q }).latch i ms (fl ||| hf)

/-- A sample that runs steps 1 to 3 only (FF and HD, R135). -/
def Elem.watch (i : SampleIn) (x : Elem) : Elem :=
  let (x1, hf) := x.histories
  let ms := measure i.prm i.gate i.mh i.mo x1.r
  let (u, fl) :=
    if x1.mode = .ff then ffMove i.prm.slew i.cap i.ff x1.q.u x1.ffJump else capped i.cap x1.q.u
  ({ x1 with q := { x1.q with u := u }, ffJump := false }).latch i ms (fl ||| hf)

/-- An attempt is due: hand-over from FF, or hand-back from HD with no cause (R142, R144). -/
def Elem.due (t : Nat) (x : Elem) : Bool :=
  (x.mode = .ff && x.reqLk || x.mode = .hd && !x.held) && !x.unlockable &&
    (match x.attempt with | some a => decide (a ≤ t) | none => false)

/-- The attempt of R142 to R145. `h` are the hand-over parameters of the element's kind. Where the FF code is still due
in this sample, the preset starts from that code under U_CAP and not from the code in force at the strobe, which R124
names: the rules do not say which governs (DEDUCED, log 13). The last-sample flags hold every bit that the sample sets
(R127). -/
def Elem.attempted (i : SampleIn) (h : Handover) (x : Elem) : Elem :=
  let jump := if x.ffJump then capped i.cap i.ff else (x.q.u, 0)
  let xr := { x with q := { x.q with u := jump.1 }, ffJump := false }
  let ms := measure i.prm i.gate i.mh i.mo xr.r
  let err := ((ms.y : Int) - xr.r).natAbs
  if ms.noLight || decide (err ≤ h.tol) then
    let p := xr.evaluate i true
    let hi := BitVec.ofNat 16 jump.2
    { p with
             last := p.last ||| hi, flags := p.flags ||| hi, mode := .lk, prior := .pk, refusals := 0, reqLk := false, attempt := none
             tLast := low32 i.t }
  else
    let n := min 3 (x.refusals + 1)
    let w := x.watch i
    let bits := if n = 3 then 0x1800#16 else 0x0800#16
    { w with refusals := n, last := w.last ||| bits, flags := w.flags ||| bits
             attempt := if n = 3 then none else some (i.t + h.retry) }

/-- Steps 3 to 5 of R140 and the steps of R135: in PK nothing runs; a due attempt is made; else the steps
of its mode. A residue mismatch discards the sample (R125). -/
def Elem.sampled (i : SampleIn) (h : Handover) (residue : Bool) (x : Elem) : Elem :=
  if x.mode = .pk then { x with r := x.target }
  else if residue then
    { x with last := 0x0400#16, flags := x.flags ||| 0x0400#16, tSample := i.t }
  else
    let xr := x.ramped
    if xr.due i.t then xr.attempted i h
    else if xr.mode = .lk then xr.evaluate i false
    else xr.watch i

/-- One sample of an element (R140), which its frame holds once (R116, R117). The code that it forms is in force from
the end of its evaluation window, 500 ns after the strobe (R116). -/
def Elem.sample (i : SampleIn) (h : Handover) (residue : Bool) (x : Elem) : Elem :=
  let u := x.inForce i.t
  let y := ({ x with q := { x.q with u := u }, uAt := 0 } : Elem).sampled i h residue
  { y with
    frame := some i.frame, since := none, clearing := false
    uPrev := if y.q.u = u then 0 else u, uAt := if y.q.u = u then 0 else i.t + 500 }

end Sys2Proof.Machine
end

