-- ==== Sys2Proof/Machine/Parts/Cal.lean ====
section
/-! DEFINITION. The part of State for calibration, spares and wear: 07_calibration_spares. -/
namespace Sys2Proof.Machine

/-- The spare map (R201): for each block location (region × 17 + physical block) the loop cell that
cell 21 serves, plus 1; for each region the block that block 16 serves, plus 1; spare rows used by
memory; the excluded band-gap; lane substitutions (port, spare lane), the oldest first. -/
structure SpareMap where
  cellSub : SMap Nat := []
  blockSub : SMap Nat := []
  rows : SMap (List Nat) := []
  bandgap : Option Nat := none
  lanes : List (Nat × Nat) := []
  deriving DecidableEq, Repr, Inhabited

/-- One copy of the calibration image in flash (R200): what it holds beyond the data of the factory, for elements,
monitor channels and delay lines (R201), with its serial number, photonic revision and digest. A copy that is being
written has no digest yet. -/
structure ImgCopy where
  seq : Nat := 0
  els : SMap (Option ImgEl) := []
  chans : SMap (Option ChanCal) := []
  lines : SMap (Option LineCal) := []
  /-- The global count and time as saved (R216). -/
  count : Nat := 0
  time : Nat := 0
  serial : BitVec 64 := 1
  phoRev : Nat := 2
  digest : Option (BitVec 512) := none
  deriving DecidableEq, Repr, Inhabited

/-- The digest of what a copy holds. -/
def ImgCopy.contents (c : ImgCopy) : BitVec 512 :=
  Config.calDigest c.seq c.els c.chans c.lines c.count c.time c.serial c.phoRev

/-- A copy with its digest made. -/
def ImgCopy.sealed (c : ImgCopy) : ImgCopy := { c with digest := some c.contents }

/-- A copy is valid for a unit with this serial number and photonic revision (R200). -/
def ImgCopy.valid (serial : BitVec 64) (phoRev : Nat) (c : ImgCopy) : Bool :=
  c.digest = some c.contents && c.serial = serial && c.phoRev = phoRev

/-- What an electrical visit has measured besides the monitor channel (R213): the heater's resistance, the linearity of
the drive converter, and the dark monitor offset where the cell carries no connection. -/
structure VisitRec where
  heater : Nat
  linearity : Nat
  dark : Option Nat
  deriving DecidableEq, Repr, Inhabited

/-- An entry of the substitution log (R224). -/
structure LogEntry where
  seq : Nat
  time : Nat
  kind : Nat
  cause : Nat
  source : Nat
  logical : Nat
  frm : Nat
  dest : Nat
  outcome : Nat
  left : Nat
  events : Nat
  deriving DecidableEq, Repr, Inhabited

/-- A substitution that runs (R220, R221). -/
structure Subst where
  region : Nat
  block : Nat
  cell : Nat
  whole : Bool
  switchAt : Nat
  cause : Nat
  source : Nat
  events : Nat
  deriving DecidableEq, Repr, Inhabited

/-- Spare policy defaults (R218). -/
def SparePolicy.dflt : SparePolicy :=
  { cellEvents := 16, cellWindowMin := 60, blockEvents := 1, rowEvents := 4, rowWindowH := 24
    segmentCentiLsb := 40, laneExp := 5, laneWindowS := 10 }

/-- Calibration, spares and wear. -/
structure Cal where
  /-- The stage code (R203, R208); 0 outside CALIBRATE. -/
  stage : Nat := 0
  bandgapLost : Bool := false
  copy0 : ImgCopy := { seq := 1 : ImgCopy }.sealed
  copy1 : ImgCopy := ({} : ImgCopy).sealed
  inUse : Bool := false
  /-- A save runs, into the copy not in use. -/
  saving : Bool := false
  lastSave : Nat := 0
  /-- Data tracked since the last save (R202): of elements, of monitor channels, of delay lines. -/
  work : SMap (Option ImgEl) := []
  chanWork : SMap (Option ChanCal) := []
  lineWork : SMap (Option LineCal) := []
  /-- Channels whose selection waits for a frame start (R209, R215). -/
  selPend : List Nat := []
  /-- Measurements of the last electrical visit of each element (R213). -/
  visits : SMap (Option VisitRec) := []
  /-- Extra conversions of each gate towards its settling figure, 0-40 (R213). -/
  acts : SMap Nat := []
  globalCount : Nat := 0
  globalTime : Nat := 0
  bgOn : Bool := true
  periodMs : Nat := 60000
  /-- The element of each block that the rotation visits next (0-336), by region × 16 + block. -/
  rotation : SMap Nat := []
  /-- Elapsed time of the last visit of each block (R214). -/
  visitAt : SMap (Option Nat) := []
  policy : SparePolicy := SparePolicy.dflt
  map : SpareMap := {}
  /-- Flash: the spare map and the failed-cell lists as last written (R202). -/
  mapFlash : SpareMap := {}
  failedFlash : List FailedCell := []
  /-- Spares whose last proof failed: block locations for cell 21, regions for block 16 (R219). -/
  badCell21 : List Nat := []
  badBlock16 : List Nat := []
  /-- Gleaner events of parts, as elapsed times, newest first (R218). -/
  events : SMap (List Nat) := []
  /-- Loop cells that have left a slot unfinished (R218), by region, block and cell. -/
  unfinished : List (Nat × Nat × Nat) := []
  subst : List Subst := []
  /-- Loop cells and blocks that failed with their pool empty (R223). -/
  lost : List (Nat × Nat × Option Nat) := []
  /-- The substitution log in flash, newest first, entries waiting to be written, the next SEQ. -/
  log : List LogEntry := []
  logPend : List LogEntry := []
  logSeq : Nat := 1
  /-- Serving twin of each delay line (R210), and the lines whose serving twin serves alone (R211). -/
  twin : SMap Bool := []
  alone : List Nat := []
  /-- Elapsed time of the last exchange of each delay line (R210), of the last check of the band-gaps (R197) and of the
  last reading of the temperatures (R198). -/
  exchangedAt : SMap (Option Nat) := []
  bandgapAt : Option Nat := none
  tempAt : Option Nat := none
  /-- The tap to which each delay line was last set (R210). -/
  tap : SMap Nat := []
  /-- Blocks in which a fallback has been reported (R211). -/
  fallback : List Nat := []
  /-- Junction and diode temperatures last read, in 0.1 °C. -/
  junction : Int := 250
  diodes : List Int := []
  deriving DecidableEq, Repr, Inhabited

/-- The copy in use. -/
def Cal.copy (c : Cal) : ImgCopy := if c.inUse then c.copy1 else c.copy0

/-- The digest of the copy in use (R200). -/
def Cal.digest (c : Cal) : Nat := ((c.copy.digest).getD 0).toNat

/-- The keys of the maps follow Machine/Maps.lean; the image of an element in the copy in use. -/
def Cal.stored (l : SMap (Option ImgEl)) (e : Nat) : ImgEl :=
  match l.find? fun p => p.1 = e with
  | some (_, some x) => x
  | _ => (Config.imageOf e).bounded

/-- The flash image of an element, of a monitor channel, of a delay line. -/
def Cal.flash (c : Cal) (e : Nat) : ImgEl := Cal.stored c.copy.els e
def Cal.flashChan (c : Cal) (ch : Nat) : ChanCal :=
  match c.copy.chans.find? fun p => p.1 = ch with
  | some (_, some x) => x
  | _ => (Config.chanOf ch).bounded
def Cal.flashLine (c : Cal) (line : Nat) : LineCal :=
  match c.copy.lines.find? fun p => p.1 = line with
  | some (_, some x) => x
  | _ => (Config.lineOf line).bounded

end Sys2Proof.Machine
end

