-- ==== Sys2Proof/Machine/Parts/Control.lean ====
section
/-! DEFINITION. The parts of State for identity, the Ilucy command interface, firmware update, the
Gleaner, power and reset: 00_scope R14, 13_ilucy, 16_gleaner, 17_power_reset. -/
namespace Sys2Proof.Machine

/-- The identity registers (R14) that are not fuses of the trust block. -/
structure Ident where
  rev : Word
  serial : BitVec 64
  fwVer : Word
  bootSlot : Bool
  updateStaged : Bool
  il2 : Bool
  il1 : Bool
  fwReady : Bool
  pace : BitVec 16
  deriving DecidableEq, Repr, Inhabited

/-- Identity after reset: registers 0 (P H). The fused revision and serial number are those of the
worked example of R18 and the number 1 (DESIGN CHOICE, log 2). -/
def Ident.reset : Ident :=
  { rev := 0x03024201#32, serial := 1#64, fwVer := 0, bootSlot := false, updateStaged := false,
    il2 := false, il1 := false, fwReady := false, pace := 0 }

/-- PHO_REV of ID_REV (R14). -/
def Ident.phoRev (i : Ident) : Nat := i.rev.toNat / 2 ^ 16 % 2 ^ 8

/-- States of a mailbox body (R376). -/
inductive MbState where
  | idle | posted | answered | released
  deriving DecidableEq, Repr, Inhabited

/-- The doorbell block of one mailbox (R376). The body lies in `Il.bar2`. -/
structure Mailbox where
  state : MbState := .idle
  ignoredWrite : Bool := false
  overrun : Bool := false
  lastCode : BitVec 16 := 0
  lastTag : BitVec 16 := 0
  deriving DecidableEq, Repr, Inhabited

/-- A command in flight (R382). `hdr` are the eight header words as posted (R378). `orphan` marks a
command that a class F reset took out of flight: firmware runs it and writes no answer (R391). -/
structure InFlight where
  mailbox : Nat
  tag : Tag
  code : BitVec 16
  gen : Nat
  noint : Bool
  rhost : Bool
  raddr : Nat
  len : Nat
  hdr : List Word
  /-- Network time at which the command was posted. -/
  arrived : Nat := 0
  answered : Bool := false
  orphan : Bool := false
  deriving DecidableEq, Repr, Inhabited

/-- A record of MB_ANSWER (R377). -/
structure AnswerRec where
  rhost : Bool
  mailbox : Nat
  tag : Tag
  deriving DecidableEq, Repr, Inhabited

/-- An answer to host memory that waits until host memory can be written (R392). -/
structure HeldAnswer where
  cmd : InFlight
  header : List Word
  payload : List Byte
  deriving DecidableEq, Repr, Inhabited

/-- The state of a firmware update session (R393 DEVICE_FW_STATUS). -/
inductive FwPhase where
  | none | erasing | receiving | verifying | staged
  deriving DecidableEq, Repr, Inhabited

/-- Firmware update (R395-R397): the session, and the image staged in the other slot. -/
structure FwUpdate where
  phase : FwPhase := .none
  open_ : Bool := false
  size : Nat := 0
  bytes : List Byte := []
  stagedVer : Word := 0
  stagedSvn : Word := 0
  stagedDigest : BitVec 512 := 0
  deriving DecidableEq, Repr, Inhabited

/-- The Ilucy command interface. `bar2` is the memory of the 32 mailbox bodies, by BAR2 offset. -/
structure Il where
  mb : SMap Mailbox := []
  bar2 : List Host.Cell := []
  inflight : List InFlight := []
  answers : List AnswerRec := []
  held : List HeldAnswer := []
  fw : FwUpdate := {}
  /-- A DEVICE_RESET of scope DEVICE whose reset begins at this elapsed time (R398). -/
  resetDue : Option Nat := none
  /-- A DEVICE_RESET of scope DEVICE whose answer record is not yet pushed. -/
  resetAsked : Option Tag := none
  /-- The DEVICE_RESET of subsystem LOOP that is answered at its completion (R398, R501). -/
  loopReset : Option Tag := none
  /-- A save of the flash user-configuration area runs (R436, R487), by the group that started it. -/
  saving : Option Nat := none
  deriving DecidableEq, Repr, Inhabited

/-- One Gleaner source (R467, R469). Windows and deadlines are Gleaner ticks. `params` is the setting
written, `cur` the setting of the window that runs; `none` is the default of R466. -/
structure Src where
  params : Option SrcParams := none
  cur : Option SrcParams := none
  c : Nat := 0
  w : Nat := 0
  lifetime : Nat := 0
  lastEvent : Nat := 0
  severe : Bool := false
  deadline : Option Nat := none
  waiting : Nat := 0
  /-- Tick at which a repair for the source completed with no event counted in the 1 ms after it (R473). -/
  repaired : Option Nat := none
  deriving DecidableEq, Repr, Inhabited

/-- A clear that waits for the next evaluation (R468 step 2, R472). `by_` is CLEARED_BY. -/
structure Clear where
  source : Option Nat
  seqLo : Nat
  by_ : Nat
  deriving DecidableEq, Repr, Inhabited

/-- A Gleaner record (R483). -/
structure Record where
  seq : Word
  openTime : Nat
  lastTime : Nat
  escTime : Nat
  first : Nat
  nMembers : Nat
  state : Nat
  mode : Nat
  due : BitVec 8
  done : BitVec 8
  regions : BitVec 8
  clearedBy : Nat
  members : List Nat
  events : Nat
  flags : BitVec 8
  deriving DecidableEq, Repr, Inhabited

/-- Where a RESET_REGION stands (R475): none, step 2 running, step 2 done and step 3 waiting. -/
inductive RegionPhase where
  | none | reinit | reload
  deriving DecidableEq, Repr, Inhabited

/-- An injection that runs (R481). -/
structure Injection where
  source : Nat
  left : Nat
  intervalUs : Nat
  nextTick : Nat
  deriving DecidableEq, Repr, Inhabited

/-- The Gleaner (16_gleaner). `flash` fields survive resets as R506 lays down. -/
structure Gl where
  tick : Nat := 0
  srcs : SMap Src := []
  clears : List Clear := []
  record : Option Record := none
  lastClosed : Option Record := none
  shadow : SMap Src := []
  shRecord : Option Record := none
  inj : Option Injection := none
  injMasked : Nat := 0
  lockstep : Bool := false
  compFail : Bool := false
  hold : Bool := false
  shed : BitVec 4 := 0
  regionPhase : SMap RegionPhase := []
  /-- ALIVE: the level driven (R479). -/
  aliveHigh : Bool := false
  /-- The wave resumes: its first edge is a rising one (R479). -/
  aliveResume : Bool := true
  /-- The tick of the last edge. -/
  edgeTick : Nat := 0
  /-- The tick of the last self-test of the comparator (R478). -/
  testTick : Nat := 0
  events : BitVec 6 := 0
  latchStatus : BitVec 192 := 0
  latchShadow : BitVec 192 := 0
  resetCause : Word := 0x00000081#32
  nextSeq : Word := 1
  wdPeriodMs : Nat := 4000
  wdLast : Nat := 0
  wdRun : Bool := true
  /-- Flash: the log of closed records (R484), newest first; closed records waiting to be written. -/
  log : List Record := []
  logPending : List Record := []
  /-- Flash: saved source parameters (R487, R488). -/
  saved : SMap SrcParams := []
  deriving DecidableEq, Repr, Inhabited

/-- Where the device stands between power-on and running firmware (R493-R499). -/
inductive PowerPhase where
  | off | waitRelease | wiping | bootRom | running | asleep
  deriving DecidableEq, Repr, Inhabited

/-- The phases of SLEEP entry (R491). -/
inductive SleepPhase where
  | none | answered | shutdown | parked
  deriving DecidableEq, Repr, Inhabited

/-- The retention area of the WAKE domain (R504), next to the GL_RESET_CAUSE word. -/
structure Retention where
  cause : Word := 0x00000081#32
  nextSeq : Word := 1
  record : Option Record := none
  lastResetTime : Nat := 0
  resetCount : Nat := 1
  deriving DecidableEq, Repr, Inhabited

/-- Power and reset (17_power_reset) and the pins that they read. -/
structure Power where
  phase : PowerPhase := .wiping
  /-- The reset in progress is of class P (else H). -/
  classP : Bool := true
  /-- The last reset left every element PK: class P, or a life-cycle change (R489, R503). -/
  dark : Bool := true
  /-- CAUSE of the reset in progress (R496). -/
  cause : Nat := 1
  resetN : Bool := true
  perstN : Bool := true
  holdN : Bool := true
  wakeRecognised : Bool := false
  pwrEn : Bool := true
  vwake : Bool := true
  sleep : SleepPhase := .none
  /-- A POWER_SLEEP whose answer record is not yet pushed (R491). -/
  sleepAsked : Option Tag := none
  sleepT0 : Nat := 0
  /-- The loop frame start t2 of the entry into SLEEP (R491). -/
  sleepFrame : Nat := 0
  sleepT4 : Nat := 0
  /-- Brown-out detectors armed (R495). -/
  detectors : Bool := true
  /-- A class F wipe of the packet buffer and queue state runs (R500). -/
  classF : Bool := false
  /-- The POWER hold cause and the HOLD_N cause of HOLD (R33 row 13). -/
  cmdHold : Bool := false
  pinHold : Bool := false
  /-- Voltages in mV that RAIL_EXCURSION has reported, by rail (VCORE 0 to VWAKE 7). -/
  rails : SMap (Option Int) := []
  tbRef : Bool := true
  /-- Elapsed time since which TB_REF runs. -/
  tbRefAt : Nat := 0
  /-- Elapsed time of the reset release. -/
  releasedAt : Nat := 0
  /-- Elapsed time of the last 1 ms mark at which ID_PACE was updated (00 R14). -/
  paceAt : Nat := 0
  /-- Elapsed time since which every rail is within its range (R494). -/
  railsAt : Nat := 0
  /-- T_h, the network time of the frame start at which HOLD was entered (05 R154). -/
  holdFrame : Nat := 0
  /-- The values of the SMBus target as last updated (19 R545); empty before the first update. -/
  smb : List Byte := []
  /-- Elapsed time of the last retraining of Granary channels GA and GB (19 R538). -/
  retrainA : Option Nat := none
  retrainB : Option Nat := none
  ret : Retention := {}
  deriving DecidableEq, Repr, Inhabited

end Sys2Proof.Machine
end

