-- ==== Sys2Proof/Machine/Parts/Emit.lean ====
section
/-! DEFINITION. What the device puts on its outputs. `State.out` lists it, the newest first; it is the
model's own record of outputs and no state of the device (DESIGN CHOICE, log 6). -/
namespace Sys2Proof.Machine

/-- Pins that the device drives. -/
inductive Pin where
  | alive | syncOut | pwrEn | lsel0 | lsel1 | flRstN
  deriving DecidableEq, Repr, Inhabited

/-- A frame on the mirror link or on Hedgerow, by its fields. -/
inductive Emit where
  /-- A write to host memory (R341, R381). -/
  | hostWrite (addr : Nat) (bytes : List Byte)
  /-- An MSI-X message: the vector, with the address and data of its table entry. -/
  | msix (vector : Nat) (addr : Nat) (data : Word)
  /-- PME signalled (R343). -/
  | pme
  /-- The completion of a BAR0 read. -/
  | readData (value : Word)
  /-- An Ethernet frame on a port: class, bytes without preamble. -/
  | frame (port tc : Nat) (bytes : List Byte)
  /-- A fragment of a preempted frame (09 R274): its number, and whether it is the last. -/
  | fragment (port num : Nat) (bytes : List Byte) (last : Bool)
  /-- A verify or respond mPacket (R272). -/
  | mpacket (port : Nat) (respond : Bool)
  /-- An IEEE 802.3 pause frame (R245). -/
  | pause (port quanta : Nat)
  /-- A gPTP message (R56); a Sync that relays time carries its residence time in ns. -/
  | gptp (port : Nat) (sync : Bool) (residence : Option Int)
  /-- What a port that is down sends in place of frames (08 R229): remote fault ordered sets, or idle. -/
  | linkFault (port : Nat) (remoteFault : Bool)
  /-- Idle signalling of low-power idle (R249). -/
  | lpi (port : Nat) (on : Bool)
  /-- A Hedgerow frame on channels HA and HB: its octets, header to CRC (14 R408). -/
  | hedge (a b : Bool) (bytes : List Byte)
  /-- A mirror link frame (R443). -/
  | mirror (frame : MlFrame)
  /-- A new level of a pin. -/
  | pin (p : Pin) (level : Nat)
  deriving DecidableEq, Repr

end Sys2Proof.Machine
end

