-- ==== Sys2Proof/Machine/Parts/Gates.lean ====
section
/-! DEFINITION. The part of State for gates and frame preemption: 09_gates_preemption. -/
namespace Sys2Proof.Machine

/-- GATE_SET_CONFIG defaults (R271, R275, R278, R279); HOLD_ADVANCE is 0 where no line mode gives a
HOLD_DELAY. -/
def GateCfg.dflt : GateCfg :=
  { enable := false, preemptable := 0, addFrag := 0, verifyEn := true, verifyTimeMs := 10
    holdAdvance := 0, guardSafe := 0, ptpClass := 6 }

/-- A bank of a gate control list (R259-R261). -/
structure Bank where
  entries : SMap GateEntry := []
  n : Nat := 0
  lct : Nat := 0
  tag : Word := 0
  deriving DecidableEq, Repr, Inhabited

/-- State of a port's list (R281). -/
inductive ListState where
  | none | running | disabled
  deriving DecidableEq, Repr, Inhabited

/-- A frame in reassembly (R277): the fragment count expected next and the bytes so far. -/
structure Reassembly where
  next : Nat
  bytes : List Byte
  frags : Nat
  stamp : Nat
  /-- MAX_LEN when its first octet arrived (08 R237), and the flags of its fragments (08 R239). -/
  maxLen : Nat := 1522
  codeErr : Bool := false
  fecUncorr : Bool := false
  deriving DecidableEq, Repr, Inhabited

/-- Gates and preemption of one port. -/
structure GatePort where
  cfg : GateCfg := GateCfg.dflt
  cfgPend : Option GateCfg := none
  /-- HOLD_ADVANCE has been written; else it follows the line mode. -/
  holdSet : Bool := false
  bank0 : Bank := {}
  bank1 : Bank := {}
  /-- Bank 1 is the oper bank. -/
  oper1 : Bool := false
  list : ListState := .none
  /-- A pending commit (false) or disable (true) at a change time in schedule time (R264, R265). -/
  pend : Option (Nat × Bool) := none
  gates : BitVec 8 := 0xFF#8
  hold : Bool := false
  /-- Gate events of the current cycle already taken. -/
  done : Nat := 0
  /-- Verify status (R272) while ENABLE is 1, the verify mPackets sent, the next VERIFY_TIME. -/
  succeeded : Bool := false
  failed : Bool := false
  verifying : Bool := false
  tries : Nat := 0
  verifyAt : Nat := 0
  /-- A respond mPacket waits for the port to wake (R272, 08 R250). -/
  respondDue : Bool := false
  rx : Option Reassembly := none
  deriving DecidableEq, Repr, Inhabited

/-- What a port that State does not list reads as. -/
def GatePort.dflt : GatePort := {}

/-- The gates of the four ports. -/
structure Gates where
  port : SMap GatePort := []
  deriving DecidableEq, Repr, Inhabited

end Sys2Proof.Machine
end

