-- ==== Sys2Proof/Machine/Parts/Hedge.lean ====
section
/-! DEFINITION. The part of State for the Hedgerow node: 14_hedgerow. -/
namespace Sys2Proof.Machine

/-- Node states (R419). -/
inductive HState where
  | off | listen | coldstart | integrating | active | passive
  deriving DecidableEq, Repr, Inhabited

/-- The configuration that applies while none is saved (R404, R413, R416): slots and frame IDs have
their default owners while the lists are empty. -/
def HedgeCfg.dflt : HedgeCfg :=
  { hUs := 250, ns := 32, nm := 100, pw := 300, dA := 100, dB := 100, tenLead := 20, syncNode := false
    cfgId := 0, chanA := true, chanB := true, slots := [], frameIds := [] }

/-- A notice accepted (R418). -/
structure HeardNotice where
  sender : Nat
  seq : Nat
  time : Nat
  notice : Notice
  deriving DecidableEq, Repr, Inhabited

/-- A sync value of a cycle (R425): the sender, o_s in 1/16 ns and T_TX. -/
structure SyncValue where
  node : Nat
  o : Int
  tTx : Nat
  deriving DecidableEq, Repr, Inhabited

/-- What a channel keeps: TXEN held low, consecutive read-back failures (R433), and the cycles in a
row, to 4, with an accepted SYNC frame, and whether this cycle has had one (R432). -/
structure Chan where
  held : Bool := false
  failures : Nat := 0
  syncRun : Nat := 0
  syncNow : Bool := false
  /-- The minislot counter (R416): a frame holds it at `holdAt` up to minislot `holdTo`, and from there on it stands
  `lag` behind the minislots. -/
  lag : Nat := 0
  holdTo : Nat := 0
  holdAt : Nat := 0
  deriving DecidableEq, Repr, Inhabited

/-- A frame sent, with the channels on which it went out and on which its read-back is no longer awaited (R433). -/
structure SentFrame where
  frameId : Nat
  bytes : List Byte
  onA : Bool
  onB : Bool
  readA : Bool
  readB : Bool
  deriving DecidableEq, Repr, Inhabited

/-- The Hedgerow node. Rates are in 10^-12, offsets in 1/16 ns. -/
structure Hedge where
  cfg : HedgeCfg := HedgeCfg.dflt
  pend : HedgeCfg := HedgeCfg.dflt
  saved : Option HedgeCfg := none
  hstate : HState := .off
  node : Nat := 0
  coldNode : Bool := false
  /-- Elapsed time at which the listen timeout expires. -/
  listenAt : Nat := 0
  phase : Nat := 0
  /-- S as the Hedgerow cycle has taken it: it follows the cumulative shift in the network idle time (02 R66). -/
  shift : Int := 0
  /-- θ at network time `thetaAt`, advancing at `rate` from there (R428). -/
  theta : Int := 0
  thetaAt : Nat := 0
  rate : Int := 0
  /-- The count of the current cycle, not reduced, and its start in network time in 1/16 ns. -/
  cycle : Nat := 0
  start16 : Int := 0
  /-- The cycle in which integration started has ended, so that the cycles that follow are whole (R423). -/
  whole : Bool := false
  /-- Consecutive consistent cycles (R423, R430). -/
  consistent : Nat := 0
  values : List SyncValue := []
  prevValues : List SyncValue := []
  /-- The midpoint of this cycle, once formed, and the last n, k, o, ε and ρ (R426-R428). -/
  mid : Option Int := none
  midDone : Bool := false
  corrected : Bool := false
  lastN : Nat := 0
  lastK : Nat := 0
  lastO : Int := 0
  eps : Int := 0
  rho : Int := 0
  /-- The rate was within its limit at the last rate update (R430). -/
  rateOk : Bool := true
  /-- r_est of the last odd cycle, and the increments at the starts of the last cycle and this one (R428). -/
  rEst : Int := 0
  incrs : BitVec 36 × BitVec 36 := (0x666666666#36, 0x666666666#36)
  /-- Cycles in a row without a sync value from another node, and without an accepted frame. -/
  noSync : Nat := 0
  noFrame : Nat := 0
  frameNow : Bool := false
  foreignNow : Bool := false
  syncNodes : List Nat := []
  a : Chan := {}
  b : Chan := {}
  lostBoth : Bool := false
  /-- The payload of the last frame accepted in a slot, for the comparison of the channels (R412). -/
  last : Option (Nat × List Byte) := none
  sent : List SentFrame := []
  /-- For each node the last heartbeat accepted, with its cycle, and the nodes heard in this cycle. -/
  heard : SMap (Option (Heartbeat × Nat)) := []
  heardNow : List Nat := []
  missed : SMap Nat := []
  /-- Commit records that wait for a slot (R415). -/
  commits : List CommitRec := []
  /-- Notices: the policy (R417), those waiting, and the last 64 accepted (R418). -/
  policy : Nat := 0
  queue : List Notice := []
  ring : List HeardNotice := []
  nextNotice : Nat := 0
  ctr : SMap Nat := []
  deriving DecidableEq, Repr, Inhabited

end Sys2Proof.Machine
end

