-- ==== Sys2Proof/Machine/Parts/HostIf.lean ====
section
/-! DEFINITION. The parts of State for the PCIe function, the host queues, the completion queues and
interrupts: 12_host_queues. -/
namespace Sys2Proof.Machine

/-- States of a submission queue (R362). -/
inductive QState where
  | disabled | running | draining | error
  deriving DecidableEq, Repr, Inhabited

/-- A transmit chain whose buffers are not yet read (R350): the frame, its stream, SEQ and FCS_HOST. -/
structure TxPend where
  bytes : List Byte
  stream : Option Nat
  seq : Nat
  fcsHost : Bool
  deriving DecidableEq, Repr, Inhabited

/-- A completion slot of a source queue (R355, R366). `body` is bytes 0-11 of the completion once
its outcome is known; `ready` says that. `frame` names the frame whose transmission decides it. -/
structure Slot where
  firstIdx : Word
  lastIdx : Word
  ready : Bool := false
  error : Bool := false
  body : List Byte := []
  /-- CMPL of the LAST entry. -/
  cmpl : Bool := true
  /-- TXQ: the chain, until its buffers are read. FCQ: the descriptor, and the record once it is read. -/
  tx : Option TxPend := none
  desc : List Byte := []
  record : Option (List Word) := none
  frame : Nat := 0
  len : Nat := 0
  /-- TXQ: copies whose transmission has not ended, the outcome so far (R357), TS_REQ, and the time
  stamp with its port. -/
  copies : Nat := 0
  tstatus : Nat := 0
  tsReq : Bool := false
  ts : Option (Nat × Nat) := none
  /-- FCQ: the order of its outcome among those of the device (R359). -/
  order : Nat := 0
  deriving DecidableEq, Repr, Inhabited

/-- A frame or copy stored whole for a receive queue (R368). -/
structure RxWait where
  bytes : List Byte
  len : Nat
  flags : Byte
  port : Nat
  ts : Option Nat
  source : Nat
  stripped : Bool
  tag : Nat
  seq : Nat
  firstFail : Option Nat := none
  deriving DecidableEq, Repr, Inhabited

/-- A final sheaf outcome that waits for room (R367): the FCQ, the index of its descriptor, its place
in the order of outcomes, and bytes 0-11. -/
structure Late where
  q : Nat
  idx : Nat
  order : Nat
  body : List Byte
  deriving DecidableEq, Repr, Inhabited

/-- A submission queue (R347). -/
structure SubQ where
  base : BitVec 64 := 0
  log2 : Nat := 6
  cq : Nat := 0
  weight : Nat := 1
  burst : Nat := 8
  enable : Bool := false
  tail : Word := 0
  head : Word := 0
  state : QState := .disabled
  err : Nat := 0
  errIndex : Word := 0
  dropping : Bool := false
  bufUnits : Nat := 8
  dropDelay : Nat := 100
  tc : Nat := 0
  port : Nat := 0
  qshare : Nat := 64
  shareDrop : Nat := 0
  delayDrop : Nat := 0
  /-- Index of the next entry to fetch (R361, R363). -/
  fetch : Word := 0
  slots : List Slot := []
  waiting : List RxWait := []
  /-- Memory requests of the queue not yet answered (R362). -/
  requests : Nat := 0
  /-- Last indices of chains whose completions were merged into one not yet written (R355). -/
  merged : List Word := []
  deficit : Int := 0
  credit : Int := 0
  /-- TAIL at which every published entry has been read without a LAST (R361). -/
  partTail : Option Word := none
  deriving DecidableEq, Repr, Inhabited

/-- A completion queue (R348). -/
structure ComplQ where
  base : BitVec 64 := 0
  log2 : Nat := 6
  vector : Nat := 0
  irqEn : Bool := false
  enable : Bool := false
  tail : Word := 0
  head : Word := 0
  err : Bool := false
  /-- Final sheaf outcomes that wait in the sheaf store for room (R367). -/
  late : List Late := []
  deriving DecidableEq, Repr, Inhabited

/-- One MSI-X vector (R370, R371). `since` is the elapsed time of the first counted event. -/
structure Vec where
  modTime : Nat := 0
  modCount : Nat := 1
  pendN : Nat := 0
  since : Option Nat := none
  d3Pend : Bool := false
  pending : Bool := false
  deriving DecidableEq, Repr, Inhabited

/-- The PCIe function, queues and interrupts. -/
structure HostIf where
  linkUp : Bool := false
  lanes : Nat := 8
  speed : Nat := 5
  d3hot : Bool := false
  busMaster : Bool := false
  pmeEn : Bool := false
  fnMask : Bool := false
  subq : SMap SubQ := []
  cq : SMap ComplQ := []
  ctrl : Word := 0
  vecs : SMap Vec := []
  /-- MSI-X table words by index 0-511; the default of a vector control word is masked (PCIe). -/
  table : SMap Word := []
  /-- The visit of the weighted round robin (R361): the queue (TXQ 0-63, FCQ 64-79) and the entries
  that it has fetched. -/
  visit : Nat × Nat := (0, 0)
  /-- Numbers given to frames of transmit chains. -/
  nextFrame : Nat := 1
  nextOutcome : Nat := 0
  /-- Elapsed time since which the function is in D3hot or without bus mastering (R343, R344). -/
  awaySince : Option Nat := none
  deriving DecidableEq, Repr, Inhabited

end Sys2Proof.Machine
end

