-- ==== Sys2Proof/Machine/Parts/Ports.lean ====
section
/-! DEFINITION. The part of State for the network ports, their lanes, filters, pause and low-power
idle: 08_network_ports. -/
namespace Sys2Proof.Machine

/-- A frame of a transmit class (09 R255). `bytes` run from the destination address to the FCS. `owner`
names the transmit queue and chain that wait for its outcome (12 R357), `ingress` the port on which it
was received, and `event` a gPTP message. -/
structure TxFrame where
  bytes : List Byte
  tc : Nat
  owner : Option (Nat × Nat) := none
  ingress : Option Nat := none
  gptp : Option Bool := none
  deriving DecidableEq, Repr, Inhabited

/-- The transmit path (09 R255, R274, R275): the frame sent, the bytes of it sent in earlier
fragments, the number of its fragment, and the elapsed time in ps at which the fragment started. -/
structure OnWire where
  frame : TxFrame
  express : Bool
  sent : Nat
  frag : Nat
  start : Nat
  /-- Time stamp of the first fragment (09 R278). -/
  stamp : Nat
  deriving DecidableEq, Repr, Inhabited

/-- A lane substitution (R234). `lane` is 1 for SL0 and 2 for SL1. `t0` is the network time of the decision, `t1` the
elapsed time of t1 at the latest, then that of the switch, and `t2` the network time from which the switch falls on the
next schedule boundary (`none`: at t1), then that of the switch. -/
structure LaneSubst where
  lane : Nat
  cause : Nat
  t0 : Nat
  t1 : Nat
  t2 : Option Nat
  switched : Bool := false
  deriving DecidableEq, Repr, Inhabited

/-- PORT_SET_MODE defaults (R228, R236, R238, R239); the address is that of R231 while none is set. -/
def PortModeCfg.dflt : PortModeCfg :=
  { mode := 0, fec := 0, clause37 := false, address := 0, maxLen := 0, stripFcs := true,
    badDelivery := false, badq := 0 }

/-- PORT_SET_PAUSE defaults (R244-R248). -/
def PauseCfg.dflt : PauseCfg :=
  { generate := false, share := 2097152, high := 1572864, low := 1048576, pq := 65535, cableM := 100
    pausable := 0xFF#8, rxpWdMs := 100, rearmMs := 1000, txpWdMs := 500 }

/-- One network port. Times called `At` or `Since` are elapsed times in 0.1 ns. -/
structure Port where
  cfg : PortModeCfg := PortModeCfg.dflt
  addressSet : Bool := false
  up : Bool := false
  localFault : Bool := false
  remoteFault : Bool := false
  pause : PauseCfg := PauseCfg.dflt
  pausePend : Option PauseCfg := none
  /-- HIGH and LOW as evaluated since the last stored frame (R254). -/
  marks : Nat × Nat := (1572864, 1048576)
  /-- The last change of MAX_LEN: its elapsed time, and the code before it (R237). -/
  maxLenWas : Option (Nat × BitVec 2) := none
  /-- The device's own pause is in force since, and its last pause frame was sent at. -/
  ownPauseSince : Option Nat := none
  lastPauseAt : Nat := 0
  txpTripped : Bool := false
  /-- A pause frame is due, with its quanta. -/
  pauseDue : Option Nat := none
  /-- Received pause: its end, and since when it has stopped the classes. -/
  rxPauseEnd : Option Nat := none
  rxPauseSince : Nat := 0
  rxpTripped : Bool := false
  lastRxPauseAt : Nat := 0
  lpiMode : Nat := 0
  idleNs : Nat := 100000
  lpiPend : Option (Nat × Nat) := none
  txAsleep : Bool := false
  asleepSince : Nat := 0
  /-- Waking ends at. -/
  wakeEnd : Option Nat := none
  rxLpi : Bool := false
  idleSince : Nat := 0
  /-- Transmit classes (09 R255), the frame on the wire, a preempted frame that waits, and the
  elapsed time in ps at which the path is free. -/
  classes : SMap (List TxFrame) := []
  wire : Option OnWire := none
  held : Option OnWire := none
  freeAt : Nat := 0
  /-- Counters of R251 and R280 since the last PORT_GET_STATS, and since the last history tick. -/
  ctr : SMap Nat := []
  tick : SMap Nat := []
  /-- One-second deltas, the newest first (R252). -/
  history : List (SMap Nat) := []
  /-- Serving lane: 0 its own, 1 SL0, 2 SL1, and lanes that were powered down for good. -/
  lane : Nat := 0
  dead : List Nat := []
  subst : Option LaneSubst := none
  deriving DecidableEq, Repr, Inhabited

/-- What a port that State does not list reads as. -/
def Port.dflt : Port := {}

/-- The ports, the filters with their match counts, and the wiring of the spare lanes. -/
structure Ports where
  port : SMap Port := []
  filters : SMap (List Word) := []
  hits : SMap Nat := []
  mask0 : BitVec 4 := 0
  mask1 : BitVec 4 := 0
  lsel0 : Nat := 0
  lsel1 : Nat := 0
  /-- Elapsed time of the last one-second record (R252). -/
  historyAt : Option Nat := none
  deriving DecidableEq, Repr, Inhabited

end Sys2Proof.Machine
end

