-- ==== Sys2Proof/Machine/Parts/Rules.lean ====
section
/-! DEFINITION. The part of State for the Thresher: 11_thresher. -/
namespace Sys2Proof.Machine

/-- An action record that nothing has written: DISP DROP (R326, R338). -/
def dropAction : List Word := [0, 0, 0, 0]

/-- A generation (R332). -/
structure Generation where
  program : SMap Word := []
  misses : SMap (List Word) := []
  entry : SMap Nat := []
  profileDef : SMap Nat := []
  deep : List Word := dropAction
  lenCopyMp : Bool := false
  hashed : SMap (List Byte) := []
  ternary : SMap (List Byte) := []
  patterns : SMap (List Byte) := []
  deriving DecidableEq, Repr, Inhabited

/-- Where the rule of a packet came from. -/
inductive RuleSource where
  | hashed (index : Nat) | ternary (index : Nat) | miss | deepDefault | lenDefault | fault
  deriving DecidableEq, Repr, Inhabited

/-- The outcome of a packet's classification (R329): the action applied, FLAGS, and the WBASE of
pass 2 (0 after pass 1). -/
structure Verdict where
  action : List Word
  source : RuleSource
  flags : BitVec 8
  wbase2 : Nat
  deriving DecidableEq, Repr, Inhabited

/-- Where a packet stands between ingress and release. -/
inductive PktStage where
  | waiting | thread | recirc | classified
  deriving DecidableEq, Repr, Inhabited

/-- A packet in the Thresher. `gen` is the store that it latched (true: store 1). -/
structure Pkt where
  id : Nat
  bytes : List Byte
  ts : Nat
  stage : PktStage := .waiting
  gen : Bool := false
  verdict : Option Verdict := none
  deriving DecidableEq, Repr, Inhabited

/-- KEY and PROFILE as a mark holds them (R316). -/
structure Mark where
  key : List Byte
  profile : Nat
  deriving DecidableEq, Repr, Inhabited

/-- The state of a thread (R308), with the packet it works on. -/
structure Thread where
  port : Nat
  pkt : Nat
  pass2 : Bool := false
  wbase : Nat := 0
  cur : Nat := 0
  x : List (BitVec 16) := List.replicate 8 0
  z : Bool := false
  lt : Bool := false
  key : List Byte := List.replicate 40 0
  profile : Nat := 0
  flags : BitVec 8 := 0
  l2 : Option Mark := none
  outer : Option Mark := none
  stack : List (Nat × Nat) := []
  pc : Nat := 0
  gen : Bool := false
  /-- Executed instructions and closed headers of the packet over both passes (R309). -/
  executed : Nat := 0
  headers : Nat := 0
  /-- A PM waits for its result: the register and the groups (R318). -/
  pmWait : Option (Nat × Nat) := none
  /-- The result of the packet's PM, once executed. -/
  pmDone : Bool := false
  pmHit : Bool := false
  deriving DecidableEq, Repr, Inhabited

/-- A mirror session (R328). -/
structure Session where
  dest : MirrorDest := .off
  trunc : Nat := 0
  deriving DecidableEq, Repr, Inhabited

/-- A copy that the management processor keeps (R328). -/
structure MpCopy where
  bytes : List Byte
  port : Nat
  ts : Nat
  flags : BitVec 8
  source : RuleSource
  genNum : Word
  deriving DecidableEq, Repr, Inhabited

/-- A swap (R333): none, scheduled at AT, or draining since a network time. -/
inductive Swap where
  | none | scheduled (at_ : Nat) | draining (since : Nat) | withdrawn
  deriving DecidableEq, Repr, Inhabited

/-- The Thresher. Store `active1` says which store is active. -/
structure Rules where
  store0 : Generation := {}
  store1 : Generation := {}
  active1 : Bool := false
  genNum : Word := 0
  partnerGen : Word := 0
  mismatch : Bool := false
  /-- Network times of this unit's and the partner's last swaps (R335). -/
  swappedAt : Nat := 0
  partnerSwappedAt : Nat := 0
  swap : Swap := .none
  threads : SMap (Option Thread) := []
  /-- Packets of each port in ingress order, from dispatch queue to release (R306). -/
  flight : SMap (List Pkt) := []
  /-- Threads' states of recirculated packets, oldest first (R331). -/
  recirc : List Thread := []
  nextPkt : Nat := 0
  /-- The port served last by the round robin. -/
  rr : Nat := 3
  sessions : SMap Session := []
  mpRate : Nat := 10000
  /-- Token bucket: tokens in 1/10^10, and the elapsed time of their last count. -/
  mpTokens : Nat := 256 * 10 ^ 10
  mpAt : Nat := 0
  copies : List MpCopy := []
  ctr : SMap Nat := []
  ruleCtr : SMap (Nat × Nat) := []
  deriving DecidableEq, Repr, Inhabited

end Sys2Proof.Machine
end

