-- ==== Sys2Proof/Machine/Parts/Streams.lean ====
section
/-! DEFINITION. The part of State for streams and cover sets: 10_stream_redundancy. -/
namespace Sys2Proof.Machine

/-- A stream entry that nothing has written: VALID 0, the other fields at the defaults of R284. -/
def streamDefault : List Word :=
  [0, 0x08000000#32, 0x000003E8#32, 0x00000008#32, 0x07D00020#32, 0, 0, 0]

/-- One stream: its entry (R284), generation state (R291), recovery state (R292) and counters. -/
structure Stream where
  entry : List Word := streamDefault
  counter : Nat := 0
  /-- The cycle of CYCLE mode, and the frames numbered in it. -/
  cycle : Nat := 0
  inCycle : Nat := 0
  takeAny : Bool := true
  recNum : Nat := 0
  hist : Nat := 0
  /-- Elapsed time of the last frame passed, while the reset timer runs. -/
  timer : Option Nat := none
  latent : Bool := false
  /-- The latent error period: its start, its PASSED and DISCARDED, and whether it is not evaluated. -/
  ledStart : Nat := 0
  ledPassed : Nat := 0
  ledDiscarded : Nat := 0
  ledSpoilt : Bool := false
  ctr : SMap Nat := []
  deriving DecidableEq, Repr, Inhabited

/-- What a stream that State does not list reads as. -/
def Stream.dflt : Stream := {}

/-- States of a cover set (R301). -/
inductive CoverState where
  | off | pending | opened | closed
  deriving DecidableEq, Repr, Inhabited

/-- A cover set (R299, R301); `lost` lists the members whose COVER_LOST rose in the window. -/
structure Cover where
  enable : Bool := false
  wStart : Nat := 0
  wEnd : Nat := 0
  state : CoverState := .off
  hits : Nat := 0
  lost : List Nat := []
  deriving DecidableEq, Repr, Inhabited

/-- What a cover set that State does not list reads as. -/
def Cover.dflt : Cover := {}

/-- The stream table, the cover sets and NO_ENTRY (R302). -/
structure Streams where
  table : SMap Stream := []
  covers : SMap Cover := []
  noEntry : Nat := 0
  deriving DecidableEq, Repr, Inhabited

end Sys2Proof.Machine
end

