-- ==== Sys2Proof/Machine/Parts/Time.lean ====
section
/-! DEFINITION. The part of State for the timebase, the schedule cycle, SYNC_IN, SYNC_OUT and gPTP:
02_network_time. -/
namespace Sys2Proof.Machine

/-- SYNC_IN settings (R64, R65, R79). -/
structure SyncIn where
  enable : Bool := false
  wNs : Nat := 10000
  deadband : Nat := 4
  deriving DecidableEq, Repr, Inhabited

/-- SYNC_OUT modes (R71). -/
inductive SyncOutMode where
  | off | cycle | pps | sheafNotice
  deriving DecidableEq, Repr, Inhabited

/-- SYNC_OUT settings (R71); `p` is `none` while the mode's default width applies. -/
structure SyncOut where
  mode : SyncOutMode := .off
  p : Option Nat := none
  lNs : Nat := 10000
  deriving DecidableEq, Repr, Inhabited

/-- The capture window of the last common boundary (R64): its network time, and whether an edge was
accepted in it. -/
structure SyncWindow where
  t : Nat
  accepted : Bool
  deriving DecidableEq, Repr, Inhabited

/-- gPTP default settings (R56). That no port is enabled at reset, and that roles then follow the best master clock
algorithm, is this model's choice: the manual names no default of either (DESIGN CHOICE, log 15). -/
def PtpCfg.dflt : PtpCfg :=
  { domain := 0, ports := 0, external := false, roles := [], priority1 := 248, gmCapable := true,
    logSync := -3, logPdelay := 0, npdtNs := 800 }

/-- The last Announce of a port (R56, IEEE 802.1AS): priority1 and identity of the grandmaster, and the steps removed
from it. -/
structure Announce where
  priority1 : Nat
  grandmaster : BitVec 64
  steps : Nat
  deriving DecidableEq, Repr, Inhabited

/-- The timebase and its settings. -/
structure Tb where
  /-- 64 bits of nanoseconds, 32 of fraction (R45). -/
  counter : BitVec 96 := 0
  /-- What TB_REF has added to the counter, in the same units, with no step counted (06 R170). -/
  run : Nat := 0
  /-- INC_INT and INC_FRAC (R45). -/
  incr : BitVec 36 := 0x666666666#36
  /-- A step that is decided: the value that the next tick loads in place of adding the increment (R47, R553), and
  whether Hedgerow slots keep their places on the bus (R49 step 7, R59). -/
  load : Option (BitVec 96) := none
  loadKeeps : Bool := false
  /-- The TIME_REANCHOR that runs, answered at its step (R49). -/
  reanchorTag : Option Tag := none
  stepped : Bool := false
  locked : Bool := false
  holdover : Bool := false
  offsetLarge : Bool := false
  reanchors : Nat := 0
  /-- Source in use, and the selection of TIME_SET_SOURCE (R51, R79). -/
  source : Source := .none
  primary : Source := .none
  fallback : Source := .none
  tauMs : Nat := 1000
  lockNs : Nat := 100
  largeNs : Nat := 100000
  okRun : Nat := 0
  badRun : Nat := 0
  /-- Last rate estimate in 10^-12, last offset in 1/16 ns (R52). -/
  rEst : Int := 0
  offset : Int := 0
  gptpValid : Bool := false
  hedgeValid : Bool := false
  /-- Valid measurements of the primary in a row while it is not in use (R54). -/
  primaryRun : Nat := 0
  /-- The slave port: the port of the last valid Sync (R54, log 14). -/
  slavePort : Option Nat := none
  /-- Elapsed time of the last valid Sync, or of the selection of sources since (R54). -/
  syncAt : Nat := 0
  /-- The sample latched by a read of TB_TIME_LO (R76). -/
  latched : BitVec 96 := 0
  cycleB : Nat := 0
  cycleC : Nat := 0
  cycleValid : Bool := false
  shiftS : Int := 0
  /-- Index of the current cycle, the network time of its boundary, and of the one before. -/
  k : Nat := 0
  start : Nat := 0
  pendCycle : Option (Nat × Nat) := none
  /-- Shift steps decided for the next common boundary and for the one after it (R65). -/
  dNext : Option Int := none
  dAfter : Option Int := none
  foldPending : Bool := false
  syncIn : SyncIn := {}
  syncInPend : Option SyncIn := none
  window : Option SyncWindow := none
  /-- An edge was accepted ahead of the next common boundary. -/
  early : Bool := false
  syncLimit : Bool := false
  syncInOk : Bool := false
  missRun : Nat := 0
  syncMiss : Nat := 0
  syncReject : Nat := 0
  syncOut : SyncOut := {}
  syncOutPend : Option SyncOut := none
  syncOutHigh : Bool := false
  pulseRise : Nat := 0
  pulseEnd : Nat := 0
  /-- No SYNC_OUT edge is given for an instant up to this one: the latest that has been given (R75), or the last
  before the mode took effect. -/
  lastEdge : Option Nat := none
  noticeMerged : Nat := 0
  ptp : PtpCfg := PtpCfg.dflt
  ptpPend : Option PtpCfg := none
  /-- The last Announce by port, and the measured peer delay by port in ns (R56). -/
  announce : SMap (Option Announce) := []
  portDelay : SMap Nat := []
  /-- Time stamp of the last gPTP frame received by port, and that of the last valid Sync, from which the residence time
  of a relayed Sync is counted (R56, R57). -/
  gptpStamp : SMap Nat := []
  syncStamp : Nat := 0
  /-- Ingress and egress correction by port in 1/16 ns (R57). -/
  lat : SMap (Int × Int) := []
  deriving DecidableEq, Repr, Inhabited

end Sys2Proof.Machine
end

