-- ==== Sys2Proof/Machine/Parts/Trust.lean ====
section
/-! DEFINITION. The part of State for fuses, firmware images, the boot control record, life cycle and
the test access port: 18_trust and 19_package_electrical R546. -/
namespace Sys2Proof.Machine

/-- The boot control record (R511). -/
structure BootRec where
  slot : Bool := false
  trial : Bool := false
  tries : Nat := 0
  deriving DecidableEq, Repr, Inhabited

/-- Fuses, images and life cycle. CKEY0-CKEY3 are written by no step and are constants of Config. -/
structure Trust where
  crevoke : BitVec 4 := 0
  akey : SMap (BitVec 256) := []
  arevoke : BitVec 4 := 0
  minSvn : Nat := 0
  policySigned : Bool := false
  /-- Bits of LC_FUSE blown (R508). -/
  lc : Nat := 0
  /-- ID_SEED (R508): 0 before the first boot, all 1 when destroyed. Only the ROM and the key engine read it. -/
  idSeed : BitVec 256 := 0
  /-- The images of the two slots; `none` is the image as delivered. -/
  img0 : Option (List Byte) := none
  img1 : Option (List Byte) := none
  boot : BootRec := {}
  /-- A committed image awaits its first boot (R511). -/
  staged : Bool := false
  /-- The slot that runs, whether its image is confirmed, and the elapsed time of FW_READY. -/
  runSlot : Bool := false
  /-- The boot ROM has loaded an image since the last reset release (R511). -/
  loaded : Bool := false
  confirmed : Bool := true
  readyAt : Nat := 0
  /-- The stage at which each slot failed at the last boot (R512); 0 for none. -/
  fail0 : Nat := 0
  fail1 : Nat := 0
  nonce : Option (BitVec 256) := none
  /-- The one-shot factory-test request, with LC as it stood (R523). -/
  factoryRequest : Option Nat := none
  identityStored : Bool := true
  deriving DecidableEq, Repr, Inhabited

/-- Instructions of the TAP (R546). -/
inductive TapIr where
  | bypass | idcode | samplePreload | extest | clamp | highz
  deriving DecidableEq, Repr, Inhabited

/-- The TAP: its instruction, the cells preloaded, and the cells that drive the balls while EXTEST or
CLAMP is in effect; `highZ` while HIGHZ is. -/
structure Tap where
  ir : TapIr := .idcode
  cells : List Bool := []
  driving : Option (List Bool) := none
  highZ : Bool := false
  deriving DecidableEq, Repr, Inhabited

end Sys2Proof.Machine
end

