-- ==== Sys2Proof/Machine/Parts/Unit.lean ====
section
/-! DEFINITION. The part of State for modes, roles, pairing and mirroring: 01_architecture R31-R42 and
15_unit_redundancy. -/
namespace Sys2Proof.Machine

/-- UNIT_SET_PAIR defaults (R441, R459). -/
def PairCfg.dflt : PairCfg :=
  { partner := 0, paired := false, roleWaitMs := 5000, holdoffMs := 60000, failback := true }

/-- The fate of an epoch (R463 UNIT_GET_EPOCHS): applied, or discarded with its cause. -/
inductive EpochFate where
  | sent | applied | noRecord | badDigest | outOfOrder
  deriving DecidableEq, Repr, Inhabited

/-- An entry of the epoch history. -/
structure EpochLog where
  epoch : Word
  bytes : Nat
  digest : BitVec 64
  fate : EpochFate
  deriving DecidableEq, Repr, Inhabited

/-- An epoch received on the mirror link (R446). -/
structure EpochIn where
  epoch : Word
  close : Nat := 0
  baseline : Bool := false
  items : List MirItem := []
  data : List Byte := []
  ended : Bool := false
  deriving DecidableEq, Repr, Inhabited

/-- The mode-record fields of an element that are mirrored (R450). -/
structure MirElem where
  mode : ElemMode
  cross : Bool
  target : Nat
  rampSlew : Nat
  ff : Option (Nat × Nat)
  deriving DecidableEq, Repr, Inhabited

/-- A stream entry and its COUNTER value as mirrored. -/
structure MirStream where
  entry : List Word
  counter : Nat
  deriving DecidableEq, Repr, Inhabited

/-- A cover set as mirrored. -/
structure MirCover where
  enable : Bool
  wStart : Nat
  wEnd : Nat
  deriving DecidableEq, Repr, Inhabited

/-- An epoch closed by the sender, whose commit record is to be created (R445). -/
structure EpochOut where
  epoch : Word
  data : List Byte
  baseline : Bool
  handback : Bool
  deriving DecidableEq, Repr, Inhabited

/-- What the unit in control has put on the mirror link so far (R444): the mirrored state as last
sent. An element is listed where its mode record differs from that of a parked one. -/
structure Mirror where
  elems : SMap (Option MirElem) := []
  failed : List FailedCell := []
  armed : List Nat := []
  gates : SMap GatePort := []
  streams : SMap (Option MirStream) := []
  covers : SMap (Option MirCover) := []
  genNum : Word := 0
  deriving DecidableEq, Repr, Inhabited

/-- The state of the last hand-back (R460, R463). -/
inductive HandbackState where
  | none | pending | done | failed
  deriving DecidableEq, Repr, Inhabited

/-- Modes, roles and mirroring. -/
structure Unit where
  mode : Mode := .boot
  control : Bool := false
  pref : Bool := false
  /-- The mode from which HOLD was entered (R33 rows 14-16). -/
  holdFrom : Mode := .standby
  unitIdStrap : BitVec 4 := 0
  pair : PairCfg := PairCfg.dflt
  startupMap : Option (List (Option Nat)) := none
  /-- Waiting for the role decision, since elapsed time (R441). -/
  waiting : Option Nat := none
  /-- Lost fibres: VOA elements that failed (R206). -/
  fibresLost : List Nat := []
  /-- The partner as last seen (R462). -/
  partnerMode : Mode := .boot
  partnerControl : Bool := false
  prevHbControl : Bool := false
  /-- MODE of its last accepted heartbeat (R441), and the Hedgerow cycles since one with CONTROL = 1, to 8. -/
  hbMode : Mode := .boot
  ctlCycles : Nat := 8
  partnerSeen : Bool := false
  prefConflict : Bool := false
  /-- Elapsed times of the last partner heartbeat, of the last frame from the partner on any link, of
  the last PARTNER_ALIVE edge. -/
  hbAt : Nat := 0
  hbCycles : Nat := 8
  frameAt : Nat := 0
  aliveAt : Option Nat := none
  /-- Cycles in a row in which neither unit showed CONTROL (R453 D4). -/
  noControl : Nat := 0
  lagging : Bool := false
  lagRun : Nat := 0
  /-- The mirror link (R443). -/
  mlUp : Bool := false
  mlAt : Nat := 0
  keepaliveAt : Nat := 0
  partnerVer : BitVec 16 := 0
  verOk : Bool := true
  /-- READY of the partner, as its last keepalive showed it. -/
  partnerReady : Bool := false
  /-- No PARTNER_ALIVE edge came for 3 ms while heartbeats did (R453 D3). -/
  aliveFault : Bool := false
  /-- The last epoch whose commit record was created. -/
  committed : Word := 0
  /-- Catch-ups counted (06 R191). -/
  catchUps : Nat := 0
  /-- Staged sheaves and stooks that came ahead of a hand-back (R460). -/
  moved : List Sheaf := []
  movedStooks : List Stook := []
  /-- Sender: the epoch open, its data so far, epochs closed whose commit record is to be created, and
  the rest of a baseline. -/
  epoch : Word := 0
  epochOpen : Bool := false
  data : List Byte := []
  isBase : Bool := false
  closed : List EpochOut := []
  mirror : Mirror := {}
  sendBaseline : Bool := false
  baseLeft : Nat := 0
  slice : Nat := 0
  /-- Receiver: epochs held, commit records accepted, the last epoch applied, if any since a baseline. -/
  held : List EpochIn := []
  recs : List CommitRec := []
  applied : Option Word := none
  appliedClose : Nat := 0
  baselineDone : Bool := false
  wantBaseline : Bool := false
  diverge : Nat := 0
  /-- Epochs applied since DIVERGE last counted, to 64. -/
  cleanEpochs : Nat := 64
  mirrorMap : List (Option Nat) := []
  epochs : List EpochLog := []
  ready : Bool := false
  readySince : Nat := 0
  takeoverEpoch : Word := 0
  takeoverTime : Nat := 0
  events : BitVec 10 := 0
  takeovers : Nat := 0
  discards : Nat := 0
  pairOffset : Int := 0
  pairSkew : Bool := false
  /-- Hand-back: its instant, and where the last one stands. -/
  handbackAt : Option Nat := none
  handback : HandbackState := .none
  failbackAsked : Bool := false
  /-- Frames that enter COUNTER streams wait for the values of the partner (R460). -/
  counterWait : Option Nat := none
  deriving DecidableEq, Repr, Inhabited

end Sys2Proof.Machine
end

