-- ==== Sys2Proof/Machine/State.lean ====
section
/-! DEFINITION. State: every register, queue, buffer, counter, mode and pin that the manual gives the
MHX-5120 (INVENTORY.md, State), the queue of waiting commands, and four fields of the model's own:
elapsed time, the number of the next free value, the list of outputs, and the access cycle (DESIGN CHOICE, logs 1, 3, 6,
7). -/
namespace Sys2Proof.Machine

/-- What listed maps read as where State lists nothing. -/
def Mailbox.dflt : Mailbox := {}
def Src.dflt : Src := {}
def SubQ.dflt : SubQ := {}
def ComplQ.dflt : ComplQ := {}
def Vec.dflt : Vec := {}
def VoaGroup.dflt : VoaGroup := {}
def TrimPin.dflt : TrimPin := {}

/-- What the device has set and counted since the last edge of TB_REF, the model's access cycle: the bits of GL_EVENTS
and UN_EVENTS, and the counts of TB_COUNTS, UN_COUNTS and HQ_DROP (00 R7; DESIGN CHOICE, log 1). -/
structure AccessCycle where
  glBits : BitVec 6 := 0
  unBits : BitVec 10 := 0
  miss : Nat := 0
  reject : Nat := 0
  takeovers : Nat := 0
  discards : Nat := 0
  /-- SHARE and DELAY drops by receive queue. -/
  shareDrops : SMap Nat := []
  delayDrops : SMap Nat := []
  deriving DecidableEq, Repr, Inhabited

/-- The state of the block. -/
structure State where
  ident : Ident := Ident.reset
  il : Il := {}
  gl : Gl := {}
  power : Power := {}
  host : HostIf := {}
  tb : Tb := {}
  loops : Loops := {}
  fabric : Fabric := {}
  sheaves : Sheaves := {}
  cal : Cal := {}
  ports : Ports := {}
  gates : Gates := {}
  streams : Streams := {}
  rules : Rules := {}
  hedge : Hedge := {}
  unit : Unit := {}
  trust : Trust := {}
  tap : Tap := {}
  /-- Commands and events that wait, first in, first out. -/
  pending : List Instr := []
  /-- Elapsed time in 0.1 ns, the model's own clock for durations (DESIGN CHOICE, log 3). -/
  up : Nat := 0
  /-- Outputs, the newest first (DESIGN CHOICE, log 6). -/
  out : List Emit := []
  /-- The number of the next free value: the model's own field, on whose value no statement rests
  (DESIGN CHOICE, log 7). -/
  free : Nat := 0
  /-- The access cycle that runs (DESIGN CHOICE, log 1). -/
  cycle : AccessCycle := {}
  deriving DecidableEq, Repr, Inhabited

/-- Reasons for which a step can stop. The manual gives every row of the opcode table an effect, so no
meaning raises it: it stands for the fixed interface alone. Safe: it is never answered. -/
inductive Fault where
  /-- Raised by no meaning of this model; safe. -/
  | none
  deriving DecidableEq, Repr, Inhabited

/-- Reasons for which a step has no meaning. -/
inductive Refusal where
  /-- Raised by an arm of exec whose row has no meaning yet; safe. -/
  | notModelled (mnemonic : String)
  deriving DecidableEq, Repr, Inhabited

/-- The block right after the first reset release (R494, R499): VWAKE and every rail are up, the cause
is POWER_ON, and the wipe runs. Registers hold the values that the manual states for class P, or those
that logs 2, 15 and 16 name (DESIGN CHOICE and, for the test access port, PRESUMED). -/
def State.reset : State := {}

end Sys2Proof.Machine
end

