-- ==== Sys2Proof/Machine/Ops.lean ====
section
/-! DEFINITION. The named operations that the meanings share: outputs, free values, Gleaner events,
interrupts, and the carrying out and answering of Ilucy commands. -/
namespace Sys2Proof.Machine

/-- Bits [95:32] of the counter: network time in whole nanoseconds (02_network_time R45). -/
def State.now (s : State) : Nat := (s.tb.counter >>> 32).toNat

/-- The tick of an instant has come: the comparators fire on the tick whose counter value T satisfies T ≤ instant <
T + increment (02 R75). -/
def State.reached (s : State) (t : Nat) : Bool := decide (t * 2 ^ 32 < s.tb.counter.toNat + s.tb.incr.toNat)

/-- Elapsed time in ns since the model's clock began. -/
def State.upNs (s : State) : Nat := s.up / 10

/-- The device puts `x` on its outputs. -/
def State.emit (x : Emit) (s : State) : State := { s with out := x :: s.out }

/-- The next free value's number; the step advances the counter. -/
def State.drawn (s : State) : State := { s with free := s.free + 1 }

/-- `k` events on a Gleaner source (16_gleaner R468 step 4). Events of a region's block and region
sources are ignored until step 2 of its RESET_REGION ends (R475). -/
def State.raiseN (src k : Nat) (s : State) : State :=
  let region := if src < 68 then src / 17 else src - 68
  if src < 72 && mapGet RegionPhase.none s.gl.regionPhase region = .reinit then s
  else { s with gl.srcs := mapMod Src.dflt s.gl.srcs src fun x => { x with waiting := x.waiting + k } }

/-- One event on a Gleaner source. -/
def State.raise (src : Nat) (s : State) : State := s.raiseN src 1

/-- The region sources of R465. -/
def blockSource (region block : Nat) : Nat := region * 17 + block
def regionSource (region : Nat) : Nat := 68 + region
def thermalSource (region block : Nat) : Nat := 72 + region * 17 + block
def driveSource (region : Nat) : Nat := 140 + region

/-- The physical block that serves a logical block: 16 once it is substituted (00 R12, 07 R221). -/
def State.physBlock (s : State) (region block : Nat) : Nat :=
  if mapGet 0 s.cal.map.blockSub region = block + 1 then 16 else block

/-- One event on the block source of an element. -/
def State.raiseBlock (e k : Nat) (s : State) : State :=
  s.raiseN (blockSource (regionOf e) (s.physBlock (regionOf e) (blockOf e))) k

/-- The PCIe function answers: the device is powered and not in a class P or H reset. -/
def State.functionUp (s : State) : Bool := s.power.phase = .bootRom || s.power.phase = .running

/-- Writes to the host queue and interrupt blocks act: no class F wipe runs (17 R500). -/
def State.barOpen (s : State) : Bool := s.functionUp && !s.power.classF

/-! Interrupts (12_host_queues R370-R373). -/

/-- Memory requests and MSI-X messages may be issued (R343, R344). -/
def State.canMaster (s : State) : Bool := s.host.busMaster && !s.host.d3hot

/-- Word `i` of the MSI-X table; the default of a vector control word masks its vector. -/
def State.tableWord (s : State) (i : Nat) : Word :=
  mapGet 0 s.host.table i ^^^ (if i % 4 = 3 then 1#32 else 0#32)

/-- Vector `v` is masked. -/
def State.masked (s : State) (v : Nat) : Bool := s.host.fnMask || bit (s.tableWord (4 * v + 3)) 0

/-- The message of vector `v`. -/
def State.sendMsix (v : Nat) (s : State) : State :=
  s.emit (.msix v ((s.tableWord (4 * v + 1)).toNat * 2 ^ 32 + (s.tableWord (4 * v)).toNat)
    (s.tableWord (4 * v + 2)))

/-- A vector triggers (R371): its message is sent, or it becomes pending. -/
def State.trigger (v : Nat) (s : State) : State :=
  let blocked := !s.canMaster
  let s1 := { s with
    host.vecs := mapMod Vec.dflt s.host.vecs v fun x =>
      { x with
           pendN := 0, since := none
           pending := x.pending || s.masked v || blocked, d3Pend := x.d3Pend || blocked } }
  if blocked then (if s.host.d3hot && s.host.pmeEn then s1.emit .pme else s1)
  else if s.masked v then s1 else s1.sendMsix v

/-- ELAPSED of a vector in µs (R370). -/
def State.elapsedUs (s : State) (x : Vec) : Nat :=
  match x.since with
  | some t => min 1023 ((s.up - t) / 10000)
  | none => 0

/-- One event counted towards vector `v` (R371). -/
def State.countEvent (v : Nat) (s : State) : State :=
  let x := mapGet Vec.dflt s.host.vecs v
  let x1 := { x with pendN := min 255 (x.pendN + 1)
                     since := if x.pendN = 0 then some s.up else x.since }
  let s1 := { s with host.vecs := mapSet Vec.dflt s.host.vecs v x1 }
  if max 1 x.modCount ≤ x1.pendN || x.modTime ≤ s1.elapsedUs x1 then s1.trigger v else s1

/-- A mailbox answer, a Gleaner event, a unit event counts towards its vector (R370). -/
def State.mbEvent (s : State) : State :=
  if bit s.host.ctrl 0 then s.countEvent (fld s.host.ctrl 14 8) else s
def State.glEvent (s : State) : State :=
  if bit s.host.ctrl 1 then s.countEvent (fld s.host.ctrl 22 16) else s
def State.unEvent (s : State) : State :=
  if bit s.host.ctrl 2 then s.countEvent (fld s.host.ctrl 30 24) else s

/-- Bit `i` of GL_EVENTS sets; one that was clear counts an interrupt event (16 R486). A write that clears the bit in
the access cycle in which it sets leaves it set (00 R7). -/
def State.glSet (i : Nat) (s : State) : State :=
  let s0 := { s with cycle.glBits := s.cycle.glBits ||| BitVec.ofNat 6 (2 ^ i) }
  if s.gl.events.getLsbD i then s0
  else { s0 with gl.events := s.gl.events ||| BitVec.ofNat 6 (2 ^ i) }.glEvent

/-- Bit `i` of UN_EVENTS sets (15 R462, 00 R7). -/
def State.unSet (i : Nat) (s : State) : State :=
  let s0 := { s with cycle.unBits := s.cycle.unBits ||| BitVec.ofNat 10 (2 ^ i) }
  if s.unit.events.getLsbD i then s0
  else { s0 with unit.events := s.unit.events ||| BitVec.ofNat 10 (2 ^ i) }.unEvent

/-- A periodic event of period `period` is due, and not come yet in the period that runs; both in 0.1 ns of elapsed
time, with periods from the reset release on (DESIGN CHOICE, log 3). -/
def State.periodDue (s : State) (last : Option Nat) (period : Nat) : Bool :=
  match last with
  | none => true
  | some t => decide ((t - s.power.releasedAt) / period < (s.up - s.power.releasedAt) / period)

/-- An entry into SLEEP runs, from the acceptance of its POWER_SLEEP: no mode change of a lower rank comes in
(01 R41). -/
def State.sleeping (s : State) : Bool := s.power.sleepAsked.isSome || s.power.sleep ≠ .none

/-! Answers (13_ilucy R379-R392). -/

/-- An answer payload: fields in the order of the rule that names them, or bytes that a rule lays
out. -/
inductive Payload where
  | fields (l : List Int)
  | bytes (l : List Byte)
  /-- Fields, then bytes that a rule lays out. -/
  | headed (l : List Int) (b : List Byte)
  deriving DecidableEq, Repr, Inhabited

/-- What a command answers. -/
structure Reply where
  status : Status := .ok
  detail : Nat := 0
  payload : Payload := .bytes []
  deriving DecidableEq, Repr, Inhabited

/-- An answer OK with payload fields. -/
def Reply.ok (l : List Int) : Reply := { payload := .fields l }
/-- An answer OK with no payload. -/
def Reply.done : Reply := {}
/-- A refusal with a status and DETAIL. -/
def Reply.no (st : Status) (detail : Nat := 0) : Reply := { status := st, detail := detail }

/-- Numeric value of a status (R388). -/
def Status.code : Status → Nat
  | .ok => 0 | .unknownCommand => 1 | .badHeader => 2 | .badLength => 3 | .outOfRange => 4
  | .busy => 5 | .notPermitted => 6 | .inUse => 7 | .tooLate => 8 | .tooSoon => 9
  | .notStepped => 10 | .alreadyStepped => 11 | .blocked => 12 | .noSpace => 13 | .tagInUse => 14
  | .failed => 15 | .aborted => 16 | .full => 17 | .signature => 18 | .rollback => 19

/-- STATUS and DETAIL as an answer of generation `gen` carries them (R388, R389). -/
def statusFor (gen : Nat) (st : Status) (detail : Nat) : Nat × Nat :=
  if gen = 1 then
    match st with
    | .aborted | .signature | .rollback => (15, st.code * 65536 + detail % 65536)
    | .full => (5, detail)
    | _ => (st.code, detail)
  else (st.code, detail)

/-- The bytes of a payload; a status other than OK carries none unless it is given one (R379). -/
def Payload.toBytes (code : BitVec 16) : Payload → List Byte
  | .fields [] => []
  | .fields l => Config.payloadBytes code l
  | .bytes l => l
  | .headed l b => Config.payloadBytes code l ++ b

/-- The header words of an answer: words 4 and 5 written, the others as posted (R379). -/
def answerHeader (hdr : List Word) (gen : Nat) (r : Reply) (rlen : Nat) : List Word :=
  let sd := statusFor gen r.status r.detail
  (hdr.set 4 (BitVec.ofNat 32 (sd.1 * 65536 + rlen))).set 5 (BitVec.ofNat 32 sd.2)

/-- Bytes written into a mailbox body at an offset. -/
def State.writeBody (m off : Nat) (bs : List Byte) (s : State) : State :=
  { s with il.bar2 := mapSetList 0 s.il.bar2 (4096 * m + off) bs }

/-- A field of mailbox `m`'s doorbell block changes. -/
def State.modMb (m : Nat) (f : Mailbox → Mailbox) (s : State) : State :=
  { s with il.mb := mapMod Mailbox.dflt s.il.mb m f }

/-- What follows the push of an answer record: the delay of a DEVICE_RESET of scope DEVICE begins (R398),
and t0 of the entry into SLEEP is now (17 R491). -/
def State.afterPush (tag : Tag) (s : State) : State :=
  let s1 := if s.il.resetAsked = some tag then { s with il.resetAsked := none, il.resetDue := some (s.up + 10000000) } else s
  if s1.power.sleepAsked = some tag then
    { s1 with power.sleepAsked := none, power.sleep := .answered, power.sleepT0 := s1.up, power.wakeRecognised := false }
  else s1

/-- Steps 3 and 4 of R381: the record is pushed and its interrupt event counted. -/
def State.pushRecord (c : InFlight) (s : State) : State :=
  let s1 := { s with il.answers := s.il.answers ++ [({ rhost := c.rhost, mailbox := c.mailbox, tag := c.tag } : AnswerRec)] }
  (if c.noint then s1 else s1.mbEvent).afterPush c.tag

/-- Steps 1 to 4 of R381 for an answer to host memory. -/
def State.writeHostAnswer (h : HeldAnswer) (s : State) : State :=
  let s1 := if h.payload = [] then s else s.emit (.hostWrite (h.cmd.raddr + 32) h.payload)
  (s1.emit (.hostWrite h.cmd.raddr (wordsBytes h.header))).pushRecord h.cmd

/-- The command with its answer made is marked so; one taken out of flight by a class F reset ends
without an answer (R391). -/
def State.markAnswered (c : InFlight) (s : State) : State :=
  if c.orphan then { s with il.inflight := s.il.inflight.filter (· ≠ c) }
  else { s with il.inflight := s.il.inflight.map fun x => if x = c then { x with answered := true } else x }

/-- No record is pushed for a command that a reset has ended, so nothing waits for that push. -/
def State.unasked (tag : Tag) (s : State) : State :=
  { s with
    il.resetAsked := if s.il.resetAsked = some tag then none else s.il.resetAsked
    power.sleepAsked := if s.power.sleepAsked = some tag then none else s.power.sleepAsked }

/-- The answer to a command in flight (R381, R392); one that a reset has ended gets none (R391). -/
def State.answer (c : InFlight) (r : Reply) (s : State) : State :=
  let s1 := s.markAnswered c
  if c.orphan then s1.unasked c.tag
  else if !s.il.inflight.contains c then s1
  else
    let bytes := (r.payload.toBytes c.code).take 4064
    let hdr := answerHeader c.hdr c.gen r bytes.length
    if c.rhost then
      let h : HeldAnswer := { cmd := c, header := hdr, payload := bytes }
      if s.canMaster && s.il.held = [] then s1.writeHostAnswer h
      else { s1 with il.held := s1.il.held ++ [h] }
    else
      (((s1.writeBody c.mailbox 0 (wordsBytes hdr)).writeBody c.mailbox 32 bytes).modMb c.mailbox
        fun m => { m with state := .answered }).pushRecord c

/-- The command with this tag and code that firmware may carry out now: it is in flight and not
answered, and no earlier command of its group waits unless it only reads (R384). -/
def findServed (l : List InFlight) (tag : Tag) (code : Nat) (reads : Bool) : Option InFlight :=
  match l.find? fun c => c.tag = tag && c.code.toNat = code && !c.answered with
  | none => none
  | some c =>
    let earlier := l.takeWhile (· ≠ c)
    if reads || !(earlier.any fun d => d.code.toNat / 256 = code / 256 && !d.answered) then some c
    else none

/-- Firmware carries out the command of `tag` and `code` (R386 checks 4 and 5, R381). `len` is the
payload length that the command defines, where the manual fixes it. With no such command waiting
nothing is carried out. -/
def State.serve (tag : Tag) (code : Nat) (reads : Bool) (len : Option Nat)
    (body : State → State × Reply) (s : State) : State :=
  match findServed s.il.inflight tag code reads with
  | none => s
  | some c =>
    if len.any (· ≠ c.len) then s.answer c (Reply.no .badLength (len.getD 0))
    else
      let p := body s
      p.1.answer c p.2

/-- The network time at which the command of a tag was posted. -/
def State.arrivalOf (s : State) (tag : Tag) : Nat :=
  ((s.il.inflight.find? fun c => c.tag = tag && !c.answered).map (·.arrived)).getD s.now

/-- The command of a tag that is carried out over some time is answered (R381). -/
def State.answerTag (tag : Tag) (r : Reply) (s : State) : State :=
  match s.il.inflight.find? fun c => c.tag = tag && !c.answered with
  | some c => s.answer c r
  | none => s

/-- A command that only reads: its body gives the reply. -/
def State.query (tag : Tag) (code : Nat) (len : Option Nat) (reply : State → Reply) (s : State) :
    State :=
  s.serve tag code true len fun t => (t, reply t)

/-- The unit holds the control role: ACTIVE or DEGRADED (13_ilucy R554). -/
def State.inControl (s : State) : Bool := s.unit.mode = .active || s.unit.mode = .degraded

/-- Detail of OUT_OF_RANGE: index of the item and byte offset of the field (R388). -/
def detailOf (index offset : Nat) : Nat := index * 65536 + offset

/-- A refusal leaves the state unchanged. -/
def refuse (s : State) (st : Status) (detail : Nat := 0) : State × Reply := (s, Reply.no st detail)

/-- Status FAILED raises a Gleaner event of the FIRMWARE source (R388, 16 R466). -/
def failed (s : State) (code : Nat) : State × Reply := (s.raise 174, Reply.no .failed code)

/-- The calibration of an element: what was tracked since, else what the flash image holds. -/
def State.image (s : State) (e : Nat) : ImgEl := (mapGet none s.cal.work e).getD (s.cal.flash e)

/-- The calibration of a monitor channel and of a delay line, likewise. -/
def State.chan (s : State) (ch : Nat) : ChanCal := (mapGet none s.cal.chanWork ch).getD (s.cal.flashChan ch)
def State.line (s : State) (l : Nat) : LineCal := (mapGet none s.cal.lineWork l).getD (s.cal.flashLine l)

/-- `f` applied to the calibration of a channel, of a line. -/
def State.modMonitor (ch : Nat) (f : ChanCal → ChanCal) (s : State) : State :=
  { s with cal.chanWork := mapSet none s.cal.chanWork ch (some (f (s.chan ch))) }
def State.modLine (l : Nat) (f : LineCal → LineCal) (s : State) : State :=
  { s with cal.lineWork := mapSet none s.cal.lineWork l (some (f (s.line l))) }

/-- Element `e`. -/
def State.elem (s : State) (e : Nat) : Elem := mapGet Elem.park s.loops.elems e

/-- `f` applied to element `e`. -/
def State.modElem (e : Nat) (f : Elem → Elem) (s : State) : State :=
  { s with loops.elems := mapMod Elem.park s.loops.elems e f }

/-- `f` applied to the elements of the list. -/
def State.modElems (es : List Nat) (f : Nat → Elem → Elem) (s : State) : State :=
  { s with loops.elems := mapModAll Elem.park f es s.loops.elems }

/-- Measured quantity number `kind` of a place: a free value (DESIGN CHOICE, log 8). -/
def State.measured (s : State) (kind place : Nat) : Int := Config.measure kind place s.free

/-! Delay lines (02 R75, 07 R210). -/

/-- The delay lines of the device, which location words number to 4,095 (07 R225). -/
def numLines : Nat := min 4096 (max 1 Config.delayLines)

/-- The tap whose cumulative delay is nearest to a delay in ps. -/
def nearestTap (table : List Nat) (ps : Nat) : Nat :=
  let miss (k : Nat) : Nat := (table.getD k 0 - ps) + (ps - table.getD k 0)
  (List.range 128).foldl (fun b k => if miss k < miss b then k else b) 0

/-- An action of this tick is launched through a delay line set to its instant less the tick's counter value (02 R75).
Which line serves an action no rule says: a free value (DESIGN CHOICE, log 8). -/
def State.launched (t : Nat) (s : State) : State :=
  let ps := (t * 2 ^ 32 - s.tb.counter.toNat) * 1000 / 2 ^ 32
  let line := (s.measured 42 0).natAbs % numLines
  let l := s.line line
  { s with cal.tap := mapSet 0 s.cal.tap line (nearestTap (if mapGet false s.cal.twin line then l.tapsB else l.tapsA) ps) }.drawn

/-! Entries of the substitution log, events of parts, and tracked calibration (07 R216, R218, R224,
R225). -/

/-- Location words (R225). -/
def locLoop (region block cell : Nat) : Nat := region * 2 ^ 26 + block * 2 ^ 21 + cell * 2 ^ 16
def locRow (inst row : Nat) : Nat := 0x10000000 + inst * 2 ^ 20 + row
def locChannel (ch what part : Nat) : Nat := 0x20000000 + ch * 2 ^ 12 + what * 2 ^ 8 + part
def locLane (lane : Nat) : Nat := 0x30000000 + lane * 2 ^ 24
def locFabric (plane stage cell kind : Nat) : Nat :=
  0x40000000 + plane * 2 ^ 27 + stage * 2 ^ 22 + cell * 2 ^ 14 + kind * 2 ^ 12
def locLine (line twin : Nat) : Nat := 0x50000000 + line * 2 ^ 16 + twin * 2 ^ 15
def locBandgap (b : Nat) : Nat := 0x60000000 + b

/-- Network time where the manual writes 0 while STEPPED is 0. -/
def State.steppedTime (s : State) : Nat := if s.tb.stepped then s.now else 0

/-- An entry waits to be written to the substitution log, with the network time of the switch where there was one
(R224). -/
def State.logSubstAt (time kind cause source logical frm dest outcome left events : Nat) (s : State) : State :=
  { s with cal.logSeq := s.cal.logSeq + 1
           cal.logPend := s.cal.logPend ++ [{
             seq := s.cal.logSeq, time := if s.tb.stepped then time else 0, kind := kind,
             cause := cause, source := source, logical := logical, frm := frm, dest := dest,
             outcome := outcome, left := left, events := min 65535 events }] }

/-- An entry waits to be written to the substitution log, with the present time (R224). -/
def State.logSubst (kind cause source logical frm dest outcome left events : Nat) (s : State) : State :=
  s.logSubstAt s.now kind cause source logical frm dest outcome left events

/-- A key for the events of a part (R218). -/
def Part.key : Part → Nat
  | .loopCell r b c => 5 * ((r * 16 + b) * 21 + c)
  | .block r b => 5 * (r * 16 + b) + 1
  | .row i r => 5 * (i * 2 ^ 20 + r) + 2
  | .segment ch sg => 5 * (ch * 256 + sg) + 3
  | .lane p => 5 * p + 4

/-- One Gleaner event of a part is counted by firmware. -/
def State.partEvent (p : Part) (s : State) : State :=
  { s with cal.events := mapMod [] s.cal.events p.key fun l => (s.up :: l).take 255 }

/-- The events of a part that led to a substitution (R224). -/
def State.partEvents (s : State) (p : Part) : Nat := (mapGet [] s.cal.events p.key).length

/-- The calibration of an element is changed, within the ranges of its codes, and its count and time with it (R216). -/
def State.calibrated (e : Nat) (f : ImgEl → ImgEl) (s : State) : State :=
  let i := (f (s.image e)).bounded
  { s with
    cal.work := mapSet none s.cal.work e
      (some { i with count := min 65535 (i.count + 1), time := s.now }) }

/-- A repair for a source has completed (16 R473). -/
def State.repairDone (src : Nat) (s : State) : State :=
  { s with gl.srcs := mapMod Src.dflt s.gl.srcs src fun x => { x with repaired := some s.gl.tick } }

end Sys2Proof.Machine
end

