-- ==== Sys2Proof/Machine/SheafOps.lean ====
section
/-! DEFINITION. Sheaves: reading a record, validation, the store, outcomes and re-evaluation
(06_sheaves R159-R180), and what a declaration of failure does to them (03_fabric R99). -/
namespace Sys2Proof.Machine

/-- Insertion of a sheaf into a list in order of instant. -/
def insertSheaf (x : Sheaf) : List Sheaf → List Sheaf
  | [] => [x]
  | y :: ys => if x.instant < y.instant then x :: y :: ys else y :: insertSheaf x ys

/-- Sheaves in order of instant. -/
def byInstant (l : List Sheaf) : List Sheaf := l.foldr insertSheaf []

/-- The MODE field of R137. -/
def modeOfCode (n : Nat) : ElemMode :=
  if n = 0 then .ff else if n = 1 then .lk else if n = 2 then .hd else .pk

/-- A change entry from its two words (R160). -/
def readChange (w0 w1 : Word) : Change :=
  { element := fld w0 31 17, mode := modeOfCode (fld w0 16 15), cross := bit w0 14
    levelValid := bit w0 13, level := fld w0 11 0, target := fld w1 31 16, slew := fld w1 15 0 }

/-- The change entries of a record body. -/
def readChanges : List Word → List Change
  | w0 :: w1 :: ws => readChange w0 w1 :: readChanges ws
  | _ => []

/-- Reserved bit 12 set in some change entry. -/
def changeReserved : List Word → Bool
  | w0 :: _ :: ws => bit w0 12 || changeReserved ws
  | _ => false

/-- The sheaf that record words spell (R159). -/
def readSheaf (ws : List Word) : Sheaf :=
  let h (i : Nat) := ws.getD i 0
  { id := fld (h 0) 31 16, prep := bit (h 0) 2, rel := bit (h 0) 1, gwEn := bit (h 0) 0
    instant := (h 2).toNat * 2 ^ 32 + (h 1).toNat, gwOpen := (h 3).toNat, gwClose := (h 4).toNat
    cover := fld (h 5) 15 8, stook := fld (h 6) 31 16, step := fld (h 6) 15 8, hostTag := h 7
    changes := readChanges (ws.drop 8) }

/-- Check 1 of R162 on the record words. -/
def formatOk (ws : List Word) (host : Bool) : Bool :=
  let h (i : Nat) := ws.getD i 0
  let count := fld (h 5) 31 16
  decide (ws.length = 8 + 2 * count) && decide (1 ≤ count) && decide (count ≤ 21504) &&
  decide (fld (h 0) 15 8 = 1) && decide (fld (h 0) 7 3 = 0) && decide (fld (h 5) 7 0 = 0) &&
  decide (fld (h 6) 7 0 = 0) && !changeReserved (ws.drop 8) && decide (fld (h 0) 31 16 ≠ 0) &&
  (!host || decide (fld (h 0) 31 16 ≤ 0xEFFF))

/-- A sheaf that is staged or armed and not yet at its instant. -/
def Sheaf.pending (x : Sheaf) : Bool :=
  x.phase = .staged || x.phase = .arming || x.phase = .committed

/-- The cell a change addresses, as its lead gate; `none` for a VOA. -/
def Change.cellKey (c : Change) : Option Nat :=
  if isGate c.element then some (c.element - c.element % 2) else none

/-- The cells a sheaf changes, by lead gate. -/
def Sheaf.cells (x : Sheaf) : List Nat := x.changes.filterMap Change.cellKey

/-- The fast level a change sets (R160). -/
def State.levelFor (s : State) (c : Change) : Nat :=
  if c.levelValid then c.level
  else if c.cross then (s.image c.element).levelCross else (s.image c.element).levelBar

/-- The FF code of a VOA change, which firmware computes as it arms the change (R161, 05 R136). The target of a change to
a following VOA is ignored, so that its own TARGET gives the code (05 R149; DEDUCED, log 13). -/
def State.voaFf (s : State) (c : Change) : Option Nat :=
  let x := s.elem c.element
  let target := if x.group = 0 then c.target else x.target
  if isGate c.element || c.mode = .hd || c.mode = .pk then none
  else if c.mode = .ff && target = 0 then some (s.image c.element).block
  else some (voaCode (s.image c.element).table target)

/-- The FF code that a change carries: the one computed at its arming, else the one that would be computed now. -/
def State.carriedFf (s : State) (c : Change) : Option Nat := c.ff.orElse fun _ => s.voaFf c

/-- A change applied to its element in a map of elements. -/
def State.applyTo (s : State) (t : Nat) (m : SMap Elem) (c : Change) : SMap Elem :=
  mapMod Elem.park m c.element fun x =>
    x.change c (isGate c.element) (s.levelFor c) (s.carriedFf c) (handoverOf s.loops c.element).dwell t

/-- A sheaf applied to a map of elements, but for the elements whose exclusion is known (R163, R164). -/
def State.applyAll (s : State) (m : SMap Elem) (x : Sheaf) : SMap Elem :=
  (x.changes.filter fun c => !x.excluded.any fun p => p.1 = c.element).foldl (s.applyTo x.instant) m

/-- The pending sheaves with an earlier instant, but for `id`, in order (R163). -/
def State.earlier (s : State) (instant id : Nat) : List Sheaf :=
  byInstant (s.sheaves.store.filter fun x => x.pending && decide (x.instant < instant) && x.id ≠ id)

/-- The fabric that a sheaf will meet (R163). -/
def State.viewAt (s : State) (instant id : Nat) : SMap Elem :=
  (s.earlier instant id).foldl s.applyAll s.loops.elems

/-- Check 9 of R162 (R84): no changed cell is left with its gates apart. -/
def mixedAfter (m : SMap Elem) (cells : List Nat) : Bool :=
  cells.any fun g =>
    pathOfGates (mapGet Elem.park m g) (mapGet Elem.park m (g + 1)) = .mixed

/-- Check 10 of R162 (R80): an output that changes ends with the planes alike. -/
def planesAgree (fs : List FailedCell) (before after : SMap Elem) : Bool :=
  (List.range 512).all fun j =>
    (carried before fs 0 j = carried after fs 0 j && carried before fs 1 j = carried after fs 1 j)
      || carried after fs 0 j = carried after fs 1 j

/-- Checks 9 and 10 with the reason of the first that fails. -/
def State.fabricReason (s : State) (x : Sheaf) : Option Nat :=
  let before := s.viewAt x.instant x.id
  let after := s.applyAll before x
  if mixedAfter after x.cells then some 7
  else if !planesAgree s.fabric.failed before after then some 6
  else none

/-- No element appears twice. -/
def hasDup : List Nat → Bool
  | [] => false
  | x :: xs => xs.contains x || hasDup xs

/-- The sheaves and the change entries that the store holds: every sheaf that is not finished, and every member of
a stook until the stook is deleted (R165, R189). -/
def State.storeLoad (s : State) : Nat × Nat :=
  let l := (s.sheaves.store.filter fun y => y.phase ≠ .done && !(s.sheaves.stooks.any fun k => y.submitter = .stook k.id)) ++
    s.sheaves.stooks.flatMap (·.members)
  (l.length, (l.map (·.changes.length)).sum)

/-- The reason of the first check of R162 from check 2 on that a sheaf fails; `member` is a stook
member checked with its absolute instant, which the store holds already. -/
def State.sheafReason (s : State) (x : Sheaf) (member : Bool) : Option Nat :=
  let fs := s.fabric.failed
  let others := s.sheaves.store.filter fun y => y.pending && y.id ≠ x.id
  let early : List (Bool × Nat) :=
    [ (!s.inControl, 0x0C), (x.rel && !member, 0x0E),
      (s.sheaves.store.any fun y => y.phase ≠ .done && y.id = x.id, 0x0B),
      (x.changes.any fun c => decide (c.element > 21503), 0x02),
      (hasDup (x.changes.map (·.element)), 0x03),
      (x.changes.any fun c => !isGate c.element && c.levelValid && (c.mode = .ff || c.mode = .lk), 0x04),
      (x.changes.any fun c => isGate c.element &&
        (let k := fabricCellOf c.element; (failedAt fs k.1 k.2.1 k.2.2).isSome), 0x05) ]
  match early.find? (·.1) with
  | some p => some p.2
  | none =>
    match s.fabricReason x with
    | some r => some r
    | none =>
      let late : List (Bool × Nat) :=
        [ (x.gwEn && decide (x.gwOpen + 30 > x.gwClose), 0x0D),
          (decide (x.instant < s.now + 20000), 0x08),
          (others.any fun y => decide (x.instant < y.instant + 1000) && decide (y.instant < x.instant + 1000), 0x09),
          (decide (16384 < s.storeLoad.1 + if member then 0 else 1) ||
            decide (4194304 < s.storeLoad.2 + if member then 0 else x.changes.length), 0x0A) ]
      (late.find? (·.1)).map (·.2)

/-- A sheaf that ended under the ID of a new one is no longer kept (R176, R196); a member of a stook is, until its stook
is deleted or starts again (R165). -/
def State.gives (s : State) (x z : Sheaf) : Bool :=
  z.phase = .done && z.id = x.id && (z.submitter = x.submitter || !s.sheaves.stooks.any fun k => z.submitter = .stook k.id)

/-- A sheaf accepted into the store (R165); an ID that a finished sheaf held is used again (R196). -/
def State.acceptSheaf (x : Sheaf) (s : State) : State :=
  let y := { x with accepted := s.now, phase := .staged
                    basis := (s.earlier x.instant x.id).map (·.id) }
  { s with sheaves.store := s.sheaves.store.filter (fun z => !s.gives x z) ++ [y] }

/-- A record submitted by host software or firmware: staged, or refused with its reason (R162). -/
def State.submit (ws : List Word) (by_ : Submitter) (s : State) : State × Option Nat :=
  let x := { readSheaf ws with submitter := by_ }
  if !formatOk ws (by_ ≠ .firmware) then (s, some 1)
  else match s.sheafReason x false with
    | some r => (s, some r)
    | none => (s.acceptSheaf x, none)

/-- The sheaf of an ID that is not finished, else the last one finished. -/
def State.sheaf? (s : State) (id : Nat) : Option Sheaf :=
  match s.sheaves.store.find? fun x => x.id = id && x.phase ≠ .done with
  | some x => some x
  | none => s.sheaves.store.reverse.find? fun x => x.id = id

/-- `f` applied to the unfinished sheaf of an ID. -/
def State.modSheaf (id : Nat) (f : Sheaf → Sheaf) (s : State) : State :=
  { s with sheaves.store := s.sheaves.store.map fun x => if x.id = id && x.phase ≠ .done then f x else x }

/-- Arm slot `j` becomes free. -/
def State.freeSlot (j : Option Nat) (s : State) : State :=
  match j with
  | some j => { s with sheaves.slots := s.sheaves.slots.filter (· ≠ j) }
  | none => s

/-- Bytes 0-11 of a sheaf completion (R194). -/
def sheafCompletion (id outcome detail instant nExcl nRef : Nat) : List Byte :=
  leNat 2 id ++ leNat 1 outcome ++ leNat 1 detail ++ leNat 4 instant ++ leNat 2 (min 65535 nExcl)
    ++ leNat 2 nRef

/-- A sheaf completion waits for the completion queue of FCQ `q` (R194, R367). -/
def State.fcqComplete (q idx : Nat) (body : List Byte) (s : State) : State :=
  let cqn := (mapGet SubQ.dflt s.host.subq (128 + q)).cq
  { s with host.cq := mapMod ComplQ.dflt s.host.cq cqn fun c => { c with late := c.late ++ [⟨q, idx, s.host.nextOutcome, body⟩] }
           host.nextOutcome := s.host.nextOutcome + 1 }

/-- The flags of PARTIAL in DETAIL (R178). -/
def exclFlags (l : List (Nat × ExclCause)) : Nat :=
  flag (l.any (·.2 = .drive)) 0 ||| flag (l.any (·.2 = .heldElement)) 1
    ||| flag (l.any (·.2 = .failedCell)) 2

/-- The notice policy selects a sheaf (14 R417). -/
def noticed (policy : Nat) (x : Sheaf) : Bool :=
  policy = 3 || policy = 1 && decide (0xF000 ≤ x.id) || policy = 2 && bit x.hostTag 31

/-- A notice of a sheaf on a unit in control waits for sending: KIND 1 ARMED, 2 CANCELLED, 3 OUTCOME. At
most 32 wait (14 R417). -/
def State.noticeFor (x : Sheaf) (kind outcome : Nat) (s : State) : State :=
  if !s.inControl || !noticed s.hedge.policy x then s
  else if 32 ≤ s.hedge.queue.length then
    { s with hedge.ctr := mapMod 0 s.hedge.ctr 26 fun c => min (2 ^ 64 - 1) (c + 1) }
  else
    { s with
      hedge.queue := s.hedge.queue ++ [{
        instant := x.instant, sheafId := BitVec.ofNat 16 x.id, stookId := BitVec.ofNat 16 x.stook
        kind := kind, outcome := BitVec.ofNat 8 outcome, hostTag := x.hostTag }] }

/-- Bits of DETAIL that a sheaf carries into any outcome but REFUSED and DEPENDENT: TAKEN_OVER and
CATCH_UP (R178). -/
def keptDetail (code detail own : Nat) : Nat :=
  if code = 0x0A || code = 0x0C then detail else detail ||| (own &&& 0x30)

/-- A sheaf reaches its outcome (R175). A completion is written for a sheaf that this unit answers for:
not for one that it holds from its partner (R190). A notice is queued (14 R417). A sheaf that has met its instant
keeps its arm slot for 2,000 ns from there (R170). -/
def State.outcome (id code detail : Nat) (s : State) : State :=
  match s.sheaves.store.find? fun x => x.id = id && x.phase ≠ .done with
  | none => s
  | some x =>
    let d := keptDetail code detail x.detail
    let s1 := (s.modSheaf id fun y => { y with phase := .done, outcome := code, detail := d, slot := if x.firedAt.isSome then y.slot else none }).freeSlot
      (if x.firedAt.isSome then none else x.slot)
    let s2 := s1.noticeFor x (if code = 6 then 2 else 3) (if code = 6 then 0 else code)
    match x.submitter with
    | .fcq q idx =>
      if x.mirrored then s2
      else s2.fcqComplete q idx (sheafCompletion id code d x.instant x.excluded.length x.nRefused)
    | _ => s2

/-- The path of input `i` in a plane, with its output, where both its VOAs are open. -/
def carriedPath (m : SMap Elem) (fs : List FailedCell) (plane i : Nat) :
    Option (List (Nat × Nat × CellPath) × Nat) :=
  if voaBlocked (mapGet Elem.park m (inVoa plane i)) then none
  else match tracePath m fs plane 19 i with
    | some (cs, j) => if voaBlocked (mapGet Elem.park m (outVoa plane j)) then none else some (cs, j)
    | none => none

/-- Sheaf `g` changes a cell of the path or a VOA of its ends (R164). -/
def Sheaf.touches (g : Sheaf) (plane i : Nat) (p : Option (List (Nat × Nat × CellPath) × Nat)) : Bool :=
  match p with
  | none => false
  | some (cs, j) =>
    g.changes.any fun c =>
      c.element = inVoa plane i || c.element = outVoa plane j ||
      (isGate c.element && planeOf c.element = plane &&
        cs.any fun k => k.1 = localOf c.element / 512 && k.2.1 = localOf c.element % 512 / 2)

/-- Sheaf `g` depends on sheaf `f` by a cell or by a connection (R164). A PARTIAL sheaf counts only
with the cells of its exclusions. -/
def State.dependsOn (s : State) (g f : Sheaf) : Bool :=
  let cells := if f.excluded = [] then f.cells
    else (f.excluded.filter fun p => isGate p.1).map fun p => p.1 - p.1 % 2
  let base := s.viewAt f.instant f.id
  let without := if f.pending then s.applyAll base f else base
  let with_ := s.applyAll base { f with excluded := [] }
  (g.cells.any cells.contains) ||
  [0, 1].any fun pl => (List.range 512).any fun i =>
    let a := carriedPath without s.fabric.failed pl i
    let b := carriedPath with_ s.fabric.failed pl i
    a ≠ b && (g.touches pl i a || g.touches pl i b)

/-- The cut-off of a sheaf has passed (R168). -/
def State.pastCutoff (s : State) (x : Sheaf) : Bool := decide (x.instant ≤ s.now + 2000)

/-- One later sheaf re-evaluated after `f` was not applied in full (R164). Answers the state and the
IDs that end with it. -/
def State.reevaluateOne (f : Sheaf) (s : State) (g : Sheaf) : State × List Nat :=
  if !g.mirrored && g.basis.contains f.id && s.dependsOn g f then
    match s.fabricReason g with
    | none => (s, [])
    | some r =>
      if s.pastCutoff g then (s.modSheaf g.id fun y => { y with detail := y.detail ||| 64 }, [])
      else (s.outcome g.id 0x0C r, [g.id])
  else (s, [])

/-- Every later sheaf re-evaluated. -/
def State.reevaluate (f : Sheaf) (s : State) : State × List Nat :=
  (byInstant (s.sheaves.store.filter fun g => g.pending && decide (f.instant < g.instant))).foldl
    (fun p g => let q := p.1.reevaluateOne f g; (q.1, p.2 ++ q.2)) (s, [])

/-- A stook runs while a member of it has not reached its outcome (R188, R189). -/
def State.stookRuns (s : State) (id : Nat) : Bool :=
  s.sheaves.store.any fun x => x.phase ≠ .done && x.submitter = .stook id

/-- Under STOP a member that is not DONE stops its stook; every later member not yet at its cut-off, which the
commit register can still withhold (R168), is ABANDONED (R188). -/
def State.stopStook (f : Sheaf) (s : State) : State × List Nat :=
  match s.sheaves.stooks.find? fun k => k.id = f.stook && k.running && f.stook ≠ 0 with
  | none => (s, [])
  | some k =>
    if k.stop && f.submitter = .stook k.id then
      let ids := (s.sheaves.store.filter fun g =>
        g.pending && g.submitter = .stook k.id && decide (f.step < g.step) && !s.pastCutoff g).map (·.id)
      let s1 := ids.foldl (fun t i => t.outcome i 0x08 0) s
      ({ s1 with
        sheaves.stooks := s1.sheaves.stooks.map fun y =>
          if y.id = k.id then { y with running := false } else y }, ids)
    else (s, [])

/-- The consequences of sheaves that were not applied in full, to their end (R164, R188). -/
def State.settle : Nat → List Nat → State → State
  | 0, _, s => s
  | _, [], s => s
  | n + 1, id :: ids, s =>
    match s.sheaf? id with
    | none => State.settle n ids s
    | some f =>
      let a := s.reevaluate f
      let b := if f.phase = .done then a.1.stopStook f else (a.1, [])
      State.settle n (ids ++ a.2 ++ b.2) b.1

/-- A sheaf ends without being applied in full, with what follows from it. -/
def State.failSheaf (id code detail : Nat) (s : State) : State :=
  (s.outcome id code detail).settle (2 * s.sheaves.store.length + 2) [id]

/-- Several sheaves end with one outcome. -/
def State.failSheaves (ids : List Nat) (code : Nat) (s : State) : State :=
  (ids.foldl (fun t i => t.outcome i code 0) s).settle (2 * s.sheaves.store.length + 2) ids

/-- The connection map with, at an output whose planes carry different inputs, the input of the map before, where one
of them still carries it, else that of plane A (DESIGN CHOICE, log 10). -/
def State.keptMap (s : State) : List (Option Nat) :=
  (List.range 512).map fun j =>
    let a := carried s.loops.elems s.fabric.failed 0 j
    let b := carried s.loops.elems s.fabric.failed 1 j
    let old := s.fabric.map.getD j none
    if a.isSome && b.isSome && a ≠ b then (if old = a || old = b then old else a) else mapInput a b

/-- HALF_LIT is found again for every output; each rising edge is an event of its source (R81). -/
def State.refreshMap (s : State) : State :=
  let h := halfLitOutputs s.loops.elems s.fabric.failed
  let fresh := h.filter fun j => !s.fabric.halfLit.contains j
  let s1 := { s with
    fabric.halfLit := h, fabric.map := s.keptMap, fabric.carrying := carryingCells s.loops.elems s.fabric.failed
    fabric.lastCarried := mapModAll 0 (fun _ _ => s.upNs) s.fabric.carrying s.fabric.lastCarried }
  if fresh = [] then s1 else s1.raiseN 153 fresh.length

/-! Hold causes and the sample that follows an instant (05 R140). -/

/-- The start of the last loop frame in which the strobe of an element's slot has come, and that strobe in ns, rounded
down (04 R116). -/
def State.strobe (s : State) (e : Nat) : Option (Nat × Nat) :=
  let c := (125 * slotOf e + 1) / 2
  if s.now < c then none
  else
    let f := (s.now - c) / 1000 * 1000
    some (f, f + 125 * slotOf e / 2)

/-- The element has taken a sheaf's change and not come to a strobe since. -/
def State.unsampled (s : State) (e : Nat) (x : Elem) : Bool :=
  match x.since with
  | none => false
  | some p => match s.strobe e with
    | none => true
    | some t => decide (t.2 < p.instant)

/-- A hold cause other than SHEAF arises on the elements that `p` picks. A change whose sample is still to come is not
applied to them, and its sheaf lists them as held (05 R140, R176). -/
def State.supersede (p : Nat → Bool) (s : State) : State :=
  let hit := s.loops.elems.filter fun q => p q.1 && s.unsampled q.1 q.2
  if hit = [] then s
  else
    let of (id : Nat) : List (Nat × ExclCause) := (hit.filter fun q => q.2.since.any fun r => r.sheaf = id).map fun q => (q.1, ExclCause.heldElement)
    let ids := (hit.filterMap fun q => q.2.since.map (·.sheaf)).eraseDups
    let s1 := s.modElems (hit.map (·.1)) fun _ x => x.undone
    let s2 := ids.foldl (fun t id => t.modSheaf id fun y =>
      { y with excluded := y.excluded ++ of id, detail := y.detail ||| exclFlags (of id) }) s1
    (s2.settle (2 * s.sheaves.store.length + 2) ids).refreshMap

/-! The guard window (R180) and cycle offsets (02 R60). -/

/-- The cycle offset of a network time at or after the start of the current cycle. -/
def State.cycleOffset (s : State) (t : Nat) : Option Nat :=
  if s.tb.cycleValid && decide (s.tb.start ≤ t) then some (t - s.tb.start) else none

/-- The guard unit passes a sheaf (R180). -/
def State.guardPasses (s : State) (x : Sheaf) : Bool :=
  !x.gwEn ||
  match s.cycleOffset x.instant with
  | none => false
  | some o => decide (x.gwOpen ≤ o) && decide (o + 30 ≤ x.gwClose) && decide (x.gwClose ≤ s.tb.cycleC)

/-! The route solver (R183-R187). A route is a choice of states for some live cells; the solver compares all of them. -/

/-- A request to the solver: the connections that it adds, as input and output, the outputs that it releases, and the
cells that a repair addresses whatever state they keep (R164, R174). -/
structure SolveReq where
  instant : Nat
  move : Bool
  adds : List (Nat × Nat) := []
  release : List Nat := []
  fix : List Nat := []
  deriving DecidableEq, Repr, Inhabited

/-- What the request wants at an output: `none` where it leaves the output as it is. -/
def SolveReq.wants (r : SolveReq) (j : Nat) : Option (Option Nat) :=
  match r.adds.find? fun p => p.2 = j with
  | some p => some (some p.1)
  | none => if r.release.contains j then some none else none

/-- The cells of both planes that are not failed, by lead gate. -/
def liveCells (fs : List FailedCell) : List Nat :=
  [0, 1].flatMap fun pl => (List.range 19).flatMap fun st => ((List.range 256).filter fun c => (failedAt fs pl st c).isNone).map (gateAt pl st)

/-- Every choice of states for some of the cells: the lead gate, and true for CROSS. -/
def cellChoices : List Nat → List (List (Nat × Bool))
  | [] => [[]]
  | g :: gs => (cellChoices gs).flatMap fun l => [l, (g, false) :: l, (g, true) :: l]

/-- Every sublist. -/
def sublists {α : Type} : List α → List (List α)
  | [] => [[]]
  | x :: xs => (sublists xs).map (x :: ·) ++ sublists xs

/-- The order in which a smaller cost comes first. -/
def cheaper (a b : Nat × Nat × Nat) : Bool :=
  decide (a.1 < b.1) || a.1 = b.1 && (decide (a.2.1 < b.2.1) || a.2.1 = b.2.1 && decide (a.2.2 < b.2.2))

/-- The first entry of least cost. -/
def cheapest {α : Type} : List ((Nat × Nat × Nat) × α) → Option ((Nat × Nat × Nat) × α)
  | [] => none
  | x :: xs => match cheapest xs with
    | none => some x
    | some y => if cheaper y.1 x.1 then some y else some x

/-- The set-point that the solver asks for: the one of the element's calibration (DEDUCED, log 10). -/
def State.solverTarget (s : State) (e : Nat) : Nat := fld (s.image e).prm.w6 15 0

/-- A change of the solver: an element locked in a state, or a VOA at BLOCK. -/
def State.lockChange (s : State) (e : Nat) (cross : Bool) : Change :=
  { element := e, mode := .lk, cross := cross, levelValid := false, level := 0, target := s.solverTarget e, slew := 0 }
def blockChange (e : Nat) : Change :=
  { element := e, mode := .ff, cross := false, levelValid := false, level := 0, target := 0, slew := 0 }

/-- Both gates of each chosen cell. -/
def State.cellChanges (s : State) (l : List (Nat × Bool)) : List Change :=
  l.flatMap fun p => [s.lockChange p.1 p.2, s.lockChange (p.1 + 1) p.2]

/-- The fabric with changes applied; a VOA that goes to BLOCK is taken to do so. -/
def State.withChanges (s : State) (t : Nat) (m : SMap Elem) (l : List Change) : SMap Elem :=
  l.foldl (fun m c =>
    let m1 := s.applyTo t m c
    if !isGate c.element && c.mode = .ff then mapMod Elem.park m1 c.element fun x => { x with block := true } else m1) m

/-- The input whose light reaches output `j` of a plane. -/
def lightSource (m : SMap Elem) (fs : List FailedCell) (plane j : Nat) : Option Nat :=
  (List.range 512).find? fun i => traced m fs plane i = some j

/-- The outputs, and the inputs, that are in a connection after the request. -/
def usedAfter (r : SolveReq) (before : SMap Elem) (fs : List FailedCell) : List Nat × List Nat :=
  let kept := (List.range 512).filter fun j => (r.wants j).isNone
  (r.adds.map (·.2) ++ kept.filter fun j => (carried before fs 0 j).isSome || (carried before fs 1 j).isSome,
   r.adds.map (·.1) ++ kept.flatMap fun j => (carried before fs 0 j).toList ++ (carried before fs 1 j).toList)

/-- The VOAs of a list of fibres at one end, in both planes. -/
def bothPlanes (f : Nat → Nat → Nat) (l : List Nat) : List Nat := l.eraseDups.flatMap fun i => [f 0 i, f 1 i]

/-- The changes of the preparatory sheaf and of the main one for a choice of cells (R185, R85, R89). The preparatory one
takes cells out of PARK and opens VOAs of added fibres: those of an output only where the light that it receives
until I comes from an input whose VOA is at BLOCK. The main one holds every other change, with BLOCK for each fibre that
is left idle. -/
def State.routeChanges (r : SolveReq) (before : SMap Elem) (choice : List (Nat × Bool)) (s : State) : List Change × List Change :=
  let fs := s.fabric.failed
  let used := usedAfter r before fs
  let shut (e : Nat) : Bool := voaBlocked (mapGet Elem.park before e)
  let parked (p : Nat × Bool) : Bool := (mapGet Elem.park before p.1).mode = .pk && (mapGet Elem.park before (p.1 + 1)).mode = .pk
  let first := s.cellChanges (choice.filter parked) ++ ((bothPlanes inVoa used.2).filter shut).map fun e => s.lockChange e false
  let mid := s.withChanges r.instant before first
  let early := used.1.eraseDups.filter fun j => [0, 1].all fun pl =>
    match lightSource mid fs pl j with
    | some i => voaBlocked (mapGet Elem.park mid (inVoa pl i))
    | none => false
  let late := used.1.filter fun j => !early.contains j
  let idleIn := (List.range 512).filter fun i => !used.2.contains i
  let idleOut := (List.range 512).filter fun j => !used.1.contains j
  (first ++ ((bothPlanes outVoa early).filter shut).map fun e => s.lockChange e false,
   s.cellChanges (choice.filter fun p => !parked p) ++ ((bothPlanes outVoa late).filter shut).map (fun e => s.lockChange e false) ++
    ((bothPlanes inVoa idleIn ++ bothPlanes outVoa idleOut).filter fun e => !shut e).map blockChange)

/-- Connections outside the request whose path changes in some plane (R94, R183). -/
def movedOutside (r : SolveReq) (fs : List FailedCell) (before after : SMap Elem) : Nat :=
  ((List.range 512).filter fun i => [0, 1].any fun pl =>
    match carriedPath before fs pl i, carriedPath after fs pl i with
    | some a, some b => (r.wants a.2).isNone && a.2 = b.2 && a.1 ≠ b.1
    | _, _ => false).length

/-- A route gives the request (R80, R81, R183): at the outputs that it names both planes carry what it asks for, at
every other each plane carries the input that it did, and no output is HALF_LIT between its two sheaves that was not
before. Under KEEP nothing outside the request moves. -/
def routeGives (r : SolveReq) (fs : List FailedCell) (before mid after : SMap Elem) : Bool :=
  ((List.range 512).all fun j => match r.wants j with
    | some o => carried after fs 0 j = o && carried after fs 1 j = o
    | none => carried after fs 0 j = carried before fs 0 j && carried after fs 1 j = carried before fs 1 j) &&
  ((halfLitOutputs mid fs).all fun j => (halfLitOutputs before fs).contains j) &&
  (r.move || decide (movedOutside r fs before after = 0))

/-- A route of the solver: its changes, and the fabric before the request, as the main sheaf meets it, and after. -/
structure Route where
  prep : List Change
  main : List Change
  before : SMap Elem
  mid : SMap Elem
  after : SMap Elem

/-- The route of a choice of cells, where it gives the request. -/
def State.routeOf (r : SolveReq) (before : SMap Elem) (s : State) (choice : List (Nat × Bool)) : Option ((Nat × Nat × Nat) × Route) :=
  let c := s.routeChanges r before choice
  let mid := s.withChanges (r.instant - s.sheaves.prepLead) before c.1
  let after := s.withChanges r.instant mid c.2
  if (r.fix.all fun g => choice.any fun p => p.1 = g) && routeGives r s.fabric.failed before mid after then
    some ((movedOutside r s.fabric.failed before after, choice.length, Config.solverRank (choice.map fun p => (p.1, p.2))), ⟨c.1, c.2, before, mid, after⟩)
  else none

/-- The routes of a request (R184). -/
def State.routes (r : SolveReq) (s : State) : List ((Nat × Nat × Nat) × Route) :=
  (cellChoices (liveCells s.fabric.failed)).filterMap (s.routeOf r (s.viewAt r.instant 0))

/-- The next firmware sheaf IDs that no sheaf holds (R159). -/
def State.fwIds (s : State) : List Nat :=
  ((List.range 4096).map fun i => 0xF000 + (s.sheaves.nextFwId - 0xF000 + i) % 4096).filter fun id =>
    !s.sheaves.store.any fun x => x.phase ≠ .done && x.id = id

/-- A sheaf that the solver stages. -/
def solverSheaf (id : Nat) (prep : Bool) (instant : Nat) (l : List Change) : Sheaf :=
  { id := id, prep := prep, rel := false, gwEn := false, instant := instant, gwOpen := 0, gwClose := 0, cover := 0, stook := 0
    step := 0, hostTag := 0, changes := l, submitter := .firmware }

/-- The sheaves of a route, at most two (R185): PREP is set in the preparatory one, which is there where it is needed. -/
def State.routeSheaves (r : SolveReq) (x : Route) (s : State) : List Sheaf :=
  match s.fwIds with
  | a :: b :: _ =>
    (if x.prep = [] then [] else [solverSheaf a true (r.instant - s.sheaves.prepLead) x.prep]) ++
    (if x.main = [] then [] else [solverSheaf (if x.prep = [] then a else b) false r.instant x.main])
  | _ => []

/-- Sheaves staged in turn, or the reason of R162 for which one of them is refused. -/
def State.stageAll : List Sheaf → State → State × Option Nat
  | [], s => (s, none)
  | x :: xs, s => match s.sheafReason x false with
    | some e => (s, some e)
    | none => State.stageAll xs { s.acceptSheaf x with sheaves.nextFwId := 0xF000 + (x.id - 0xF000 + 1) % 4096 }

/-- The route that the solver chooses (R184): the fewest connections moved outside the request, then the fewest
cells, then the order of the firmware version; one whose sheaves R162 takes before one whose sheaves it refuses. -/
def State.chooseRoute (r : SolveReq) (s : State) : Option Route :=
  let l := s.routes r
  let staged := l.filter fun x => match (s.stageAll (s.routeSheaves r x.2)).2 with
    | none => true
    | some e => e = 8
  ((cheapest staged).orElse fun _ => cheapest l).map (·.2)

/-- The connections that a request which cannot be carried names (R183): those outside a largest part of it that can. -/
def State.refusedPairs (r : SolveReq) (s : State) : List (Nat × Nat) :=
  let drop (sub : List (Nat × Nat)) := r.adds.filter fun p => !sub.contains p
  let can := (sublists r.adds).filter fun sub => s.routes { r with adds := sub, release := r.release ++ (drop sub).map (·.2) } |>.isEmpty |> not
  match cheapest (can.map fun sub => (((drop sub).length, 0, 0), sub)) with
  | some p => drop p.2
  | none => r.adds

/-- BLINK (R187): the largest sum of trigger-to-edge delay and settling over the gates on the connection's path in
either plane that change state. -/
def State.blinkOf (s : State) (before after : SMap Elem) (i : Nat) : Nat :=
  let gates := [0, 1].flatMap fun pl => match carriedPath after s.fabric.failed pl i with
    | some (cs, _) => cs.flatMap fun k => [gateAt pl k.1 k.2.1, gateAt pl k.1 k.2.1 + 1]
    | none => []
  ((gates.filter fun g => (mapGet Elem.park before g).cross ≠ (mapGet Elem.park after g).cross).map fun g =>
    (s.image g).delay + (s.image g).settling).foldl max 0

/-- The connections of a fabric, as input and output. -/
def connections (m : SMap Elem) (fs : List FailedCell) : List (Nat × Nat) :=
  (connectionMap m fs).zipIdx.filterMap fun p => p.1.map fun i => (i, p.2)

/-- An entry of the report for the connection `p` (R186), of kind 0 ADDED, 1 REMOVED, 2 REPOINTED, 3 MOVED. An ADDED
connection with a VOA that the main sheaf opens meets R92 once that VOA has settled, 60 µs at most; any other within 6 µs
of the instant where a gate of its path changes there (R93), else from the instant (DEDUCED, log 10). -/
def State.reportEntry (s : State) (r : SolveReq) (ids : Nat × Nat) (x : Route) (kind : Nat) (p : Nat × Nat) : ReportEntry :=
  let fs := s.fabric.failed
  let differs (pl : Nat) : Bool := carriedPath x.before fs pl p.1 ≠ carriedPath x.after fs pl p.1
  let shut := [inVoa 0 p.1, inVoa 1 p.1, outVoa 0 p.2, outVoa 1 p.2].any fun e => voaBlocked (mapGet Elem.park x.mid e)
  let blink := s.blinkOf x.mid x.after p.1
  let usable := if shut then r.instant + 60000 else if blink = 0 then r.instant else r.instant + 6000
  [(p.1 : Int), p.2, kind, ((flag (differs 0) 0 + flag (differs 1) 1 : Nat) : Int), ((if kind < 2 then 0 else blink : Nat) : Int),
    ((if kind = 0 then usable else 0 : Nat) : Int), ids.2, ids.1]

/-- The report of a solver answer (R186): a connection of which one endpoint was in a connection before is REPOINTED. -/
def State.solverReport (s : State) (r : SolveReq) (ids : Nat × Nat) (x : Route) : List ReportEntry :=
  let fs := s.fabric.failed
  let old := connections x.before fs
  let new := connections x.after fs
  (new.filterMap fun p =>
    if old.contains p then
      if [0, 1].any fun pl => carriedPath x.before fs pl p.1 ≠ carriedPath x.after fs pl p.1 then some (s.reportEntry r ids x 3 p) else none
    else some (s.reportEntry r ids x (if old.any fun q => q.1 = p.1 || q.2 = p.2 then 2 else 0) p)) ++
  (old.filter fun p => !new.any fun q => q.1 = p.1 || q.2 = p.2).map (s.reportEntry r ids x 1)

/-- The sheaf IDs of a report: of the preparatory sheaf and of the main one, 0 for none. -/
def reportIds (l : List Sheaf) : Nat × Nat :=
  (((l.find? (·.prep)).map (·.id)).getD 0, ((l.find? fun x => !x.prep).map (·.id)).getD 0)

/-- The cells that a fabric leaves with their gates apart, but for failed ones. -/
def mixedCells (m : SMap Elem) (fs : List FailedCell) : List Nat :=
  (liveCells fs).filter fun g => pathOfGates (mapGet Elem.park m g) (mapGet Elem.park m (g + 1)) = .mixed

/-- A repair at an instant (R100, R164): the solver under MOVE for the connections that are HALF_LIT then and for the cells
of `fix`, as many of those connections as can be carried. -/
def State.repairAt (fix : List Nat) (s : State) (instant : Nat) : Option State :=
  let fs := s.fabric.failed
  let before := s.viewAt instant 0
  let pairs := (halfLitOutputs before fs).filterMap fun j =>
    ((mapInput (carried before fs 0 j) (carried before fs 1 j)).orElse fun _ => s.fabric.map.getD j none).map fun i => (i, j)
  let cells := ((fix ++ mixedCells before fs).eraseDups).filter (liveCells fs).contains
  let tries := (sublists pairs).filterMap fun sub =>
    if sub = [] && cells = [] then none
    else
      let r : SolveReq := { instant := instant, move := true, adds := sub, fix := cells }
      (s.chooseRoute r).bind fun x =>
        match s.stageAll (s.routeSheaves r x) with
        | (t, none) => some ((pairs.length - sub.length, 0, 0), t)
        | (_, some _) => none
  (cheapest tries).map (·.2)

/-- Automatic repair (R100): at the first instant, at least the repair lead time ahead, at which its sheaves can be
staged. -/
def State.autoRepair (fix : List Nat) (s : State) : State :=
  if s.fabric.repairOn && s.inControl && (s.fabric.halfLit ≠ [] || fix ≠ []) then
    ((List.range (s.sheaves.prepLead / 1000 + 2 * s.sheaves.store.length + 64)).findSome? fun k =>
      s.repairAt fix (s.now + s.fabric.repairLead + 1000 * k)).getD s
  else s

/-! Failed cells (03_fabric R96-R100). -/

/-- Both gates of a cell go where the kind of failure sends them (R96). -/
def State.driveFailed (plane stage cell : Nat) (kind : FailKind) (s : State) : State :=
  let g := gateAt plane stage cell
  s.modElems [g, g + 1] fun _ x => match kind with
    | .dark => x.parked s.now
    | _ => { (if x.held then x else x.freeze s.now) with cCell := true }

/-- What a declaration does to the sheaves that change the cell (R99). -/
def State.withdrawFor (g : Nat) (s : State) : State :=
  let hit := s.sheaves.store.filter fun x => x.pending && x.cells.contains g
  let gone := (hit.filter fun x => decide (s.now + 2000 < x.instant)).map (·.id)
  let kept := hit.filter fun x => !decide (s.now + 2000 < x.instant) && x.phase = .committed
  let s1 := kept.foldl (fun t x => t.modSheaf x.id fun y =>
    { y with
      excluded := y.excluded ++ ((y.changes.filter fun c => c.cellKey = some g).map
        fun c => (c.element, ExclCause.failedCell)) }) s
  (s1.failSheaves gone 0x07).settle (2 * s.sheaves.store.length + 2) (kept.map (·.id))

/-- A cell is declared failed (R97-R100). The list of a plane holds 256 cells. -/
def State.declareFailed (plane stage cell : Nat) (kind : FailKind) (ev : Evidence) (s : State) : State :=
  let others := s.fabric.failed.filter fun f => !(f.plane = plane && f.stage = stage && f.cell = cell)
  if 256 ≤ (others.filter fun f => f.plane = plane).length then s
  else
    let f : FailedCell := ⟨plane, stage, cell, kind, ev, s.now⟩
    let w := locFabric plane stage cell (match kind with | .stuckBar => 0 | .stuckCross => 1 | .dark => 2)
    let s1 := { s with fabric.failed := others ++ [f] }.logSubst 7
      (match ev with | .host => 4 | .calibration => 3 | _ => 2) 0xFFFF w w w 0 0 0
    (((s1.driveFailed plane stage cell kind).withdrawFor (gateAt plane stage cell)).refreshMap).autoRepair []

end Sys2Proof.Machine
end

