-- ==== Sys2Proof/Machine/NetOps.lean ====
section
/-! DEFINITION. Frames and their stores: check sums, fields of a frame, counters, occupancy, receive
queues, transmit classes and the outcomes of transmit chains: 08_network_ports and 12_host_queues. -/
namespace Sys2Proof.Machine

/-! Check sums. -/

/-- One byte into a reflected CRC. -/
def crcByte (poly c : Word) (b : Byte) : Word :=
  (List.range 8).foldl (fun c _ => if c.getLsbD 0 then (c >>> 1) ^^^ poly else c >>> 1)
    (c ^^^ b.setWidth 32)

/-- A reflected CRC with initial value and final XOR all ones. -/
def crc (poly : Word) (bs : List Byte) : Word := ~~~ bs.foldl (crcByte poly) 0xFFFFFFFF#32

/-- CRC-32C with the Castagnoli polynomial (11 R322). -/
def crc32c (bs : List Byte) : Word := crc 0x82F63B78#32 bs

/-- The frame check sequence of IEEE 802.3. -/
def withFcs (bs : List Byte) : List Byte := bs ++ leBytes (crc 0xEDB88320#32 bs)

/-- A frame without its last four bytes. -/
def noFcs (bs : List Byte) : List Byte := bs.take (bs.length - 4)

/-! Fields of a frame (08 R240, 10 R290). -/

/-- Two bytes, the first the more significant. -/
def be16 (bs : List Byte) (i : Nat) : Nat := (byteAt bs i).toNat * 256 + (byteAt bs (i + 1)).toNat

/-- A recognised TPID. -/
def isTpid (n : Nat) : Bool := n = 0x8100 || n = 0x88A8

/-- Number of recognised tags from byte `i`, looking at no more than `n`. -/
def countTags (bs : List Byte) : Nat → Nat → Nat
  | 0, _ => 0
  | n + 1, i => if isTpid (be16 bs i) && decide (i + 2 ≤ bs.length) then 1 + countTags bs n (i + 4) else 0

/-- Tags of a frame. -/
def tagsOf (bs : List Byte) : Nat := countTags bs (bs.length / 4) 12

/-- The offset of the first type field that is not a recognised TPID. -/
def typeAt (bs : List Byte) : Nat := 12 + 4 * tagsOf bs

/-- EtherType. -/
def etherType (bs : List Byte) : Nat := be16 bs (typeAt bs)

/-- The outer tag's control field. -/
def outerTci (bs : List Byte) : Nat := be16 bs 14

/-- The number in the frame's R-TAG, recognised behind at most two tags (10 R290). -/
def rtagOf (bs : List Byte) : Option Nat :=
  if tagsOf bs ≤ 2 && decide (etherType bs = 0xF1C1) then some (be16 bs (typeAt bs + 4)) else none

/-- `n` bytes at `i` replaced by `new`. -/
def spliced (bs : List Byte) (i n : Nat) (new : List Byte) : List Byte :=
  bs.take i ++ new ++ bs.drop (i + n)

/-- Two bytes of a number, the more significant first. -/
def be16Bytes (n : Nat) : List Byte := [BitVec.ofNat 8 (n / 256), BitVec.ofNat 8 n]

/-- The R-TAG removed, if any; the argument has no FCS. -/
def dropRtag (bs : List Byte) : List Byte :=
  if (rtagOf bs).isSome then spliced bs (typeAt bs) 6 [] else bs

/-- An R-TAG inserted after the last tag (10 R290). -/
def addRtag (seq : Nat) (bs : List Byte) : List Byte :=
  spliced bs (typeAt bs) 0 (be16Bytes 0xF1C1 ++ be16Bytes 0 ++ be16Bytes seq)

/-- The outer VLAN ID replaced, or a tag added (10 R285). -/
def setVid (vid tc : Nat) (bs : List Byte) : List Byte :=
  if 0 < tagsOf bs then spliced bs 14 2 (be16Bytes (outerTci bs / 4096 * 4096 + vid))
  else spliced bs 12 0 (be16Bytes 0x8100 ++ be16Bytes (tc * 8192 + vid))

/-! Times. -/

/-- Network time in ps. -/
def State.nowPs (s : State) : Nat := s.tb.counter.toNat * 1000 / 2 ^ 32

/-- Elapsed time in ps: what a path takes is counted in it (08 R228). -/
def State.upPs (s : State) : Nat := s.up * 100

/-- A byte time of a line mode in ps (08 R228); 0 while disabled. -/
def byteTime (mode : Nat) : Nat :=
  if mode = 1 || mode = 2 then 8000 else if mode = 3 then 3200 else if mode = 4 then 800
  else if mode = 5 then 320 else 0

/-- A quantum of a line mode in ps (08 R247). -/
def quantumPs (mode : Nat) : Nat := 64 * byteTime mode

/-! Ports. -/

/-- Port `p`. -/
def State.prt (s : State) (p : Nat) : Port := mapGet Port.dflt s.ports.port p
def State.modPort (p : Nat) (f : Port → Port) (s : State) : State :=
  { s with ports.port := mapMod Port.dflt s.ports.port p f }

/-- Counter `i` of a port gains `n` (08 R251, R252); counters saturate. -/
def Port.count (i n : Nat) (p : Port) : Port :=
  { p with ctr := mapMod 0 p.ctr i fun c => min (2 ^ 64 - 1) (c + n)
           tick := mapMod 0 p.tick i fun c => min (2 ^ 64 - 1) (c + n) }
def State.count (p i n : Nat) (s : State) : State := s.modPort p (Port.count i n)

/-- MAX_LEN in bytes (08 R236). -/
def maxLenOf (c : BitVec 2) : Nat := if c = 0 then 1522 else if c = 1 then 2000 else 9216
def Port.maxLen (p : Port) : Nat := maxLenOf p.cfg.maxLen

/-- MAX_LEN for a frame whose first octet arrives at an elapsed time in ps (08 R237). -/
def Port.maxLenAt (p : Port) (ps : Int) : Nat :=
  match p.maxLenWas with
  | some (t, c) => if ps < 100 * (t : Int) then maxLenOf c else p.maxLen
  | none => p.maxLen

/-- The source address of a port (08 R231). -/
def State.portAddress (s : State) (p : Nat) : BitVec 48 :=
  let x := s.prt p
  if x.addressSet then x.cfg.address
  else BitVec.ofNat 48 (0x02 * 2 ^ 40 + s.ident.serial.toNat % 2 ^ 38 * 4 + p)

/-- Sum of the lengths of byte lists. -/
def sizes (l : List (List Byte)) : Nat := (l.map (·.length)).sum

/-- Received frames of port `p` in a port's transmit path. -/
def Port.holds (p : Nat) (x : Port) : Nat :=
  sizes (((x.classes.flatMap (·.2)).filter fun f => f.ingress = some p).map (·.bytes)) +
  sizes (((x.wire.toList ++ x.held.toList).filter fun w => w.frame.ingress = some p).map (·.frame.bytes))

/-! Spare lanes (08 R232-R235): lane 1 is SL0 and lane 2 SL1. -/

/-- A spare lane is in use or has been powered down for good. -/
def State.spareTaken (s : State) (k : Nat) : Bool :=
  s.ports.port.any fun p => p.2.lane = k || p.2.dead.contains k || p.2.subst.any (·.lane = k)

/-- The mask of a spare lane (08 R233). -/
def State.spareMask (s : State) (k : Nat) : BitVec 4 := if k = 1 then s.ports.mask0 else s.ports.mask1

/-- SL0 if it is wired to the port and unused, and SL1 otherwise (08 R234). -/
def State.spareFor (s : State) (p : Nat) : Option Nat :=
  [1, 2].find? fun k => (s.spareMask k).getLsbD p && !s.spareTaken k

/-- Occupancy of port `p` (08 R244): bytes of its received frames, whatever queue holds them. A host copy of a frame that
host software sent through a stream is a received frame of no port. -/
def State.occupancy (s : State) (p : Nat) : Nat :=
  sizes ((mapGet [] s.rules.flight p).map (·.bytes)) +
  (s.host.subq.map fun q => sizes ((q.2.waiting.filter fun w => w.port = p && w.ts.isSome).map (·.bytes))).sum +
  (s.ports.port.map fun x => x.2.holds p).sum

/-- Pause generation looks at the occupancy of a port (08 R245, R248, R254): the first pause at HIGH at the end of a stored
frame, with which new watermarks are evaluated, and a pause_time 0 below LOW. -/
def State.pauseCheck (stored : Bool) (p : Nat) (s : State) : State :=
  let x0 := s.prt p
  let x := if stored then { x0 with marks := (x0.pause.high, x0.pause.low) } else x0
  let occ := s.occupancy p
  let below := decide (occ < x.marks.2)
  let x1 := if x.txpTripped && below then { x with txpTripped := false } else x
  if !x.pause.generate then s.modPort p fun _ => { x1 with ownPauseSince := none }
  else match x1.ownPauseSince with
    | none =>
      if stored && !x1.txpTripped && decide (x.marks.1 ≤ occ) then
        s.modPort p fun _ => { x1 with ownPauseSince := some s.up, lastPauseAt := s.up, pauseDue := some x.pause.pq }
      else s.modPort p fun _ => x1
    | some _ =>
      if below then s.modPort p fun _ => { x1 with ownPauseSince := none, pauseDue := some 0 }
      else s.modPort p fun _ => x1

/-- Pause generation looks at every port: frames have left the buffer. -/
def State.pauseChecks (s : State) : State := [0, 1, 2, 3].foldl (fun t p => t.pauseCheck false p) s

/-! Receive queues (12 R368, R369). -/

/-- Keys of the submission queues: TXQ 0-63, RXQ 64-127, FCQ 128-143. -/
def QId.key (q : QId) : Nat :=
  match q.kind with
  | .tx => q.idx
  | .rx => 64 + q.idx
  | .fcq => 128 + q.idx
/-- Numbers of the queue exist. -/
def QId.ok (q : QId) : Bool :=
  match q.kind with
  | .fcq => decide (q.idx < 16)
  | _ => decide (q.idx < 64)

/-- A submission queue. -/
def State.sub (s : State) (k : Nat) : SubQ := mapGet SubQ.dflt s.host.subq k
def State.modSub (k : Nat) (f : SubQ → SubQ) (s : State) : State :=
  { s with host.subq := mapMod SubQ.dflt s.host.subq k f }

/-- All completion slots are in use, and one of them holds a completion that waits (R366). -/
def SubQ.stalled (q : SubQ) : Bool := decide (64 ≤ q.slots.length) && q.slots.any (·.ready)

/-- Entries published and not yet fetched. -/
def SubQ.published (q : SubQ) : Nat := (q.tail - q.fetch).toNat

/-- Entries that a stored frame needs (R368). -/
def SubQ.needs (q : SubQ) (len : Nat) : Nat :=
  let unit := q.bufUnits * 256
  if unit = 0 then 0 else (len + unit - 1) / unit

/-- A reservation may be tried: RUNNING, not STALLED, and memory requests allowed. -/
def State.reserving (s : State) (q : SubQ) : Bool := q.state = .running && !q.stalled && s.canMaster

/-- `n` more bytes of received frames of port `p` fit its share of the packet buffer (08 R238, R244). -/
def State.storable (s : State) (p n : Nat) : Bool :=
  !s.power.classF && decide (s.occupancy p + n ≤ (s.prt p).pause.share)

/-- A stored frame or copy is delivered to RXQ `q` (12 R343, R368, R369), within the share of the queue, unless the queue
drops it. -/
def State.toHost (q : Nat) (w : RxWait) (s : State) : State :=
  let k := 64 + q
  let x := s.sub k
  let held := sizes (x.waiting.map (·.bytes))
  if x.qshare * 4096 < held + w.bytes.length then
    { s with cycle.shareDrops := mapMod 0 s.cycle.shareDrops k (· + 1) }.modSub k fun x =>
      { x with shareDrop := min 65535 (x.shareDrop + 1) }
  else
    let atOnce := x.waiting = [] && decide (x.needs w.len ≤ x.published)
    if s.reserving x && !atOnce && (x.dropping || decide (x.dropDelay = 0)) then
      { s with cycle.delayDrops := mapMod 0 s.cycle.delayDrops k (· + 1) }.modSub k fun x => { x with delayDrop := min 65535 (x.delayDrop + 1), dropping := true }
    else
      let w1 := { w with firstFail := if s.reserving x && !atOnce then some s.up else none }
      let s1 := s.modSub k fun x => { x with waiting := x.waiting ++ [w1] }
      if !s.canMaster && x.enable then s1.trigger (mapGet ComplQ.dflt s.host.cq x.cq).vector else s1

/-- A frame or copy is stored for RXQ `q`: whole, within the share of its port (08 R238). -/
def State.storeToHost (q : Nat) (w : RxWait) (s : State) : State :=
  if s.storable w.port w.bytes.length then s.toHost q w else s.count w.port 17 1

/-- A stored frame as a receive queue delivers it: the FCS stripped where the port says so (08 R238). -/
def State.rxCopy (s : State) (port : Nat) (bytes : List Byte) (ts : Option Nat) (source tag seq : Nat)
    (flags : Byte) : RxWait :=
  let strip := (s.prt port).cfg.stripFcs && !flags.getLsbD 3
  let b := if strip then noFcs bytes else bytes
  { bytes := b, len := b.length, flags := flags, port := port, ts := ts, source := source
    stripped := strip, tag := tag, seq := seq }

/-! Transmit classes and outcomes (09 R255, 12 R355, R357). -/

/-- A frame joins the first-in, first-out queue of its class. -/
def State.enqueue (p : Nat) (f : TxFrame) (s : State) : State :=
  s.modPort p fun x => { x with classes := mapMod [] x.classes f.tc fun l => l ++ [f] }

/-- Bytes 0-11 of a transmit completion (R357). -/
def txBody (x : Slot) : List Byte :=
  let tv := if x.tsReq then x.ts else none
  leNat 2 x.len ++ leNat 1 x.tstatus ++
    leNat 1 (match tv with | some (p, _) => 1 + 2 * p | none => 0) ++
    leNat 4 (match tv with | some (_, t) => t % 2 ^ 32 | none => 0) ++ leNat 4 0

/-- A completion that is never merged into the next one (R355). -/
def Slot.unmerged (x : Slot) : Bool := x.cmpl || decide (x.tstatus ≠ 0) || x.tsReq

/-- The chain in a slot of TXQ `k` has its outcome: its completion is ready, or it is merged and the
slot is free (R355). -/
def SubQ.txReady (frame : Nat) (q : SubQ) : SubQ :=
  match q.slots.find? fun x => x.frame = frame && !x.ready && decide (x.copies = 0) with
  | none => q
  | some x =>
    if x.unmerged then
      { q with slots := q.slots.map fun y => if y = x then { y with ready := true, body := txBody y } else y }
    else { q with slots := q.slots.filter (· ≠ x), merged := q.merged ++ [x.lastIdx] }

/-- One copy of the slot's frame has ended (R357). -/
def Slot.copyDone (port st : Nat) (stamp : Option Nat) (x : Slot) : Slot :=
  { x with
    copies := x.copies - 1
    tstatus := if st = 0 || x.ts.isSome then 0 else st
    ts := match x.ts, stamp with
      | none, some t => some (port, t)
      | some (p, u), some t => if port < p then some (port, t) else some (p, u)
      | o, none => o }

/-- One copy of a chain's frame has left the device, or was discarded with TSTATUS `st` (R357). A
chain of which some copy was sent completes SENT (DEDUCED, log 20). -/
def State.copyDone (owner : Option (Nat × Nat)) (port : Nat) (st : Nat) (stamp : Option Nat) (s : State) : State :=
  match owner with
  | none => s
  | some (k, frame) =>
    s.modSub k fun q => SubQ.txReady frame
      { q with slots := q.slots.map fun x =>
          if x.frame = frame && !x.ready then x.copyDone port st stamp else x }

end Sys2Proof.Machine
end

