-- ==== Sys2Proof/Machine/TimeOps.lean ====
section
/-! DEFINITION. The timebase: the servo, sources, the single step, the schedule cycle and SYNC_IN
(02_network_time R45-R70). -/
namespace Sys2Proof.Machine

/-- SOURCE as R51 encodes it. -/
def Source.code : Source → Nat
  | .none => 0 | .gptp => 1 | .hedge => 2

/-- The source of a field value; 0b11 is reserved. -/
def sourceOf (n : Nat) : Option Source :=
  if n = 0 then some .none else if n = 1 then some .gptp else if n = 2 then some .hedge else none

/-- The limits of the increment, ±1,000 ppm of 6.4 ns in units of 2^-32 ns (R45). -/
def incrMin : Nat := (63936 * 2 ^ 32 + 9999) / 10000
def incrMax : Nat := 64064 * 2 ^ 32 / 10000

/-- An increment held within its limits (R45). -/
def clampIncr (n : Int) : BitVec 36 := BitVec.ofNat 36 (clampInt incrMin incrMax n).toNat

/-- The increment of the servo (R52) for a rate estimate in 10^-12, an offset in 1/16 ns and tau in
ms; in holdover the offset term is 0. r = num/den, clamped to ±1000e-6, and the increment is
6.4 ns × (1 + r) rounded to 2^-32 ns. -/
def servoIncr (rEst offset : Int) (tauMs : Nat) : BitVec 36 :=
  let den : Int := 16 * tauMs * 10 ^ 12
  let num := clampInt (-(den / 1000)) (den / 1000) (-(rEst * 16 * tauMs) - offset * 10 ^ 6)
  clampIncr (roundDiv (64 * 2 ^ 32 * (den + num)) (10 * den))

/-- θ at this moment: since its last correction it advances at its rate (14 R428). -/
def State.thetaNow (s : State) : Int :=
  s.hedge.theta + roundDiv (16 * s.hedge.rate * ((s.now : Int) - s.hedge.thetaAt)) (10 ^ 12)

/-- θ counted up to this moment. -/
def State.foldTheta (s : State) : State := { s with hedge.theta := s.thetaNow, hedge.thetaAt := s.now }

/-- A network time moved by a step of the counter by `d` ns. -/
def movedBy (d : Int) (t : Nat) : Nat := ((t : Int) + d).toNat

/-- The times that an element keeps follow a step of the counter by `d` ns: what it waits for lasts as long as before.
`old` and `new` are the starts of the loop frame that contains the step: an element samples once in it (R49; DEDUCED,
log 14). -/
def Elem.rebased (d : Int) (old new : Nat) (x : Elem) : Elem :=
  { x with
    attempt := x.attempt.map (movedBy d), uAt := movedBy d x.uAt, frame := if x.frame = some old then some new else none
    since := x.since.map fun m => { m with instant := movedBy d m.instant, attempt := m.attempt.map (movedBy d) } }

/-- Loop frames follow the stepped counter (R49 step 8): what waits for a frame start waits for the next one of the
stepped counter. `d` is the step in ns and `old` the network time before it. -/
def State.rebaseLoops (d : Int) (old : Nat) (s : State) : State :=
  let next := (s.now / 1000 + 1) * 1000
  { s with
    loops.frames := s.loops.frames.map fun p => (next, p.2)
    loops.elems := mapListed Elem.park (fun _ x => x.rebased d (old / 1000 * 1000) (s.now / 1000 * 1000)) s.loops.elems
    power.holdFrame := movedBy d s.power.holdFrame, power.sleepFrame := movedBy d s.power.sleepFrame }

/-- The step of a tick (R47, R49 steps 7 to 9, R553): the counter takes `c` in place of adding the increment. The first
step sets STEPPED, and a later one counts as a re-anchor and answers its command. SYNC_OUT gives no edge for an instant
that the step passed over. Where the slots of Hedgerow keep their places on the bus, θ changes by −(d + S_old); d is
counted from the value that the tick would else have taken (DEDUCED, log 14). Staged sheaves whose instants the step
leaves less than 20 µs ahead complete LATE (06 R165). -/
def State.loadStep (c : BitVec 96) (s : State) : State :=
  let d16 : Int := roundDiv ((c.toNat : Int) - (s.tb.counter.toNat + s.tb.incr.toNat : Nat)) (2 ^ 28)
  let s1 := s.foldTheta
  let s2 := { s1 with
    up := s.up + 64, tb.counter := c, tb.run := s.tb.run + s.tb.incr.toNat
    tb.load := none, tb.loadKeeps := false, tb.reanchorTag := none, tb.stepped := true
    tb.reanchors := if s.tb.stepped then min 255 (s.tb.reanchors + 1) else s.tb.reanchors
    tb.lastEdge := some ((c >>> 32).toNat - 1)
    hedge.theta := if s.tb.loadKeeps then s1.hedge.theta - d16 - 16 * s.hedge.shift else s1.hedge.theta
    hedge.shift := if s.tb.loadKeeps then 0 else s.hedge.shift
    hedge.thetaAt := (c >>> 32).toNat, hedge.start16 := s.hedge.start16 + d16 }
  let s3 := s2.rebaseLoops (roundDiv d16 16) s.now
  let s4 := s3.failSheaves ((s3.sheaves.store.filter fun x =>
    x.phase = .staged && decide (x.instant < s3.now + 20000)).map (·.id)) 0x02
  match s.tb.reanchorTag with
  | some tag => s4.answerTag tag Reply.done
  | none => s4

/-- The single step is decided (R47): the next tick loads `c` (R553). -/
def State.timeStep (c : BitVec 96) (s : State) : State := { s with tb.load := some c }

/-- The first step has been made or decided (R47). -/
def State.stepTaken (s : State) : Bool := s.tb.stepped || s.tb.load.isSome

/-- Lock, large-offset state and increment after a measurement of the source in use (R52, R53). -/
def State.servo (offset rEst : Int) (s : State) : State :=
  let size : Int := mag offset
  let inLock := decide (size ≤ 16 * s.tb.lockNs)
  let ok := if inLock then min 8 (s.tb.okRun + 1) else 0
  let bad := if inLock then 0 else min 2 (s.tb.badRun + 1)
  let large := decide (size > 16 * s.tb.largeNs)
  let s1 := { s with
    tb.rEst := rEst, tb.offset := offset, tb.okRun := ok, tb.badRun := bad
    tb.locked := if ok = 8 then true else if bad = 2 then false else s.tb.locked
    tb.offsetLarge := large, tb.holdover := false
    tb.incr := servoIncr rEst offset s.tb.tauMs }
  if large && !s.tb.offsetLarge then s1.raise 150 else s1

/-- A source is valid (R54). -/
def Tb.sourceValid (t : Tb) : Source → Bool
  | .none => false
  | .gptp => t.gptpValid
  | .hedge => t.hedgeValid

/-- Holdover: the last r_est with no offset term (R54). That SOURCE then reads NONE is this model's choice: R77 names it
the source in use, and no rule says what it reads in holdover (DESIGN CHOICE, log 14). -/
def State.enterHoldover (s : State) : State :=
  { s with tb.holdover := true, tb.source := .none, tb.locked := false, tb.okRun := 0, tb.badRun := 0
           tb.incr := servoIncr s.tb.rEst 0 s.tb.tauMs }

/-- A change of the source in use clears LOCKED (R54). -/
def State.useSource (x : Source) (s : State) : State :=
  if s.tb.source = x then s
  else { s with tb.source := x, tb.locked := false, tb.okRun := 0, tb.badRun := 0, tb.holdover := false
                tb.primaryRun := 0 }

/-- Source `x` is followed: it is in use, or it is the primary source and no source has come into use. -/
def State.follows (x : Source) (s : State) : Bool :=
  x ≠ .none && (s.tb.source = x || (x = s.tb.primary && s.tb.source = .none && !s.tb.holdover))

/-- A source is lost (R54): where it is followed, the device changes to the fall-back source if that is valid, and
otherwise enters holdover. -/
def State.sourceLost (x : Source) (s : State) : State :=
  let s1 := match x with
    | .gptp => { s with tb.gptpValid := false }
    | .hedge => { s with tb.hedgeValid := false }
    | .none => s
  let s2 := if x = s1.tb.primary then { s1 with tb.primaryRun := 0 } else s1
  if !s.follows x then s2
  else if x = s2.tb.primary && s2.tb.fallback ≠ .none && s2.tb.sourceValid s2.tb.fallback then s2.useSource s2.tb.fallback
  else s2.enterHoldover

/-- A measurement of source `x` makes the single step: that of the selected source, of the source in use, or of the
fall-back source in holdover, which takes it at once (R47, R54). -/
def State.stepsBy (x : Source) (s : State) : Bool :=
  x = s.tb.primary || s.tb.source = x || (x = s.tb.fallback && s.tb.holdover)

/-- A valid measurement of source `x` (R47, R52-R54): `src` is the source's time, which the single step loads with the
increment of its tick. A measurement that makes the step does no more. -/
def State.measurement (x : Source) (offset rEst : Int) (src : BitVec 96) (s : State) : State :=
  let s1 := match x with
    | .gptp => { s with tb.gptpValid := true, tb.syncAt := s.up }
    | .hedge => { s with tb.hedgeValid := true }
    | .none => s
  if x = .none || (x ≠ s1.tb.primary && x ≠ s1.tb.fallback) then s1
  else if !s1.tb.stepped then
    if s1.tb.load.isNone && s1.stepsBy x then (s1.timeStep (src + s1.tb.incr.setWidth 96)).useSource x else s1
  else if s1.tb.source = x then s1.servo offset rEst
  else if x = s1.tb.primary then
    let n := s1.tb.primaryRun + 1
    if s1.tb.source = .none && !s1.tb.holdover then (s1.useSource x).servo offset rEst
    else if 16 ≤ n then (s1.useSource x).servo offset rEst
    else { s1 with tb.primaryRun := n }
  else if s1.tb.source = .none then (s1.useSource x).servo offset rEst
  else s1

/-! gPTP: the best master clock algorithm and port roles (R56, IEEE 802.1AS). -/

/-- The system identity of `a` is better than that of `b`: priority1, then the identity, then the steps removed. -/
def Announce.better (a b : Announce) : Bool :=
  decide (a.priority1 < b.priority1) || (a.priority1 = b.priority1 &&
    (decide (a.grandmaster.toNat < b.grandmaster.toNat) ||
      (a.grandmaster = b.grandmaster && decide (a.steps < b.steps))))

/-- The device's own system identity. -/
def State.ptpOwn (s : State) : Announce := { priority1 := s.tb.ptp.priority1, grandmaster := Config.clockId, steps := 0 }

/-- Port `p` takes part: it is enabled and asCapable. A port whose peer delay has not been measured counts as asCapable
(DESIGN CHOICE, log 14). -/
def State.ptpCapable (s : State) (p : Nat) : Bool :=
  s.tb.ptp.ports.getLsbD p && decide (mapGet 0 s.tb.portDelay p ≤ s.tb.ptp.npdtNs)

/-- The better of two candidates, the first where neither is. -/
def betterPort (x y : Option (Nat × Announce)) : Option (Nat × Announce) :=
  match x, y with
  | some a, some b => if b.2.better a.2 then y else x
  | none, _ => y
  | _, none => x

/-- The port with the best Announce. -/
def State.ptpBest (s : State) : Option (Nat × Announce) :=
  [0, 1, 2, 3].foldl (fun x p =>
    betterPort x (if s.ptpCapable p then (mapGet none s.tb.announce p).map fun a => (p, a) else none)) none

/-- The slave port: that of external port configuration, or that with the best Announce where it is better than the
device itself. -/
def State.ptpSlave (s : State) : Option Nat :=
  if s.tb.ptp.external then [0, 1, 2, 3].find? fun p => s.ptpCapable p && s.tb.ptp.roles.getD p 0 = 1
  else (s.ptpBest.filter fun x => x.2.better s.ptpOwn).map (·.1)

/-- The state of a gPTP port (R56, R78): 0 disabled, 1 slave, 2 master, 3 passive. -/
def State.ptpRole (s : State) (p : Nat) : Nat :=
  if !s.ptpCapable p then 0
  else if s.tb.ptp.external then s.tb.ptp.roles.getD p 0
  else if s.ptpSlave = some p then 1
  else match mapGet none s.tb.announce p, s.ptpSlave.bind fun _ => s.ptpBest with
    | some a, some b => if a.better { b.2 with steps := b.2.steps + 1 } then 3 else 2
    | _, _ => 2

/-- The grandmaster identity (R78): that of the slave port's Announce, or the device's own. -/
def State.ptpGrandmaster (s : State) : BitVec 64 :=
  match s.ptpSlave with
  | some p => ((mapGet none s.tb.announce p).map (·.grandmaster)).getD 0
  | none => Config.clockId

/-- A Sync interval in 0.1 ns (R56). -/
def PtpCfg.interval (c : PtpCfg) : Nat := 10 ^ 10 * 2 ^ (c.logSync + 7).toNat / 128

/-- gPTP settings that wait for the next measurement (R79). -/
def State.applyPtp (s : State) : State := { s with tb.ptp := s.tb.ptpPend.getD s.tb.ptp, tb.ptpPend := none }

/-! The schedule cycle (R60-R69). -/

/-- The Hedgerow cycle in ns. -/
def State.hNs (s : State) : Nat := s.hedge.cfg.hUs * 1000

/-- Hedgerow is ACTIVE or PASSIVE (14 R419). -/
def State.hedgeUp (s : State) : Bool := s.hedge.hstate = .active || s.hedge.hstate = .passive

/-- Boundary `k` of base `b` and cycle `c` is a common boundary (R61). -/
def State.isCommon (s : State) (b c k : Nat) : Bool :=
  let h := s.hNs
  if h ≤ c then true
  else
    let p : Nat := s.hedge.phase
    if s.hedgeUp && decide (((b : Int) - p) % (c : Int) = 0) then decide (((b : Int) + k * c - p) % (h : Int) = 0)
    else decide (k % (h / c) = 0)

/-- The next boundary: whether it starts a pending cycle, whether it is common, and its network
time with the shift step already decided for it (R60, R62, R65). -/
def State.nextBoundary (s : State) : Option (Bool × Bool × Nat) :=
  let at_ (b : Nat) (com : Bool) : Nat := ((b : Int) + s.tb.shiftS + (if com then s.tb.dNext.getD 0 else 0)).toNat
  let t := s.tb
  let k := t.k + 1
  if t.cycleC = 0 then
    t.pendCycle.map fun p => (true, s.isCommon p.1 p.2 0, at_ p.1 false)
  else
    let b := t.cycleB + k * t.cycleC
    match t.pendCycle with
    | some p =>
      if p.1 = b then let com := s.isCommon p.1 p.2 0; some (true, com, at_ b com)
      else let com := s.isCommon t.cycleB t.cycleC k; some (false, com, at_ b com)
    | none => let com := s.isCommon t.cycleB t.cycleC k; some (false, com, at_ b com)

/-- The capture window of the last common boundary closes once it has passed: a window without an
edge is a miss, and the sixteenth in a row an event (R67). -/
def State.closeWindow (t : Nat) (s : State) : State :=
  match s.tb.window with
  | none => s
  | some w =>
    if t ≤ w.t + s.tb.syncIn.wNs then s
    else if w.accepted then { s with tb.window := none }
    else
      let s1 := { s with tb.window := none, tb.missRun := s.tb.missRun + 1
                         tb.syncMiss := min 65535 (s.tb.syncMiss + 1), cycle.miss := s.cycle.miss + 1 }
      if s1.tb.missRun = 16 then s1.raise 151 else s1

/-- The shift step of an accepted edge with error `e` and cumulative shift `sh` before it (R65, R68):
the step, and whether SYNC_LIMIT sets. -/
def shiftStep (deadband : Nat) (limit : Bool) (sh e : Int) : Int × Bool :=
  let d0 : Int := if mag (e) ≤ deadband then 0 else clampInt (-250) 250 e
  let d := if limit && decide (mag (sh + d0) > mag (sh)) then 0 else d0
  if mag (sh + d) > 10000 then ((if e > 0 then 10000 else -10000) - sh, true) else (d, limit)

/-- An accepted edge: its step falls on the next common boundary, or, for an edge ahead of a common
boundary, on the one after (R65, R73). -/
def State.acceptEdge (e : Int) (ahead : Bool) (s : State) : State :=
  let sh := s.tb.shiftS + (if ahead then s.tb.dNext.getD 0 else 0)
  let p := shiftStep s.tb.syncIn.deadband s.tb.syncLimit sh e
  let s1 := { s with tb.syncLimit := p.2, tb.syncInOk := s.tb.syncInOk || !ahead, tb.missRun := 0
                     tb.dNext := if ahead then s.tb.dNext else some p.1
                     tb.dAfter := if ahead then some p.1 else s.tb.dAfter }
  if p.2 && !s.tb.syncLimit then s1.raise 151 else s1

/-- An edge that is ignored (R64, R67). -/
def State.rejectEdge (s : State) : State := { s with tb.syncReject := min 65535 (s.tb.syncReject + 1), cycle.reject := s.cycle.reject + 1 }

/-- The boundaries to come among which the next common one lies: of the cycle in force up to the base time of a pending
cycle, then of that one, each by base time, cycle time and number. -/
def State.coming (s : State) : List (Nat × Nat × Nat) :=
  let t := s.tb
  let many (b c k : Nat) : List (Nat × Nat × Nat) :=
    if c = 0 then [] else (List.range (max c s.hNs / c + 1)).map fun i => (b, c, k + i)
  match t.pendCycle with
  | none => many t.cycleB t.cycleC (t.k + 1)
  | some (b, c) =>
    ((many t.cycleB t.cycleC (t.k + 1)).filter fun x => decide (x.1 + x.2.2 * x.2.1 < b)) ++ many b c 0

/-- The network time of the next common boundary, with its shift. -/
def State.nextCommon (s : State) : Option Nat :=
  (s.coming.find? fun x => s.isCommon x.1 x.2.1 x.2.2).map fun x =>
    ((x.1 : Int) + x.2.2 * x.2.1 + s.tb.shiftS + s.tb.dNext.getD 0).toNat

/-- The SYNC_OUT pin takes a level. -/
def State.setSyncOut (high : Bool) (s : State) : State :=
  if s.tb.syncOutHigh = high then s
  else { s with tb.syncOutHigh := high }.emit (.pin .syncOut (if high then 1 else 0))

/-- TIME_FOLD_SHIFT takes effect (R68): B takes S in, and nothing moves in network time: neither the base time of a
pending cycle nor change times of gate lists, nor the Hedgerow cycle, whose shelf phase P on this node is counted in its
schedule time (DEDUCED, log 14). -/
def State.foldShift (s : State) : State :=
  let t := s.tb
  { s with
    tb.cycleB := movedBy t.shiftS t.cycleB, tb.pendCycle := t.pendCycle.map fun p => (movedBy t.shiftS p.1, p.2)
    tb.shiftS := 0, tb.syncLimit := false
    hedge.phase := (((s.hedge.phase : Int) + t.shiftS) % (max 1 s.hNs : Nat)).toNat, hedge.shift := s.hedge.shift - t.shiftS
    gates.port := mapListed GatePort.dflt (fun _ g =>
        { g with pend := g.pend.map fun p => (movedBy t.shiftS p.1, p.2) }) s.gates.port }

/-- Settings that wait for a common boundary take effect (R68, R71, R79). A new SYNC_OUT mode gives no edge whose instant
lies before the moment that it takes effect, with a cycle the boundary, and OFF takes the pin low. -/
def State.applyAtCommon (s : State) : State :=
  let t := s.tb
  let s1 := if t.foldPending then s.foldShift else s
  let s2 := { s1 with
    tb.syncIn := t.syncInPend.getD t.syncIn, tb.syncInPend := none
    tb.syncOut := t.syncOutPend.getD t.syncOut, tb.syncOutPend := none
    tb.lastEdge := if t.syncOutPend.isSome then some ((if t.cycleC = 0 then s.now else t.start) - 1) else t.lastEdge
    tb.foldPending := false }
  if s2.tb.syncOut.mode = .off then s2.setSyncOut false else s2

/-- With no cycle set a setting for the next common boundary takes effect at once, or at the next
Hedgerow cycle start while Hedgerow is ACTIVE or PASSIVE (R63). -/
def State.settleCommon (s : State) : State :=
  if s.tb.cycleC = 0 && !s.hedgeUp then s.applyAtCommon else s

/-- A boundary of the schedule cycle (R60, R62, R65, R67-R69): the shift applies first, then a new
base time, then a fold. A common boundary opens its capture window where SYNC_IN shifting is enabled from it on: with the
shifting disabled no boundary is a miss and no edge is rejected (DESIGN CHOICE, log 14). -/
def State.boundary (s0 : State) : State :=
  match s0.nextBoundary with
  | none => s0
  | some (sw, com, at_) =>
    if !s0.reached at_ then s0
    else
      let s := s0.closeWindow at_
      let t := s.tb
      let sh := if com && t.cycleC ≠ 0 then t.shiftS + t.dNext.getD 0 else t.shiftS
      let nb := if sw then (match t.pendCycle with | some p => p | none => (t.cycleB, t.cycleC)) else (t.cycleB, t.cycleC)
      let s1 := { s with
        tb.shiftS := sh
        tb.dNext := if com then t.dAfter else t.dNext, tb.dAfter := if com then none else t.dAfter
        tb.cycleB := nb.1, tb.cycleC := nb.2, tb.pendCycle := if sw then none else t.pendCycle
        tb.k := if sw then 0 else t.k + 1, tb.start := at_, tb.cycleValid := true }
      if com then
        let s2 := s1.applyAtCommon
        { s2 with tb.window := if s2.tb.syncIn.enable then some ⟨at_, t.early⟩ else none, tb.early := false, tb.syncInOk := t.early }
      else s1

/-- Network time of an event `elapsedPs` after the last tick, in 2^-32 ns (R553). -/
def State.captureAt (s : State) (elapsedPs : Int) : Nat :=
  ((s.tb.counter.toNat : Int) + elapsedPs * s.tb.incr.toNat / 6400).toNat

/-- The default pulse width of a mode (R71). -/
def SyncOutMode.width : SyncOutMode → Nat
  | .pps => 100000000
  | _ => 1000

/-- The next rising edge after that of the pulse that runs, as far as it is known (R73). -/
def State.edgeAfter (s : State) : Option Nat :=
  match s.tb.syncOut.mode with
  | .cycle => if s.tb.pulseRise < s.tb.start then some s.tb.start else s.nextBoundary.map (·.2.2)
  | .pps => some (s.tb.pulseRise + 1000000000)
  | _ => none

/-- The end of the pulse that runs: a pulse that would reach the next rising edge ends 100 ns before it, as shifted by
every step decided by now (R73). -/
def State.pulseEndNow (s : State) : Nat :=
  match s.edgeAfter with
  | some n => if n ≤ s.tb.pulseEnd then n - 100 else s.tb.pulseEnd
  | none => s.tb.pulseEnd

/-- A SYNC_OUT edge at instant `t`, of the sheaf `id` in mode SHEAF_NOTICE (R71, R72): a notice during a pulse, or less
than 100 ns after it, merges into one that ends P after the later notice. -/
def State.pulse (t : Nat) (id : Option Nat) (s : State) : State :=
  let w := s.tb.syncOut.p.getD s.tb.syncOut.mode.width
  let merged := id.isSome && decide (t < s.tb.pulseEnd + 100) && s.tb.pulseEnd ≠ 0
  let s1 := { s with tb.pulseEnd := t + w, tb.lastEdge := if id.isSome then s.tb.lastEdge else some t
                     tb.pulseRise := if merged then s.tb.pulseRise else t
                     tb.noticeMerged := s.tb.noticeMerged + (if merged then 1 else 0) }
  let s2 := match id with
    | some i => s1.modSheaf i fun x => { x with noticed := true }
    | none => s1
  s2.setSyncOut true

/-- A notice is to come for a sheaf: it was armed by its notice time (R72). -/
def State.noticeOpen (s : State) (x : Sheaf) : Bool :=
  x.phase = .committed && !x.noticed && decide (x.armedAt + s.tb.syncOut.lNs ≤ x.instant)

/-- The SYNC_OUT edge that is due, with its sheaf in mode SHEAF_NOTICE (R71, R72). -/
def State.dueEdge (s : State) : Option (Nat × Option Nat) :=
  let due (t : Nat) : Bool := s.reached t && (match s.tb.lastEdge with | some l => decide (l < t) | none => true)
  match s.tb.syncOut.mode with
  | .off => none
  | .pps =>
    let t := (s.now + 7) / 1000000000 * 1000000000
    if s.tb.stepped && due t then some (t, none) else none
  | .cycle => if s.tb.cycleValid && due s.tb.start then some (s.tb.start, none) else none
  | .sheafNotice =>
    ((byInstant (s.sheaves.store.filter s.noticeOpen)).find? fun x => due (x.instant - s.tb.syncOut.lNs)).map fun x =>
      (x.instant - s.tb.syncOut.lNs, some x.id)

end Sys2Proof.Machine
end

