-- ==== Sys2Proof/Machine/GateOps.lean ====
section
/-! DEFINITION. Gate control lists in time, transmission selection and preemption, as operations:
09_gates_preemption. -/
namespace Sys2Proof.Machine

/-- The gates of port `p`. -/
def State.gate (s : State) (p : Nat) : GatePort := mapGet GatePort.dflt s.gates.port p
def State.modGate (p : Nat) (f : GatePort → GatePort) (s : State) : State :=
  { s with gates.port := mapMod GatePort.dflt s.gates.port p f }

/-- The oper bank and the admin bank (R264). -/
def GatePort.oper (g : GatePort) : Bank := if g.oper1 then g.bank1 else g.bank0
def GatePort.admin (g : GatePort) : Bank := if g.oper1 then g.bank0 else g.bank1

/-- Fields of an entry (R259). -/
def GateEntry.op (e : GateEntry) : Nat := fld e.w0 31 29
def GateEntry.gates (e : GateEntry) : BitVec 8 := e.w0.setWidth 8
def GateEntry.len (e : GateEntry) : Nat := e.interval.toNat

/-- The N entries of a bank. -/
def Bank.list (b : Bank) : List GateEntry := mapRead default b.entries 0 b.n

/-- Entries with their start offsets in one repetition. -/
def starts : Nat → List GateEntry → List (Nat × GateEntry)
  | _, [] => []
  | o, e :: es => (o, e) :: starts (o + e.len) es

/-- Repetitions within a schedule cycle of `c` ns (R262). -/
def Bank.reps (b : Bank) (c : Nat) : Nat := if b.lct = 0 then 0 else c / b.lct

/-- Gate events within a schedule cycle of `c` ns: offset and entry (R262). -/
def Bank.events (b : Bank) (c : Nat) : List (Nat × GateEntry) :=
  let one := starts 0 b.list
  (List.range (b.reps c)).flatMap fun i => one.map fun p => (i * b.lct + p.1, p.2)

/-- The gate events to come, with their network times: the rest of this cycle, with removed events at
its boundary (R270), the next cycle with a change of list that falls on its boundary, and the first
cycle of a list committed for later (R256). -/
def State.gateTimeline (s : State) (p : Nat) : List (Nat × GateEntry) :=
  let g := s.gate p
  let t := s.tb
  match s.nextBoundary with
  | none => []
  | some (sw, _, nb) =>
    let rest := if g.list = .running then
        ((g.oper.events t.cycleC).drop g.done).map fun p => (min (t.start + p.1) nb, p.2)
      else []
    let c2 := if sw then (match t.pendCycle with | some q => q.2 | none => t.cycleC) else t.cycleC
    let bs := if sw then (match t.pendCycle with | some q => q.1 | none => 0) else t.cycleB + (t.k + 1) * t.cycleC
    let now? := g.pend.filter fun q => q.1 = bs
    let next : List (Nat × GateEntry) := match now? with
      | some (_, true) => []
      | some (_, false) => g.admin.events c2
      | none => if g.list = .running then g.oper.events c2 else []
    let step : Int := match s.coming.find? fun x => s.isCommon x.1 x.2.1 x.2.2 with
      | some x => if g.pend.any fun q => decide (x.1 + x.2.2 * x.2.1 ≤ q.1) then t.dNext.getD 0 else 0
      | none => 0
    let later : List (Nat × GateEntry) := match g.pend with
      | some (ct, false) => if bs < ct then (g.admin.events c2).map fun q => ((((ct + q.1 : Nat) : Int) + t.shiftS + step).toNat, q.2) else []
      | _ => []
    rest ++ next.map (fun q => (nb + q.1, q.2)) ++ later

/-- The next network time at which the gate of class `c` closes (R256). -/
def State.tClose (s : State) (p c : Nat) : Option Nat :=
  ((s.gateTimeline p).find? fun q => !q.2.gates.getLsbD c).map (·.1)

/-- Lengths of the runs of entries with the gate of class `c` open, in order, and whether the first
and the last run touch the ends of the list. -/
def openRuns (c : Nat) : List (Nat × Bool) → List Nat
  | [] => []
  | (n, o) :: rest =>
    match rest with
    | [] => if o then [n] else []
    | (_, o2) :: _ =>
      match openRuns c rest with
      | [] => if o then [n] else []
      | r :: rs => if o && o2 then (n + r) :: rs else if o then n :: r :: rs else r :: rs

/-- Durations of the entries, the last holding to the end of LCT (R262), with the gate of a class. -/
def Bank.spans (b : Bank) (c : Nat) : List (Nat × Bool) :=
  let l := b.list
  let used := ((l.map (·.len)).dropLast).sum
  l.zipIdx.map fun p => (if p.2 + 1 = l.length then b.lct - used else p.1.len, p.1.gates.getLsbD c)

/-- The longest open window of class `c` in ns (R258); `none` for a class that never closes. `sync` is
set while SYNC_IN shifting is enabled; with one repetition the window over the end of the cycle counts
250 ns shorter. -/
def Bank.window (b : Bank) (c cycle : Nat) (sync : Bool) : Option Nat :=
  let sp := b.spans c
  if sp.all (·.2) then none
  else
    let runs := openRuns c sp
    let first := (sp.head?.map (·.2)).getD false
    let last := (sp.getLast?.map (·.2)).getD false
    let cut (n : Nat) : Nat := if sync && decide (b.reps cycle ≤ 1) then n - 250 else n
    let whole : List Nat :=
      if last && first && decide (2 ≤ runs.length) then
        cut (runs.headD 0 + runs.getLastD 0) :: (runs.drop 1).dropLast
      else if last then cut (runs.getLastD 0) :: runs.dropLast
      else runs
    some (whole.foldl max 0)

/-- HOLD_DELAY of a port in ps (R275). -/
def holdDelayPs (mode addFrag : Nat) : Nat := (64 * (1 + addFrag) + 24) * byteTime mode

/-- HOLD_ADVANCE in force, in ns: as set, else ceil(HOLD_DELAY) for the line mode (R275). -/
def State.holdAdvance (s : State) (p : Nat) : Nat :=
  let g := s.gate p
  if g.holdSet then g.cfg.holdAdvance else (holdDelayPs (s.prt p).cfg.mode g.cfg.addFrag + 999) / 1000

/-- The verify status of a port (R272). -/
def GatePort.verifyStatus (g : GatePort) : Nat :=
  if !g.cfg.enable then 0 else if !g.cfg.verifyEn then 5 else if g.succeeded then 3
  else if g.failed then 4 else if g.verifying then 2 else 1

/-- Preemption is active on a port (R272). -/
def State.preemptive (s : State) (p : Nat) : Bool :=
  let v := (s.gate p).verifyStatus
  (s.prt p).up && (v = 3 || v = 5)

/-- A class is preemptable now (R273). -/
def State.preemptable (s : State) (p c : Nat) : Bool :=
  s.preemptive p && (s.gate p).cfg.preemptable.getLsbD c

/-- P of R256. -/
def Port.reserve (x : Port) : Nat := if x.pause.generate then 84 else 0

/-- Bytes for which R256 asks room, for a frame of `n` bytes of class `c`. -/
def State.roomFor (s : State) (p c n : Nat) : Nat :=
  let least := 64 * (1 + (s.gate p).cfg.addFrag)
  (if s.preemptable p c && decide (least + 60 ≤ n) then least else n) + 20 + (s.prt p).reserve

/-- A class is stopped by received pause (08 R246). -/
def Port.pausedClass (x : Port) (c : Nat) : Bool := x.rxPauseEnd.isSome && x.pause.pausable.getLsbD c

/-- A head frame of class `c` is admissible (R255, R256, R275, R276), but for the state of the path. -/
def State.admissible (s : State) (p c : Nat) (f : TxFrame) : Bool :=
  let x := s.prt p
  let g := s.gate p
  g.gates.getLsbD c && !x.pausedClass c && !(s.preemptable p c && (g.hold || x.held.isSome)) &&
  (match s.tClose p c with
   | none => true
   | some t => decide (s.nowPs + s.roomFor p c f.bytes.length * byteTime x.cfg.mode ≤ t * 1000))

/-- Head frame of a class. -/
def Port.head (x : Port) (c : Nat) : Option TxFrame := (mapGet [] x.classes c).head?

/-- The class selected (R255): the highest-numbered one with an admissible head, of those that `ok`
admits. -/
def State.selected (s : State) (p : Nat) (ok : Nat → Bool) : Option (Nat × TxFrame) :=
  [7, 6, 5, 4, 3, 2, 1, 0].findSome? fun c =>
    match (s.prt p).head c with
    | some f => if ok c && s.admissible p c f then some (c, f) else none
    | none => none

/-- An express frame could be sent. -/
def State.expressReady (s : State) (p : Nat) : Bool := (s.selected p fun c => !s.preemptable p c).isSome

/-- Bytes of the fragment sent so far: 8 byte times of preamble come first. -/
def State.sentNow (s : State) (p : Nat) (w : OnWire) : Nat :=
  let bt := byteTime (s.prt p).cfg.mode
  if bt = 0 then 0 else (s.upPs - w.start) / bt - 8

/-- The frame on the wire is preempted at its next permitted point where R275 asks for it (R274):
at least 64 × (1 + ADD_FRAG) - 4 bytes of the fragment sent, at least 64 remaining. -/
def State.preempt (p : Nat) (s : State) : State :=
  let x := s.prt p
  let g := s.gate p
  match x.wire with
  | none => s
  | some w =>
    let closed := !g.gates.getLsbD w.frame.tc
    let cause := closed || g.hold || x.pauseDue.isSome || s.expressReady p
    if w.express || !s.preemptive p || !cause then s
    else
      let n := max (s.sentNow p w) (64 * (1 + g.cfg.addFrag) - 4)
      let left := w.frame.bytes.length - w.sent
      if left < n + 64 then s
      else
        let s1 := s.modPort p fun x =>
          { x with wire := none, held := some { w with sent := w.sent + n, frag := w.frag + 1 }
                   freeAt := w.start + (8 + n + 4 + 12) * byteTime x.cfg.mode }
        let s2 := (s1.emit (.fragment p w.frag (slice w.frame.bytes w.sent n) false)).count p 48 1
        if closed then s2.count p 47 1 else s2

/-- A list entry takes effect (R260, R273). -/
def State.applyEntry (p : Nat) (e : GateEntry) (s : State) : State :=
  let active := s.preemptive p
  let rise := e.op = 1 && active && !(s.gate p).hold
  let s1 := s.modGate p fun g =>
    { g with gates := e.gates
             hold := if e.op = 1 then g.hold || active else if e.op = 2 then false else g.hold }
  if rise then s1.count p 53 1 else s1

/-- A boundary for one port (R264, R265, R270): removed events take effect in list order, then a
change of list. `c` is the cycle that ends. -/
def State.gateBoundary (c p : Nat) (s : State) : State :=
  let g := s.gate p
  let left := if g.list = .running then (g.oper.events c).drop g.done else []
  let s1 := left.foldl (fun t q => t.applyEntry p q.2) s
  let at_ := s.tb.cycleB + s.tb.k * s.tb.cycleC
  let s2 := match g.pend with
    | some (ct, dis) =>
      if ct ≠ at_ then s1
      else if dis then
        (s1.modGate p fun g => { g with list := .disabled, pend := none, gates := 0xFF#8, hold := false }).count p 56 1
      else
        let first := match g.admin.list with
          | e :: _ => e.op
          | [] => 0
        let hold := first = 1 && s.preemptive p
        let s2 := (s1.modGate p fun g => { g with list := .running, pend := none, oper1 := !g.oper1, hold := hold }).count p 56 1
        if hold && !(s1.gate p).hold then s2.count p 53 1 else s2
    | none => s1
  (s2.modGate p fun g => { g with done := 0 }).preempt p

/-- A schedule boundary for the gates of every port. -/
def State.gatesAtBoundary (c : Nat) (s : State) : State :=
  [0, 1, 2, 3].foldl (fun t p => t.gateBoundary c p) s

/-- A re-anchor disables the oper list of every port, cancels pending changes and opens every gate (02 R49, R267). -/
def State.gatesReanchor (s : State) : State :=
  { s with gates.port := mapListed GatePort.dflt (fun _ g =>
             { g with list := if g.list = .running then .disabled else g.list, pend := none, gates := 0xFF#8, hold := false, done := 0 }) s.gates.port }

/-- R266: the new C is a multiple of LCT of every list that would be oper at B'. -/
def State.gatesFit (s : State) (b c : Nat) : Bool :=
  [0, 1, 2, 3].all fun p =>
    let g := s.gate p
    let list : Option Bank := match g.pend with
      | some (ct, dis) => if ct ≤ b then (if dis then none else some g.admin)
          else if g.list = .running then some g.oper else none
      | none => if g.list = .running then some g.oper else none
    match list with
    | some k => k.lct ≠ 0 && decide (c % k.lct = 0)
    | none => true

/-- Every cover set is off (02 R49). -/
def State.coversOff (s : State) : State :=
  { s with streams.covers := mapListed Cover.dflt (fun _ c => { c with enable := false, state := .off }) s.streams.covers }

/-- A swap that has not reached its AT is withdrawn (02 R49). -/
def State.withdrawSwap (s : State) : State :=
  match s.rules.swap with
  | .scheduled _ => { s with rules.swap := .withdrawn }
  | _ => s

end Sys2Proof.Machine
end

