-- ==== Sys2Proof/Machine/StreamOps.lean ====
section
/-! DEFINITION. Streams: the fields of an entry, sequence recovery and generation, and the copies of a
frame that enters a stream: 10_stream_redundancy R284-R300. -/
namespace Sys2Proof.Machine

/-- Stream `n`. -/
def State.stream (s : State) (n : Nat) : Stream := mapGet Stream.dflt s.streams.table n
def State.modStream (n : Nat) (f : Stream → Stream) (s : State) : State :=
  { s with streams.table := mapMod Stream.dflt s.streams.table n f }

/-- Fields of an entry (R284). -/
def entryWord (e : List Word) (i : Nat) : Word := e.getD i 0
def Stream.w (x : Stream) (i : Nat) : Word := entryWord x.entry i
def Stream.valid (x : Stream) : Bool := bit (x.w 0) 31
def Stream.anyRole (x : Stream) : Bool := bit (x.w 0) 30
def Stream.gen (x : Stream) : Nat := fld (x.w 0) 29 27
def Stream.rcvyEn (x : Stream) : Bool := bit (x.w 0) 26
def Stream.matches_ (x : Stream) : Bool := bit (x.w 0) 25
def Stream.tagOut (x : Stream) : Bool := bit (x.w 0) 24
def Stream.tagHost (x : Stream) : Bool := bit (x.w 0) 23
def Stream.ports (x : Stream) : Nat := fld (x.w 0) 22 19
def Stream.tc (x : Stream) : Nat := fld (x.w 0) 18 16
def Stream.hostEn (x : Stream) : Bool := bit (x.w 0) 15
def Stream.hostQ (x : Stream) : Nat := fld (x.w 0) 14 9
def Stream.histLen (x : Stream) : Nat := fld (x.w 1) 31 21
def Stream.cycleM (x : Stream) : Nat := fld (x.w 2) 31 16
def Stream.resetMs (x : Stream) : Nat := fld (x.w 2) 15 0
def Stream.ledPaths (x : Stream) : Nat := fld (x.w 3) 31 29
def Stream.ledDiff (x : Stream) : Nat := fld (x.w 3) 15 0
def Stream.ledPeriod (x : Stream) : Nat := fld (x.w 4) 31 16
def Stream.jump (x : Stream) : Nat := fld (x.w 4) 15 0
def Stream.ve (x : Stream) (p : Nat) : Bool := bit (x.w (5 + p / 2)) (if p % 2 = 0 then 31 else 15)
def Stream.vid (x : Stream) (p : Nat) : Nat := if p % 2 = 0 then fld (x.w (5 + p / 2)) 27 16 else fld (x.w (5 + p / 2)) 11 0
def Stream.cover (x : Stream) : Nat := fld (x.w 7) 31 24

/-- Counter `i` of R302 gains `n`; counters saturate. -/
def Stream.count (i n : Nat) (x : Stream) : Stream :=
  { x with ctr := mapMod 0 x.ctr i fun c => min (2 ^ 64 - 1) (c + n) }
def State.countStream (n i k : Nat) (s : State) : State := s.modStream n (Stream.count i k)

/-- Recovery of a stream is reset: it takes any number next, and its latent error period is not evaluated (R292,
R294, R295). -/
def Stream.takeAgain (x : Stream) : Stream := { x with takeAny := true, timer := none, ledSpoilt := true }

/-- A time inside the cover window of a stream's set (R300). -/
def State.coverOpen (s : State) (x : Stream) (t : Nat) : Bool :=
  let c := mapGet Cover.dflt s.streams.covers x.cover
  x.cover ≠ 0 && c.enable && decide (c.wStart ≤ t) && decide (t < c.wEnd)

/-! Recovery (R292, R293). -/

/-- A frame passed. -/
def Stream.passed (up : Nat) (x : Stream) : Stream :=
  { x with timer := some up, ledPassed := x.ledPassed + 1 }.count 0 1

/-- A duplicate is discarded. -/
def Stream.duplicate (x : Stream) : Stream := { x with ledDiscarded := x.ledDiscarded + 1 }.count 1 1

/-- Number of 0 bits in HIST[lo .. lo + n - 1]. -/
def zerosIn (hist lo n : Nat) : Nat := ((List.range n).filter fun i => !hist.testBit (lo + i)).length

/-- The vector algorithm on number `q` at elapsed time `up`; `inside` is a time inside the cover window
(R292, R300). Answers the state and whether the frame passes. -/
def Stream.vector (inside : Bool) (up q : Nat) (x : Stream) : Stream × Bool :=
  let n := x.histLen
  if x.takeAny then ({ x with recNum := q, hist := 2 ^ n - 1, takeAny := false }.passed up, true)
  else
    let d : Int := ((q : Int) - x.recNum + 32768) % 65536 - 32768
    if d ≥ n || d ≤ -(n : Int) then (x.count 3 1, false)
    else if 0 < d then
      let k := d.toNat
      let lost := zerosIn x.hist (n - k) k
      (({ x with hist := (x.hist * 2 ^ k + 1) % 2 ^ n, recNum := q }.count (if inside then 5 else 4) lost).passed up, true)
    else if x.hist.testBit (-d).toNat then (x.duplicate, false)
    else (({ x with hist := x.hist + 2 ^ (-d).toNat }.count 2 1).passed up, true)

/-- The match algorithm (R293). -/
def Stream.match_ (up q : Nat) (x : Stream) : Stream × Bool :=
  if x.takeAny || x.recNum ≠ q then ({ x with recNum := q, takeAny := false }.passed up, true)
  else (x.duplicate, false)

/-- The reset timer has run RESET_MS with no frame passed, outside an open cover window, and no frame of the tick of its
expiry can still come: such a frame is evaluated first (R292, R294, R300). -/
def State.recoveryDue (s : State) (x : Stream) : Bool :=
  x.valid && x.rcvyEn && x.timer.any (fun t => decide (t + x.resetMs * 10000000 + 64 ≤ s.up)) && !s.coverOpen x s.now

/-- The timer expires: the recovery is reset and counted (R292). -/
def State.recoveryReset (n : Nat) (s : State) : State :=
  if s.recoveryDue (s.stream n) then s.modStream n fun x => x.takeAgain.count 6 1 else s

/-- Recovery of stream `n` on number `q` (R289 step 1), after an expiry of its timer on an earlier tick. A number lost inside the window marks the
stream in its set (R301). -/
def State.recover (n q : Nat) (s0 : State) : State × Bool :=
  let s := s0.recoveryReset n
  let x := s.stream n
  let inside := s.coverOpen x s.now
  let r := if x.matches_ then x.match_ s.up q else x.vector inside s.up q
  let s1 := s.modStream n fun _ => r.1
  let rose := inside && decide (mapGet 0 x.ctr 5 < mapGet 0 r.1.ctr 5)
  (if rose then
    { s1 with streams.covers := mapMod Cover.dflt s1.streams.covers x.cover fun c =>
        if c.lost.contains n then c else { c with lost := n :: c.lost } }
   else s1, r.2)

/-! Generation (R291). -/

/-- The number of a frame of stream `n`: `none` discards it and counts GEN_DISCARD; `some none` is no
number (GEN NONE). `tag` is the received R-TAG, `host` the descriptor's number. -/
def State.generate (n : Nat) (tag host : Option Nat) (s : State) : State × Option (Option Nat) :=
  let x := s.stream n
  if x.gen = 0 then (s, some none)
  else if x.gen = 1 then
    match tag with
    | some q => (s, some (some q))
    | none => (s.countStream n 9 1, none)
  else if x.gen = 2 then
    ((s.modStream n fun x => { x with counter := (x.counter + 1) % 65536 }).countStream n 10 1, some (some x.counter))
  else if x.gen = 3 then
    let j := if x.cycle = s.tb.start then x.inCycle else 0
    if !s.tb.cycleValid || decide (x.cycleM ≤ j) then (s.countStream n 9 1, none)
    else ((s.modStream n fun x => { x with cycle := s.tb.start, inCycle := j + 1 }).countStream n 10 1,
      some (some ((s.tb.k * x.cycleM + j) % 65536)))
  else if x.gen = 4 then
    match host with
    | some q => (s.countStream n 10 1, some (some q))
    | none => (s.countStream n 9 1, none)
  else (s.countStream n 9 1, none)

/-! Replication (R285, R289 step 4, R290). -/

/-- A copy without its FCS: the received R-TAG removed, the VLAN ID replaced or a tag added, the new
R-TAG inserted. -/
def copyBytes (body : List Byte) (vid : Option (Nat × Nat)) (seq : Option Nat) : List Byte :=
  let b := dropRtag body
  let b := match vid with
    | some (v, tc) => setVid v tc b
    | none => b
  match seq with
  | some q => addRtag q b
  | none => b

/-- The bytes with an FCS: the frame's own where nothing was altered. -/
def copyFrame (frame new : List Byte) : List Byte := if noFcs frame = new then frame else withFcs new

/-- A frame in a stream: `frame` with its FCS, the received port and time stamp or the transmit chain
that submitted it. -/
structure StreamIn where
  frame : List Byte
  ingress : Option Nat
  stamp : Nat
  owner : Option (Nat × Nat)
  hostSeq : Option Nat
  /-- The device has padded it (08 R237): each port copy counts so. -/
  padded : Bool := false
  deriving DecidableEq, Repr, Inhabited

/-- One port copy; an oversize one is discarded and counted (R290). Answers whether it was made. -/
def State.portCopy (n p : Nat) (x : Stream) (i : StreamIn) (seq : Option Nat) (s : State) : State × Bool :=
  let vid := if x.ve p then some (x.vid p, x.tc) else none
  let b := copyFrame i.frame (copyBytes (noFcs i.frame) vid (if x.tagOut then seq else none))
  if (s.prt p).maxLen < b.length then (s.countStream n 12 1, false)
  else
    let s1 := (s.enqueue p { bytes := b, tc := x.tc, owner := i.owner, ingress := i.ingress }).countStream n (13 + p) 1
    (if i.padded then s1.count p 32 1 else s1, true)

/-- The host copy. A frame from host software has no ingress port and no ingress time stamp, and its
FCS is not delivered. -/
def State.hostCopy (n : Nat) (x : Stream) (i : StreamIn) (seq : Option Nat) (s : State) : State :=
  let b := copyFrame i.frame (copyBytes (noFcs i.frame) none (if x.tagHost then seq else none))
  let w : RxWait := match i.ingress with
    | some p => s.rxCopy p b (some i.stamp) 2 n (seq.getD 0) 0
    | none => { bytes := noFcs b, len := (noFcs b).length, flags := 0, port := 0, ts := none, source := 2
                stripped := true, tag := n, seq := seq.getD 0 }
  (s.toHost x.hostQ w).countStream n 17 1

/-- Steps 3 and 4 of R289: answers the state, the port copies made and whether a host copy was. -/
def State.replicate (n : Nat) (x : Stream) (i : StreamIn) (seq : Option Nat) (s : State) : State × Nat × Bool :=
  let held := !x.anyRole && !s.inControl
  let s1 := if held && decide (x.ports ≠ 0) then s.countStream n 11 1 else s
  let go := if held then [] else [0, 1, 2, 3].filter fun p => x.ports.testBit p
  let r := go.foldl (fun (a : State × Nat) p =>
    let q := a.1.portCopy n p x i seq
    (q.1, a.2 + (if q.2 then 1 else 0))) (s1, 0)
  (if x.hostEn then r.1.hostCopy n x i seq else r.1, r.2, x.hostEn)

/-- A frame that would enter stream `n` is held: it is a COUNTER stream whose value a hand-back brings, for at
most 20 µs from T_hb (15 R460). -/
def State.counterHeld (n : Nat) (s : State) : Bool :=
  (s.stream n).valid && (s.stream n).gen = 2 && s.unit.counterWait.any fun t => decide (s.now < t + 20000)

/-- A frame enters stream `n` (R288, R289): answers the state, the port copies made and whether a host
copy was. The entry is read once. -/
def State.enterStream (n : Nat) (i : StreamIn) (s : State) : State × Nat × Bool :=
  let x := s.stream n
  if !x.valid then ({ s with streams.noEntry := min (2 ^ 64 - 1) (s.streams.noEntry + 1) }, 0, false)
  else
    let tag := rtagOf (noFcs i.frame)
    let a : State × Bool :=
      if i.ingress.isSome && x.rcvyEn then
        match tag with
        | none => (s.countStream n 8 1, false)
        | some q => s.recover n q
      else (s, true)
    if !a.2 then (a.1, 0, false)
    else
      match a.1.generate n tag i.hostSeq with
      | (s1, none) => (s1, 0, false)
      | (s1, some seq) => s1.replicate n x i seq

end Sys2Proof.Machine
end

