-- ==== Sys2Proof/Machine/ModeOps.lean ====
section
/-! DEFINITION. Modes, roles and holds, as operations: 01_architecture R32-R41, 05_loop_modes R139 and
R154-R156, 15_unit_redundancy R438-R457, 17_power_reset R502, with the start-up map (07 R203) and the
verification of Axaro blocks (18 R518, R519). -/
namespace Sys2Proof.Machine

/-- The network time of the first loop frame that begins after now (04 R116). -/
def State.nextFrame (s : State) : Nat := (s.now / 1000 + 1) * 1000

/-- Something takes effect at the next loop frame start. -/
def State.atFrame (a : FrameAct) (s : State) : State := { s with loops.frames := s.loops.frames ++ [(s.nextFrame, a)] }

/-- T_HB and the release frame: the loop frame start that the last tick has reached, else the next (05 R144, R155). -/
def State.hbFrame (s : State) : Nat := if s.now % 1000 < 7 then s.now / 1000 * 1000 else s.nextFrame

/-! Hold causes (05 R139). -/

/-- A cause clears on an element. A sheaf whose instant lies before the element's next sample still finds it held
(R140 steps 2 and 3). -/
def Elem.released (dwell t : Nat) (x : Elem) : Elem := { x with clearing := true }.leaveHd dwell t

/-- The elements of a region. -/
def regionElements (r : Nat) : List Nat := List.range' (elementAt r 0 0 0) 5376

/-- Cause REGION or DEVICE arises on an element; one in PK stays there (R139). -/
def Elem.holdByRegion (t : Nat) (x : Elem) : Elem := { (if x.held then x else x.freeze t) with cRegion := true }
def Elem.holdByDevice (t : Nat) (x : Elem) : Elem := { (if x.held then x else x.freeze t) with cDevice := true }
def Elem.holdByBlock (t : Nat) (x : Elem) : Elem := { (if x.held then x else x.freeze t) with cBlock := true }

/-- Cause REGION on every element of a region (R139, R156). -/
def State.holdRegion (r : Nat) (s : State) : State :=
  (s.supersede fun e => regionOf e = r).modElems (regionElements r) fun _ x => x.holdByRegion s.now

/-- Some setter holds cause REGION of a region: LOOP_HOLD_REGION, SHED_REGION or RESET_REGION. -/
def State.regionHeld (s : State) (r : Nat) : Bool :=
  s.loops.regionHold.getLsbD r || s.gl.shed.getLsbD r || mapGet .none s.gl.regionPhase r ≠ .none

/-- Cause REGION clears once every setter has released it. -/
def State.releaseRegion (r : Nat) (s : State) : State :=
  if s.regionHeld r then s
  else s.modElems (regionElements r) fun e x =>
    if x.cRegion then { x with cRegion := false }.released (handoverOf s.loops e).dwell s.hbFrame else x

/-- Cause BLOCK on elements (01 R23, 07 R223). -/
def State.holdBlock (es : List Nat) (s : State) : State :=
  (s.supersede es.contains).modElems es fun _ x => x.holdByBlock s.now

/-- Cause DEVICE on every element (01 R33 rows 2 and 13). -/
def State.holdDevice (s : State) : State :=
  s.modElems (List.range numElements) fun _ x => x.holdByDevice s.now

/-- The release of cause DEVICE, from which elements hand back (R144; 07 R207). -/
def State.handBackAll (s : State) : State :=
  { s with
    loops.elems := mapListed Elem.park (fun e x =>
      if x.cDevice then { x with cDevice := false }.released (handoverOf s.loops e).dwell s.hbFrame else x) s.loops.elems }

/-! The conditions of DEGRADED (01 R32). -/

/-- The light of a port of stage `19 - n`, with the gates as they stand, meets a failed cell. -/
def meetsFailed (m : SMap Elem) (fs : List FailedCell) (plane : Nat) : Nat → Nat → Bool
  | 0, _ => false
  | n + 1, p =>
    let s := 18 - n
    let go (q : Nat) : Bool := meetsFailed m fs plane n (if s = 18 then q else link s q)
    (failedAt fs plane s (p / 2)).isSome ||
    match cellPath m fs plane s (p / 2) with
    | .bar => go p
    | .cross => go (if p % 2 = 0 then p + 1 else p - 1)
    | .park => false
    | .mixed => false

/-- A connection of the map is HALF_LIT because a failed cell breaks its path in one plane. -/
def State.routeLost (s : State) : Bool :=
  let m := s.loops.elems
  let fs := s.fabric.failed
  fs ≠ [] && s.fabric.halfLit.any fun j =>
    match s.fabric.map.getD j none with
    | some i => [0, 1].any fun pl => carried m fs pl j ≠ some i && meetsFailed m fs pl 19 i
    | none => false

/-- A port's serving lane has failed with no spare lane left: none is wired to it and unused (08 R233, R235). -/
def State.laneLost (s : State) : Bool :=
  s.ports.port.any fun p => p.2.dead.contains p.2.lane && p.2.subst.isNone && (s.spareFor p.1).isNone

/-- A condition of R32 holds. -/
def State.impaired (s : State) : Bool :=
  s.gl.shed ≠ 0 || s.cal.lost ≠ [] || s.laneLost || s.routeLost

/-! Mode changes. -/

/-- The mode changes, and CONTROL with it (15 R440); each change of MODE or CONTROL is a unit event, and
ROLE_CHANGE sets (15 R462). -/
def State.setMode (m : Mode) (s : State) : State :=
  if s.unit.mode = m then s
  else
    let c := m = .active || m = .degraded
    let s1 := { s with unit.mode := m, unit.control := c }.unSet 0
    let s2 := s1.unEvent
    if c ≠ s.unit.control then s2.unEvent else s2

/-- Rows 11 and 12 of R33. -/
def State.checkDegraded (s : State) : State :=
  if s.inControl then s.setMode (if s.impaired then .degraded else .active) else s

/-- Kinds of failure as a payload spells them: 0 STUCK_BAR, 1 STUCK_CROSS, 2 DARK (DESIGN CHOICE, log 12). -/
def kindOfCode (n : Nat) : Option FailKind :=
  if n = 0 then some .stuckBar else if n = 1 then some .stuckCross else if n = 2 then some .dark else none

/-- Firmware judges a cell on evidence (R97): whether it declares it failed, and as what kind, is a
free value (DESIGN CHOICE, log 11). -/
def State.judgeCell (g : Nat) (ev : Evidence) (s : State) : State :=
  let k := fabricCellOf g
  let t := s.drawn
  match kindOfCode ((s.measured 3 g).natAbs % 4) with
  | some kind => (t.declareFailed k.1 k.2.1 k.2.2 kind ev).checkDegraded
  | none => t

/-! HOLD (01 R33 rows 13 to 16, R35-R37). -/

/-- Causes of HOLD in force. -/
def State.holdCaused (s : State) : Bool :=
  s.power.cmdHold || s.power.pinHold || s.gl.hold || s.gl.lockstep

/-- Row 13: entry into HOLD from the modes that allow it, at the frame start T_h that has been reached (05 R154). A
running entry into SLEEP bars it (R41). -/
def State.holdEntry (s : State) : State :=
  if !s.sleeping && (s.unit.mode = .calibrate || s.unit.mode = .standby || s.inControl) then
    ({ s with unit.holdFrom := s.unit.mode, unit.ready := false, power.holdFrame := s.now / 1000 * 1000 }.setMode .hold).holdDevice
  else s

/-! Roles (15 R439-R442, R452-R457, R460). -/

/-- This unit is treated as the preferred one: its strap, or the lower node ID where both straps or
neither are set (R439). -/
def State.preferred (s : State) : Bool :=
  if s.unit.prefConflict then decide (s.hedge.node < s.unit.pair.partner) else s.unit.pref

/-- The number of the epoch that contains now (R444). -/
def State.epochNow (s : State) : Word := BitVec.ofNat 32 (s.now / 250000)

/-- A unit that has just taken control starts an epoch with nothing sent. -/
def State.startEpochs (s : State) : State :=
  { s with
    unit.epoch := s.epochNow, unit.epochOpen := true, unit.data := [], unit.isBase := false
    unit.mirror := {}, unit.slice := 0, unit.ready := false, unit.noControl := 0 }

/-- COUNTER values raised by JUMP (10 R297). -/
def State.jumpCounters (s : State) : State :=
  { s with
    streams.table := mapListed Stream.dflt (fun _ x =>
      if x.gen = 2 then { x with counter := (x.counter + x.jump) % 65536 } else x) s.streams.table }

/-- The sheaves that a unit held from its partner become its own. After a takeover those that have
reached their outcome complete now, and all with TAKEN_OVER (06 R190); after a hand-back those with
instants before it were the partner's to complete (15 R460). -/
def State.adoptSheaves (taken : Bool) (s : State) : State :=
  let ended := s.sheaves.store.filter fun x => x.mirrored && x.phase = .done
  let s1 := { s with
    sheaves.store := s.sheaves.store.map fun x =>
      if x.mirrored then { x with mirrored := false, detail := if taken && !(x.phase = .done && x.outcome = 0x0C) then x.detail ||| 16 else x.detail } else x }
  if !taken then s1
  else ended.foldl (fun t x =>
    match x.submitter with
    | .fcq q idx => t.fcqComplete q idx (sheafCompletion x.id x.outcome
        (if x.outcome = 0x0C then x.detail else x.detail ||| 16) x.instant x.excluded.length x.nRefused)
    | _ => t) s1

/-- Promotion by row 8 or 9 of R33. -/
def State.promote (s : State) : State :=
  let s1 := s.setMode (if s.impaired then .degraded else .active)
  { s1.startEpochs with unit.takeovers := min 65535 (s1.unit.takeovers + 1), cycle.takeovers := s1.cycle.takeovers + 1 }

/-- A hand-back that did not come about (R460). -/
def HandbackState.ended (h : HandbackState) : HandbackState := if h = .pending then .failed else h

/-- Takeover (R454). -/
def State.takeover (s : State) : State :=
  if s.unit.mode ≠ .standby || s.sleeping then s
  else
    let unready := !s.unit.ready
    let s1 := { s.promote with
      unit.takeoverEpoch := s.unit.applied.getD 0, unit.takeoverTime := s.unit.appliedClose
      unit.applied := none, unit.handbackAt := none, unit.handback := s.unit.handback.ended
      unit.moved := [], unit.movedStooks := [] }
    let s2 := if s.unit.mlUp then s1.emit (.mirror .claim) else s1
    let s3 := s2.unSet 1
    let s4 := if unready then s3.unSet 9 else s3
    ((s4.jumpCounters).adoptSheaves true).autoRepair []

/-- The sheaves that a demoted unit keeps: those armed, held for its partner, and finished ones. -/
def keepArmed (l : List Sheaf) : List Sheaf :=
  (l.filter fun x => x.phase ≠ .staged).map fun x => if x.phase = .done then x else { x with mirrored := true }

/-- Class D demotion (01 R33 row 10; 17 R502): what is role state of the unit in control is discarded
without completions, and its armed sheaves stay armed. -/
def State.demote (s : State) : State :=
  if !s.inControl then s
  else
    let s1 := { s with
      sheaves.store := keepArmed s.sheaves.store
      sheaves.opened := [], sheaves.stooks := [], sheaves.report := []
      unit.ready := false, unit.applied := none, unit.baselineDone := false, unit.held := []
      unit.recs := [], unit.epochOpen := false, unit.baseLeft := 0, unit.handbackAt := none
      unit.handback := s.unit.handback.ended, unit.closed := [], hedge.commits := [], unit.noControl := 0 }
    (s1.setMode .standby).unSet 2

/-- Bit DUAL_ACTING sets while the unit holds control and sees its partner's CONTROL = 1 (R458). -/
def State.dualCheck (s : State) : State :=
  if s.inControl && s.unit.pair.paired && s.unit.partnerControl then s.unSet 3 else s

/-- A partner's claim of control reaches a unit (R457). -/
def State.claimed (s : State) : State :=
  if !s.inControl || !s.unit.pair.paired then s
  else if s.preferred then s.dualCheck
  else s.dualCheck.demote

/-! Start-up (07 R203, R204; 15 R441, R442). -/

/-- The map that LOCK brings up: the mirrored one for a unit that becomes the Standby, else the start-up
map. After a class H reset the fabric is held and carries its map (17 R506). -/
def State.mapToBringUp (s : State) (standby : Bool) : List (Option Nat) :=
  if standby && s.unit.mirrorMap ≠ [] then s.unit.mirrorMap
  else if !s.power.dark then connectionMap s.loops.elems s.fabric.failed
  else (s.unit.startupMap).getD (List.replicate 512 none)

/-- The request that brings up a map from the fabric as it stands. -/
def State.bringUpRequest (target : List (Option Nat)) (s : State) : SolveReq :=
  let m := s.loops.elems
  let fs := s.fabric.failed
  let alike (j : Nat) (o : Option Nat) : Bool := carried m fs 0 j = o && carried m fs 1 j = o
  { instant := s.now, move := true
    adds := target.zipIdx.filterMap fun p => p.1.bind fun i => if alike p.2 (some i) then none else some (i, p.2)
    release := (List.range 512).filter fun j => (target.getD j none).isNone && !alike j none }

/-- The route that brings up as many connections of the request as can be carried. -/
def State.bringUpRoute (r : SolveReq) (s : State) : Option Route :=
  let tries := (sublists r.adds).filterMap fun sub =>
    let left := (r.adds.filter fun p => !sub.contains p).map (·.2)
    (cheapest (s.routes { r with adds := sub, release := r.release ++ left })).map fun x => ((r.adds.length - sub.length, 0, 0), x.2)
  (cheapest tries).map (·.2)

/-- A heartbeat with CONTROL = 1 from the partner within the last 8 cycles (R441). -/
def State.partnerLeads (s : State) : Bool :=
  s.unit.partnerSeen && decide (s.unit.ctlCycles < 8)

/-- After a class P reset the plane becomes live: every cell but a failed one leaves PARK, in BAR and on its way to LK,
and every VOA is at BLOCK until a connection opens it (03 R85, R89; R203). -/
def State.lit (s : State) : SMap Elem :=
  let park (e : Nat) : Bool := (s.elem e).mode = .pk
  let cells := (liveCells s.fabric.failed).filter fun g => park g && park (g + 1)
  let voas := ((List.range numElements).filter fun e => !isGate e).filter park
  s.withChanges s.now s.loops.elems (cells.flatMap (fun g => [s.lockChange g false, s.lockChange (g + 1) false]) ++ voas.map blockChange)

/-- LOCK brings up the map, the mirrored one where the partner holds control (R203), by sheaves of firmware that never
reach the host (R204): those of the solver, with checks 8 to 10 of R162 and R81 kept. The elements then hand over by
their own samples. -/
def State.bringUp (s : State) : State :=
  let s0 := if s.power.dark then { s with loops.elems := s.lit } else s
  let r := s0.bringUpRequest (s.mapToBringUp (s.unit.pair.paired && s.partnerLeads))
  let s1 := if r.adds = [] && r.release = [] then s0
    else match s0.bringUpRoute r with
      | some x => { s0 with loops.elems := (x.prep ++ x.main).foldl (s0.applyTo s0.now) s0.loops.elems }
      | none => s0
  s1.refreshMap

/-- Every output VOA of a dark plane goes to BLOCK at the start of CALIBRATE (R204). -/
def State.blockOutputs (s : State) : State :=
  { s with loops.elems := s.withChanges s.now s.loops.elems ((bothPlanes outVoa (List.range 512)).map blockChange) }

/-- A stage of CALIBRATE starts, or starts again after a HOLD (R203, R207, R208). In ELEMENTS after a class H reset every
element is STORED until the hand-back that clears cause DEVICE is accepted. -/
def State.startStage (n : Nat) (s : State) : State :=
  let s1 := { s with cal.stage := n }
  if n = 4 && !s.power.dark then
    { s1 with cal.work := (List.range numElements).map fun e => (e, some { s.image e with vstate := 1 }) }.handBackAll
  else if n = 5 then s1.handBackAll.bringUp
  else s1

/-- No element has a hand-over or a hand-back still to come. -/
def State.handedOver (s : State) : Bool := s.loops.elems.all fun p => p.2.attempt.isNone

/-- CALIBRATE is completed and counts (R216). -/
def State.calibrateDone (s : State) : State :=
  { s with cal.stage := 0, cal.globalCount := (s.cal.globalCount + 1) % 2 ^ 32, cal.globalTime := s.steppedTime }

/-- A unit becomes the Standby at the end of CALIBRATE (R441, R33 row 5). -/
def State.becomeStandby (s : State) : State :=
  let s1 := s.calibrateDone.setMode .standby
  { s1 with unit.waiting := none, unit.baselineDone := false, unit.applied := none }

/-- A unit takes control at the end of CALIBRATE (R33 rows 6 and 7). -/
def State.takeControl (s : State) : State :=
  let s1 := s.calibrateDone
  let s2 := s1.setMode (if s1.impaired then .degraded else .active)
  { s2.startEpochs with unit.waiting := none }

/-- The role decision at the end of CALIBRATE (R438, R441). A unit that waits stays in LOCK. -/
def State.roleDecision (s : State) : State :=
  if !s.unit.pair.paired then s.takeControl
  else if s.partnerLeads then s.becomeStandby
  else if s.preferred then s.takeControl
  else
    let waited := match s.unit.waiting with
      | some t => decide (t + 400000000000 ≤ s.up)
      | none => false
    if s.unit.partnerSeen && s.unit.hbMode = .calibrate && !waited &&
        decide (s.up < s.unit.hbAt + s.unit.pair.roleWaitMs * 10000000) then
      { s with unit.waiting := s.unit.waiting.orElse fun _ => some s.up }
    else s.takeControl

/-- Rows 14 to 16: the last cause has been released. The stage of CALIBRATE that the HOLD interrupted starts again (07
R208); after a class H reset cause DEVICE stays until the hand-back of ELEMENTS (07 R207). -/
def State.holdRelease (s : State) : State :=
  if s.unit.mode ≠ .hold || s.holdCaused || s.sleeping then s
  else if s.unit.holdFrom = .calibrate then
    let s1 := s.setMode .calibrate
    (if s.power.dark then s1.handBackAll else s1).startStage s.cal.stage
  else
    let partner := s.unit.pair.paired && s.unit.partnerControl
    if partner || s.unit.holdFrom = .standby then (s.setMode .standby).handBackAll
    else (s.setMode (if s.impaired then .degraded else .active)).handBackAll

/-! Axaro blocks (18 R518, R519). -/

/-- What the verification of a block answers. -/
inductive Verdict3 where
  | unsigned | bad | good
  deriving DecidableEq, Repr, Inhabited

/-- The verdict on a command's content and its block, if any. -/
def State.axaroVerdict (s : State) (kind : Nat) (content : List Byte) (sig : Option AxaroBlock) : Verdict3 :=
  match sig with
  | none => if s.trust.policySigned then .unsigned else .good
  | some b =>
    let key := mapGet 0 s.trust.akey b.slot
    let signed := b.kind :: leNat 8 b.target.toNat ++ content
    if b.kind.toNat = kind && decide (b.slot < 4) && key ≠ 0 && !s.trust.arevoke.getLsbD b.slot &&
        (b.target = 0 || b.target = s.ident.serial) &&
        Config.signatureOk (leNat 32 key.toNat) (sha512 signed) (leNat 64 b.signature.toNat) then .good
    else .bad

end Sys2Proof.Machine
end

