-- ==== Sys2Proof/Machine/FabricCmds.lean ====
section
/-! DEFINITION. The FABRIC commands and idle parking: 03_fabric R85, R97-R106, R552. -/
namespace Sys2Proof.Machine

/-- An optional number as a payload field; -1 for none. -/
def optField (o : Option Nat) : Int := match o with | some x => (x : Int) | none => -1

/-- VOA_PENDING, which R552 names and does not define: a VOA of the output's connection, the input of INPUT, still waits
for its hand-over, and so has not settled (R89; DESIGN CHOICE, log 17). Where INPUT is none it is not set. -/
def voaPending (m : SMap Elem) (i : Option Nat) (j : Nat) : Bool :=
  match i with
  | none => false
  | some i => [inVoa 0 i, inVoa 1 i, outVoa 0 j, outVoa 1 j].any fun e => (mapGet Elem.park m e).reqLk

/-- One entry of FABRIC_GET_MAP (R552). -/
def mapEntry (m : SMap Elem) (fs : List FailedCell) (j : Nat) : List Int :=
  let a := carried m fs 0 j
  let b := carried m fs 1 j
  [optField a, optField b, optField (mapInput a b), b2i (a ≠ b), b2i (voaPending m (mapInput a b) j)]

/-- FABRIC_GET_MAP (R552): returns the connection map with per-plane inputs, HALF_LIT and VOA_PENDING for each output.
-/
def execFabricGetMap (tag : Tag) (s : State) : Host.Outcome State Fault Refusal :=
  .next <| s.query tag 0x0301 (some 0) fun s =>
    Reply.ok ((s.fabric.lastSheaf : Int) ::
      (List.range 512).flatMap fun j => mapEntry s.loops.elems s.fabric.failed j)

/-- FABRIC_GET_PATH (R104): returns the 19 stage, cell and state entries of one connection in one plane. -/
def execFabricGetPath (tag : Tag) (plane output : Nat) (s : State) : Host.Outcome State Fault Refusal :=
  .next <| s.query tag 0x0302 none fun s =>
    if 1 < plane then Reply.no .outOfRange (detailOf 0 0)
    else if 511 < output then Reply.no .outOfRange (detailOf 0 2)
    else match carried s.loops.elems s.fabric.failed plane output with
      | none => Reply.no .outOfRange (detailOf 0 2)
      | some i => match tracePath s.loops.elems s.fabric.failed plane 19 i with
        | none => Reply.no .outOfRange (detailOf 0 2)
        | some (cs, _) => Reply.ok (cs.flatMap fun c =>
            [(c.1 : Int), c.2.1, cellCode s.loops.elems s.fabric.failed plane c.1 c.2.1])

/-- FABRIC_GET_CELLS (R105): returns the state codes of up to 1,024 cells of one plane. How the command names them R104
does not say: a first cell, numbered stage × 256 + cell, and a count of at least 1 (DESIGN CHOICE, log 17). -/
def execFabricGetCells (tag : Tag) (plane first count : Nat) (s : State) : Host.Outcome State Fault Refusal :=
  .next <| s.query tag 0x0303 none fun s =>
    if 1 < plane then Reply.no .outOfRange (detailOf 0 0)
    else if count = 0 || 1024 < count || 4864 < first + count then Reply.no .outOfRange (detailOf 0 2)
    else Reply.ok ((List.range count).map fun k =>
      (cellCode s.loops.elems s.fabric.failed plane ((first + k) / 256) ((first + k) % 256) : Int))

def FailKind.code : FailKind → Nat
  | .stuckBar => 0 | .stuckCross => 1 | .dark => 2

def Evidence.code : Evidence → Nat
  | .calibration => 0 | .unlockable => 1 | .driveFault => 2 | .host => 3

/-- FABRIC_GET_FAILED (R104): returns one plane's failed-cell list. -/
def execFabricGetFailed (tag : Tag) (plane : Nat) (s : State) : Host.Outcome State Fault Refusal :=
  .next <| s.query tag 0x0304 none fun s =>
    if 1 < plane then Reply.no .outOfRange (detailOf 0 0)
    else Reply.ok ((s.fabric.failed.filter fun f => f.plane = plane).flatMap fun f =>
      [(f.stage : Int), f.cell, f.kind.code, f.evidence.code, f.time])

/-- FABRIC_SET_FAILED (R99): declares a fabric cell failed with its kind, affecting staged and armed sheaves and
connections through it. -/
def execFabricSetFailed (tag : Tag) (plane stage cell kind : Nat) (s : State) : Host.Outcome State Fault Refusal :=
  .next <| s.serve tag 0x0305 false none fun s =>
    if !s.inControl then refuse s .notPermitted
    else if 1 < plane then refuse s .outOfRange (detailOf 0 0)
    else if 18 < stage then refuse s .outOfRange (detailOf 0 1)
    else if 255 < cell then refuse s .outOfRange (detailOf 0 2)
    else match kindOfCode kind with
      | none => refuse s .outOfRange (detailOf 0 3)
      | some k =>
        if (failedAt s.fabric.failed plane stage cell).isNone &&
            decide (256 ≤ (s.fabric.failed.filter fun f => f.plane = plane).length) then
          refuse s .outOfRange (detailOf 0 0)
        else ((s.declareFailed plane stage cell k .host).checkDegraded, Reply.done)

/-- A spare substitution involves the loop cell or block of an element (07 R220, R221). -/
def State.substituting (s : State) (e : Nat) : Bool :=
  s.cal.subst.any fun x => x.region = regionOf e && x.block = blockOf e &&
    (x.whole || x.cell = loopCellOf e)

/-- FABRIC_CLEAR_FAILED (R102): re-tests a failed cell and, on pass, returns it to PARK and clears its declaration. Where
BUSY and IN_USE both apply the answer is BUSY; the results are spelt 0 for pass, 1 for fail with the measured figure and
2 for a cell not listed (DESIGN CHOICE, log 17). -/
def execFabricClearFailed (tag : Tag) (plane stage cell : Nat) (s : State) : Host.Outcome State Fault Refusal :=
  .next <| s.serve tag 0x0306 false none fun s =>
    let g := gateAt plane stage cell
    if !s.inControl then refuse s .notPermitted
    else if 1 < plane || 18 < stage || 255 < cell then refuse s .outOfRange
    else match failedAt s.fabric.failed plane stage cell with
    | none => (s, Reply.ok [2])
    | some f =>
    if s.substituting g || s.substituting (g + 1) then refuse s .busy
    else if cellCarries s.loops.elems s.fabric.failed plane stage cell then refuse s .inUse
    else if s.measured 2 g = 0 then
      let w := locFabric plane stage cell f.kind.code
      let s1 := { s with
        fabric.failed := s.fabric.failed.filter fun f =>
          !(f.plane = plane && f.stage = stage && f.cell = cell) }.logSubst 7 4 0xFFFF w w w 0 0 0
      (((s1.modElems [g, g + 1] fun _ x => x.parked s.now).drawn.refreshMap).checkDegraded, Reply.ok [0])
    else (s.drawn, Reply.ok [1, s.measured 2 g])

/-- FABRIC_GET_LEVELS (R104): returns for each fibre and plane the ratio to the plane's reference in 0.1 dB and an
indicative absolute level; the quantities are measured (DESIGN CHOICE, log 8). -/
def execFabricGetLevels (tag : Tag) (output : Bool) (first count : Nat) (s : State) : Host.Outcome State Fault Refusal :=
  .next <| s.serve tag 0x0307 true none fun s =>
    if count = 0 || 512 < first + count then refuse s .outOfRange
    else (s.drawn, Reply.ok ((List.range count).flatMap fun k => [0, 1].flatMap fun pl =>
      [s.measured (if output then 5 else 4) (2 * (first + k) + pl), s.measured (if output then 7 else 6) (2 * (first + k) + pl)]))

/-- FABRIC_SET_REPAIR (R100). Enabled, automatic repair takes up what is HALF_LIT. -/
def execFabricSetRepair (tag : Tag) (enable : Bool) (leadNs : Nat) (s : State) : Host.Outcome State Fault Refusal :=
  .next <| s.serve tag 0x0308 false none fun s =>
    if leadNs < 50000 || 100000000 < leadNs then refuse s .outOfRange (detailOf 0 4)
    else ({ s with fabric.repairOn := enable, fabric.repairLead := leadNs }.autoRepair [], Reply.done)

/-- FABRIC_SET_PARKING (R85): enables or disables idle parking and sets the park delay. -/
def execFabricSetParking (tag : Tag) (enable : Bool) (delayNs : Nat) (s : State) : Host.Outcome State Fault Refusal :=
  .next <| s.serve tag 0x0309 false none fun s =>
    if delayNs < 10000000 || 3600000000000 < delayNs then refuse s .outOfRange (detailOf 0 4)
    else ({ s with fabric.parkOn := enable, fabric.parkDelay := delayNs }, Reply.done)

/-- Idle parking of one cell is due (R85): enabled, lit, not failed, not held, and without a
connection for the park delay. -/
def State.idleParkDue (s : State) (plane stage cell : Nat) : Bool :=
  let g := gateAt plane stage cell
  let l := s.elem g
  let t := s.elem (g + 1)
  s.fabric.parkOn && decide (plane < 2) && decide (stage < 19) && decide (cell < 256) &&
  (failedAt s.fabric.failed plane stage cell).isNone &&
  (l.mode ≠ .pk || t.mode ≠ .pk) && !l.held && !t.held &&
  !cellCarries s.loops.elems s.fabric.failed plane stage cell &&
  decide (mapGet 0 s.fabric.lastCarried g + s.fabric.parkDelay ≤ s.upNs)

/-- IDLE_PARK_TIMEOUT (R85): A cell idle for the park delay is parked. -/
def execIdleParkTimeout (plane stage cell : Nat) (s : State) : Host.Outcome State Fault Refusal :=
  .next <|
    let g := gateAt plane stage cell
    if s.idleParkDue plane stage cell then s.modElems [g, g + 1] fun _ x => x.parked s.now else s

end Sys2Proof.Machine
end

