-- ==== Sys2Proof/Machine/LoopCmds.lean ====
section
/-! DEFINITION. The LOOP commands and the events of the element loops and VOA groups:
04_element_loops and 05_loop_modes. -/
namespace Sys2Proof.Machine

/-- A range of elements with at most `max` of them. -/
def rangeOk (first count max : Nat) : Bool :=
  decide (1 ≤ count) && decide (count ≤ max) && decide (first + count ≤ numElements)

/-- The record in force of an element. -/
def State.record (s : State) (e : Nat) : ParamRec := (s.elem e).record (s.image e)

/-- U_CAP of an element (R110). -/
def State.uCap (s : State) (e : Nat) : Nat := (s.elem e).cap (Config.fullScale e)

/-- LOOP_GET_PARAMS (R133): returns the parameter records of up to 64 elements. -/
def execLoopGetParams (tag : Tag) (first count : Nat) (s : State) : Host.Outcome State Fault Refusal :=
  .next <| s.query tag 0x0501 none fun s =>
    if !rangeOk first count 64 then Reply.no .outOfRange
    else {
      payload := .bytes (wordsBytes ((List.range count).flatMap fun k =>
        (s.record (first + k)).words (s.elem (first + k)).r)) }

/-- Index and byte offset of the first record that R130 refuses. -/
def firstBad (first : Nat) (recs : List ParamRec) : Option (Nat × Nat) :=
  recs.zipIdx.findSome? fun p => (p.1.offends (isGate (first + p.2))).map fun o => (p.2, o)

/-- A record written to an element (R131). -/
def Elem.writeRecord (img : ImgEl) (p : ParamRec) (x : Elem) : Elem :=
  { x with prm := some p
           histPend := x.histPend || decide ((x.record img).shaping ≠ p.shaping) }

/-- LOOP_SET_PARAMS (R131; of several refusals R133 names no order: NOT_PERMITTED comes first, BUSY last, DESIGN CHOICE,
log 13): writes parameter records of up to 64 elements, except SETPOINT, effective in one loop
frame. -/
def execLoopSetParams (tag : Tag) (first : Nat) (recs : List ParamRec) (s : State) : Host.Outcome State Fault Refusal :=
  .next <| s.serve tag 0x0502 false none fun s =>
    if s.unit.mode = .factoryTest then refuse s .notPermitted
    else if !rangeOk first recs.length 64 then refuse s .outOfRange
    else match firstBad first recs with
      | some b => refuse s .outOfRange (detailOf b.1 b.2)
      | none =>
        if (List.range recs.length).any fun k => s.substituting (first + k) then refuse s .busy
        else (s.atFrame (.params first recs), Reply.ok [s.nextFrame])

/-- The fields of LOOP_GET_STATE for one element (R133, R110). -/
def State.loopState (s : State) (e : Nat) : List Int :=
  let x := s.elem e
  [x.mH, x.mO, x.y, x.e, x.q.e1, x.q.e2, x.q.e3, x.q.v1, x.q.v2, x.q.w, x.q.u, x.r,
   x.last.toNat, x.tSample, s.uCap e]

/-- LOOP_GET_STATE (R133): returns the loop state of up to 64 elements. -/
def execLoopGetState (tag : Tag) (first count : Nat) (s : State) : Host.Outcome State Fault Refusal :=
  .next <| s.query tag 0x0503 none fun s =>
    if !rangeOk first count 64 then Reply.no .outOfRange
    else Reply.ok ((List.range count).flatMap fun k => s.loopState (first + k))

/-- LOOP_GET_FLAGS (R133): returns the sticky status words of up to 1,024 elements. -/
def execLoopGetFlags (tag : Tag) (first count : Nat) (s : State) : Host.Outcome State Fault Refusal :=
  .next <| s.query tag 0x0504 none fun s =>
    if !rangeOk first count 1024 then Reply.no .outOfRange
    else Reply.ok ((List.range count).map fun k => ((s.elem (first + k)).flags.toNat : Int))

/-- LOOP_CLEAR_FLAGS (R127): clears masked sticky status bits, except UNLOCKABLE, in a range of elements. -/
def execLoopClearFlags (tag : Tag) (first count : Nat) (mask : BitVec 16) (s : State) : Host.Outcome State Fault Refusal :=
  .next <| s.serve tag 0x0505 false none fun s =>
    if !rangeOk first count 21504 then refuse s .outOfRange
    else (s.modElems (List.range' first count) fun _ x =>
      { x with flags := x.flags &&& ~~~(mask &&& 0xEFFF#16) }, Reply.done)

/-- The capture of a region is armed or running. -/
def State.capturing (s : State) (region : Nat) : Bool :=
  match mapGet none s.loops.captures region with
  | some c => c.state = .armed || c.state = .running
  | none => false

/-- LOOP_CAPTURE (R134): arms a capture of one element for a number of consecutive samples, of which the first lies at
least 50 µs after the command arrived (R133; of several refusals NOT_STEPPED comes first, BUSY last, DESIGN CHOICE, log
13). -/
def execLoopCapture (tag : Tag) (element samples time : Nat) (s : State) : Host.Outcome State Fault Refusal :=
  .next <| s.serve tag 0x0506 false none fun s =>
    if !s.tb.stepped then refuse s .notStepped
    else if numElements ≤ element || samples = 0 || 4096 < samples || time < s.arrivalOf tag + 50000 then refuse s .outOfRange
    else if s.capturing (regionOf element) then refuse s .busy
    else ({ s with
            loops.captures := mapSet none s.loops.captures (regionOf element)
              (some { element := element, start := time, count := samples, samples := [], state := .armed }) },
          Reply.done)

def CapState.code : CapState → Nat
  | .armed => 0 | .running => 1 | .complete => 2 | .aborted => 3

/-- LOOP_GET_CAPTURE (R133): returns one page of captured samples and the capture state. -/
def execLoopGetCapture (tag : Tag) (element page : Nat) (s : State) : Host.Outcome State Fault Refusal :=
  .next <| s.query tag 0x0507 none fun s =>
    match mapGet none s.loops.captures (regionOf element) with
    | none => Reply.no .outOfRange
    | some c =>
      if c.element ≠ element || c.count ≤ 128 * page then Reply.no .outOfRange
      else if (c.state = .armed || c.state = .running) &&
          decide (c.samples.length < min c.count (128 * (page + 1))) then Reply.no .busy
      else { payload := .headed [(c.state.code : Int)] ((c.samples.drop (128 * page)).take 128).flatten }

/-- The mode record of an element (R136). -/
def State.modeRecord (s : State) (e : Nat) : List Word :=
  let x := s.elem e
  let f := x.ff.getD ((s.image e).ffBar, (s.image e).ffCross)
  let causes := flag x.cSheaf 8 + flag x.cBlock 9 + flag x.cRegion 10 + flag x.cDevice 11 + flag x.cCell 12
  [BitVec.ofNat 32 (x.group * 2 ^ 13 + causes + x.refusals * 64 + x.prior.code * 16 + flag x.reqLk 3
      + flag x.cross 2 + x.mode.code),
   BitVec.ofNat 32 (f.1 * 65536 + (if isGate e then f.2 else 0)),
   BitVec.ofNat 32 (x.target * 65536 + x.rampSlew), x.tLast]

/-- LOOP_GET_MODE (R157): returns mode records of up to 254 elements. -/
def execLoopGetMode (tag : Tag) (first count : Nat) (s : State) : Host.Outcome State Fault Refusal :=
  .next <| s.query tag 0x0508 none fun s =>
    if !rangeOk first count 254 then Reply.no .outOfRange
    else { payload := .bytes (wordsBytes ((List.range count).flatMap fun k => s.modeRecord (first + k))) }

/-- LOOP_SET_HANDOVER (R157): sets DWELL, RETRY and HO_TOL for gates or VOAs. -/
def execLoopSetHandover (tag : Tag) (voa : Bool) (dwellUs retryUs hoTol : Nat) (s : State) : Host.Outcome State Fault Refusal :=
  .next <| s.serve tag 0x0509 false none fun s =>
    if (if voa then decide (dwellUs < 10) || decide (10000 < dwellUs) else decide (dwellUs < 1) || decide (100 < dwellUs)) then
      refuse s .outOfRange (detailOf 0 4)
    else if retryUs < 1 || 1000 < retryUs then refuse s .outOfRange (detailOf 0 8)
    else if hoTol < 1 || 65535 < hoTol then refuse s .outOfRange (detailOf 0 12)
    else
      let h : Handover := { dwell := 1000 * dwellUs, retry := 1000 * retryUs, tol := hoTol }
      (if voa then { s with loops.voa := h } else { s with loops.gate := h }, Reply.done)

/-- LOOP_RETRY_LOCK on one element (R157, R145). -/
def Elem.retry (t : Nat) (x : Elem) : Elem :=
  let y := x.relock
  if (y.mode = .ff && y.reqLk) || (y.mode = .hd && !y.held) then { y with attempt := some t } else y

/-- LOOP_RETRY_LOCK (R145): clears UNLOCKABLE and REFUSALS and makes the next sample a hand-over attempt. -/
def execLoopRetryLock (tag : Tag) (first count : Nat) (s : State) : Host.Outcome State Fault Refusal :=
  .next <| s.serve tag 0x050A false none fun s =>
    if !s.inControl then refuse s .notPermitted
    else if !rangeOk first count 21504 then refuse s .outOfRange
    else (s.modElems (List.range' first count) fun _ x => x.retry s.now, Reply.done)

/-- LOOP_HOLD_REGION (R156): sets or releases cause REGION on every element of one region from the next frame. -/
def execLoopHoldRegion (tag : Tag) (region : Nat) (hold : Bool) (s : State) : Host.Outcome State Fault Refusal :=
  .next <| s.serve tag 0x050B false none fun s =>
    if 3 < region then refuse s .outOfRange
    else
      let b := BitVec.ofNat 4 (2 ^ region)
      let s1 := { s with loops.regionHold := if hold then s.loops.regionHold ||| b else s.loops.regionHold &&& ~~~b }
      (s1.atFrame (.region region), Reply.ok [s.nextFrame])

/-! VOA groups (R149-R153). -/

/-- The VOAs of a group, in both planes. -/
def groupVoas (c : VoaGroupCfg) : List Nat :=
  c.fibres.flatMap fun f => if c.inputs then [inVoa 0 f, inVoa 1 f] else [outVoa 0 f, outVoa 1 f]

/-- The table of R151: 256 targets from A_LO to A_HI. -/
def groupTable (aLo aHi : Nat) : List Nat :=
  (List.range 256).map fun i => min 65535 (linearOf (aLo * (255 - i) + aHi * i))

/-- Another group, enabled or not, has one of the configuration's fibres at the same ends (R149, R157), or an enabled one
reads its pin in the other mode where the configuration is enabled too (R150). -/
def State.groupClash (group : Nat) (cfg : VoaGroupCfg) (s : State) : Bool :=
  (s.loops.groups.filter fun p => p.1 ≠ group).any fun p =>
    (cfg.enabled && p.2.cfg.enabled && p.2.cfg.pin = cfg.pin && p.2.cfg.pulse ≠ cfg.pulse) ||
      (p.2.cfg.inputs = cfg.inputs && p.2.cfg.fibres.any cfg.fibres.contains)

/-- A group takes a configuration: the VOAs that it had leave it, and those that it has join it. -/
def State.setGroup (group : Nat) (cfg : VoaGroupCfg) (s : State) : State :=
  let old := (mapGet VoaGroup.dflt s.loops.groups group).cfg
  let s1 := s.modElems (groupVoas old) fun _ x => if x.group = group + 1 then { x with group := 0 } else x
  let s2 := { s1 with
    loops.groups := mapSet VoaGroup.dflt s.loops.groups group
      { VoaGroup.dflt with cfg := cfg, table := groupTable cfg.aLo cfg.aHi, lastValid := s.up } }
  if cfg.enabled then s2.modElems (groupVoas cfg) fun _ x => { x with group := group + 1 } else s2

/-- LOOP_SET_VOA_GROUP: R149. -/
def execLoopSetVoaGroup (tag : Tag) (group : Nat) (cfg : VoaGroupCfg) (s : State) : Host.Outcome State Fault Refusal :=
  .next <| s.serve tag 0x050C false none fun s =>
    if 7 < group || 3 < cfg.pin || 2000 < cfg.aLo || 2000 < cfg.aHi || hasDup cfg.fibres ||
        cfg.fibres.any (fun f => decide (511 < f)) then refuse s .outOfRange
    else if s.groupClash group cfg then refuse s .notPermitted
    else (s.setGroup group cfg, Reply.done)

/-- LOOP_GET_VOA_GROUP (R157): returns a VOA group's configuration and state. -/
def execLoopGetVoaGroup (tag : Tag) (group : Nat) (s : State) : Host.Outcome State Fault Refusal :=
  .next <| s.query tag 0x050D none fun s =>
    if 7 < group then Reply.no .outOfRange
    else
      let g := mapGet VoaGroup.dflt s.loops.groups group
      Reply.ok ([b2i g.cfg.enabled, b2i g.cfg.inputs, g.cfg.pin, b2i g.cfg.pulse, g.cfg.aLo, g.cfg.aHi,
        g.cfg.slew.toNat, g.lastX, g.table.getD g.lastX 0, b2i g.lost, g.invalid]
        ++ g.cfg.fibres.map fun (f : Nat) => (f : Int))

/-- A value x formed for a group: following VOAs take its target (R151), unless the group is LOST and
its fourth valid value in a row is still to come (R152). -/
def State.groupValue (group x : Nat) (s : State) : State :=
  let g := mapGet VoaGroup.dflt s.loops.groups group
  let good := if g.lost then g.good + 1 else 0
  let follows := !g.lost || decide (4 ≤ good)
  let s1 := { s with
    loops.groups := mapSet VoaGroup.dflt s.loops.groups group
      { g with lastX := x, good := if follows then 0 else good, lost := g.lost && !follows, lastValid := s.up } }
  if follows then s1.modElems (groupVoas g.cfg) fun _ v =>
    if v.group = group + 1 then { v with target := g.table.getD x 0, rampSlew := g.cfg.slew.toNat } else v
  else s1

/-- A period in 0.1 ns is one that R150 calls invalid: shorter than 10 µs or longer than 1 ms. -/
def badPeriod (p : Nat) : Bool := decide (p < 100000) || decide (10000000 < p)

/-- TRIM_IN_SAMPLE (R150). At each network time that is a multiple of 10,000 an enabled group forms x once: from the
voltage of its pin, or from the last complete period of it. A period that has run for more than 1 ms without an end yields no x either (DEDUCED,
log 13). -/
def execTrimInSample (group microvolts : Nat) (s : State) : Host.Outcome State Fault Refusal :=
  .next <|
    if 7 < group || !(mapGet VoaGroup.dflt s.loops.groups group).cfg.enabled ||
        (mapGet VoaGroup.dflt s.loops.groups group).formedAt = some (s.now / 10000 * 10000) then s
    else
    let g0 := mapGet VoaGroup.dflt s.loops.groups group
    let at_ := s.now / 10000 * 10000
    let g := { g0 with formedAt := some at_ }
    let s := { s with loops.groups := mapSet VoaGroup.dflt s.loops.groups group g }
    if !g.cfg.pulse then s.groupValue group (min 255 (min microvolts 1200000 * 256 / 1200000))
    else
      let pin := mapGet TrimPin.dflt s.loops.trim g.cfg.pin
      match pin.period with
      | none => s
      | some (p, h) =>
        if badPeriod p || pin.lastRise.any fun r => decide (r + 10000000 < s.up) then
          { s with loops.groups := mapSet VoaGroup.dflt s.loops.groups group { g with good := 0 } }
        else s.groupValue group (min 255 (h * 256 / p))

/-- TRIM_IN_PULSE_EDGE (R150). An edge on a TRIM_IN pin; a rising edge closes a period (R150, 19
R542), which the groups that read the pin count where it is invalid (R157). -/
def execTrimInPulseEdge (pin : Nat) (rising : Bool) (elapsedPs : Nat) (s : State) : Host.Outcome State Fault Refusal :=
  .next <|
    let t := s.up + elapsedPs / 100
    let p := mapGet TrimPin.dflt s.loops.trim pin
    if 3 < pin then s
    else if rising then
      let per : Option (Nat × Nat) := match p.lastRise, p.lastFall with
        | some r, some f => if r ≤ f then some (t - r, f - r) else none
        | _, _ => none
      let s1 := { s with
        loops.trim := mapSet TrimPin.dflt s.loops.trim pin { p with lastRise := some t, period := per <|> p.period } }
      if per.any fun q => badPeriod q.1 then
        { s1 with
          loops.groups := mapListed VoaGroup.dflt (fun _ g =>
            if g.cfg.enabled && g.cfg.pulse && g.cfg.pin = pin then { g with invalid := g.invalid + 1 } else g) s1.loops.groups }
      else s1
    else { s with loops.trim := mapSet TrimPin.dflt s.loops.trim pin { p with lastFall := some t } }

/-- VOA_GROUP_LOST (R152). A pulse-mode group with no valid x for 2 ms is LOST. -/
def execVoaGroupLost (group : Nat) (s : State) : Host.Outcome State Fault Refusal :=
  .next <|
    let g := mapGet VoaGroup.dflt s.loops.groups group
    if decide (group < 8) && g.cfg.enabled && g.cfg.pulse && !g.lost && decide (g.lastValid + 20000000 ≤ s.up) then
      { s with loops.groups := mapSet VoaGroup.dflt s.loops.groups group { g with lost := true, good := 0 } }.raise 154
    else s

/-! Samples (04 R116-R128, 05 R140). -/

/-- The tap of a gate's intended output is that of output 1 (R111): H_BAR while it serves BAR, the other while it serves
CROSS. -/
def intendedOne (p : ParamRec) (x : Elem) : Bool := p.hBar != x.cross

/-- What a sample of element `e` reads at a strobe: `m1` and `m2` are the readings of the taps on outputs 0 and 1 of a
gate; a VOA has one tap, `m1` (03 R90). -/
def State.sampleIn (s : State) (e : Nat) (m1 m2 : BitVec 12) (at_ : Nat × Nat) : SampleIn :=
  let p := s.record e
  let one := isGate e && intendedOne p (s.elem e)
  { prm := p, gate := isGate e, cap := s.uCap e
    ff := (s.elem e).ffCode (s.image e) (isGate e), mh := if one then m2.toNat else m1.toNat
    mo := if one then m1.toNat else m2.toNat, frame := at_.1, t := at_.2 }

/-- The strobe of an element whose sample is to be taken: the last one that has come, whose frame has not been sampled
(R116, R117); in HOLD only that of a frame whose number is a multiple of 16 (R118). A sample does not come before the
instant of a change that the element has taken (R119). -/
def State.sampleAt (s : State) (e : Nat) : Option (Nat × Nat) :=
  (s.strobe e).filter fun t =>
    (s.elem e).frame ≠ some t.1 && (s.unit.mode ≠ .hold || decide (t.1 / 1000 % 16 = 0)) && !s.unsampled e (s.elem e)

/-- The 24-byte sample of a capture (R134). The v of a sample in which steps 4 to 6 do not run is that of the last
evaluation that ran them (DEDUCED, log 13). -/
def captureBytes (x : Elem) (gate : Bool) : List Byte :=
  let signed (v : Int) : Nat := (BitVec.ofInt 32 v).toNat
  leNat 4 x.tSample ++ leNat 2 x.mH ++ leNat 2 (if gate then x.mO else 0) ++ leNat 2 x.y ++ leNat 2 x.r ++
    leNat 4 (signed x.e) ++ leNat 4 (signed x.q.v1) ++ leNat 2 x.q.u ++ leNat 2 x.last.toNat

/-- A capture of the element takes the sample of the strobe at `t`. -/
def State.captureSample (e t : Nat) (s : State) : State :=
  match mapGet none s.loops.captures (regionOf e) with
  | none => s
  | some c =>
    if c.element = e && (c.state = .armed || c.state = .running) && decide (c.start ≤ t) then
      let l := c.samples ++ [captureBytes (s.elem e) (isGate e)]
      { s with
        loops.captures := mapSet none s.loops.captures (regionOf e)
          (some { c with samples := l, state := if c.count ≤ l.length then .complete else .running }) }
    else s

/-- A refused hand-over counts for the sheaf that changed the element last, until its horizon (06 R194). -/
def State.countRefusal (e : Nat) (s : State) : State :=
  match (byInstant (s.sheaves.store.filter fun x => x.phase = .applied && x.changes.any (·.element = e))).getLast? with
  | some x => s.modSheaf x.id fun y => { y with nRefused := min 65535 (y.nRefused + 1) }
  | none => s

/-- An element left STORED is VERIFIED at its first accepted hand-over (07 R205). The events that a
sample of an element raises (R128, R145): RESIDUE, V_SAT and W_SAT of this sample,
and UNLOCKABLE when it sets, which is also evidence for a failed cell. -/
def State.sampleEvents (e : Nat) (was now : Elem) (s : State) : State :=
  let fresh := !was.unlockable && now.unlockable
  let n := (if now.last.getLsbD 8 then 1 else 0) + (if now.last.getLsbD 9 then 1 else 0)
    + (if now.last.getLsbD 10 then 1 else 0) + (if fresh then 1 else 0)
  let s0 := if now.last.getLsbD 10 then s.partEvent (.loopCell (regionOf e) (blockOf e) (loopCellOf e)) else s
  let s0 := if was.mode ≠ .lk && now.mode = .lk && (s.image e).vstate = 1 then
    { s0 with cal.work := mapSet none s0.cal.work e (some { s.image e with vstate := 0 }) } else s0
  let s0 := if now.last.getLsbD 11 then s0.countRefusal e else s0
  let s1 := if n = 0 then s0 else s0.raiseBlock e n
  if fresh && isGate e then s1.judgeCell e .unlockable else s1

/-- One sample of an element at a strobe, with the readings of its taps. A sample in PK reads nothing. -/
def State.sampleElem (e : Nat) (m1 m2 : BitVec 12) (residue : Bool) (at_ : Nat × Nat) (s : State) : State :=
  let was := s.elem e
  let is := was.sample (s.sampleIn e m1 m2 at_) (handoverOf s.loops e) residue
  let s1 := s.modElem e fun _ => is
  if was.mode = .pk then s1 else (s1.captureSample e at_.2).sampleEvents e was is

/-- LOOP_SAMPLE (R122): at its slot strobe an element resolves its mode and evaluates its loop sample. -/
def execLoopSample (element : Nat) (m1 m2 : BitVec 12) (residueFail : Bool) (s : State) : Host.Outcome State Fault Refusal :=
  .next <|
    if numElements ≤ element then s
    else match s.sampleAt element with
      | some t => s.sampleElem element m1 m2 residueFail t
      | none => s

/-- HANDOVER_ATTEMPT (R142). The attempt of R142 or R144, when it is due. -/
def execHandoverAttempt (element : Nat) (m1 m2 : BitVec 12) (s : State) : Host.Outcome State Fault Refusal :=
  .next <|
    if numElements ≤ element then s
    else match s.sampleAt element with
      | some t => if (s.elem element).due t.2 then s.sampleElem element m1 m2 false t else s
      | none => s

/-- HEATER_POWER_MEASURE (R110). Firmware sets U_CAP from a measured full-scale power, once every 1 s (R110, 07 R198). -/
def execHeaterPowerMeasure (element nanowatts : Nat) (s : State) : Host.Outcome State Fault Refusal :=
  .next <|
    if decide (element < numElements) && decide (0 < nanowatts) && s.periodDue (s.elem element).capAt 10000000000 then
      s.modElem element fun x => { x with uCap := some (uCapOf nanowatts), capAt := some s.up }
    else s

/-! Loop frame starts. -/

/-- The monitor channels of an element: one at each output of a gate, one of a VOA (03 R90). -/
def channelsOf (e : Nat) : List Nat :=
  if isGate e then [planeOf e * 20480 + 2 * localOf e, planeOf e * 20480 + 2 * localOf e + 1]
  else [planeOf e * 20480 + 19456 + (localOf e - 9728)]

/-- The element whose tap a monitor channel reads. -/
def channelElement (ch : Nat) : Nat :=
  ch / 20480 * 10752 + (if ch % 20480 < 19456 then ch % 20480 / 2 else 9728 + (ch % 20480 - 19456))

/-- The element has a change armed within the loop frame that begins at `t` (07 R215). -/
def State.armedIn (s : State) (t e : Nat) : Bool :=
  s.sheaves.store.any fun x => x.pending && x.slot.isSome && decide (t ≤ x.instant) && decide (x.instant < t + 1000) &&
    x.changes.any (·.element = e)

/-- The selections of a channel change to those of 07 R209, and each change is logged. -/
def State.selectChan (s : State) (ch : Nat) : State :=
  let c := s.chan ch
  let s1 := s.modMonitor ch fun c => { c with path := c.better, segs := c.least }
  let s2 := if c.better = c.path then s1 else s1.logSubst 5 3 0xFFFF
    (locChannel ch 1 c.path) (locChannel ch 1 c.path) (locChannel ch 1 c.better) 0 0 0
  ((c.segs.filter fun k => !c.least.contains k).zip (c.least.filter fun k => !c.segs.contains k)).foldl (fun t p =>
    t.logSubst 4 (if c.retired.contains p.1 then 1 else 3) 0xFFFF (locChannel ch 0 p.1) (locChannel ch 0 p.1) (locChannel ch 0 p.2)
      0 (4 - c.retired.length) 0) s2

/-- The selections that wait take effect at a frame start in which the element has no armed change; the others wait for
the next (07 R209, R215). -/
def State.selections (s : State) : State :=
  let frame := s.now / 1000 * 1000
  let wait := s.cal.selPend.filter fun ch => s.armedIn frame (channelElement ch)
  let go := s.cal.selPend.filter fun ch => !s.armedIn frame (channelElement ch)
  let s1 := go.foldl State.selectChan { s with cal.selPend := wait }
  if wait = [] then s1 else s1.atFrame .select

end Sys2Proof.Machine
end

