-- ==== Sys2Proof/Machine/TxRows.lean ====
section
/-! DEFINITION. Transmission: selection, completion of frames, gate events, pause and low-power idle on
the transmit side: 08_network_ports R230, R245-R250 and 09_gates_preemption R255-R278. -/
namespace Sys2Proof.Machine

/-! Low-power idle (08 R249, R250). -/

/-- T_SLEEP and T_WAKE of a line mode in ns; `none` for modes without LPI (08 R228, R250). -/
def lpiTimes (mode fec : Nat) : Option (Nat × Nat) :=
  if mode = 2 then some (20000, 16500)
  else if mode = 4 || mode = 5 then (if fec = 2 then some (3600, 5500) else some (2900, 4500))
  else none

/-- Sleep of a port ends: the microseconds in it are counted (08 R251). -/
def State.endSleep (p : Nat) (s : State) : State :=
  if (s.prt p).txAsleep then
    (s.modPort p fun x => { x with txAsleep := false }).count p 39 ((s.up - (s.prt p).asleepSince) / 10000)
  else s

/-- A sleeping port starts waking, and is active after T_WAKE (08 R250). -/
def State.wakeTx (p : Nat) (s : State) : State :=
  let tw := ((lpiTimes (s.prt p).cfg.mode (s.prt p).cfg.fec).map (·.2)).getD 0
  (((s.endSleep p).modPort p fun x => { x with wakeEnd := some (s.up + tw * 10) }).emit (.lpi p false))

/-- Settings that wait for the end of the frame in transmission take effect (08 R254, 09 R271); those of the gates
wait for a preempted frame too. A change of the preemption settings restarts verification. A port set to OFF never
sleeps: it wakes (08 R249). -/
def State.applyPortPend (p : Nat) (s : State) : State :=
  let s1 := s.modPort p fun x =>
    { x with pause := x.pausePend.getD x.pause, pausePend := none
             lpiMode := (x.lpiPend.map (·.1)).getD x.lpiMode, idleNs := (x.lpiPend.map (·.2)).getD x.idleNs
             lpiPend := none }
  let s1 := if (s1.prt p).lpiMode = 0 && (s1.prt p).txAsleep then s1.wakeTx p else s1
  if (s.prt p).held.isSome then s1 else s1.modGate p fun g =>
    match g.cfgPend with
    | none => g
    | some c => { g with cfg := c, cfgPend := none, holdSet := true, succeeded := false, failed := false
                         verifying := false, tries := 0, verifyAt := s.up, rx := if c.enable then g.rx else none }

/-- Kinds of destination: 0 unicast, 1 multicast, 2 broadcast. -/
def destKind (bs : List Byte) : Nat :=
  if bs.take 6 = List.replicate 6 0xFF#8 then 2 else if (byteAt bs 0).getLsbD 0 then 1 else 0

/-- A frame sent whole (08 R251, indices 26 to 30). -/
def State.countSent (p : Nat) (bs : List Byte) (s : State) : State :=
  ((s.count p 26 bs.length).count p 27 1).count p (28 + destKind bs) 1

/-- Egress time stamp of a port in whole ns: the instant in ps plus the 8 byte times of preamble and
the egress correction in 1/16 ns (02 R57). -/
def State.egressStamp (s : State) (p startPs : Nat) : Nat :=
  (((startPs + 8 * byteTime (s.prt p).cfg.mode : Nat) : Int) * 16 / 1000 + (mapGet (0, 0) s.tb.lat p).2).toNat / 16

/-- Every queued frame of a port, a preempted one with them, is discarded with an outcome. -/
def State.discardQueued (p counter st : Nat) (s : State) : State :=
  let fs := (s.prt p).classes.flatMap (·.2) ++ (s.prt p).held.toList.map (·.frame)
  let s1 := s.modPort p fun x => { x with classes := [], held := none }
  (fs.foldl (fun t f => t.copyDone f.owner p st none) s1).count p counter fs.length

/-- A frame that could not be admitted at the opening of its class's longest window (09 R258). -/
def State.tooLong (s : State) (p : Nat) (f : TxFrame) : Bool :=
  let g := s.gate p
  g.list = .running &&
  (match g.oper.window f.tc s.tb.cycleC s.tb.syncIn.enable with
   | none => false
   | some w => decide (w * 1000 < s.roomFor p f.tc f.bytes.length * byteTime (s.prt p).cfg.mode))

/-- Heads of the classes that are too long are discarded, one a class and round. -/
def State.dropTooLong (p : Nat) : Nat → State → State
  | 0, s => s
  | n + 1, s =>
    match [0, 1, 2, 3, 4, 5, 6, 7].findSome? fun c => (s.prt p).head c |>.filter fun f => s.tooLong p f with
    | none => s
    | some f =>
      let s1 := s.modPort p fun x => { x with classes := mapMod [] x.classes f.tc fun l => l.drop 1 }
      State.dropTooLong p n ((s1.copyDone f.owner p 2 none).count p 46 1)

/-- The pause frame that is due goes out on the express MAC (08 R245, 09 R257). -/
def State.sendPause (p q : Nat) (s : State) : State :=
  let bt := byteTime (s.prt p).cfg.mode
  let s1 := s.modPort p fun x => { x with pauseDue := none, freeAt := s.upPs + 84 * bt, idleSince := s.up, lastPauseAt := s.up }
  ((((s1.emit (.pause p q)).count p 31 1).count p 26 64).count p 27 1).count p 29 1

/-- A frame starts on the wire. -/
def State.startFrame (p : Nat) (f : TxFrame) (s : State) : State :=
  let w : OnWire := { frame := f, express := !s.preemptable p f.tc, sent := 0, frag := 0, start := s.upPs
                      stamp := s.egressStamp p s.nowPs }
  s.modPort p fun x => { x with classes := mapMod [] x.classes f.tc fun l => l.drop 1, wire := some w }

/-- The path is free: a pause that is due, else the frame that R255 selects, a preempted frame
continuing once no express frame is admissible (R276). -/
def State.choose (p : Nat) (s : State) : State :=
  match (s.prt p).pauseDue with
  | some q => s.sendPause p q
  | none =>
    match (s.prt p).held with
    | none => match s.selected p fun _ => true with
      | some (_, f) => s.startFrame p f
      | none => s
    | some w =>
      match s.selected p fun c => !s.preemptable p c with
      | some (_, f) => s.startFrame p f
      | none =>
        let g := s.gate p
        if g.gates.getLsbD w.frame.tc && !g.hold then
          s.modPort p fun x => { x with held := none, wire := some { w with start := s.upPs } }
        else s

/-- The switch of a lane substitution has come (08 R234): at t1, or at a schedule boundary from t2 on. -/
def State.switchDue (s : State) (c : LaneSubst) : Bool :=
  !c.switched && (match c.t2 with
    | none => true
    | some t => !s.tb.cycleValid || decide (t ≤ s.tb.start))

/-- A port that is down holds its frames for a lane substitution: from t2 up to t3, 1 ms after it, or 2 ms with RS-FEC
(08 R234). Otherwise it discards them, so that it never stalls a transmit queue (08 R230). -/
def State.holdsFrames (s : State) (p : Nat) : Bool :=
  let x := s.prt p
  x.subst.any fun c => (c.switched || c.t2.isNone) &&
    decide (s.up ≤ c.t1 + (if x.cfg.mode = 5 && x.cfg.fec = 2 then 20000000 else 10000000))

/-- TX_SELECT (09 R255): the port selects the next frame while its path is free, and splits a
preemptable frame where R275 asks for it. While the port is down every frame that reaches a head is
discarded (08 R230), but frames are held while a lane substitution runs; no frame starts once its switch has come
(08 R234). -/
def execTxSelect (port : Nat) (s : State) : Host.Outcome State Fault Refusal :=
  .next <|
    let x := s.prt port
    if 3 < port then s
    else if !x.up then (if s.holdsFrames port then s else s.discardQueued port 34 1)
    else if x.txAsleep || x.wakeEnd.isSome then s
    else if x.wire.isSome then s.preempt port
    else if s.upPs < x.freeAt then s
    else
      let s1 := s.applyPortPend port
      let s2 := s1.dropTooLong port (((s1.prt port).classes.map (·.2.length)).sum)
      if x.held.isNone && x.subst.any s.switchDue then s2 else s2.choose port

/-- TX_FRAME_DONE (12 R357): the last octet of a frame, or of its last fragment, has left. A Sync that relays the time of a
slave port carries its residence time (02 R56). -/
def execTxFrameDone (port : Nat) (s : State) : Host.Outcome State Fault Refusal :=
  .next <|
    let x := s.prt port
    let bt := byteTime x.cfg.mode
    match x.wire with
    | none => s
    | some w =>
      let n := w.frame.bytes.length - w.sent
      let done := w.start + (8 + n) * bt
      if 3 < port || decide (s.upPs < done) then s
      else
        let s1 := s.modPort port fun x => { x with wire := none, freeAt := done + 12 * bt, idleSince := s.up }
        let s2 := match w.frame.gptp with
          | some sync => s1.emit (.gptp port sync
              (if sync && s.ptpSlave.isSome then some ((w.stamp : Int) - s.tb.syncStamp) else none))
          | none =>
            if w.sent = 0 then s1.emit (.frame port w.frame.tc w.frame.bytes)
            else s1.emit (.fragment port w.frag (w.frame.bytes.drop w.sent) true)
        (((s2.countSent port w.frame.bytes).copyDone w.frame.owner port 0 (some w.stamp)).applyPortPend port).pauseChecks

/-! Gates (09 R262, R275). -/

/-- The next gate event of the current cycle. -/
def State.nextGateEvent (s : State) (p : Nat) : Option (Nat × GateEntry) :=
  let g := s.gate p
  if g.list = .running && s.tb.cycleValid then (g.oper.events s.tb.cycleC)[g.done]? else none

/-- GATE_EVENT (R262): A gate list entry starts and sets the class gates. -/
def execGateEvent (port : Nat) (s : State) : Host.Outcome State Fault Refusal :=
  .next <| match s.nextGateEvent port with
    | none => s
    | some (o, e) =>
      if s.reached (s.tb.start + o) then
        (((s.launched (s.tb.start + o)).applyEntry port e).modGate port fun g => { g with done := g.done + 1 }).preempt port
      else s

/-- GATE_HOLD_ASSERT (R275): HOLD_ADVANCE before a SET_HOLD entry. -/
def execGateHoldAssert (port : Nat) (s : State) : Host.Outcome State Fault Refusal :=
  .next <|
    if 3 < port || !s.preemptive port || (s.gate port).hold then s
    else match (s.gateTimeline port).find? fun q => q.2.op = 1 with
      | none => s
      | some q =>
        if s.reached (q.1 - s.holdAdvance port) then
          (((s.modGate port fun g => { g with hold := true }).count port 53 1)).preempt port
        else s

/-! Verification (R272). -/

/-- The verify handshake of port `p` is due (R272). -/
def State.verifyDue (s : State) (p : Nat) : Bool :=
  let g := s.gate p
  (s.prt p).up && g.cfg.enable && g.cfg.verifyEn && !g.succeeded && !g.failed && decide (g.verifyAt ≤ s.up)

/-- VERIFY_TIMER (R272): each VERIFY_TIME a verify mPacket is sent, up to three; then FAILED. A port in low-power
idle wakes first (08 R250). -/
def execVerifyTimer (port : Nat) (s : State) : Host.Outcome State Fault Refusal :=
  .next <|
    let g := s.gate port
    if 3 < port || !s.verifyDue port || (s.prt port).txAsleep || (s.prt port).wakeEnd.isSome then s
    else if g.tries < 3 then
      ((s.modGate port fun g => { g with verifying := true, tries := g.tries + 1
                                         verifyAt := s.up + g.cfg.verifyTimeMs * 10000000 }).emit (.mpacket port false)).count port 54 1
    else (s.modGate port fun g => { g with verifying := false, failed := true }).raise (160 + port)

/-! Received pause (08 R246, R248). -/

/-- The classes resume; the quanta for which they were stopped are counted. -/
def State.resumePause (p : Nat) (s : State) : State :=
  let x := s.prt p
  let q := quantumPs x.cfg.mode
  let n := if x.rxPauseEnd.isSome && decide (0 < q) then (s.up - x.rxPauseSince) * 100 / q else 0
  (s.modPort p fun x => { x with rxPauseEnd := none }).count p 35 n

/-- A received pause frame (R246); while the receive watchdog has tripped it is ignored (R248). -/
def State.rxPause (p q : Nat) (s : State) : State :=
  let s1 := s.count p 14 1
  let s2 := if q = 0 then s1 else s1.modPort p fun x => { x with lastRxPauseAt := s.up }
  let x := s2.prt p
  if x.rxpTripped then s2
  else if q = 0 then s2.resumePause p
  else s2.modPort p fun x => { x with
    rxPauseEnd := some (s.up + q * quantumPs x.cfg.mode / 100)
    rxPauseSince := if x.rxPauseEnd.isSome then x.rxPauseSince else s.up }

/-- A pause frame counted among the good frames: 64 bytes, multicast (R237, R251). -/
def State.countGood64 (p : Nat) (s : State) : State :=
  (((s.count p 0 64).count p 1 1).count p 3 1).count p 19 1

/-- RX_PAUSE (R246): A received pause frame stops the pausable classes for q quanta. -/
def execRxPause (port : Nat) (quanta : BitVec 16) (s : State) : Host.Outcome State Fault Refusal :=
  .next <| if decide (port < 4) && (s.prt port).up then (s.countGood64 port).rxPause port quanta.toNat else s

/-- PAUSE_EXPIRY (R246): received pause time runs out and the paused classes resume. -/
def execPauseExpiry (port : Nat) (s : State) : Host.Outcome State Fault Refusal :=
  .next <| match (s.prt port).rxPauseEnd with
    | some e => if e ≤ s.up then s.resumePause port else s
    | none => s

/-- PAUSE_REFRESH (R245): every floor(PQ / 2) quanta while occupancy stays at or above LOW. -/
def execPauseRefresh (port : Nat) (s : State) : Host.Outcome State Fault Refusal :=
  .next <|
    let x := s.prt port
    if x.pause.generate && x.ownPauseSince.isSome && decide (x.marks.2 ≤ s.occupancy port) && x.pauseDue.isNone &&
        decide (x.lastPauseAt + x.pause.pq / 2 * quantumPs x.cfg.mode / 100 ≤ s.up) then
      s.modPort port fun x => { x with pauseDue := some x.pause.pq, lastPauseAt := s.up }
    else s.pauseCheck false port

/-- RXP_WATCHDOG (R248): the classes were stopped without a break for longer than RXP_WD. -/
def execRxpWatchdog (port : Nat) (s : State) : Host.Outcome State Fault Refusal :=
  .next <|
    let x := s.prt port
    if x.rxPauseEnd.isSome && !x.rxpTripped && decide (x.rxPauseSince + x.pause.rxpWdMs * 10000000 < s.up) then
      (((s.resumePause port).modPort port fun x => { x with rxpTripped := true }).count port 36 1).raise (160 + port)
    else s

/-- REARM_EXPIRY: R248. -/
def execRearmExpiry (port : Nat) (s : State) : Host.Outcome State Fault Refusal :=
  .next <|
    let x := s.prt port
    if x.rxpTripped && decide (x.lastRxPauseAt + x.pause.rearmMs * 10000000 ≤ s.up) then
      s.modPort port fun x => { x with rxpTripped := false }
    else s

/-- TXP_WATCHDOG (R248): the device sends pause_time 0 and no further pause until occupancy falls below
LOW. -/
def execTxpWatchdog (port : Nat) (s : State) : Host.Outcome State Fault Refusal :=
  .next <|
    let x := s.prt port
    match x.ownPauseSince with
    | some t =>
      if t + x.pause.txpWdMs * 10000000 < s.up then
        ((s.modPort port fun x => { x with ownPauseSince := none, txpTripped := true, pauseDue := some 0 }).count port 37 1).raise (160 + port)
      else s
    | none => s

/-! Sleeping and waking (08 R249, R250). -/

/-- The transmit path is idle: nothing on the wire, no pause frame that is sent or due, and no preempted frame. -/
def State.pathIdle (s : State) (p : Nat) : Bool :=
  let x := s.prt p
  x.wire.isNone && x.held.isNone && x.pauseDue.isNone && decide (x.freeAt ≤ s.upPs)

/-- The transmit side enters sleep. -/
def State.sleepTx (p : Nat) (s : State) : State :=
  ((s.modPort p fun x => { x with txAsleep := true, asleepSince := s.up }).emit (.lpi p true)).count p 38 1

/-- LPI_IDLE_TIMEOUT (R249): mode IDLE, the path idle for IDLE_T. -/
def execLpiIdleTimeout (port : Nat) (s : State) : Host.Outcome State Fault Refusal :=
  .next <|
    let x := s.prt port
    if decide (port < 4) && x.up && decide (x.lpiMode = 1) && (lpiTimes x.cfg.mode x.cfg.fec).isSome && !x.txAsleep && x.wakeEnd.isNone && s.pathIdle port && x.classes = []
        && decide (x.idleSince + x.idleNs * 10 ≤ s.up) then s.sleepTx port
    else s

/-- LPI_SLEEP_ENTRY (R250): mode SCHEDULED. -/
def execLpiSleepEntry (port : Nat) (s : State) : Host.Outcome State Fault Refusal :=
  .next <|
    let x := s.prt port
    let g := s.gate port
    let far := match lpiTimes x.cfg.mode x.cfg.fec, s.gateTimeline port with
      | some (sl, wk), q :: _ => decide (s.now + sl + wk + 2000 ≤ q.1)
      | _, _ => false
    if decide (port < 4) && x.up && decide (x.lpiMode = 2) && g.list = .running && !x.txAsleep && x.wakeEnd.isNone && s.pathIdle port &&
        ([0, 1, 2, 3, 4, 5, 6, 7].all fun c => !g.gates.getLsbD c || (x.head c).isNone) && far then s.sleepTx port
    else s

/-- Something to send makes a sleeping port wake early (R250): a frame for an open class, or in mode
IDLE any frame, a pause frame, or the verify handshake. -/
def State.wantsWake (s : State) (p : Nat) : Bool :=
  let x := s.prt p
  let g := s.gate p
  x.pauseDue.isSome || g.respondDue || (s.verifyDue p && decide (g.tries < 3)) ||
    ([0, 1, 2, 3, 4, 5, 6, 7].any fun c => (x.lpiMode ≠ 2 || g.gates.getLsbD c) && (x.head c).isSome)

/-- A port in mode SCHEDULED whose list no longer runs behaves as OFF, and a port in OFF never sleeps (R249). -/
def State.sleepEnds (s : State) (p : Nat) : Bool :=
  (s.prt p).lpiMode = 0 || ((s.prt p).lpiMode = 2 && (s.gate p).list ≠ .running)

/-- A port is active again: a respond mPacket that waited for it goes out (R250, 09 R272). -/
def State.awake (p : Nat) (s : State) : State :=
  let s1 := s.modPort p fun x => { x with wakeEnd := none, idleSince := s.up }
  if (s.gate p).respondDue then
    ((s1.modGate p fun g => { g with respondDue := false }).emit (.mpacket p true)).count p 55 1
  else s1

/-- LPI_WAKE (R250): the port starts waking, at T_WAKE + 100 ns before the next gate event or early;
after T_WAKE it is active. -/
def execLpiWake (port : Nat) (early : Bool) (s : State) : Host.Outcome State Fault Refusal :=
  .next <|
    let x := s.prt port
    let tw := ((lpiTimes x.cfg.mode x.cfg.fec).map (·.2)).getD 0
    if x.txAsleep then
      if early then
        if s.sleepEnds port then s.wakeTx port
        else if s.wantsWake port then (s.wakeTx port).count port 40 (if x.lpiMode = 2 then 1 else 0)
        else s
      else
        let due := match s.gateTimeline port with
          | q :: _ => s.reached (q.1 - (tw + 100))
          | [] => false
        if due then s.wakeTx port else s
    else match x.wakeEnd with
      | some e => if e ≤ s.up then s.awake port else s
      | none => s

/-- RECEIVED_LPI (R249): honoured in every mode; entries are counted. -/
def execReceivedLpi (port : Nat) (entering : Bool) (s : State) : Host.Outcome State Fault Refusal :=
  .next <|
    if decide (port < 4) && (s.prt port).up then
      let s1 := s.modPort port fun x => { x with rxLpi := entering }
      if entering && !(s.prt port).rxLpi then s1.count port 41 1 else s1
    else s

end Sys2Proof.Machine
end

