-- ==== Sys2Proof/Machine/PortOps.lean ====
section
/-! DEFINITION. Links, lanes and spare lanes of the ports, as operations: 08_network_ports R229, R232-R235
and 09_gates_preemption R272. -/
namespace Sys2Proof.Machine

/-! Spare lanes (R232-R235). -/

/-- A substitution of the lane of port `p` is decided (R234). `loss` is a loss of lock. Its switch falls at
the first schedule boundary at least 200 µs ahead, else at once. -/
def State.startLane (p k cause : Nat) (loss : Bool) (s : State) : State :=
  s.modPort p fun x => { x with
    subst := some { lane := k, cause := cause, t0 := s.now, t1 := s.up + 1000000
                    t2 := if loss || !s.tb.cycleValid then none else some (s.now + 200000) } }

/-- The wear policy asks for a substitution (07 R218). -/
def State.laneWorn (p : Nat) (s : State) : State :=
  if (s.prt p).subst.isSome then s
  else match s.spareFor p with
    | some k => s.startLane p k 1 false
    | none => s

/-- A lane-select output takes a value (R232). -/
def State.setLsel (k v : Nat) (s : State) : State :=
  if k = 1 then { s with ports.lsel0 := v }.emit (.pin .lsel0 v)
  else { s with ports.lsel1 := v }.emit (.pin .lsel1 v)

/-- Substitutions restored from the spare map, which keeps every one in its order (R232, R234). -/
def State.restoreLanes (s : State) : State :=
  s.cal.map.lanes.foldl (fun t l =>
    let old := (t.prt l.1).lane
    let t1 := t.modPort l.1 fun x => { x with lane := l.2, dead := if x.dead.contains old then x.dead else old :: x.dead }
    (if old = 0 then t1 else t1.setLsel old 0).setLsel l.2 (4 + l.1)) s

/-- After a class P or H reset both outputs drive 0 until the substitutions are restored (R232). -/
def State.clearLsel (s : State) : State :=
  let s1 := if s.ports.lsel0 = 0 then s else s.setLsel 1 0
  if s1.ports.lsel1 = 0 then s1 else s1.setLsel 2 0

/-- The number by which the substitution log names a lane (07 R225). -/
def laneNumber (p lane : Nat) : Nat := if lane = 0 then p else lane + 3

/-! Links (R229). -/

/-- The verify status returns to INITIAL (09 R272). -/
def GatePort.unverified (up : Nat) (g : GatePort) : GatePort :=
  { g with succeeded := false, failed := false, verifying := false, tries := 0, verifyAt := up, respondDue := false }

/-- The frame in transmission is cut, a preempted one with it (R229, R234): it is counted, and its chain completes
LINK_DOWN. -/
def State.cutFrame (p : Nat) (s : State) : State :=
  let l := (s.prt p).wire.toList ++ (s.prt p).held.toList
  let s1 := s.modPort p fun x => { x with wire := none, held := none }
  (l.foldl (fun t w => t.copyDone w.frame.owner p 1 none) s1).count p 33 l.length

/-- Line modes with link fault signalling (R229). -/
def faultMode (mode : Nat) : Bool := mode = 4 || mode = 5

/-- A fault begins on a port, and the port passes to down. 10GBASE-R and 25GBASE-R know a local and a remote fault, and
send remote fault and idle for them; no frame is sent any more, and the frame in transmission is cut (R229). -/
def State.linkDown (p : Nat) (remote : Bool) (s : State) : State :=
  let x := s.prt p
  let s0 := if x.up then (s.endSleep p).cutFrame p else s
  let s1 := s0.modPort p fun x => { x with up := false, wakeEnd := none, rxLpi := false }
  let s2 :=
    if !faultMode x.cfg.mode then s1
    else if remote then
      if x.remoteFault then s1
      else
        let t := (s1.modPort p fun x => { x with remoteFault := true }).count p 44 1
        if x.localFault then t else t.emit (.linkFault p false)
    else if x.localFault then s1
    else ((s1.modPort p fun x => { x with localFault := true }).count p 43 1).emit (.linkFault p true)
  if x.up then ((s2.modGate p (GatePort.unverified s.up)).count p 42 1).raise (156 + p) else s2

end Sys2Proof.Machine
end

