-- ==== Sys2Proof/Machine/GlOps.lean ====
section
/-! DEFINITION. The Gleaner's sources, records, clears and actions, as operations: 16_gleaner R465-R475,
R477, R479, R483, R484. -/
namespace Sys2Proof.Machine

/-- MODE as the registers encode it (01_architecture R31). -/
def Mode.code : Mode → Nat
  | .boot => 0 | .calibrate => 1 | .standby => 2 | .active => 3 | .degraded => 4 | .hold => 5
  | .sleep => 6 | .factoryTest => 7

/-! Sources (R465-R467). Ticks are microseconds. -/

/-- Default parameters of a source by the table of R466: N, window, grace, action. -/
def srcTable (src : Nat) : Nat × Nat × Nat × Nat :=
  if src < 68 then (64, 10, 5, 2)
  else if src < 72 then (4, 1000, 10, 4)
  else if src < 140 then (4, 10, 100, 2)
  else if src < 144 then (1, 1, 1, 1)
  else if src = 144 then (1, 1, 10, 5)
  else if src = 145 then (16, 1000, 10, 5)
  else if src = 147 then (1, 1, 1000, 1)
  else if src = 152 then (1, 1, 1, 3)
  else if 156 ≤ src && src < 160 then (8, 1000, 1000, 0)
  else if src = 165 then (1, 1, 100, 0)
  else if src = 166 then (16, 1000, 1000, 0)
  else if src = 170 || src = 171 then (1, 1, 100, 3)
  else if src = 172 then (16, 1000, 100, 3)
  else if src = 173 then (1, 1, 10, 5)
  else if src = 174 then (4, 1000, 1000, 0)
  else if 176 ≤ src && src < 184 then (1, 1, 10, 3)
  else if src = 184 then (1, 1, 1000, 3)
  else if src = 186 || src = 187 then (1, 1, 10, 3)
  else if src = 190 then (1, 1, 100, 3)
  else if src = 191 then (1, 1, 1, 0)
  else (1, 1, 1000, 0)

/-- Default parameters of a source (R466, R467). -/
def srcDefault (src : Nat) : SrcParams :=
  let d := srcTable src
  { n := d.1, windowMs := d.2.1, graceMs := d.2.2.1, action := d.2.2.2
    fwClear := decide (src < 72) || (decide (156 ≤ src) && decide (src < 160)) }

/-- The parameters written, and those of the window that runs. -/
def Src.written (src : Nat) (x : Src) : SrcParams := x.params.getD (srcDefault src)
def Src.running (src : Nat) (x : Src) : SrcParams := x.cur.getD (srcDefault src)

/-- The region of a source of the loop hierarchy (R465). -/
def sourceRegion (src : Nat) : Nat :=
  if src < 68 then src / 17 else if src < 72 then src - 68 else if src < 140 then (src - 72) / 17 else src - 140

/-- A source. -/
def State.src (s : State) (i : Nat) : Src := mapGet Src.dflt s.gl.srcs i

/-- `f` applied to a source. -/
def State.modSrc (i : Nat) (f : Src → Src) (s : State) : State :=
  { s with gl.srcs := mapMod Src.dflt s.gl.srcs i f }

/-- Members: sources severe and uncleared. -/
def severeOf (m : SMap Src) : List Nat := (m.filter fun p => p.2.severe).map (·.1)

/-- The bits of GL_STATUS; bit 146 is set by the comparator (R477). -/
def State.glStatus (s : State) : BitVec 192 :=
  BitVec.ofNat 192 ((severeOf s.gl.srcs).foldl (fun n i => n ||| 2 ^ i) (flag s.gl.lockstep 146))

/-- The bits of GL_SHADOW (R481). -/
def State.glShadow (s : State) : BitVec 192 :=
  BitVec.ofNat 192 ((severeOf s.gl.shadow).foldl (fun n i => n ||| 2 ^ i) 0)

/-- SEVERE of the heartbeat: a real GL_STATUS bit is set (R480). -/
def State.anySevere (s : State) : Bool := s.gl.srcs.any (·.2.severe) || s.gl.lockstep

/-! ALIVE (R479). -/

/-- ALIVE of GL_SUMMARY: 0 wave, 1 low for a severe fault, 2 low before FW_READY or in FACTORY_TEST,
3 frozen. -/
def State.alive (s : State) : Nat :=
  if s.gl.lockstep then 3
  else if !s.ident.fwReady || s.unit.mode = .factoryTest then 2
  else if s.anySevere then 1
  else 0

/-- ALIVE takes a level. -/
def State.setAlive (high : Bool) (s : State) : State :=
  if s.gl.aliveHigh = high then s
  else { s with gl.aliveHigh := high }.emit (.pin .alive (if high then 1 else 0))

/-- Step 6 of an evaluation: where the wave does not run and the level is not frozen, ALIVE is low, and the
wave will resume with a rising edge. -/
def State.aliveLevel (s : State) : State :=
  if s.alive = 1 || s.alive = 2 then { s.setAlive false with gl.aliveResume := true } else s

/-! Records (R470, R483, R484). -/

/-- The retention area takes the open record, else the last closed one, and RECORD_VALID (R484, R504). -/
def State.retain (s : State) : State :=
  match s.gl.record.orElse fun _ => s.gl.lastClosed with
  | none => s
  | some r => { s with
      power.ret.record := some r, power.ret.nextSeq := s.gl.nextSeq
      power.ret.cause := s.power.ret.cause ||| 0x20#32 }

/-- The open record changes: LAST_TIME and the copy in retention follow. -/
def State.modRecord (f : Record → Record) (s : State) : State :=
  { s with gl.record := s.gl.record.map fun r => { f r with lastTime := s.now } }.retain

/-- A record opened by source `src` in an evaluation. -/
def openRecord (seq : Word) (now mode src : Nat) (stepped : Bool) : Record :=
  { seq := seq, openTime := now, lastTime := now, escTime := 0, first := src, nMembers := 0, state := 1
    mode := mode, due := 0, done := 0, regions := 0, clearedBy := 0, members := [], events := 0
    flags := BitVec.ofNat 8 (flag stepped 0) }

/-- A source joins a record with `k` events counted while it is severe (R470). -/
def Record.joined (src action k : Nat) (r : Record) : Record :=
  { r with
    nMembers := min 255 (r.nMembers + 1)
    members := if r.members.length < 8 then r.members ++ [src] else r.members
    flags := if r.members.length < 8 then r.flags else r.flags ||| 2#8
    due := r.due ||| BitVec.ofNat 8 (2 ^ action)
    events := min 0xFFFFFFFF (r.events + k) }

/-- DUE: the actions of the uncleared members. -/
def dueOf (m : SMap Src) : BitVec 8 :=
  BitVec.ofNat 8 (m.foldl (fun n p => if p.2.severe then n ||| 2 ^ (p.2.running p.1).action else n) 0)

/-- A source becomes severe and opens or joins the record; GL_EVENTS notes it. -/
def State.join (src k : Nat) (s : State) : State :=
  let a := ((s.src src).running src).action
  let s1 := match s.gl.record with
    | some _ => s
    | none => { s with
        gl.record := some (openRecord s.gl.nextSeq s.now s.unit.mode.code src s.tb.stepped)
        gl.nextSeq := s.gl.nextSeq + 1 }
  (s1.modRecord (Record.joined src a k)).glSet 0

/-- The record closes by a clear: the Gleaner's HOLD and the REGION causes of SHED_REGION are released
(R472). -/
def State.closeRecord (by_ : Nat) (s : State) : State :=
  match s.gl.record with
  | none => s
  | some r =>
    let closed := { r with state := 3, clearedBy := by_, lastTime := s.now }
    let s1 := { s with
      gl.record := none, gl.lastClosed := some closed, gl.logPending := s.gl.logPending ++ [closed]
      gl.hold := false, gl.shed := 0 }.retain
    let s2 := ([0, 1, 2, 3].filter s.gl.shed.getLsbD).foldl (fun t r => t.atFrame (.region r)) s1
    ((if s.gl.hold then s2.holdRelease else s2).checkDegraded).glSet 2

/-- A member is cleared (R472). -/
def State.clearMembers (l : List Nat) (by_ : Nat) (s : State) : State :=
  let s1 := l.foldl (fun t i => t.modSrc i fun x => { x with c := 0, severe := false, deadline := none }) s
  let s2 := s1.modRecord fun r => { r with due := dueOf s1.gl.srcs }
  if s2.gl.srcs.any (·.2.severe) then s2 else s2.closeRecord by_

/-- A clear takes effect in step 2 of an evaluation (R472). -/
def State.applyClear (x : Clear) (s : State) : State :=
  let members := match x.source with | some i => [i] | none => severeOf s.gl.srcs
  match x.source with
  | some i => if !(s.src i).severe then s.modSrc i fun y => { y with c := 0 } else go members
  | none => go members
where
  go (members : List Nat) : State :=
    match s.gl.record with
    | none => s
    | some r => if x.seqLo = r.seq.toNat % 65536 then s.clearMembers members x.by_ else s.glSet 3

/-! Steps 3 and 4 (R469). -/

/-- A window that has run out closes. -/
def Src.windowClosed (tick : Nat) (x : Src) : Src :=
  if !x.severe && decide (0 < x.c) && decide (x.w ≤ tick) then { x with c := 0 } else x

/-- `k` events of a source that is not severe: the window starts with the first. -/
def Src.counted (src tick k : Nat) (x : Src) : Src :=
  let y := if x.c = 0 then { x with cur := x.params, w := tick + 1000 * (x.written src).windowMs } else x
  { y with c := min 255 (y.c + k) }

/-- A source becomes severe: its deadline is set to this evaluation plus its grace. A repair that was complete before
is not one of this member (R473, DEDUCED, log 27). -/
def Src.joins (src tick : Nat) (x : Src) : Src :=
  { x with severe := true, repaired := none, deadline := some (tick + 1000 * (x.running src).graceMs) }

/-- Events received are taken: the lifetime count and the time of the last event. One within 1 ms after the
completion of a repair keeps firmware from clearing the source (R473). -/
def Src.took (tick now : Nat) (x : Src) : Src :=
  { x with
    waiting := 0, lifetime := min 0xFFFFFFFF (x.lifetime + x.waiting), lastEvent := now
    repaired := x.repaired.filter fun t => decide (t + 1000 < tick) }

/-- The events received of one source are added and its severity decided. -/
def State.addEvents (s : State) (src : Nat) : State :=
  let x := s.src src
  if x.waiting = 0 then s
  else
    let y := x.took s.gl.tick s.now
    if x.severe then
      (s.modSrc src fun _ => y).modRecord fun r => { r with events := min 0xFFFFFFFF (r.events + x.waiting) }
    else
      let z := y.counted src s.gl.tick x.waiting
      let n := (z.running src).n
      if n ≤ z.c then
        (s.modSrc src fun _ => z.joins src s.gl.tick).join src
          (x.c + x.waiting - n + 1)
      else s.modSrc src fun _ => z

/-! Actions (R471, R474). -/

/-- The record has executed the action, judged per region for region actions. -/
def Record.executed (a r : Nat) (x : Record) : Bool :=
  if a = 2 then x.regions.getLsbD r else if a = 4 then x.regions.getLsbD (4 + r) else x.done.getLsbD a

/-- The marks of an execution: DONE, REGIONS, ESC_TIME and STATE. -/
def Record.executes (a r now : Nat) (x : Record) : Record :=
  { x with
    done := x.done ||| BitVec.ofNat 8 (2 ^ a), escTime := now, state := 2
    regions := if a = 2 then x.regions ||| BitVec.ofNat 8 (2 ^ r)
      else if a = 4 then x.regions ||| BitVec.ofNat 8 (2 ^ (4 + r)) else x.regions }

/-- RESET_REGION starts: cause REGION on the region's elements from the next loop frame start, and its blocks
reinitialise (R475). -/
def State.startRegionReset (r : Nat) (s : State) : State :=
  { s with gl.regionPhase := mapSet .none s.gl.regionPhase r .reinit }.atFrame (.region r)

/-- An entry into HOLD waits for its frame start. -/
def State.holdWaits (s : State) : Bool := s.loops.frames.any (·.2 = .hold)

/-- The action of a member executes unless its record has executed it. DEMOTE on a unit that holds no
control role is a NOTE, and so it is where an entry into HOLD, which ranks above it, waits for its frame start (01 R41).
RESET_DEVICE itself is State.classReset. -/
def State.execute (action src : Nat) (s : State) : State :=
  let a := if action = 3 && (!s.inControl || s.holdWaits) then 0 else action
  let r := sourceRegion src
  if s.gl.record.all (Record.executed a r) then s
  else
    let s1 := (s.modRecord (Record.executes a r s.now)).glSet 1
    match a with
    | 1 => { s1 with gl.hold := true }.atFrame .hold
    | 2 => ({ s1 with gl.shed := s1.gl.shed ||| BitVec.ofNat 4 (2 ^ r) }.atFrame (.region r)).checkDegraded
    | 3 => s1.demote
    | 4 => s1.startRegionReset r
    | _ => s1

/-- A record ended by a class P or H reset (R470, R484): it is kept in retention and in the log. -/
def State.recordReset (s : State) : State :=
  match s.gl.record with
  | none => s
  | some r =>
    let closed := { r with state := 4, clearedBy := 4, lastTime := s.now }
    { s with
      gl.record := none, gl.lastClosed := some closed, gl.logPending := s.gl.logPending ++ [closed] }.retain

end Sys2Proof.Machine
end

