-- ==== Sys2Proof/Machine/TrustOps.lean ====
section
/-! DEFINITION. Firmware images and the boot chain, as operations: 18_trust R509-R512. -/
namespace Sys2Proof.Machine

/-- The bytes of a firmware slot (R395, R509). -/
def State.slotBytes (s : State) (slot : Bool) : List Byte :=
  (if slot then s.trust.img1 else s.trust.img0).getD (Config.slotImage (if slot then 1 else 0))

/-- A field of an image header: `n` bytes from byte `i`, little-endian (R509). -/
def imageField (img : List Byte) (i n : Nat) : Nat := ofLe (slice img i n)

/-- FW_VER, SVN and KEY_SLOT of an image. -/
def imageVer (img : List Byte) : Nat := imageField img 12 4
def imageSvn (img : List Byte) : Nat := imageField img 16 4
def imageKeySlot (img : List Byte) : Nat := imageField img 6 2

/-- All bytes are 0. -/
def allZero (bs : List Byte) : Bool := bs.all fun b => decide (b = 0)

/-- A Claord slot holds a key that is not revoked (R508). -/
def Trust.claordOk (t : Trust) (slot : Nat) : Bool :=
  decide (slot < 4) && !allZero (Config.claordKey slot) && !t.crevoke.getLsbD slot

/-- An Axaro slot holds a key that is not revoked. -/
def Trust.axaroOk (t : Trust) (slot : Nat) : Bool :=
  decide (slot < 4) && decide (mapGet 0 t.akey slot ≠ 0) && !t.arevoke.getLsbD slot

/-- HEADER: MAGIC, HDR_VER, BODY_LEN and the reserved fields. -/
def headerOk (img : List Byte) : Bool :=
  imageField img 0 4 = 0x4D484657 && imageField img 4 2 = 1 && decide (1024 ≤ img.length) && decide (img.length ≤ 8388608) &&
  imageField img 8 4 + 256 = img.length && decide (imageField img 20 4 < 2) && allZero (slice img 28 4) &&
  allZero (slice img 192 64)

/-- The stages of R510 in order, each with its code; 8 stands for the rollback stage. -/
def Trust.stages (t : Trust) (img : List Byte) : List (Nat × Bool) :=
  [ (1, headerOk img),
    (2, t.claordOk (imageKeySlot img)),
    (3, (sha512 (slice img 96 32)).take 32 = Config.claordKey (imageKeySlot img)),
    (4, Config.signatureOk (slice img 96 32) (sha512 (img.take 128)) (slice img 128 64)),
    (5, slice img 32 64 = sha512 (img.drop 256)),
    (6, decide (imageField img 24 4 ≤ Config.romVer.toNat)),
    (7, imageField img 20 4 % 2 = 0 || t.lc = 0 || t.lc = 3),
    (8, decide (t.minSvn ≤ imageSvn img)) ]

/-- The first failing stage of an image; 0 where it passes. -/
def Trust.failing (t : Trust) (img : List Byte) : Nat :=
  match (t.stages img).find? fun p => !p.2 with
  | some p => p.1
  | none => 0

/-- Steps 1 and 2 of the boot ROM (R511): the revert, and the trial that is used up. -/
def BootRec.started (b : BootRec) : BootRec :=
  let c : BootRec := if b.trial && b.tries = 0 then { slot := !b.slot, trial := false, tries := 0 } else b
  if c.trial then { c with tries := c.tries - 1 } else c

/-- The ROM draws ID_SEED at the first boot in FACTORY (R515). -/
def State.seeded (s : State) : State :=
  if s.trust.lc = 0 && s.trust.idSeed = 0 then { s.drawn with trust.idSeed := Config.random s.free } else s

/-- The boot ROM after the wipe (R511, R512): SLOT is verified, and the other slot only if it fails. With
neither slot good nothing is loaded. -/
def State.bootSlot (s : State) : State :=
  let b := s.trust.boot.started
  let first := s.trust.failing (s.slotBytes b.slot)
  let other := if first = 0 then 0 else s.trust.failing (s.slotBytes (!b.slot))
  let slot := if first = 0 then b.slot else !b.slot
  { s with
    trust.boot := b, trust.staged := false, trust.confirmed := !b.trial
    trust.loaded := first = 0 || other = 0, trust.runSlot := slot
    trust.fail0 := if b.slot then other else first, trust.fail1 := if b.slot then first else other }

/-- The boot ROM (R511, R515). -/
def State.bootRom (s : State) : State := s.seeded.bootSlot

/-- The image that runs. -/
def State.runningImage (s : State) : List Byte := s.slotBytes s.trust.runSlot

/-- `n` bytes of a list, with zeros beyond its end. -/
def fitBytes (n : Nat) (bs : List Byte) : List Byte := (bs ++ List.replicate n 0).take n

end Sys2Proof.Machine
end

