-- ==== Sys2Proof/Machine/HedgeOps.lean ====
section
/-! DEFINITION. The Hedgerow node, as operations: 14_hedgerow R404-R434. Times and offsets are in 1/16 ns
of network time, rates in 10^-12. -/
namespace Sys2Proof.Machine

/-- HSTATE: R419. -/
def HState.code : HState → Nat
  | .off => 0 | .listen => 1 | .coldstart => 2 | .integrating => 3 | .active => 4 | .passive => 5

/-- Node `n` owns a static slot: its key slot, or one of the slot table (R413). -/
def HedgeCfg.ownsSlot (c : HedgeCfg) (n slot : Nat) : Bool :=
  slot = n || (decide (16 ≤ slot) && decide (slot < c.ns) &&
    (if c.slots = [] then slot = 16 + n else c.slots.contains (slot, n)))

/-- Node `n` owns a dynamic frame ID (R416). -/
def HedgeCfg.ownsFrame (c : HedgeCfg) (n id : Nat) : Bool :=
  decide (1 ≤ id) && decide (id ≤ 800) && (if c.frameIds = [] then id = n + 1 else c.frameIds.contains (id, n))

/-- The node owns a slot besides its key slot. -/
def HedgeCfg.ownsMore (c : HedgeCfg) (n : Nat) : Bool := (List.range' 16 16).any (c.ownsSlot n)

/-- The node is a sync node (R420). -/
def Hedge.isSync (h : Hedge) : Bool := h.coldNode || h.cfg.syncNode

/-- The node keeps a cycle. -/
def Hedge.cycling (h : Hedge) : Bool :=
  h.hstate = .coldstart || h.hstate = .integrating || h.hstate = .active || h.hstate = .passive

/-- A counter of R435: `per` counters have one for each channel. -/
def State.countHedge (i : Nat) (chanB : Bool) (s : State) : State :=
  { s with hedge.ctr := mapMod 0 s.hedge.ctr (2 * i + (if chanB then 1 else 0)) fun n => min (2 ^ 64 - 1) (n + 1) }

/-- A channel of the node. -/
def Hedge.chan (h : Hedge) (chanB : Bool) : Chan := if chanB then h.b else h.a

/-- `f` applied to a channel. -/
def State.modChan (chanB : Bool) (f : Chan → Chan) (s : State) : State :=
  if chanB then { s with hedge.b := f s.hedge.b } else { s with hedge.a := f s.hedge.a }

/-- A channel sends and is read: it is enabled and not held (R433). -/
def Hedge.sends (h : Hedge) (chanB : Bool) : Bool :=
  (if chanB then h.cfg.chanB else h.cfg.chanA) && !(h.chan chanB).held

/-- The node is integrated on a channel (R432). -/
def Hedge.integratedOn (h : Hedge) (chanB : Bool) : Bool := h.hstate = .active && decide (4 ≤ (h.chan chanB).syncRun)

/-- The node is integrated on some channel. -/
def Hedge.integrated (h : Hedge) : Bool := h.integratedOn false || h.integratedOn true

/-! The cycle (R405). -/

/-- The part of the shelf schedule time, less P, that lies beyond a whole number of cycles. -/
def State.cyclePhase (s : State) : Int :=
  (16 * (s.now : Int) + s.thetaNow - 16 * s.hedge.shift - 16 * s.hedge.phase) % (16 * s.hNs : Nat)

/-- The start of the cycle that contains this moment. -/
def State.cycleStartNow (s : State) : Int := 16 * (s.now : Int) - s.cyclePhase

/-- `us` µs after the start of the current cycle has been reached. -/
def State.pastInCycle (s : State) (us : Nat) : Bool := decide (s.hedge.start16 + 16000 * us ≤ 16 * (s.now : Int))

/-- What a cycle gathers is cleared. -/
def Hedge.cleared (h : Hedge) : Hedge :=
  { h with
    values := [], mid := none, midDone := false, corrected := false, frameNow := false, syncNodes := []
    heardNow := [], last := none, sent := []
    a := { h.a with syncNow := false, lag := 0, holdTo := 0, holdAt := 0 }
    b := { h.b with syncNow := false, lag := 0, holdTo := 0, holdAt := 0 } }

/-- Entry into LISTEN with a new listen timeout of 2 × H + 16 µs × node ID (R420). -/
def Hedge.listening (up : Nat) (h : Hedge) : Hedge :=
  { h.cleared with
    hstate := .listen, listenAt := up + 10000 * (2 * h.cfg.hUs + 16 * h.node), consistent := 0, whole := false
    prevValues := [], noSync := 0, noFrame := 0
    a := { h.a with syncRun := 0, syncNow := false }, b := { h.b with syncRun := 0, syncNow := false } }

/-- The source HEDGE is lost where the node was integrated and is so no longer (R432, 02 R54). -/
def State.checkIntegrated (was : Bool) (s : State) : State :=
  if was && !s.hedge.integrated then s.sourceLost .hedge else s

/-- The node enters LISTEN. What waits for its next cycle start, with no schedule cycle set, then takes effect at once
(02 R63). -/
def State.listen (s : State) : State :=
  ({ s with hedge := s.hedge.listening s.up }.checkIntegrated s.hedge.integrated).settleCommon

/-- The node enters PASSIVE, counted and raised (R430). -/
def State.goPassive (s : State) : State :=
  let s1 := { s with hedge.hstate := .passive, hedge.consistent := 0, hedge.noSync := 0 }
  ((s1.checkIntegrated s.hedge.integrated).countHedge 10 false).raise 167

/-- An ACTIVE node loses the shelf (R431). -/
def State.syncLost (s : State) : State := (s.listen.countHedge 11 false).raise 167

/-- The node starts, or starts again after a reset of its subsystem, with the saved configuration (R419,
R437). -/
def Hedge.restarted (up : Nat) (h : Hedge) : Hedge :=
  let c := h.saved.getD HedgeCfg.dflt
  Hedge.listening up { cfg := c, pend := c, saved := h.saved, node := h.node, coldNode := h.coldNode }

/-! The midpoint (R426, R428). -/

/-- `x` put into a sorted list. -/
def insertInt (x : Int) : List Int → List Int
  | [] => [x]
  | y :: l => if x ≤ y then x :: y :: l else y :: insertInt x l

/-- A list sorted. -/
def sortInts (l : List Int) : List Int := l.foldr insertInt []

/-- How many values are discarded at each end. -/
def discardsOf (n : Nat) : Nat := if n ≤ 3 then 0 else if n ≤ 6 then 1 else 2

/-- The fault-tolerant midpoint of a list of values. -/
def midpoint (l : List Int) : Option Int :=
  let k := discardsOf l.length
  let m := ((sortInts l).drop k).take (l.length - 2 * k)
  match m.head?, m.getLast? with
  | some a, some b => some (roundDiv (a + b) 2)
  | _, _ => none

/-- A sync value taken: a sender measured on both channels gives the smaller (R425). -/
def addValue (v : SyncValue) : List SyncValue → List SyncValue
  | [] => [v]
  | x :: l =>
    if x.node = v.node then (if v.o < x.o then v else x) :: l
    else if v.node < x.node then v :: x :: l
    else x :: addValue v l

/-- The values that count: of the senders, the eight of the lowest node IDs, the node itself included where
it is a sync node (R420). -/
def Hedge.counted (h : Hedge) : List SyncValue :=
  let own : SyncValue := ⟨h.node, 0, 0⟩
  ((if h.isSync then addValue own h.values else h.values).take 8)

/-- The rate of the increment against 6.4 ns, in 10^-12. -/
def incrRate (i : BitVec 36) : Int := roundDiv ((10 * (i.toNat : Int) - 64 * 2 ^ 32) * 10 ^ 12) (64 * 2 ^ 32)

/-- The rate values of the senders measured in both of two cycles (R428). -/
def rateValues (prev cur : List SyncValue) : List Int :=
  cur.filterMap fun v => (prev.find? fun x => x.node = v.node).bind fun x =>
    if v.tTx ≤ x.tTx then none
    else some (roundDiv ((v.o - x.o) * 10 ^ 12) (16 * ((v.tTx : Int) - x.tTx)))

/-! Frames as octets (R408-R410, R414, R415, R417; 15 R445). -/

/-- A commit record. -/
def CommitRec.octets (r : CommitRec) : List Byte :=
  beNat 4 r.epoch.toNat ++ beNat 3 r.bytes ++ [BitVec.ofNat 8 (flag r.handback 1 + flag r.baseline 0)] ++ beNat 8 r.digest.toNat

/-- A HEARTBEAT payload with its commit records. -/
def Heartbeat.bytes (h : Heartbeat) : List Byte :=
  beNat 8 h.tTx ++ beNat 4 h.phase ++
  [BitVec.ofNat 8 (h.mode.code + flag h.control 4 + flag h.pref 5 + flag h.unit 6 + flag h.paired 7),
   BitVec.ofNat 8 (h.hstate % 16 + h.recs.length % 4 * 16),
   BitVec.ofNat 8 (h.source.code + flag h.stepped 2 + flag h.locked 3 + flag h.severe 4), BitVec.ofNat 8 (h.partner % 16)] ++
  beNat 4 h.epoch.toNat ++ beNat 4 h.genNum.toNat ++ h.recs.flatMap CommitRec.octets

/-- A NOTICE payload. -/
def Notice.bytes (n : Notice) : List Byte :=
  beNat 8 n.instant ++ beNat 2 n.sheafId.toNat ++ beNat 2 n.stookId.toNat ++ [BitVec.ofNat 8 n.kind, n.outcome, 0, 0] ++
  beNat 4 n.hostTag.toNat ++ [0, 0, 0, 0]

/-- TYPE of a content (R409). -/
def HedgeBody.kind : HedgeBody → Nat
  | .null => 0 | .heartbeat _ => 1 | .commit _ => 2 | .notice _ => 3 | .reserved => 15

/-- The payload of a content. -/
def HedgeBody.payload : HedgeBody → List Byte
  | .heartbeat h => h.bytes
  | .commit recs => recs.flatMap CommitRec.octets
  | .notice n => n.bytes
  | _ => []

/-- The octets of a frame: header, payload and CRC. -/
def frameBytes (sync startup : Bool) (node frameId cycle : Nat) (cfgId : Byte) (body : HedgeBody) : List Byte :=
  let p := body.payload
  let b : List Byte :=
    [BitVec.ofNat 8 (flag sync 7 + flag startup 6 + node % 16), BitVec.ofNat 8 (16 * body.kind), BitVec.ofNat 8 (frameId / 256 % 4),
     BitVec.ofNat 8 frameId, BitVec.ofNat 8 (cycle % 64), BitVec.ofNat 8 p.length, cfgId, 0] ++ p
  b ++ leBytes (crc32c b)

/-- The header of a frame and its payload. -/
def readHead (bs : List Byte) : HedgeHead :=
  let b (i : Nat) : Nat := (byteAt bs i).toNat
  { sync := (byteAt bs 0).getLsbD 7, startup := (byteAt bs 0).getLsbD 6, node := b 0 % 16, frameId := b 2 % 4 * 256 + b 3
    cycle := b 4 % 64, cfgId := byteAt bs 6, payload := slice bs 8 (b 5) }

/-- The bit count matches LEN (R411). -/
def lenMatches (bs : List Byte) : Bool := bs.length = 12 + (byteAt bs 5).toNat && decide ((byteAt bs 5).toNat ≤ 64)

/-- The CRC is correct (R410). -/
def crcMatches (bs : List Byte) : Bool := bs.drop (bs.length - 4) = leBytes (crc32c (bs.take (bs.length - 4)))

/-- A commit record from its bytes. -/
def readCommit (bs : List Byte) : CommitRec :=
  { epoch := BitVec.ofNat 32 (ofBe (slice bs 0 4)), bytes := ofBe (slice bs 4 3), baseline := (byteAt bs 7).getLsbD 0
    handback := (byteAt bs 7).getLsbD 1, digest := BitVec.ofNat 64 (ofBe (slice bs 8 8)) }

/-- `n` commit records in a row. -/
def readCommits (n : Nat) (bs : List Byte) : List CommitRec := (List.range n).map fun i => readCommit (slice bs (16 * i) 16)

/-- An operating mode from its code (01 R31). -/
def modeFrom (n : Nat) : Option Mode := [Mode.boot, .calibrate, .standby, .active, .degraded, .hold, .sleep, .factoryTest][n]?

/-- A HEARTBEAT payload. -/
def readHeartbeat (bs : List Byte) : Option Heartbeat :=
  let b (i : Nat) : Byte := byteAt bs i
  let n := (b 13).toNat / 16 % 4
  match modeFrom ((b 12).toNat % 16), sourceOf ((b 14).toNat % 4) with
  | some m, some src =>
    if n = 3 || bs.length ≠ 24 + 16 * n then none
    else some {
      tTx := ofBe (slice bs 0 8), phase := ofBe (slice bs 8 4), mode := m, control := (b 12).getLsbD 4, pref := (b 12).getLsbD 5
      unit := (b 12).getLsbD 6, paired := (b 12).getLsbD 7, hstate := (b 13).toNat % 16, source := src, stepped := (b 14).getLsbD 2
      locked := (b 14).getLsbD 3, severe := (b 14).getLsbD 4, partner := (b 15).toNat % 16
      epoch := BitVec.ofNat 32 (ofBe (slice bs 16 4)), genNum := BitVec.ofNat 32 (ofBe (slice bs 20 4))
      recs := readCommits n (bs.drop 24) }
  | _, _ => none

/-- A NOTICE payload. -/
def readNotice (bs : List Byte) : Notice :=
  { instant := ofBe (slice bs 0 8), sheafId := BitVec.ofNat 16 (ofBe (slice bs 8 2)), stookId := BitVec.ofNat 16 (ofBe (slice bs 10 2))
    kind := (byteAt bs 12).toNat, outcome := byteAt bs 13, hostTag := BitVec.ofNat 32 (ofBe (slice bs 16 4)) }

/-- The content of a frame by its TYPE and payload. A payload whose length or whose fields its TYPE does not give is
valid for timing, and its content is ignored, as that of a reserved TYPE is (DESIGN CHOICE, log 30). -/
def readBody (bs : List Byte) : HedgeBody :=
  let p := (readHead bs).payload
  let k := (byteAt bs 1).toNat / 16
  if k = 0 then .null
  else if k = 1 then (match readHeartbeat p with
    | some h => .heartbeat h
    | none => .reserved)
  else if k = 2 then (if p.length % 16 = 0 && p ≠ [] then .commit (readCommits (p.length / 16) p) else .reserved)
  else if k = 3 then (if p.length = 24 then .notice (readNotice p) else .reserved)
  else .reserved

/-! Sending (R403, R409, R413, R414, R416). -/

/-- The octets of a frame of the node in this cycle. -/
def Hedge.octets (h : Hedge) (frameId : Nat) (body : HedgeBody) : List Byte :=
  let cold := h.hstate = .coldstart
  frameBytes (h.isSync || cold) cold h.node frameId h.cycle h.cfg.cfgId body

/-- A frame goes out on channels `a` and `b`, and awaits its read-back there (R433). -/
def State.sendOn (a b : Bool) (frameId : Nat) (bytes : List Byte) (s : State) : State :=
  let s1 := { s with
    hedge.sent := s.hedge.sent ++ [({ frameId := frameId, bytes := bytes, onA := a, onB := b, readA := !a, readB := !b } : SentFrame)] }
  if a || b then s1.emit (.hedge a b bytes) else s1

/-- A frame goes out on the channels that send. -/
def State.hedgeSend (frameId : Nat) (body : HedgeBody) (s : State) : State :=
  s.sendOn (s.hedge.sends false) (s.hedge.sends true) frameId (s.hedge.octets frameId body)

/-- The minislot counter of a channel in minislot `m` (R416). -/
def Chan.counter (c : Chan) (m : Nat) : Nat := if m < c.holdTo then c.holdAt else m - c.lag

/-- A frame of `n` octets that starts in minislot `m` holds the counter for ceil((F + 500 ns) / 1 µs) minislots; then it
advances by 1 (R402, R416). -/
def Chan.holds (m n : Nat) (c : Chan) : Chan :=
  if m < c.holdTo then c
  else
    let i := c.counter m
    let past := m + ((9 * n + 7) * 5 + 500 + 999) / 1000
    { c with holdAt := i, holdTo := past, lag := past - (i + 1) }

/-- A read-back of an own frame, or its absence, on a channel (R433). -/
def State.readBack (chanB ok : Bool) (s : State) : State :=
  if ok then s.modChan chanB fun c => { c with failures := 0 }
  else
    let n := (s.hedge.chan chanB).failures + 1
    let s1 := (s.modChan chanB fun c => { c with failures := n }).countHedge 6 chanB
    if n = 8 && !(s.hedge.chan chanB).held then (s1.modChan chanB fun c => { c with held := true }).raise 167 else s1

/-- Frames sent whose read-back never came fail at the end of the cycle. -/
def State.unread (s : State) : State :=
  s.hedge.sent.foldl (fun t f =>
    let u := if f.readA then t else t.readBack false false
    if f.readB then u else u.readBack true false) s

end Sys2Proof.Machine
end

