-- ==== Sys2Proof/Machine/ResetOps.lean ====
section
/-! DEFINITION. The resets of classes P, H, F and S, as operations: 17_power_reset R496-R506, with
05_loop_modes R139, 16_gleaner R470, R484 and the chapters of each subsystem. -/
namespace Sys2Proof.Machine

/-! Classes P and H (R497-R499, R506). -/

/-- A class P or H reset is in progress: it has begun, and its wipe is not complete. -/
def State.inReset (s : State) : Bool := s.power.phase = .waitRelease || s.power.phase = .wiping

/-- An element through a class H reset: its mode record and drive codes stay, it enters HD unless it is
parked, and only cause DEVICE holds it (01 R33 row 2, 05 R139, R506). -/
def Elem.held_ (t : Nat) (x : Elem) : Elem :=
  let y := x.freeze t
  { mode := y.mode, cross := y.cross, reqLk := y.reqLk, prior := y.prior, ff := y.ff, target := y.target
    rampSlew := y.rampSlew, tLast := y.tLast, fast := y.fast, r := y.r, q := { u := y.q.u }
    cDevice := true }

/-- GL_RESET_CAUSE as the retention area records it at the assertion of a reset (R485, R498). -/
def State.causeWord (cause : Nat) (lost : Bool) (s : State) : Word :=
  BitVec.ofNat 32 (s.unit.mode.code * 2 ^ 24 + flag lost 7 + flag s.gl.lockstep 6 + flag s.power.ret.record.isSome 5 + cause)

/-- What a class P or H reset leaves, by the matrix of R506: fuses, images, saved settings, the calibration
data in flash, the logs, the retention area and the pins stay; everything else returns to its reset
value. `held` are the elements. -/
def State.wiped (held : SMap Elem) (s : State) : State :=
  { State.reset with
    ident := { Ident.reset with rev := s.ident.rev, serial := s.ident.serial }
    gl := {
      lastClosed := s.power.ret.record, nextSeq := s.power.ret.nextSeq, resetCause := s.gl.resetCause
      log := s.gl.log, logPending := s.gl.logPending, saved := s.gl.saved }
    power := { s.power with
      cmdHold := false, sleep := .none, sleepAsked := none, classF := false, smb := [], retrainA := none, retrainB := none }
    loops := { elems := held }
    fabric := if held = [] then { failed := s.cal.failedFlash } else
      { failed := s.cal.failedFlash, map := s.fabric.map, halfLit := s.fabric.halfLit, carrying := s.fabric.carrying, lastCarried := s.fabric.lastCarried }
    cal := {
      copy0 := s.cal.copy0, copy1 := s.cal.copy1, inUse := s.cal.inUse, lastSave := s.cal.lastSave
      globalCount := s.cal.copy.count, globalTime := s.cal.copy.time
      map := s.cal.mapFlash, mapFlash := s.cal.mapFlash, failedFlash := s.cal.failedFlash
      log := s.cal.log, logSeq := ((s.cal.log.head?).map fun x => x.seq + 1).getD 1
      junction := s.cal.junction, diodes := s.cal.diodes }
    hedge := { saved := s.hedge.saved }
    unit := { pair := s.unit.pair, startupMap := s.unit.startupMap }
    trust := { s.trust with nonce := none, loaded := false }
    tap := s.tap, pending := s.pending, up := s.up, out := s.out, free := s.free }

/-- The elements after the assertion of a reset: dark after class P, held after class H. -/
def State.elementsAfter (p : Bool) (s : State) : SMap Elem :=
  if p then [] else (s.modElems (List.range numElements) fun _ x => x.held_ s.now).loops.elems

/-- A class P (`p`) or class H reset is asserted with a cause of R496. One that arrives during another
restarts the wipe; the recorded cause stays, unless a class P cause meets a class H reset (R497). -/
def State.classReset (p : Bool) (cause : Nat) (s : State) : State :=
  if s.inReset then
    if p && !s.power.classP then
      { s with
        power.phase := .waitRelease, power.classP := true, power.dark := true, power.cause := cause, loops := {}, fabric := { failed := s.fabric.failed }
        power.ret.cause := (s.power.ret.cause &&& 0xFFFFFFE0#32) ||| BitVec.ofNat 32 cause }
    else { s with power.phase := .waitRelease }
  else
    let s1 := ((s.setSyncOut false).setAlive false).clearLsel
    let s2 := s1.recordReset
    let s3 := { s2 with
      power.phase := .waitRelease, power.classP := p, power.dark := p, power.cause := cause
      power.ret.cause := s2.causeWord cause false
      power.ret.lastResetTime := s2.steppedTime
      power.ret.resetCount := min 0xFFFFFFFF (s2.power.ret.resetCount + 1) }
    s3.wiped (s.elementsAfter p)

/-! Class F (R500, R506). -/

/-- A command in flight goes on without an answer (13 R391). -/
def InFlight.orphaned (c : InFlight) : InFlight := { c with orphan := true }

/-- A frame waiting in a port that a transmit queue owns leaves with the packet buffer; frames forwarded
between ports stay. -/
def Port.classF (x : Port) : Port :=
  let own (l : List TxFrame) : List TxFrame := l.filter fun f => f.owner.isNone
  let free (w : OnWire) : OnWire := { w with frame := { w.frame with owner := none } }
  { x with
    classes := (x.classes.map fun q => (q.1, own q.2)).filter fun q => q.2 ≠ []
    wire := x.wire.map free, held := x.held.map free, ctr := [], tick := [], history := [] }

/-- A submitter on a fabric command queue whose state has been wiped (12 R374). -/
def Submitter.unqueued : Submitter → Submitter
  | .fcq _ _ => .mailbox
  | x => x

/-- A class F reset. -/
def State.classF (s : State) : State :=
  if s.inReset then s
  else { s with
    host := {
      linkUp := s.host.linkUp, lanes := s.host.lanes, speed := s.host.speed, nextFrame := s.host.nextFrame
      nextOutcome := s.host.nextOutcome }
    power.classF := true, power.sleepAsked := none, cycle := {}
    il := { s.il with
      mb := [], answers := [], held := [], resetAsked := none
      inflight := (s.il.inflight.filter fun c => !c.answered).map InFlight.orphaned
      fw := { s.il.fw with phase := if s.il.fw.phase = .staged then .staged else .none, open_ := false, size := 0, bytes := [] } }
    tb.syncMiss := 0, tb.syncReject := 0
    ports.port := mapListed Port.dflt (fun _ x => x.classF) s.ports.port
    ports.hits := []
    streams.table := mapListed Stream.dflt (fun _ x => { x with ctr := [] }) s.streams.table
    streams.noEntry := 0
    rules.ctr := [], rules.ruleCtr := [], rules.flight := [], rules.threads := [], rules.recirc := []
    hedge.ctr := []
    unit.events := 0, unit.takeovers := 0, unit.discards := 0
    gl.events := 0
    sheaves.store := s.sheaves.store.map fun x => { x with submitter := x.submitter.unqueued } }

/-! Class S (R501). -/

/-- Commands of a group that have not taken effect end ABORTED (13 R391). -/
def State.abortGroup (group : Nat) (s : State) : State :=
  (s.il.inflight.filter fun c => c.code.toNat / 256 = group && !c.answered).foldl
    (fun t c => t.answer c (Reply.no .aborted 1)) s

/-- An element through a class S reset of LOOP: its loop state and its sticky status bits but UNLOCKABLE. -/
def Elem.loopReset (x : Elem) : Elem :=
  { x with q := { u := x.q.u }, flags := x.flags &&& 0x1000#16, last := 0, histPend := false, ffJump := false }

/-- LOOP: RESET_REGION on all four regions at once, without captures and sticky bits (R475, R501). -/
def State.resetLoop (s : State) : State :=
  let s1 := { s with
    loops.captures := []
    loops.elems := mapListed Elem.park (fun _ x => x.loopReset) s.loops.elems }
  [0, 1, 2, 3].foldl (fun t r => t.startRegionReset r) s1

/-- PORT: mode 0x0 with default settings; frames held complete LINK_DOWN (R501, 08 R252). -/
def State.resetPorts (s : State) : State :=
  let s1 := [0, 1, 2, 3].foldl (fun t p =>
    let u := if (t.prt p).up then t.linkDown p false else t
    (u.cutFrame p).discardQueued p 34 1) s
  { s1 with ports := { lsel0 := s.ports.lsel0, lsel1 := s.ports.lsel1, historyAt := s.ports.historyAt } }.restoreLanes

/-- GATE: every gate opens, and the configuration is that of R263 and R271 (09 R282). -/
def State.resetGates (s : State) : State := { s with gates := {} }

/-- STREAM: VALID 0, counters 0 and cover sets OFF (10 R304). -/
def State.resetStreams (s : State) : State := { s with streams := {} }

/-- RULE: both generations empty; frames in classification are discarded and counted, those not yet
dispatched stay (11 R338). -/
def State.resetRules (s : State) : State :=
  let lost := (s.rules.flight.map fun q => (q.2.filter fun p => p.stage = .thread || p.stage = .recirc).length).sum
  let keep (l : List Pkt) : List Pkt := l.filter fun p => !(p.stage = .thread || p.stage = .recirc)
  { s with rules := {
      flight := (s.rules.flight.map fun q => (q.1, keep q.2)).filter fun q => q.2 ≠ []
      nextPkt := s.rules.nextPkt, rr := s.rules.rr, mpAt := s.up, partnerGen := s.rules.partnerGen
      ctr := mapSet 0 [] 17 lost } }

/-- HEDGE: the node stops and starts again (14 R437). Where that loses the source in use, the reset itself leaves the
increment (02 R46); the holdover's own increment (R54) comes into force at the next loop frame start (DESIGN CHOICE,
log 14). -/
def State.resetHedge (s : State) : State :=
  if s.hedge.hstate = .off then s
  else
    let t := { s with hedge := s.hedge.restarted s.up }.checkIntegrated s.hedge.integrated
    let u := { t with tb.incr := s.tb.incr }
    (if t.tb.incr = s.tb.incr then u else u.atFrame .holdover).settleCommon

/-- A class S reset of subsystem `k` (13 R398), where LOOP is answered later. -/
def State.classS (k : Nat) (s : State) : State :=
  match k with
  | 1 => (s.abortGroup 0x05).resetLoop
  | 2 => (s.abortGroup 0x07).resetPorts
  | 3 => (s.abortGroup 0x08).resetGates
  | 4 => (s.abortGroup 0x09).resetStreams
  | 5 => (s.abortGroup 0x0A).resetRules
  | 6 => (s.abortGroup 0x0B).resetHedge
  | _ => s

end Sys2Proof.Machine
end

