-- ==== Sys2Proof/Machine/GlRows.lean ====
section
/-! DEFINITION. The Gleaner's evaluation, its events, its registers that act and the FAULT commands:
16_gleaner R465-R488. An evaluation is whole: GLEANER_WINDOW_EXPIRY, SOURCE_SEVERE and GLEANER_DEADLINE name
the evaluation in which that befalls a source (DEDUCED, log 27). -/
namespace Sys2Proof.Machine

/-! The evaluation (R468). -/

/-- The Gleaner runs: from a reset release until a lockstep failure or the end of power. -/
def State.gleanerRuns (s : State) : Bool :=
  !s.gl.lockstep && (s.power.phase = .wiping || s.power.phase = .bootRom || s.power.phase = .running)

/-- Step 2: the clears received are applied in order. -/
def State.stepClears (s : State) : State :=
  s.gl.clears.foldl (fun t c => t.applyClear c) { s with gl.clears := [] }

/-- Step 3: windows that have run out close, the shadow's too. -/
def State.stepWindows (s : State) : State :=
  { s with
    gl.srcs := mapListed Src.dflt (fun _ x => x.windowClosed s.gl.tick) s.gl.srcs
    gl.shadow := mapListed Src.dflt (fun _ x => x.windowClosed s.gl.tick) s.gl.shadow }

/-- A record with a bit of FLAGS set. -/
def Record.flagged (b : BitVec 8) (r : Record) : Record := { r with flags := r.flags ||| b }

/-- The injected events of one source are added to its shadow (R481), or are MASKED where the source counts a
real event in this evaluation (`real`) or its real bit is set (R482). -/
def State.addInjected (real : List Nat) (s : State) (src : Nat) : State :=
  let x := mapGet Src.dflt s.gl.shadow src
  let y := { x with waiting := 0, params := (s.src src).params }
  let z := y.counted src s.gl.tick x.waiting
  let q := z.running src
  if x.waiting = 0 then s
  else if real.contains src || (s.src src).severe then
    { s with
      gl.injMasked := s.gl.injMasked + x.waiting
      gl.shadow := mapSet Src.dflt s.gl.shadow src { x with waiting := 0 } }.modRecord (Record.flagged 4#8)
  else if y.severe then
    { s with
      gl.shadow := mapSet Src.dflt s.gl.shadow src y
      gl.shRecord := s.gl.shRecord.map fun r => { r with events := min 0xFFFFFFFF (r.events + x.waiting), lastTime := s.now } }
  else if q.n ≤ z.c then
    let r := s.gl.shRecord.getD (openRecord 0 s.now s.unit.mode.code src s.tb.stepped)
    { s with
      gl.shadow := mapSet Src.dflt s.gl.shadow src (z.joins src s.gl.tick)
      gl.shRecord := some { r.joined src q.action (y.c + x.waiting - q.n + 1) with lastTime := s.now } }
  else { s with gl.shadow := mapSet Src.dflt s.gl.shadow src z }

/-- Step 4: the events received are added, source by source, and then the injected ones to their shadows. -/
def State.stepEvents (s : State) : State :=
  let real := (s.gl.srcs.filter fun p => decide (0 < p.2.waiting)).map (·.1)
  let t := (s.gl.srcs.map (·.1)).foldl State.addEvents s
  (s.gl.shadow.map (·.1)).foldl (State.addInjected real) t

/-- Members of a map of sources whose deadlines have come, with their actions. -/
def dueMembers (tick : Nat) (m : SMap Src) : List (Nat × Nat) :=
  m.filterMap fun p => match p.2.deadline with
    | some d => if p.2.severe && decide (d ≤ tick) then some (p.1, (p.2.running p.1).action) else none
    | none => none

/-- The deadlines of members are taken. -/
def takeDeadlines (due : List (Nat × Nat)) (m : SMap Src) : SMap Src :=
  due.foldl (fun m d => mapMod Src.dflt m d.1 fun x => { x with deadline := none }) m

/-- The order of actions that fall due together (R471). -/
def actionOrder : List Nat := [2, 4, 1, 3, 0]

/-- A record with the actions of members marked as executed. -/
def Record.allExecuted (control : Bool) (now : Nat) (due : List (Nat × Nat)) (r : Record) : Record :=
  due.foldl (fun r d =>
    let a := if d.2 = 3 && !control then 0 else d.2
    if r.executed a (sourceRegion d.1) then r else r.executes a (sourceRegion d.1) now) r

/-- The members of which an action executes: RESET_DEVICE, if it is among them, alone (R471). -/
def executedAlone (due : List (Nat × Nat)) : List (Nat × Nat) :=
  if due.any (·.2 = 5) then (due.filter (·.2 = 5)).take 1 else due

/-- What a shadow deadline records: the action that would have executed (R481). -/
def State.stepShadow (s : State) : State :=
  let due := dueMembers s.gl.tick s.gl.shadow
  if due = [] then s
  else { s with
    gl.shadow := takeDeadlines due s.gl.shadow
    gl.shRecord := s.gl.shRecord.map (Record.allExecuted s.inControl s.now (executedAlone due)) }

/-- Step 5: members whose deadlines have come escalate. RESET_DEVICE is executed alone (R471, R485). -/
def State.stepDeadlines (s : State) : State :=
  let due := dueMembers s.gl.tick s.gl.srcs
  let s1 := { s with gl.srcs := takeDeadlines due s.gl.srcs }
  match due.find? fun d => d.2 = 5 with
  | some d => (s1.execute 5 d.1).classReset false (if due.any (·.1 = 144) then 6 else 5)
  | none => actionOrder.foldl (fun t a => (due.filter (·.2 = a)).foldl (fun u d => u.execute a d.1) t) s1

/-- Step 1 finds a mismatch (R477): HOLD is latched, ALIVE frozen, both copies and the watchdog stop. -/
def State.lockstepFailure (s : State) : State :=
  let s1 := { s with
    gl.lockstep := true, gl.wdRun := false, gl.clears := []
    gl.record := s.gl.record.map (Record.flagged 8#8) }.retain
  { s1 with power.ret.cause := s1.power.ret.cause ||| 0x40#32 }.atFrame .hold

/-- Steps 2 to 6 of an evaluation. -/
def State.evaluationSteps (s : State) : State :=
  s.stepClears.stepWindows.stepEvents.stepShadow.stepDeadlines.aliveLevel

/-- A unit with a severe source is not READY (15 R452). -/
def State.severeNotReady (s : State) : State := if s.anySevere then { s with unit.ready := false } else s

/-- One evaluation: each microsecond from the reset release on has one (R465; DESIGN CHOICE, log 3). -/
def State.evaluateGl (mismatch : Bool) (s : State) : State :=
  if !s.gleanerRuns || decide ((s.up - s.power.releasedAt) / 10000 ≤ s.gl.tick) then s
  else if mismatch then { s with gl.tick := s.gl.tick + 1 }.lockstepFailure.severeNotReady
  else { s with gl.tick := s.gl.tick + 1 }.evaluationSteps.severeNotReady

/-- GLEANER_EVALUATION (R468): every microsecond the Gleaner compares copies, applies clears, adds events and sets
ALIVE. -/
def execGleanerEvaluation (mismatch : Bool) (s : State) : Host.Outcome State Fault Refusal :=
  .next <| s.evaluateGl mismatch

/-- GLEANER_WINDOW_EXPIRY (R469). The evaluation in which the window of a source runs out. -/
def execGleanerWindowExpiry (source : Nat) (s : State) : Host.Outcome State Fault Refusal :=
  .next <|
    let x := s.src source
    if !x.severe && decide (0 < x.c) && decide (x.w ≤ s.gl.tick + 1) then s.evaluateGl false else s

/-- SOURCE_SEVERE (R469). The evaluation in which a source becomes severe. -/
def execSourceSevere (source : Nat) (s : State) : Host.Outcome State Fault Refusal :=
  .next <|
    let s1 := s.evaluateGl false
    if !(s.src source).severe && (s1.src source).severe then s1 else s

/-- GLEANER_DEADLINE (R471). The evaluation in which the deadline of an uncleared member comes. -/
def execGleanerDeadline (source : Nat) (s : State) : Host.Outcome State Fault Refusal :=
  .next <|
    let x := s.src source
    if x.severe && x.deadline.any fun d => decide (d ≤ s.gl.tick + 1) then s.evaluateGl false else s

/-! RESET_REGION (R475). -/

/-- An element whose region has been reinitialised: its record is the calibration image's and its loop state
is cleared; its drive registers keep their codes. -/
def Elem.reinit (x : Elem) : Elem := { x with prm := none, q := { u := x.q.u }, histPend := false, ffJump := false }

/-- Step 3: firmware restores the region and releases its REGION cause. The restoration is the repair of the
region's block sources and of its region source (R473). -/
def State.restoreRegion (r : Nat) (s : State) : State :=
  let s1 := { s with gl.regionPhase := mapSet .none s.gl.regionPhase r .none }
  let s2 := s1.atFrame (.region r)
  (regionSource r :: (List.range 17).map (blockSource r)).foldl (fun t i => t.repairDone i) s2

/-- The class S reset of LOOP is answered when all four regions are restored (R398, R501). -/
def State.loopResetDone (s : State) : State :=
  match s.il.loopReset with
  | none => s
  | some tag =>
    if s.gl.regionPhase ≠ [] then s
    else match s.il.inflight.find? fun c => c.tag = tag && !c.answered with
      | some c => { s with il.loopReset := none }.answer c Reply.done
      | none => { s with il.loopReset := none }

/-- REGION_REINIT_COMPLETE (R475). Step 2 of RESET_REGION ends, which starts at the frame start of step 1; running
firmware carries out step 3. -/
def execRegionReinitComplete (region : Nat) (s : State) : Host.Outcome State Fault Refusal :=
  .next <|
    if mapGet .none s.gl.regionPhase region ≠ .reinit || s.loops.frames.any (·.2 = .region region) then s
    else
      let s1 := { s.modElems (regionElements region) (fun _ x => x.reinit) with
        gl.regionPhase := mapSet .none s.gl.regionPhase region .reload }
      if s.ident.fwReady then (s1.restoreRegion region).loopResetDone else s1

/-! Clears (R472, R473). -/

/-- A write of GL_CLEAR: the clear waits for the next evaluation. -/
def State.glClear (v : Word) (s : State) : State :=
  let src := fld v 7 0
  if !s.gleanerRuns || (!bit v 8 && decide (192 ≤ src)) then s
  else { s with gl.clears := s.gl.clears ++ [({
    source := if bit v 8 then none else some src, seqLo := fld v 31 16, by_ := 2 } : Clear)] }

/-- GL_CLEAR_SOURCE (R472): A GL_CLEAR write with ALL 0 clears one Gleaner source. -/
def execGlClearSource (value : Word) (s : State) : Host.Outcome State Fault Refusal := .next <| s.glClear value

/-- GL_CLEAR_ALL (R472): A GL_CLEAR write with ALL 1 clears every member of the open record. -/
def execGlClearAll (value : Word) (s : State) : Host.Outcome State Fault Refusal :=
  .next <| s.glClear (value ||| 0x100#32)

/-- FIRMWARE_CLEAR (R473). Firmware clears a member: FW_CLEAR is 1, a repair completed 1 ms before, and no event came
since. It never clears source 144. -/
def execFirmwareClear (source : Nat) (s : State) : Host.Outcome State Fault Refusal :=
  .next <|
    let x := s.src source
    let repaired := x.repaired.any fun t => decide (t + 1000 < s.gl.tick) || (t + 1000 = s.gl.tick && x.waiting = 0)
    match s.gl.record with
    | none => s
    | some r =>
      if s.ident.fwReady && s.gleanerRuns && source ≠ 144 && x.severe && (x.running source).fwClear && repaired then
        { s with gl.clears := s.gl.clears ++ [({ source := some source, seqLo := r.seq.toNat % 65536, by_ := 1 } : Clear)] }
      else s

/-! Records, watchdog, comparator, ALIVE. -/

/-- RECORD_FLASH_WRITE (R484). A closed record is written to the flash log of 256 records. -/
def execRecordFlashWrite (s : State) : Host.Outcome State Fault Refusal :=
  .next <|
    match s.gl.logPending with
    | [] => s
    | r :: rest => if s.ident.fwReady then { s with gl.log := (r :: s.gl.log).take 256, gl.logPending := rest } else s

/-- WATCHDOG_EXPIRY (R476). The watchdog expires: one event on source 144, and its period starts again. -/
def execWatchdogExpiry (s : State) : Host.Outcome State Fault Refusal :=
  .next <|
    if s.gl.wdRun && s.gleanerRuns && decide (s.gl.wdLast + 10000000 * s.gl.wdPeriodMs ≤ s.up) then
      { s with gl.wdLast := s.up }.raise 144
    else s

/-- COMPARATOR_SELF_TEST (R478). A self-test of the comparator, once in every 10 ms. -/
def execComparatorSelfTest (flagged : Bool) (s : State) : Host.Outcome State Fault Refusal :=
  .next <|
    if !s.gleanerRuns || decide (s.gl.tick / 10000 ≤ s.gl.testTick / 10000) then s
    else
      let s1 := { s with gl.testTick := s.gl.tick }
      if flagged then s1 else ({ s1 with gl.compFail := true }.glSet 5).raise 145

/-- ALIVE_EDGE (R479). An edge of the ALIVE wave, at a tick count that is a multiple of 500. -/
def execAliveEdge (s : State) : Host.Outcome State Fault Refusal :=
  .next <|
    if s.gleanerRuns && s.alive = 0 && s.gl.tick % 500 = 0 && s.gl.edgeTick ≠ s.gl.tick then
      { s.setAlive (s.gl.aliveResume || !s.gl.aliveHigh) with gl.aliveResume := false, gl.edgeTick := s.gl.tick }
    else s

/-! Fault injection (R481, R482). -/

/-- One injected event is received: the next evaluation takes it, as it takes a real one. -/
def State.injectOne (src : Nat) (s : State) : State :=
  { s with gl.shadow := mapMod Src.dflt s.gl.shadow src fun x => { x with waiting := x.waiting + 1 } }

/-- FAULT_INJECT_EVENT (R481). The next event of an injection that runs. -/
def execFaultInjectEvent (s : State) : Host.Outcome State Fault Refusal :=
  .next <|
    match s.gl.inj with
    | none => s
    | some i =>
      if !s.gleanerRuns || decide (s.gl.tick < i.nextTick) then s
      else
        let s1 := s.injectOne i.source
        if i.left ≤ 1 then { s1 with gl.inj := none }.glSet 4
        else { s1 with gl.inj := some { i with left := i.left - 1, nextTick := i.nextTick + i.intervalUs } }

/-! Registers that act (R486). -/

/-- Word `i` of a latched sample. -/
def statusWord (b : BitVec 192) (i : Nat) : Word := BitVec.ofNat 32 (b.toNat >>> (32 * i))

/-- GL_STATUS0_READ (R486): A read of GL_STATUS0 latches GL_STATUS and GL_SHADOW. -/
def execGlStatus0Read (s : State) : Host.Outcome State Fault Refusal :=
  .next <| { s with gl.latchStatus := s.glStatus, gl.latchShadow := s.glShadow }.emit (.readData (statusWord s.glStatus 0))

/-- GL_EVENTS_WRITE (R486): A write of 1 to GL_EVENTS bits clears them. -/
def execGlEventsWrite (value : Word) (s : State) : Host.Outcome State Fault Refusal :=
  .next <| { s with gl.events := (s.gl.events &&& ~~~ value.setWidth 6) ||| (s.gl.events &&& s.cycle.glBits) }

/-- GL_SUMMARY. -/
def State.glSummary (s : State) : Nat :=
  let r := s.gl.record
  (r.map (·.nMembers)).getD 0 * 2 ^ 24 + (r.map (·.first)).getD 0xFF * 2 ^ 16 + flag s.gl.compFail 10 + flag s.gl.lockstep 9
    + flag s.gl.hold 8 + s.gl.shed.toNat * 16 + flag r.isSome 3 + s.alive

/-- GL_RECORD_SEQ: SEQ of the open record, or of the last record. -/
def State.glSeq (s : State) : Word := ((s.gl.record.orElse fun _ => s.gl.lastClosed).map (·.seq)).getD 0

/-- GL_DEADLINE: ticks until the next deadline. -/
def State.glDeadline (s : State) : Nat :=
  (s.gl.srcs.filterMap fun p => if p.2.severe then p.2.deadline else none).foldl (fun m d => min m (d - s.gl.tick)) 0xFFFFFFFF

/-! FAULT commands (R487). -/

/-- The 64 bytes of a record (R483). -/
def Record.bytes (r : Record) : List Byte :=
  leNat 4 r.seq.toNat ++ leNat 8 r.openTime ++ leNat 8 r.lastTime ++ leNat 8 r.escTime
    ++ leNat 1 r.first ++ leNat 1 r.nMembers ++ leNat 1 r.state ++ leNat 1 r.mode
    ++ [r.due, r.done, r.regions] ++ leNat 1 r.clearedBy
    ++ ((r.members ++ List.replicate 8 0xFF).take 8).flatMap (leNat 1) ++ leNat 4 r.events
    ++ r.flags :: List.replicate 15 0

/-- The bytes of a record, if there is one. -/
def recordBytes (r : Option Record) : List Byte := (r.map Record.bytes).getD []

/-- An answer whose payload bytes a rule lays out. -/
def Reply.bytes (l : List Byte) : Reply := { payload := .bytes l }

/-- The words of a sample of GL_STATUS or GL_SHADOW. -/
def statusWords (b : BitVec 192) : List Word := (List.range 8).map (statusWord b)

/-- FAULT_GET_STATUS (R487): returns latched Gleaner status, summary, records and reset cause. -/
def execFaultGetStatus (tag : Tag) (s : State) : Host.Outcome State Fault Refusal :=
  .next <| s.query tag 0x0D01 (some 0) fun s =>
    Reply.ok ((statusWords s.glStatus ++ statusWords s.glShadow).map (fun w => (w.toNat : Int)) ++ [(s.glSummary : Int)]
      ++ (recordBytes s.gl.record).map (fun b => (b.toNat : Int)) ++ [(s.gl.resetCause.toNat : Int)]
      ++ (recordBytes s.power.ret.record).map (fun b => (b.toNat : Int)))

/-- A range of at most 64 sources. -/
def sourcesOk (first count : Nat) : Bool := count ≠ 0 && decide (count ≤ 64) && decide (first + count ≤ 192)

/-- What FAULT_GET_SOURCE returns of one source. -/
def State.sourceFields (s : State) (i : Nat) : List Int :=
  let x := s.src i
  let p := x.written i
  let counting := !x.severe && decide (0 < x.c)
  [(p.n : Int), p.windowMs, p.graceMs, p.action, b2i p.fwClear, x.c, if counting then ((x.w - s.gl.tick : Nat) : Int) else -1,
   x.lifetime, x.lastEvent, b2i (x.severe || (i = 146 && s.gl.lockstep)),
   match x.deadline with | some d => ((d - s.gl.tick : Nat) : Int) | none => -1]

/-- FAULT_GET_SOURCE (R487): returns parameters and state of up to 64 Gleaner sources. -/
def execFaultGetSource (tag : Tag) (first count : Nat) (s : State) : Host.Outcome State Fault Refusal :=
  .next <| s.query tag 0x0D02 none fun s =>
    if sourcesOk first count then Reply.ok ((List.range' first count).flatMap s.sourceFields)
    else Reply.no .outOfRange

/-- What refuses new parameters of a source (R467). -/
def State.paramsRefused (s : State) (i : Nat) (p : SrcParams) : Option Status :=
  let old := (s.src i).written i
  if p.n = 0 || 255 < p.n || p.windowMs = 0 || 65535 < p.windowMs || p.graceMs = 0 || 10000 < p.graceMs || 5 < p.action
      || ((p.action = 2 || p.action = 4) && 143 < i) then some .outOfRange
  else if (i = 146 && p ≠ old) || (i = 144 && (p.n ≠ old.n || p.action ≠ old.action)) then some .notPermitted
  else none

/-- FAULT_SET_SOURCE (R467): sets parameters of up to 64 Gleaner sources. -/
def execFaultSetSource (tag : Tag) (first : Nat) (params : List SrcParams) (s : State) : Host.Outcome State Fault Refusal :=
  .next <| s.serve tag 0x0D03 false none fun s =>
    if !sourcesOk first params.length then refuse s .outOfRange
    else
      let l := params.zipIdx
      match l.findSome? fun q => (s.paramsRefused (first + q.2) q.1).map fun st => (st, q.2) with
      | some (.outOfRange, i) => refuse s .outOfRange (detailOf i 0)
      | some (st, _) => refuse s st
      | none => (l.foldl (fun t q => t.modSrc (first + q.2) fun x => { x with params := some q.1 }) s, Reply.done)

/-- FAULT_CLEAR (R472): clears Gleaner sources as GL_CLEAR does, with the full SEQ. -/
def execFaultClear (tag : Tag) (source : Option Nat) (seq : Word) (s : State) : Host.Outcome State Fault Refusal :=
  .next <| s.serve tag 0x0D04 false none fun s =>
    if s.gl.lockstep then refuse s .notPermitted
    else if source.any fun i => decide (192 ≤ i) then refuse s .outOfRange
    else if source.all (fun i => (s.src i).severe) && s.gl.record.any fun r => r.seq ≠ seq then refuse s .outOfRange
    else ({ s with gl.clears := s.gl.clears ++ [({
      source := source, seqLo := seq.toNat % 65536, by_ := 3 } : Clear)] }, Reply.done)

/-- FAULT_GET_RECORD (R487): returns the open, last closed or retained record. -/
def execFaultGetRecord (tag : Tag) (which : Nat) (s : State) : Host.Outcome State Fault Refusal :=
  .next <| s.query tag 0x0D05 none fun s =>
    match which with
    | 0 => Reply.bytes (recordBytes s.gl.record)
    | 1 => Reply.bytes (recordBytes s.gl.lastClosed)
    | 2 => Reply.bytes (recordBytes s.power.ret.record)
    | _ => Reply.no .outOfRange

/-- A save of the flash user-configuration area by a command group: what is saved is what stands at the
command, and the area is occupied until USER_CONFIG_SAVE_COMPLETE (DEDUCED, log 29). -/
def State.userSave (group : Nat) (f : State → State) (s : State) : State × Reply :=
  if s.il.saving.isSome then refuse s .busy else ({ f s with il.saving := some group }, Reply.done)

/-- FAULT_SAVE_CONFIG (R487): saves source parameters to flash. -/
def execFaultSaveConfig (tag : Tag) (s : State) : Host.Outcome State Fault Refusal :=
  .next <| s.serve tag 0x0D06 false (some 0) fun s => s.userSave 0x0D fun s => { s with
    gl.saved := s.gl.srcs.filterMap fun p => p.2.params.map fun x => (p.1, x) }

/-- FAULT_GET_LOG (R484). One page of 32 records from a SEQ on. -/
def execFaultGetLog (tag : Tag) (seq : Nat) (s : State) : Host.Outcome State Fault Refusal :=
  .next <| s.query tag 0x0D07 none fun s =>
    match (s.gl.log.reverse.dropWhile fun r => decide (r.seq.toNat < seq)).take 32 with
    | [] => Reply.no .outOfRange
    | l => Reply.bytes (l.flatMap Record.bytes)

/-- FAULT_RAISE (R487): raises one real event on source 191. -/
def execFaultRaise (tag : Tag) (s : State) : Host.Outcome State Fault Refusal :=
  .next <| s.serve tag 0x0D08 false (some 0) fun s =>
    if s.gl.lockstep then refuse s .notPermitted else (s.raise 191, Reply.done)

/-- FAULT_INJECT (R481): starts injection of shadow events on a source, or resets shadow state. -/
def execFaultInject (tag : Tag) (op : InjectOp) (s : State) : Host.Outcome State Fault Refusal :=
  .next <| s.serve tag 0x0D09 false none fun s =>
    if s.unit.mode ≠ .factoryTest || s.gl.lockstep then refuse s .notPermitted
    else match op with
      | .resetShadow => ({ s with gl.shadow := [], gl.shRecord := none, gl.injMasked := 0 }, Reply.done)
      | .start source count intervalUs =>
        if 192 ≤ source || source = 146 || count = 0 || 255 < count || intervalUs = 0 || 1000 < intervalUs then refuse s .outOfRange
        else if s.gl.inj.isSome then refuse s .busy
        else ({ s with gl.inj := some { source := source, left := count, intervalUs := intervalUs, nextTick := s.gl.tick } }, Reply.done)

/-- FAULT_GET_INJECT (R487): returns shadow records and masked counts. -/
def execFaultGetInject (tag : Tag) (s : State) : Host.Outcome State Fault Refusal :=
  .next <| s.query tag 0x0D0A (some 0) fun s =>
    Reply.ok ((recordBytes s.gl.shRecord).map (fun b => (b.toNat : Int)) ++
      [(((s.gl.shRecord.map fun r => r.done.toNat).getD 0 : Nat) : Int), (s.gl.injMasked : Int)])

end Sys2Proof.Machine
end

