-- ==== Sys2Proof/Machine/ResetRows.lean ====
section
/-! DEFINITION. Power, reset pins, boot, SLEEP and HOLD_N, and the POWER commands: 17_power_reset, 01_architecture
R31-R41, 00_scope R14-R18, 05_loop_modes R154, 18_trust R511, R523. -/
namespace Sys2Proof.Machine

/-! Power-up and power-down (R493-R495, R504). -/

/-- The device is powered. -/
def State.powered (s : State) : Bool := s.power.phase ≠ .off && s.power.phase ≠ .asleep

/-- The operating range of a rail in mV (19_package_electrical); VEON is negative. -/
def railRange (rail : Nat) : Int × Int :=
  match rail with
  | 0 => (600, 900)
  | 1 => (825, 875)
  | 2 => (1140, 1260)
  | 3 => (1710, 1890)
  | 4 => (3135, 3465)
  | 5 => (4850, 5150)
  | 6 => (-5150, -4850)
  | _ => (1710, 1890)

/-- PWR_EN takes a level. -/
def State.setPwrEn (high : Bool) (s : State) : State :=
  { s with power.pwrEn := high }.emit (.pin .pwrEn (if high then 1 else 0))

/-- POWER_ON (R493). VWAKE comes up after a loss: the retention area holds zeros but RETENTION_LOST and the cause, and
the device is in its class P reset. PWR_EN rises 2 ms later (PWR_EN_RISE). -/
def execPowerOn (s : State) : Host.Outcome State Fault Refusal :=
  .next <|
    if s.power.phase ≠ .off then s
    else { s with
      power.phase := .waitRelease, power.vwake := true, power.classP := true, power.dark := true, power.cause := 1
      power.ret := {}, power.tbRefAt := s.up, power.railsAt := s.up + 20000000 }

/-- VWAKE_LOSS (R504). VWAKE is removed: all power goes, and the retention area with it (R494, R504). -/
def execVwakeLoss (s : State) : Host.Outcome State Fault Refusal :=
  .next <|
    if s.power.phase = .off then s
    else
      let s1 := ((s.setSyncOut false).setAlive false).setPwrEn false
      let s2 := s1.wiped []
      { s2 with
        gl.lastClosed := none, gl.nextSeq := 1, gl.logPending := []
        power.phase := .off, power.vwake := false, power.sleep := .none, power.wakeRecognised := false
        power.ret := { cause := 0, nextSeq := 1, record := none, lastResetTime := 0, resetCount := 0 }
        tap := {} }

/-- BROWN_OUT (R495). VCORE or VAUX falls below its threshold (R495); the detectors are disarmed in SLEEP. -/
def execBrownOut (s : State) : Host.Outcome State Fault Refusal :=
  .next <| if s.powered && s.power.detectors then { s with power.railsAt := s.up }.classReset true 1 else s

/-- RESET_N_ASSERT (R497): RESET_N low is recognised and a class H reset starts. -/
def execResetNAssert (s : State) : Host.Outcome State Fault Refusal :=
  .next <| if s.powered then { s with power.resetN := false }.classReset false 3 else s

/-- PERST_ASSERT (R497): PERST# low is recognised and a class H reset starts. -/
def execPerstAssert (s : State) : Host.Outcome State Fault Refusal :=
  .next <| if s.powered then { s with power.perstN := false }.classReset false 4 else s

/-- RESET_DEVICE_DELAY_EXPIRY (R398). The class H reset of a DEVICE_RESET with scope DEVICE, 1 ms after its answer
record (13 R398). -/
def execResetDeviceDelayExpiry (s : State) : Host.Outcome State Fault Refusal :=
  .next <|
    match s.il.resetDue with
    | some t => if t ≤ s.up then { s with il.resetDue := none }.classReset false 7 else s
    | none => s

/-- Every rail has been within its range for 1 ms (R494). A rail that no RAIL_EXCURSION has named is in it. -/
def State.railsGood (s : State) : Bool :=
  (s.power.rails.all fun p => p.2.all fun v => decide ((railRange p.1).1 ≤ v) && decide (v ≤ (railRange p.1).2)) &&
    decide (s.power.railsAt + 10000000 ≤ s.up)

/-- RESET_RELEASE (R494). The internal reset is released: rails and reset pins allow it, and TB_REF has run for 1 ms
(R494). The straps are sampled, GL_RESET_CAUSE is loaded, the watchdog starts with 4 s, the wipe begins, and the
counter starts from 0 with the nominal increment (02 R46). FL_RST_N goes low for a pulse (19 R539). -/
def execResetRelease (straps : Straps) (s : State) : Host.Outcome State Fault Refusal :=
  .next <|
    if s.power.phase ≠ .waitRelease || !s.power.tbRef || !s.power.pwrEn || !s.railsGood ||
      decide (s.up < s.power.tbRefAt + 10000000) then s
    else ({ s with
      power.phase := .wiping, power.resetN := true, power.perstN := true, power.detectors := true
      power.releasedAt := s.up, power.paceAt := s.up, tb.counter := 0, tb.incr := 0x666666666#36, tb.stepped := false
      gl.resetCause := s.power.ret.cause, gl.wdPeriodMs := 4000, gl.wdLast := s.up, gl.wdRun := true
      unit.unitIdStrap := straps.unitId, unit.pref := straps.pref
      hedge.node := straps.unitId.toNat, hedge.coldNode := straps.coldstart }.emit (.pin .flRstN 0)).emit (.pin .flRstN 1)

/-- WIPE_COMPLETE (R499). The wipe is complete, and the boot ROM verifies and loads an image (R499, 18 R511). -/
def execWipeComplete (s : State) : Host.Outcome State Fault Refusal :=
  .next <| if s.power.phase = .wiping then { s with power.phase := .bootRom }.bootRom else s

/-! Firmware (00 R14-R17, 01 R33 rows 3 and 4). -/

/-- The saved Gleaner parameters are loaded (16 R488). -/
def State.loadParams (s : State) : State :=
  s.gl.saved.foldl (fun t p => t.modSrc p.1 fun x => { x with params := some p.2 }) s

/-- The identity that firmware writes before FW_READY (R16). Which Ilucy generations the running image serves is for the
image to say (00 R14, 13 R386); every image of this model serves both (DESIGN CHOICE, log 32). -/
def State.identify (s : State) : State :=
  { s with
    ident.fwVer := BitVec.ofNat 32 (imageVer s.runningImage), ident.bootSlot := s.trust.runSlot
    ident.updateStaged := s.trust.staged, ident.il1 := true, ident.il2 := true, ident.fwReady := true
    tap.driving := none, tap.highZ := false }

/-- Row 3: CALIBRATE begins, Hedgerow starts in LISTEN, and a HOLD_N that is low is then acted on. -/
def State.startCalibrate (s : State) : State :=
  let s0 := { s with cal.stage := 1, hedge := s.hedge.restarted s.up }
  let s1 := (if s.power.dark then s0.blockOutputs else s0).setMode .calibrate
  if s1.holdCaused then s1.holdEntry else s1

/-- Row 4: FACTORY_TEST, with every element PK. -/
def State.startFactoryTest (s : State) : State :=
  { s with loops.elems := mapListed Elem.park (fun _ x => x.parked s.now) s.loops.elems }.setMode .factoryTest

/-- FW_READY (R17): sets. A factory-test request is consumed: it is honoured where LC stands as it stood (18
R523). Firmware restores the regions whose RESET_REGION waits for it (16 R475). -/
def execFwReady (s : State) : Host.Outcome State Fault Refusal :=
  .next <|
    if s.power.phase ≠ .bootRom || !s.trust.loaded then s
    else
      let test := s.trust.factoryRequest = some s.trust.lc && (s.trust.lc = 0 || s.trust.lc = 3)
      let s1 := { s.identify with
        power.phase := .running, trust.readyAt := s.up, trust.factoryRequest := none
        gl.wdPeriodMs := 500, gl.wdLast := s.up }
      let s2 := s1.loadParams.restoreLanes
      let s3 := if test then s2.startFactoryTest else s2.startCalibrate
      (s3.gl.regionPhase.filter fun p => p.2 = .reload).foldl (fun t p => t.restoreRegion p.1) s3

/-- FW_CONFIRM (R511). TRIAL 0 after 60 s (18 R511). An image staged meanwhile keeps its trial. -/
def execFwConfirm (s : State) : Host.Outcome State Fault Refusal :=
  .next <|
    if s.ident.fwReady && !s.trust.confirmed && decide (s.trust.readyAt + 600000000000 ≤ s.up) then
      { s with trust.confirmed := true, trust.boot.trial := s.trust.boot.trial && s.trust.staged }
    else s

/-! Class F (R500). -/

/-- PCIE_HOT_RESET (R500): A PCIe hot reset starts a class F reset. -/
def execPcieHotReset (s : State) : Host.Outcome State Fault Refusal := .next <| if s.functionUp then s.classF else s
/-- FUNCTION_LEVEL_RESET (R500): A function-level reset starts a class F reset. -/
def execFunctionLevelReset (s : State) : Host.Outcome State Fault Refusal := .next <| if s.functionUp then s.classF else s

/-- CLASS_F_WIPE_COMPLETE (R500): the class F wipe of packet buffer and queue state completes. -/
def execClassFWipeComplete (s : State) : Host.Outcome State Fault Refusal :=
  .next <| { s with power.classF := false }

/-! HOLD_N (05 R154, 01 R33 rows 13 to 16, R37). -/

/-- HOLD_N_ASSERT (R154): HOLD_N read low at two successive frame starts is recognised. -/
def execHoldNAssert (s : State) : Host.Outcome State Fault Refusal :=
  .next <| if s.powered then { s with power.holdN := false, power.pinHold := true }.holdEntry else s

/-- HOLD_N_RELEASE (R154): HOLD_N read high at two successive frame starts releases that hold cause. -/
def execHoldNRelease (s : State) : Host.Outcome State Fault Refusal :=
  .next <| if s.powered then { s with power.holdN := true, power.pinHold := false }.holdRelease else s

/-! SLEEP (R491-R493). -/

/-- WAKE_RISE (R492). A wake is recognised during the entry or in SLEEP; elsewhere WAKE is ignored. -/
def execWakeRise (s : State) : Host.Outcome State Fault Refusal :=
  .next <| if s.power.phase = .asleep || s.power.sleep ≠ .none then { s with power.wakeRecognised := true } else s

/-- SLEEP_SHUTDOWN (R491): t1 = t0 + 1 ms: Hedgerow, the mirror link, the ports and the watchdog stop. -/
def execSleepShutdown (s : State) : Host.Outcome State Fault Refusal :=
  .next <|
    if s.power.sleep ≠ .answered || decide (s.up < s.power.sleepT0 + 10000000) then s
    else
      let s0 := ([0, 1, 2, 3] : List Nat).foldl (fun t p => (t.endSleep p).cutFrame p) s
      { s0 with
      power.sleep := .shutdown, power.sleepFrame := s.nextFrame, hedge := { s.hedge.listening s.up with hstate := .off }
      unit.mlUp := false, gl.wdRun := false
      ports.port := mapListed Port.dflt (fun _ x => { x with up := false }) s0.ports.port }.checkIntegrated s.hedge.integrated

/-- SLEEP_PARK (R491): t2 and t3: every element goes to PK, the retention area records MODE 0x6 and SLEEP_EXIT, the
brown-out detectors are disarmed, and ALIVE is released. -/
def execSleepPark (s : State) : Host.Outcome State Fault Refusal :=
  .next <|
    if s.power.sleep ≠ .shutdown || decide (s.now < s.power.sleepFrame) || !(s.unit.mode = .standby || s.unit.mode = .hold) then s
    else
      let s1 := { s with loops.elems := mapListed Elem.park (fun _ x => x.parked s.now) s.loops.elems }
      let s2 := ((s1.setMode .sleep).recordReset).setAlive false
      { s2 with
        power.sleep := .parked, power.detectors := false, power.ret.cause := s2.causeWord 2 false }

/-- PWR_EN_FALL (R491): t4: PWR_EN falls, and every rail but VWAKE goes. -/
def execPwrEnFall (s : State) : Host.Outcome State Fault Refusal :=
  .next <|
    if s.power.sleep ≠ .parked then s
    else
      let s1 := (s.setSyncOut false).setPwrEn false
      { s1.wiped [] with power.phase := .asleep, power.sleepT4 := s.up, power.rails := [], tap := {} }

/-- PWR_EN_RISE (R493). PWR_EN rises 2 ms after VWAKE has come up. In SLEEP it rises at the later of the recognition
of a wake and t4 + T_OFF: the class P reset of the SLEEP exit. -/
def execPwrEnRise (s : State) : Host.Outcome State Fault Refusal :=
  .next <|
    if s.power.phase = .waitRelease && !s.power.pwrEn && decide (s.power.railsAt ≤ s.up) then
      { s.setPwrEn true with power.railsAt := s.up }
    else if s.power.phase ≠ .asleep || !s.power.wakeRecognised || decide (s.up < s.power.sleepT4 + 100000000) then s
    else { s.setPwrEn true with
      power.phase := .waitRelease, power.classP := true, power.dark := true, power.cause := 2, power.wakeRecognised := false
      power.tbRefAt := s.up, power.railsAt := s.up, power.ret.lastResetTime := 0
      power.ret.resetCount := min 0xFFFFFFFF (s.power.ret.resetCount + 1) }

/-! TB_REF, rails, pace (19 R537, 16 R466, 01 R29). -/

/-- TB_REF_LOSS (R537): TB_REF showing no edge for 50 ns raises the TIMEBASE source. -/
def execTbRefLoss (s : State) : Host.Outcome State Fault Refusal :=
  .next <|
    if s.powered && s.power.tbRef then { s with power.tbRef := false }.raise 152 else { s with power.tbRef := false }

/-- TB_REF_RETURN (R494): TB_REF resumes after a loss, and this satisfies the 1 ms running condition for reset
release. -/
def execTbRefReturn (s : State) : Host.Outcome State Fault Refusal :=
  .next <| if s.power.tbRef then s else { s with power.tbRef := true, power.tbRefAt := s.up }

/-- Sources 180 to 182 ignore their rails from the acceptance of a POWER_SLEEP (16 R466). -/
def State.railIgnored (s : State) (rail : Nat) : Bool :=
  (rail = 4 || rail = 5 || rail = 6) && (s.power.sleepAsked.isSome || s.power.sleep ≠ .none)

/-- RAIL_EXCURSION (R466): A rail outside its operating range raises its RAIL source event. -/
def execRailExcursion (rail : Nat) (millivolts : Int) (s : State) : Host.Outcome State Fault Refusal :=
  .next <|
    if 7 < rail || !s.powered then s
    else
      let r := railRange rail
      let good := r.1 ≤ millivolts && millivolts ≤ r.2
      let was := (mapGet none s.power.rails rail).all fun v => r.1 ≤ v && v ≤ r.2
      let s1 := { s with
        power.rails := mapSet none s.power.rails rail (some millivolts)
        power.railsAt := if good && !was then s.up else s.power.railsAt }
      if good || s.railIgnored rail then s1 else s1.raise (176 + rail)

/-- PACE_UPDATE (R18). The pace index is updated every 1 ms from 1 ms after the reset release (R14); its fall below
0x0A00 is an event. -/
def execPaceUpdate (pace : BitVec 16) (s : State) : Host.Outcome State Fault Refusal :=
  .next <|
    if !(s.power.phase = .wiping || s.functionUp) || decide (s.up < s.power.paceAt + 10000000) then s
    else
      let s1 := { s with ident.pace := pace, power.paceAt := s.up - (s.up - s.power.releasedAt) % 10000000 }
      if pace.toNat < 0x0A00 && (s.ident.pace = 0 || 0x0A00 ≤ s.ident.pace.toNat) then s1.raise 149 else s1

/-! Roles (15 R441). -/

/-- ROLE_WAIT_EXPIRY (R441). A wait for the role decision expires. -/
def execRoleWaitExpiry (s : State) : Host.Outcome State Fault Refusal :=
  .next <| if s.unit.mode = .calibrate && s.unit.waiting.isSome then s.roleDecision else s

/-! POWER commands (R507). -/

/-- The 256 bytes of the retention area (R504). -/
def Retention.bytes (r : Retention) : List Byte :=
  fitBytes 256 (leBytes r.cause ++ leBytes r.nextSeq ++ fitBytes 64 (recordBytes r.record) ++ leNat 8 r.lastResetTime ++ leNat 4 r.resetCount)

/-- A rail's voltage in mV: as last reported, else a measured quantity. -/
def State.railVoltage (s : State) (rail : Nat) : Int := (mapGet none s.power.rails rail).getD (s.measured 14 rail)

/-- POWER_GET_STATUS (R507): returns mode, hold causes, rail measurements, LPI and link power state and retention
area. -/
def execPowerGetStatus (tag : Tag) (s : State) : Host.Outcome State Fault Refusal :=
  .next <| s.serve tag 0x0E01 true (some 0) fun s =>
    let lpi (p : Nat) : Int := b2i (s.prt p).txAsleep + 2 * b2i (s.prt p).rxLpi
    (s.drawn, Reply.ok ([(s.unit.mode.code : Int), b2i s.power.pinHold, b2i s.power.cmdHold, b2i s.gl.hold, b2i s.gl.lockstep]
      ++ (List.range 8).flatMap (fun r => [s.railVoltage r, s.measured 15 r]) ++ [s.measured 16 0]
      ++ ([0, 1, 2, 3] : List Nat).map lpi ++ [b2i s.host.linkUp, b2i s.host.d3hot, s.measured 18 0]
      ++ s.power.ret.bytes.map fun b => (b.toNat : Int)))

/-- POWER_HOLD (R507): sets or releases the POWER hold cause. -/
def execPowerHold (tag : Tag) (hold : Bool) (s : State) : Host.Outcome State Fault Refusal :=
  .next <| s.serve tag 0x0E02 false none fun s =>
    if s.unit.mode = .boot || s.unit.mode = .sleep || s.unit.mode = .factoryTest then refuse s .notPermitted
    else if hold then ({ s with power.cmdHold := true }.atFrame .hold, Reply.done)
    else if s.power.pinHold || s.gl.lockstep then (s, Reply.done)
    else ({ s with power.cmdHold := false }.holdRelease, Reply.done)

/-- POWER_SLEEP (R491): starts entry into SLEEP from STANDBY or HOLD. -/
def execPowerSleep (tag : Tag) (s : State) : Host.Outcome State Fault Refusal :=
  .next <| s.serve tag 0x0E03 false (some 0) fun s =>
    if !(s.unit.mode = .standby || s.unit.mode = .hold) then refuse s .notPermitted
    else if s.sleeping then (s, Reply.done)
    else ({ s with power.sleepAsked := some tag }, Reply.done)

end Sys2Proof.Machine
end

