-- ==== Sys2Proof/Machine/CalCmds.lean ====
section
/-! DEFINITION. The CAL commands, calibration, background recalibration, spares and wear:
07_calibration_spares. -/
namespace Sys2Proof.Machine

/-- With NO_IMAGE every CAL command but two is refused (R208). -/
def State.noImage (s : State) : Bool := s.cal.stage = 0xF

/-- Blocks 0-15 of the four regions. -/
def allBlocks : List (Nat × Nat) := (List.range 4).flatMap fun r => (List.range 16).map fun b => (r, b)

/-- CAL_GET_STATUS (R227): returns calibration stage, counters, image copy state, rotation position and band-gap
states. -/
def execCalGetStatus (tag : Tag) (s : State) : Host.Outcome State Fault Refusal :=
  .next <| s.query tag 0x0601 (some 0) fun s =>
    Reply.ok ([(s.cal.stage : Int), s.cal.globalCount, s.cal.globalTime, b2i s.cal.inUse, s.cal.copy.seq,
      s.cal.digest] ++ (allBlocks.map fun p => ((mapGet (0 : Nat) s.cal.rotation (p.1 * 16 + p.2) : Nat) : Int))
      ++ [optField s.cal.map.bandgap, b2i s.cal.bandgapLost])

/-- CAL_GET_ELEMENT (R227): returns calibration data of up to 64 elements. -/
def execCalGetElement (tag : Tag) (first count : Nat) (s : State) : Host.Outcome State Fault Refusal :=
  .next <| s.query tag 0x0602 none fun s =>
    if s.noImage then Reply.no .notPermitted
    else if !rangeOk first count 64 then Reply.no .outOfRange
    else Reply.ok ((List.range count).flatMap fun k =>
      let i := s.image (first + k)
      [(i.vstate : Int), i.count, i.time, i.levelBar, i.levelCross, i.ffBar, i.ffCross, i.deskew, i.delay, i.settling])

/-- Entries of a map written over those of another. -/
def mapOver {α : Type} [DecidableEq α] (new old : SMap (Option α)) : SMap (Option α) :=
  new.foldl (fun m p => mapSet none m p.1 p.2) old

/-- The image that a save writes: what is tracked, with the records that LOOP_SET_PARAMS wrote. -/
def State.imageToSave (s : State) : SMap (Option ImgEl) :=
  let tracked := mapOver s.cal.work s.cal.copy.els
  s.loops.elems.foldl (fun m p => match p.2.prm with
    | some r => mapSet none m p.1 (some { s.image p.1 with prm := r })
    | none => m) tracked

/-- A save starts: the copy not in use is being written, and has no digest until all of it is (R200). -/
def State.startSave (s : State) : State :=
  let s1 := { s with cal.saving := true }
  let c : ImgCopy := {
    seq := (if s.cal.inUse then s.cal.copy0 else s.cal.copy1).seq, els := s.imageToSave
    chans := mapOver s.cal.chanWork s.cal.copy.chans, lines := mapOver s.cal.lineWork s.cal.copy.lines
    count := s.cal.globalCount, time := s.cal.globalTime, serial := s.ident.serial, phoRev := s.ident.phoRev, digest := none }
  if s.cal.inUse then { s1 with cal.copy0 := c } else { s1 with cal.copy1 := c }

/-- CAL_SAVE (R200): saves the calibration image to the copy not in use. -/
def execCalSave (tag : Tag) (s : State) : Host.Outcome State Fault Refusal :=
  .next <| s.serve tag 0x0603 false (some 0) fun s =>
    if s.noImage then refuse s .notPermitted
    else if s.cal.saving then refuse s .busy
    else (s.startSave, Reply.done)

/-- Tracked data has changed since the last save. -/
def Cal.changed (c : Cal) : Bool := c.work ≠ [] || c.chanWork ≠ [] || c.lineWork ≠ []

/-- CAL_AUTO_SAVE (R202): the calibration image is saved automatically once a day when tracked data changed. -/
def execCalAutoSave (s : State) : Host.Outcome State Fault Refusal :=
  .next <| if s.cal.changed && decide (s.cal.lastSave + 864000000000000 ≤ s.up) && s.unit.mode ≠ .hold && !s.cal.saving then
    s.startSave else s

/-- CAL_SAVE_COMPLETE (R200): A calibration save finishes writing and raises the copy's sequence number. -/
def execCalSaveComplete (ok : Bool) (s : State) : Host.Outcome State Fault Refusal :=
  .next <|
    if !s.cal.saving then s
    else if !ok then { s with cal.saving := false }.raise 148
    else
      let old := if s.cal.inUse then s.cal.copy0 else s.cal.copy1
      let c := { old with seq := s.cal.copy.seq + 1 : ImgCopy }.sealed
      let s1 := { s with
        cal.saving := false, cal.lastSave := s.up, cal.inUse := !s.cal.inUse
        cal.work := s.cal.work.filter fun p => mapGet none c.els p.1 ≠ p.2
        cal.chanWork := s.cal.chanWork.filter fun p => mapGet none c.chans p.1 ≠ p.2
        cal.lineWork := s.cal.lineWork.filter fun p => mapGet none c.lines p.1 ≠ p.2 }
      if s.cal.inUse then { s1 with cal.copy0 := c } else { s1 with cal.copy1 := c }

/-- The first fallback of a block location is an event of its source (R211). -/
def State.blockFallback (loc : Nat) (s : State) : State :=
  if s.cal.fallback.contains loc then s else { s with cal.fallback := loc :: s.cal.fallback }.raise loc

/-- A channel as measured: the mismatch of every converter segment, the error of the idle front-end path or of both, and
the gain ratios (R209, R213). A gain ratio is within 0.5 % (R199). -/
def State.measureChan (s : State) (both : Bool) (ch : Nat) : ChanCal :=
  let c := s.chan ch
  let err (p : Nat) : Nat := (s.measured 41 (2 * ch + p)).natAbs
  { c with
    mismatch := (List.range 67).map fun k => (s.measured 40 (128 * ch + k)).natAbs % 101
    err0 := if both || c.path = 1 then err 0 else c.err0, err1 := if both || c.path = 0 then err 1 else c.err1
    gain8 := clampInt (-5000) 5000 (s.measured 43 (2 * ch)), gain64 := clampInt (-5000) 5000 (s.measured 43 (2 * ch + 1)) }

/-- A channel falls back on its threshold trims, each measured against the band-gap reference current (R211). The first
time is logged, and is an event of the block of its element where it is the block's first fallback. -/
def State.trimChan (ch cause part : Nat) (s : State) : State :=
  let c := s.chan ch
  let s1 := s.modMonitor ch fun c =>
    { c with trims := (List.range 12).map fun k => (s.measured 44 (16 * ch + k)).natAbs % 64, fallback := true }
  let e := channelElement ch
  if c.fallback then s1
  else (s1.logSubst 9 cause 0xFFFF (locChannel ch 2 part) (locChannel ch 2 part) (locChannel ch 2 part) 0 0 0).blockFallback
    (blockSource (regionOf e) (s.physBlock (regionOf e) (blockOf e)))

/-- Both front-end paths of a channel are out of limits: an error above the 0.5 % of R199 (DEDUCED, log 9). -/
def ChanCal.poor (c : ChanCal) : Bool := decide (5000 < c.err0) && decide (5000 < c.err1)

/-- A channel is measured, and where another path or other segments are better the change waits for a loop frame start
(R209, R211, R215). -/
def State.visitChan (both : Bool) (s : State) (ch : Nat) : State :=
  let s1 := s.modMonitor ch fun _ => s.measureChan both ch
  let c := s1.chan ch
  let s2 := if c.poor then s1.trimChan ch 3 0 else s1
  if (c.better = c.path && c.least = c.segs) || s2.cal.selPend.contains ch then s2
  else { s2 with cal.selPend := s2.cal.selPend ++ [ch] }

/-- A frame start is asked for where a selection has begun to wait. -/
def State.askSelect (before : List Nat) (s : State) : State :=
  if s.cal.selPend ≠ [] && before = [] then s.atFrame .select else s

/-- The electrical visit of an element (R213): its channels, the resistance of its heater, the linearity of its drive
converter, and the dark offset where its cell carries no connection. -/
def State.electrical (e : Nat) (s : State) : State :=
  let s1 := (channelsOf e).foldl (State.visitChan false) s
  let dark := isGate e && !s.fabric.carrying.contains (e - e % 2)
  ({ s1 with cal.visits := mapSet none s1.cal.visits e (some {
      heater := (s.measured 46 e).natAbs, linearity := (s.measured 47 e).natAbs
      dark := if dark then some (s.measured 48 e).natAbs else none }) }.askSelect s.cal.selPend).drawn

/-- What a visit of an element meets first (R215): a change of it that is armed takes precedence where it lies within
2 µs before its instant or within the horizon after it; so does a capture of the element that runs. -/
def State.visitBlocked (s : State) (e : Nat) : Bool :=
  ((mapGet none s.loops.captures (regionOf e)).any fun c => c.element = e && c.state = .running) ||
  s.sheaves.store.any fun x => x.changes.any (·.element = e) &&
    ((x.phase = .committed && decide (x.instant ≤ s.now + 2000)) || x.phase = .applied)

/-- A recalibration of one element (R217): an electrical visit, abandoned where R215 gives precedence to a change, and its
fast levels, FF codes and record are those of flash again. -/
def State.recalElement (e : Nat) (s : State) : State :=
  let i := s.cal.flash e
  let s1 := (if s.visitBlocked e then s else s.electrical e).calibrated e fun w =>
    { w with levelBar := i.levelBar, levelCross := i.levelCross, ffBar := i.ffBar, ffCross := i.ffCross, prm := i.prm
             table := i.table, block := i.block }
  s1.modElem e fun x => { x.relock with prm := none, ff := if isGate e then none else x.ff
                                        histPend := x.histPend || decide ((x.record (s.image e)).shaping ≠ i.prm.shaping) }

/-- CAL_RECAL_ELEMENT (R217): performs an electrical visit and reloads stored data of up to 64 elements, clearing
UNLOCKABLE. -/
def execCalRecalElement (tag : Tag) (first count : Nat) (s : State) : Host.Outcome State Fault Refusal :=
  .next <| s.serve tag 0x0604 false none fun s =>
    if s.noImage then refuse s .notPermitted
    else if !rangeOk first count 64 then refuse s .outOfRange
    else if (List.range' first count).any fun e =>
        s.cal.subst.any fun x => x.region = regionOf e && x.block = blockOf e then refuse s .busy
    else ((List.range' first count).foldl (fun t e => t.recalElement e) s, Reply.done)

/-- CAL_SET_BACKGROUND (R214): enables or disables background recalibration and sets the rotation period. -/
def execCalSetBackground (tag : Tag) (enable : Bool) (periodMs : Nat) (s : State) : Host.Outcome State Fault Refusal :=
  .next <| s.serve tag 0x0605 false none fun s =>
    if s.noImage then refuse s .notPermitted
    else if periodMs < 1000 || 3600000 < periodMs then refuse s .outOfRange (detailOf 0 4)
    else ({ s with cal.bgOn := enable, cal.periodMs := periodMs }, Reply.done)

/-- Ranges of R218. -/
def SparePolicy.ok (p : SparePolicy) : Bool :=
  decide (1 ≤ p.cellEvents) && decide (p.cellEvents ≤ 255) && decide (1 ≤ p.cellWindowMin) && decide (p.cellWindowMin ≤ 1440) &&
  decide (1 ≤ p.blockEvents) && decide (p.blockEvents ≤ 16) && decide (1 ≤ p.rowEvents) && decide (p.rowEvents ≤ 255) &&
  decide (1 ≤ p.rowWindowH) && decide (p.rowWindowH ≤ 720) && decide (20 ≤ p.segmentCentiLsb) && decide (p.segmentCentiLsb ≤ 50) &&
  decide (3 ≤ p.laneExp) && decide (p.laneExp ≤ 8) && decide (1 ≤ p.laneWindowS) && decide (p.laneWindowS ≤ 100)

/-- CAL_SET_SPARE_POLICY (R218): sets spare substitution thresholds and windows. -/
def execCalSetSparePolicy (tag : Tag) (policy : SparePolicy) (s : State) : Host.Outcome State Fault Refusal :=
  .next <| s.serve tag 0x0606 false none fun s =>
    if s.noImage then refuse s .notPermitted
    else if !policy.ok then refuse s .outOfRange
    else ({ s with cal.policy := policy }, Reply.done)

/-! Substitution (R218-R223). -/

/-- The block location (region × 17 + physical block) of a logical block. -/
def State.location (s : State) (region block : Nat) : Nat := blockSource region (s.physBlock region block)

/-- Cell 21 of a block location is used, or a substitution that runs takes it. -/
def State.cell21Used (s : State) (loc : Nat) : Bool :=
  mapGet 0 s.cal.map.cellSub loc ≠ 0 || s.cal.subst.any fun x => !x.whole && s.location x.region x.block = loc
/-- Block 16 of a region is used, or a substitution that runs takes it. -/
def State.block16Used (s : State) (region : Nat) : Bool :=
  mapGet 0 s.cal.map.blockSub region ≠ 0 || s.cal.subst.any fun x => x.whole && x.region = region

/-- The switch frame (R220): the first frame start at least 10 µs ahead and at least 2 µs from any
armed instant for the elements concerned (firmware chooses one of them: DEDUCED, log 9). -/
def State.switchFrame (s : State) (es : List Nat) : Nat :=
  let base := (s.now + 10999) / 1000 * 1000
  let near := (s.sheaves.store.filter fun x => x.slot.isSome && x.changes.any fun c => es.contains c.element).map (·.instant)
  ((List.range 1024).map fun k => base + 1000 * k).find? (fun t =>
    near.all fun i => decide (t + 2000 ≤ i) || decide (i + 2000 ≤ t)) |>.getD base

/-- The elements of a logical loop cell. -/
def cellElements (region block cell : Nat) : List Nat := (List.range 16).map (elementAt region block cell)
/-- The elements of a logical block. -/
def blockElements (region block : Nat) : List Nat := (List.range 21).flatMap (cellElements region block)

/-- The events of the parts that a substitution replaces are counted afresh (R218). -/
def Cal.forget (c : Cal) (region block cell : Nat) (whole : Bool) : Cal :=
  let cells := if whole then List.range 21 else [cell]
  { c with
    events := (cells.map (fun k => (Part.loopCell region block k).key) ++ if whole then [(Part.block region block).key] else []).foldl
      (fun m k => mapSet [] m k []) c.events
    unfinished := c.unfinished.filter fun x => !(x.1 = region && x.2.1 = block && cells.contains x.2.2) }

/-- A substitution starts. -/
def State.startSubst (region block cell : Nat) (whole : Bool) (cause source events : Nat) (s : State) : State :=
  let es := if whole then blockElements region block else cellElements region block cell
  { s with cal := { s.cal.forget region block cell whole with
      subst := s.cal.subst ++ [{
        region := region, block := block, cell := cell, whole := whole
        switchAt := s.switchFrame es, cause := cause, source := source, events := events }] } }
/-- A part has failed: some element of it is in HD by cause BLOCK (01 R23, R24). One that only met its wear threshold
serves on. -/
def State.partFailed (es : List Nat) (s : State) : Bool := es.any fun e => (s.elem e).cBlock

/-- A part whose pool is empty: where it has failed its elements stay in HD and it is lost (R223, R32). -/
def State.loseCell (region block cell : Nat) (s : State) : State :=
  if s.partFailed (cellElements region block cell) && !s.cal.lost.contains (region, block, some cell) then
    { s with cal.lost := (region, block, some cell) :: s.cal.lost }.checkDegraded else s
def State.loseBlock (region block : Nat) (s : State) : State :=
  if s.partFailed (blockElements region block) && !s.cal.lost.contains (region, block, none) then
    { s with cal.lost := (region, block, none) :: s.cal.lost }.checkDegraded else s

/-- A block is to be replaced by block 16 (R218, R221). -/
def State.wantBlock (region block cause source events : Nat) (s : State) : State :=
  if s.block16Used region || s.cal.badBlock16.contains region then s.loseBlock region block
  else s.startSubst region block 0 true cause source events

/-- A loop cell is to be replaced by cell 21, or else its block by block 16 (R218, R223). -/
def State.wantCell (region block cell cause source events : Nat) (s : State) : State :=
  let loc := s.location region block
  if !s.cell21Used loc && !s.cal.badCell21.contains loc then s.startSubst region block cell false cause source events
  else if s.block16Used region || s.cal.badBlock16.contains region then s.loseCell region block cell
  else s.startSubst region block cell true cause source events

/-- CAL_SUBSTITUTE (R227): substitutes a named loop cell or block at once. -/
def execCalSubstitute (tag : Tag) (wholeBlock : Bool) (region block cell : Nat) (s : State) : Host.Outcome State Fault Refusal :=
  .next <| s.serve tag 0x0607 false none fun s =>
    let loc := s.location region block
    if s.noImage then refuse s .notPermitted
    else if 3 < region || 15 < block || 20 < cell then refuse s .outOfRange
    else if wholeBlock then
      if s.block16Used region then refuse s .inUse
      else if s.cal.badBlock16.contains region then refuse s .notPermitted
      else (s.startSubst region block 0 true 4 0xFFFF 0, Reply.done)
    else if s.cell21Used loc then refuse s .inUse
    else if s.cal.badCell21.contains loc then refuse s .notPermitted
    else (s.startSubst region block cell false 4 0xFFFF 0, Reply.done)

/-- The 32 bytes of a log entry (R224). -/
def LogEntry.bytes (x : LogEntry) : List Byte :=
  leNat 4 x.seq ++ leNat 8 x.time ++ leNat 1 x.kind ++ leNat 1 x.cause ++ leNat 2 x.source ++ leNat 4 x.logical ++ leNat 4 x.frm
    ++ leNat 4 x.dest ++ leNat 1 x.outcome ++ leNat 1 x.left ++ leNat 2 x.events

/-- CAL_GET_LOG (R224): returns one page of substitution log entries. -/
def execCalGetLog (tag : Tag) (seq : Nat) (s : State) : Host.Outcome State Fault Refusal :=
  .next <| s.query tag 0x0608 none fun s =>
    if s.cal.logSeq ≤ seq then Reply.no .outOfRange
    else { payload := .bytes (((s.cal.log.reverse.filter fun x => seq ≤ x.seq).take 64).flatMap LogEntry.bytes) }

/-- The memory instances of the device, which location words number to 255 (R225). -/
def numMemories : Nat := min 256 (max 68 Config.memories)

/-- CAL_GET_SPARES (R227): returns spares left and proof state of every pool. -/
def execCalGetSpares (tag : Tag) (s : State) : Host.Outcome State Fault Refusal :=
  .next <| s.query tag 0x0609 (some 0) fun s =>
    if s.noImage then Reply.no .notPermitted
    else Reply.ok (((List.range 68).flatMap fun l => [b2i (!s.cell21Used l), b2i (!s.cal.badCell21.contains l)])
      ++ ((List.range 4).flatMap fun r => [b2i (!s.block16Used r), b2i (!s.cal.badBlock16.contains r)])
      ++ ((List.range numMemories).map fun m => ((16 - (mapGet [] s.cal.map.rows m).length : Nat) : Int))
      ++ ((List.range 40960).map fun ch => ((4 - (s.chan ch).retired.length : Nat) : Int))
      ++ [((2 - s.cal.map.lanes.length : Nat) : Int)])

/-- Events of a part within a window in 0.1 ns. -/
def State.partCount (s : State) (p : Part) (window : Nat) : Nat :=
  ((mapGet [] s.cal.events p.key).filter fun t => decide (s.up ≤ t + window)).length

/-- The threshold of a part is met (R218). The pre-FEC error ratio of a lane over its window, in 10⁻¹², is a free
value. -/
def State.thresholdMet (s : State) (p : Part) : Bool :=
  match p with
  | .loopCell r b c => s.cal.unfinished.contains (r, b, c) || decide (s.cal.policy.cellEvents ≤ s.partCount p (s.cal.policy.cellWindowMin * 600000000000))
  | .block _ _ => decide (s.cal.policy.blockEvents ≤ (mapGet [] s.cal.events p.key).length)
  | .row _ _ => decide (s.cal.policy.rowEvents ≤ s.partCount p (s.cal.policy.rowWindowH * 36000000000000))
  | .segment ch sg => decide (ch < 40960) && (s.chan ch).segs.contains sg &&
      decide (s.cal.policy.segmentCentiLsb < (s.chan ch).mismatch.getD sg 0)
  | .lane p => decide (10 ^ (12 - s.cal.policy.laneExp) < (s.measured 12 (128 * p + s.cal.policy.laneWindowS)).natAbs)

/-- The source that counts the events of a memory instance: instances 0-67 are the blocks' (DEDUCED, log 9). -/
def rowSource (inst : Nat) : Nat := if inst < 68 then inst else 0xFFFF

/-- Rows are repaired at once; 16 spare rows per memory (R222). A row that a spare row has replaced may be replaced
again. -/
def State.repairRow (inst row cause events : Nat) (s : State) : State :=
  let used := mapGet [] s.cal.map.rows inst
  if 16 ≤ used.length || numMemories ≤ inst then s
  else
    let was := ((used.zipIdx.reverse.find? fun p => p.1 = row).map fun p => 2 ^ 19 + p.2).getD row
    let s1 := { s with
      cal.map.rows := mapSet [] s.cal.map.rows inst (used ++ [row])
      cal.events := mapSet [] s.cal.events (Part.row inst row).key [] }
    let left := 15 - used.length
    let s2 := s1.logSubst 3 cause (rowSource inst) (locRow inst row) (locRow inst was) (locRow inst (2 ^ 19 + used.length)) 0 left events
    if left = 0 then s2.raise 155 else s2

/-- A converter segment is replaced by one of four spares: it is retired, and the selection without it takes effect at a
loop frame start. With no spare left the channel is trimmed (R209, R211). -/
def State.replaceSegment (ch seg : Nat) (s : State) : State :=
  let c := s.chan ch
  if c.retired.length < 4 then
    let s1 := s.modMonitor ch fun c => { c with retired := c.retired ++ [seg] }
    let s2 := { s1 with cal.selPend := if s1.cal.selPend.contains ch then s1.cal.selPend else s1.cal.selPend ++ [ch] }.askSelect s.cal.selPend
    if c.retired.length = 3 then s2.raise 155 else s2
  else s.trimChan ch 1 seg

/-- SPARE_THRESHOLD_MET (R218). The threshold of a part is met, and firmware brings in a spare. -/
def execSpareThresholdMet (part : Part) (s : State) : Host.Outcome State Fault Refusal :=
  .next <|
    if !s.thresholdMet part then s
    else match part with
      | .loopCell r b c =>
        if 3 < r || 15 < b || 20 < c || s.cal.subst.any (fun x => x.region = r && x.block = b) ||
            s.cal.lost.contains (r, b, some c) then s
        else s.wantCell r b c 1 (s.location r b) (s.partCount part (s.cal.policy.cellWindowMin * 600000000000))
      | .block r b =>
        if 3 < r || 15 < b || s.cal.subst.any (fun x => x.region = r && x.block = b) || s.cal.lost.contains (r, b, none) then s
        else s.wantBlock r b 1 (s.location r b) (mapGet [] s.cal.events part.key).length
      | .row i r => s.repairRow i r 1 (s.partCount part (s.cal.policy.rowWindowH * 36000000000000))
      | .segment ch sg => if (s.chan ch).retired.contains sg then s else (s.replaceSegment ch sg).drawn
      | .lane p => if 3 < p then s else (s.laneWorn p).drawn

/-- SPARE_PROOF (R219). A proof of a spare (R219): cell 21 of a block, or block 16 of a region; once block 16 serves,
that of its own cell 21 (R221). -/
def execSpareProof (region block : Nat) (same : Bool) (s : State) : Host.Outcome State Fault Refusal :=
  .next <|
    if 3 < region || 16 < block then s
    else if block = 16 && !s.block16Used region then
      if same then { s with cal.badBlock16 := s.cal.badBlock16.filter (· ≠ region) }
      else { s with cal.badBlock16 := region :: s.cal.badBlock16.filter (· ≠ region) }.logSubst 0x0B 3 0xFFFF
        (locLoop region 16 0) (locLoop region 16 0) (locLoop region 16 0) 1 0 0
    else
      let loc := blockSource region block
      if s.cell21Used loc then s
      else if same then { s with cal.badCell21 := s.cal.badCell21.filter (· ≠ loc) }
      else { s with cal.badCell21 := loc :: s.cal.badCell21.filter (· ≠ loc) }.logSubst 0x0B 3 0xFFFF
        (locLoop region block 21) (locLoop region block 21) (locLoop region block 21) 1 0 0

/-- Cause BLOCK clears at the switch frame and the elements hand back (R220, R144). -/
def State.clearBlock (es : List Nat) (s : State) : State :=
  s.modElems es fun e x =>
    if x.cBlock then { x with cBlock := false }.released (handoverOf s.loops e).dwell s.hbFrame else x

/-- Captures of the elements end aborted (R134). -/
def State.abortFor (es : List Nat) (s : State) : State :=
  { s with
    loops.captures := mapListed none (fun _ c => c.map fun x =>
      if es.contains x.element && (x.state = .armed || x.state = .running) then { x with state := .aborted } else x) s.loops.captures }

/-- LOOP_CELL_SWITCH (R220): at the switch frame spare cell 21 takes over a loop cell's slots. One that fails its own
self-test completes with FAILED, and the rest of the pool is tried (R223). -/
def execLoopCellSwitch (region block cell : Nat) (selfTest : Bool) (s : State) : Host.Outcome State Fault Refusal :=
  .next <| match s.cal.subst.find? fun x => x.region = region && x.block = block && x.cell = cell && !x.whole && decide (x.switchAt ≤ s.now) with
    | none => s
    | some x =>
      let loc := s.location region block
      let es := cellElements region block cell
      let phys := s.physBlock region block
      let was := if mapGet 0 s.cal.map.cellSub loc = cell + 1 then 21 else cell
      let s1 := { s with cal.subst := s.cal.subst.filter (· ≠ x), cal.map.cellSub := mapSet 0 s.cal.map.cellSub loc (cell + 1) }
      let s2 := (s1.logSubstAt x.switchAt 1 x.cause x.source (locLoop region block cell) (locLoop region phys was)
        (locLoop region phys 21) (if selfTest then 0 else 1) 0 x.events).raise 155
      if selfTest then
        ((({ s2 with cal.lost := s2.cal.lost.filter (· ≠ (region, block, some cell)) }.abortFor es).clearBlock es).repairDone loc).checkDegraded
      else (s2.holdBlock es).wantCell region block cell 2 x.source x.events

/-- BLOCK_SWITCH (R221): at the switch frame block 16 takes over a block. -/
def execBlockSwitch (region block : Nat) (selfTest : Bool) (s : State) : Host.Outcome State Fault Refusal :=
  .next <| match s.cal.subst.find? fun x => x.region = region && x.block = block && x.whole && decide (x.switchAt ≤ s.now) with
    | none => s
    | some x =>
      let es := blockElements region block
      let old := blockSource region block
      let s1 := { s with cal.subst := s.cal.subst.filter (· ≠ x), cal.map.blockSub := mapSet 0 s.cal.map.blockSub region (block + 1) }
      let s2 := (s1.logSubstAt x.switchAt 2 x.cause x.source (locLoop region block 0) (locLoop region block 0) (locLoop region 16 0)
        (if selfTest then 0 else 1) 0 x.events).raise 155
      if selfTest then
        ((({ s2 with cal.lost := s2.cal.lost.filter fun l => !(l.1 = region && l.2.1 = block) }.abortFor es).clearBlock es).repairDone old).checkDegraded
      else (s2.holdBlock es).loseBlock region block

/-- ROW_REPAIR (R222): A memory row is remapped to a spare row when not accessed. -/
def execRowRepair (inst row : Nat) (s : State) : Host.Outcome State Fault Refusal :=
  .next <| if s.thresholdMet (.row inst row) then s.repairRow inst row 1 (s.partCount (.row inst row) (s.cal.policy.rowWindowH * 36000000000000)) else s

/-- SPARE_MAP_WRITE (R202): the spare map or failed-cell lists are written to flash after a change. -/
def execSpareMapWrite (s : State) : Host.Outcome State Fault Refusal :=
  .next <| { s with cal.mapFlash := s.cal.map, cal.failedFlash := s.fabric.failed }

/-- LOG_ENTRY_WRITE (R224): A substitution log entry is written to flash. -/
def execLogEntryWrite (s : State) : Host.Outcome State Fault Refusal :=
  .next <| match s.cal.logPend with
    | [] => s
    | x :: rest => { s with cal.log := (x :: s.cal.log).take 4096, cal.logPend := rest }

/-! References and background (R197, R209-R216). -/

/-- |a - b| is at most 0.3 % of b. -/
def within (a b : Nat) : Bool := decide (1000 * (a - b + (b - a)) ≤ 3 * b)

/-- The three band-gaps compared (R197); readings in any common unit. -/
def State.bandgapCheck (a b c : Nat) (s : State) : State :=
  if s.cal.bandgapLost then s
  else
    let l := [a, b, c].zipIdx.filter fun p => s.cal.map.bandgap ≠ some p.2
    let m := (max (min a b) (min (max a b) c))
    let agree := l.any fun p => l.any fun q => p.2 < q.2 && (within p.1 q.1 || within q.1 p.1)
    if !agree then { s with cal.bandgapLost := true }.raise 147
    else match s.cal.map.bandgap with
      | some _ => s
      | none => match l.find? fun p => !within p.1 m with
        | some p => { s with cal.map.bandgap := some p.2 }.logSubst 0x0A 2 0xFFFF (locBandgap p.2) (locBandgap p.2) (locBandgap p.2) 0 2 0
        | none => s

/-- BANDGAP_CHECK (R197): firmware compares the three band-gaps every 100 ms. -/
def execBandgapCheck (a b c : Nat) (s : State) : Host.Outcome State Fault Refusal :=
  .next <| if s.periodDue s.cal.bandgapAt 1000000000 then { s with cal.bandgapAt := some s.up }.bandgapCheck a b c else s

/-- The median of a list. -/
def medianOf (l : List Int) : Int :=
  let sorted := l.foldr (fun x acc => acc.takeWhile (decide <| · < x) ++ x :: acc.dropWhile (decide <| · < x)) []
  sorted.getD (sorted.length / 2) 0

/-- The highest of a list of temperatures, in 0.1 °C. -/
def hottest : List Int → Int
  | [] => 0
  | [x] => x
  | x :: l => max x (hottest l)

/-- The values of the SMBus target from offset 0x00 on (19 R545). -/
def State.smbValues (s : State) : List Byte :=
  leNat 2 0x5120
    ++ leNat 1 (s.unit.mode.code + flag s.inControl 4 + flag (s.alive = 0) 5 + flag s.ident.fwReady 6)
    ++ [BitVec.ofInt 8 (roundDiv s.cal.junction 10), BitVec.ofInt 8 (roundDiv (hottest s.cal.diodes) 10)]
    ++ leNat 1 (fld s.gl.resetCause 4 0)
    ++ (List.range 8).flatMap (fun r => leNat 2 (mag (s.railVoltage r)).toNat)
    ++ leNat 8 s.ident.serial.toNat

/-- The values of the SMBus target are updated (R545); the first time before the first sample they read as they stand. -/
def State.smbUpdate (s : State) : State := { s.drawn with power.smb := s.smbValues }

/-- What temperatures raise (16 R466): the junction, and the 68 diodes of the block locations, in 0.1 °C. -/
def State.temperatures (junction : Int) (diodes : List Int) (s : State) : State :=
  let s1 := { s with cal.junction := junction, cal.diodes := diodes.take 68, cal.tempAt := some s.up }
  let s2 := if junction > 1100 then s1.raise 184 else s1
  (List.range 68).foldl (fun t i =>
    match (diodes.take 68)[i]? with
    | none => t
    | some d =>
      let med := medianOf ((diodes.take 68).drop (i / 17 * 17) |>.take 17)
      if d > 1000 || mag (d - med) > 150 then t.raise (72 + i) else t) s2

/-- TEMPERATURE_SAMPLE (R198): the temperatures are read every 10 ms, and the SMBus values updated with them (19 R545;
DESIGN CHOICE, log 34). -/
def execTemperatureSample (junction : Int) (diodes : List Int) (s : State) : Host.Outcome State Fault Refusal :=
  .next <| if s.periodDue s.cal.tempAt 100000000 then (s.temperatures junction diodes).smbUpdate else s

/-- The table of a twin as its counts give it: the delay of each tap, between 60 ps and 110 ps, is a free value
(R210). -/
def State.measuredTaps (s : State) (line twin : Nat) : List Nat := tapTable fun k => (s.measured 45 (256 * line + 128 * twin + k)).natAbs

/-- The table of one twin of a line is built again. -/
def State.retable (line : Nat) (twin : Bool) (s : State) : State :=
  let taps := s.measuredTaps line (b2i twin).toNat
  s.modLine line fun l => if twin then { l with tapsB := taps } else { l with tapsA := taps }

/-- The idle twin of a delay line fails its measurement: the other serves alone, which is logged and is an
event of the block the line lies in, or of source 185 (R211). Which block that is no rule says: a free value. -/
def State.lineFallback (line : Nat) (s : State) : State :=
  let twin := (b2i (mapGet false s.cal.twin line)).toNat
  let s1 := { s with cal.alone := line :: s.cal.alone }.logSubst 8 2 0xFFFF (locLine line twin) (locLine line twin) (locLine line twin) 0 0 0
  let loc := (s.measured 27 line).natAbs % 69
  if loc = 68 then s1.raise 185 else s1.blockFallback loc

/-- DELAY_LINE_EXCHANGE (R210). Every 10 ms the idle twin of a delay line has been measured, its table is built, and it
takes over; a tick with an action near defers the exchange. The serving twin of a line with one twin failed is measured
tap by tap (R211). -/
def execDelayLineExchange (line : Nat) (busy : Bool) (s : State) : Host.Outcome State Fault Refusal :=
  .next <|
    if busy || numLines ≤ line || !s.periodDue (mapGet none s.cal.exchangedAt line) 100000000 then s
    else
      let serves := mapGet false s.cal.twin line
      let s1 := { s with cal.exchangedAt := mapSet none s.cal.exchangedAt line (some s.up) }
      if s.cal.alone.contains line then (s1.retable line serves).drawn
      else if (s.measured 26 line).natAbs % 2 = 1 then (s1.lineFallback line).drawn
      else { s1.retable line (!serves) with cal.twin := mapSet false s.cal.twin line (!serves) }.drawn

/-- An element may be tracked (R213): LK, 1,000 clean samples, |e| at most HO_TOL / 4. -/
def State.trackable (s : State) (e : Nat) : Bool :=
  let x := s.elem e
  x.mode = .lk && decide (1000 ≤ x.clean) && decide (4 * mag x.e ≤ (handoverOf s.loops e).tol)

/-- The stored FF code moved towards u by a sixteenth (R213). -/
def towards (ff u : Nat) : Nat := ((ff : Int) + scale ((u : Int) - ff) (-4)).toNat

/-- What the tracking visit of an element changes. For a VOA the table entry nearest its set-point in dB moves
(DEDUCED, log 9). -/
def Elem.track (x : Elem) (gate : Bool) (i : ImgEl) : ImgEl :=
  if gate then
    if x.cross then { i with ffCross := towards i.ffCross x.q.u } else { i with ffBar := towards i.ffBar x.q.u }
  else
    let k := nearestDb x.r
    { i with table := i.table.set k (towards (i.table.getD k 0) x.q.u) }

/-- Every block of the rotation has been visited to its end. -/
def Cal.rotated (c : Cal) : Bool :=
  allBlocks.all fun p => decide (336 ≤ mapGet (0 : Nat) c.rotation (p.1 * 16 + p.2))

/-- The visits of a block are spread over the rotation period (R214; DEDUCED, log 9). -/
def State.visitDue (s : State) (key : Nat) : Bool :=
  match mapGet none s.cal.visitAt key with
  | none => true
  | some t => decide (t + s.cal.periodMs * 10000000 / 336 ≤ s.up)

/-- One visit of an element: electrical, and tracking where it may be tracked. What it measures of a gate's cell is
evidence of a failure (03 R97). -/
def State.visit (e : Nat) (s : State) : State :=
  let s1 := (s.electrical e).calibrated e fun i => if s.trackable e then (s.elem e).track (isGate e) i else i
  if isGate e then s1.judgeCell e .calibration else s1

/-- BACKGROUND_VISIT (R213). A background visit of the next element of a block (R213-R216), abandoned where a change of
the element takes precedence. -/
def execBackgroundVisit (region block : Nat) (s : State) : Host.Outcome State Fault Refusal :=
  .next <|
    let runs := s.unit.mode = .standby || s.unit.mode = .active || s.unit.mode = .degraded
    let key := region * 16 + block
    if !runs || !s.cal.bgOn || 3 < region || 15 < block || s.cal.subst.any (fun x => x.region = region && x.block = block) ||
      !s.visitDue key then s
    else
      let pos := mapGet 0 s.cal.rotation key
      if 336 ≤ pos then s
      else
        let e := elementAt region block 0 0 + pos
        let s1 := { s with
          cal.rotation := mapSet 0 s.cal.rotation key (pos + 1), cal.visitAt := mapSet none s.cal.visitAt key (some s.up) }
        let s2 := if s.visitBlocked e then s1 else s1.visit e
        if s2.cal.rotated then
          { s2 with cal.rotation := [], cal.globalCount := (s2.cal.globalCount + 1) % 2 ^ 32, cal.globalTime := s2.steppedTime }
        else s2

/-! Calibration at start-up (R200, R203-R208). -/

/-- LOAD (R200): the valid copy with the higher sequence number; the spare map and the failed-cell
lists are applied. With no valid copy the fabric is left dark (R208). -/
def State.calLoad (s : State) : State :=
  let c := s.cal
  let ok0 := c.copy0.valid s.ident.serial s.ident.phoRev
  let ok1 := c.copy1.valid s.ident.serial s.ident.phoRev
  if !ok0 && !ok1 then
    { s with
      cal.stage := 0xF
      loops.elems := if s.power.dark then mapListed Elem.park (fun _ x => x.parked s.now) s.loops.elems else s.loops.elems }.raise 148
  else
    let use1 := ok1 && (!ok0 || decide (c.copy0.seq < c.copy1.seq))
    let img := if use1 then c.copy1 else c.copy0
    let s1 := { s with
      cal.inUse := use1, cal.work := [], cal.chanWork := [], cal.lineWork := [], cal.map := c.mapFlash
      fabric.failed := c.failedFlash, cal.globalCount := img.count, cal.globalTime := img.time }
    (s1.fabric.failed.foldl (fun t f => t.driveFailed f.plane f.stage f.cell f.kind) s1).startStage 2

/-- REFERENCES: the band-gaps are checked, and every channel is measured on both paths, with its selections (R203,
R209). -/
def State.referencesStage (s : State) : State :=
  let s1 := s.bandgapCheck (s.measured 49 0).natAbs (s.measured 49 1).natAbs (s.measured 49 2).natAbs
  ((((List.range 40960).foldl (State.visitChan true) s1).askSelect s1.cal.selPend).drawn).startStage 3

/-- The delay of a gate's driver with deskew code 0, in 0.1 ns: a free value. -/
def State.rawDelay (s : State) (e : Nat) : Int := ((s.measured 21 e).natAbs % 41 : Nat)

/-- The median of the drivers of a block, with deskew code 0 (R212; DEDUCED, log 9). -/
def State.blockMedian (s : State) (region block : Nat) : Int :=
  medianOf (((blockElements region block).filter isGate).map s.rawDelay)

/-- The deskew code that brings a driver's delay closest to the median of its block (R212). -/
def State.deskewOf (s : State) (e : Nat) : Nat :=
  (clampInt 0 15 (s.blockMedian (regionOf e) (blockOf e) - s.rawDelay e)).toNat

/-- TIMING builds the table of every delay line (R210), and sets each gate's deskew code and the delay that it leaves
(R212). -/
def State.timingStage (s : State) : State :=
  ({ s with
    cal.lineWork := (List.range numLines).map fun l => (l, some ⟨s.measuredTaps l 0, s.measuredTaps l 1⟩)
    cal.work := (List.range numElements).map fun e => (e, some (if isGate e then
      { s.image e with deskew := s.deskewOf e, delay := (s.rawDelay e).toNat + s.deskewOf e }.bounded else s.image e)) }.drawn).startStage 4

/-- A code of the sweep of R206: within 64 steps of the stored one, and in its range. -/
def swept (stored step max : Nat) (m : Int) : Nat :=
  (clampInt 0 max ((stored : Int) + step * (m % 129 - 64))).toNat

/-- What the test of a gate in a state finds (R205, R206): 0 no light reached it, 1 accepted at stored data, 2 accepted
at new data, 3 refused. A free value; a cell that is failed already is not tested. -/
def State.gateTest (s : State) (e : Nat) (cross : Bool) : Nat :=
  let k := fabricCellOf e
  if (failedAt s.fabric.failed k.1 k.2.1 k.2.2).isSome then 0 else (s.measured 20 (2 * e + (b2i cross).toNat)).natAbs % 4

/-- VSTATE that ELEMENTS finds for an element (R205). A VOA hands over at its two codes, gets no light, or fails. -/
def State.foundState (s : State) (e : Nat) : Nat :=
  if isGate e then
    let t := [s.gateTest e false, s.gateTest e true]
    if t.contains 3 then 3 else if t.contains 2 then 2 else if t.contains 1 then 0 else 1
  else
    let m := (s.measured 20 (2 * e)).natAbs % 3
    if m = 2 then 3 else m

/-- The data of an element after its test: what failed at stored data is swept, state by state (R206). -/
def State.foundImage (s : State) (e : Nat) : ImgEl :=
  let i := { s.image e with vstate := s.foundState e }
  let i1 := if isGate e && s.gateTest e false = 2 then
    { i with levelBar := swept i.levelBar 4 4095 (s.measured 23 e), ffBar := swept i.ffBar 64 65535 (s.measured 25 e) } else i
  if isGate e && s.gateTest e true = 2 then
    { i1 with levelCross := swept i.levelCross 4 4095 (s.measured 24 e), ffCross := swept i.ffCross 64 65535 (s.measured 28 e) } else i1

/-- What a gate's test says of its cell (R206): stuck in the state that passed, else dark. -/
def State.gateKind (s : State) (e : Nat) : Option FailKind :=
  let bar := s.gateTest e false
  let cross := s.gateTest e true
  if cross = 3 && (bar = 1 || bar = 2) then some .stuckBar
  else if bar = 3 && (cross = 1 || cross = 2) then some .stuckCross
  else if bar = 3 || cross = 3 then some .dark
  else none

/-- The kind that a cell is declared as: what its gates say, and dark where they differ (DEDUCED, log 9). -/
def State.foundKind (s : State) (g : Nat) : Option FailKind :=
  match s.gateKind g, s.gateKind (g + 1) with
  | none, k => k
  | k, none => k
  | some a, some b => some (if a = b then a else .dark)

/-- ELEMENTS ends (R204-R207). After a class P reset every element has been tested; the cell of a gate that fails is
declared failed, and the fibre of a VOA that fails is lost. After a class H reset no light was routed. -/
def State.elementsStage (s : State) : State :=
  let s1 := if s.power.dark then
      let s0 := { s with
        cal.work := (List.range numElements).map fun e => (e, some (s.foundImage e))
        unit.fibresLost := (List.range numElements).filter fun e => !isGate e && s.foundState e = 3 }
      (liveCells s.fabric.failed).foldl (fun t g => match s.foundKind g with
        | some kind => let k := fabricCellOf g
          t.declareFailed k.1 k.2.1 k.2.2 kind .calibration
        | none => t) s0.drawn
    else s
  s1.startStage 5

/-- CAL_STAGE_COMPLETE (R203). A stage of CALIBRATE completes (R203): LOAD has read the image, REFERENCES has selected,
TIMING has set the delays, ELEMENTS has tested the elements (R205-R207), and LOCK ends in the role decision. A stage that
hands elements over is complete once no hand-over is still to come. -/
def execCalStageComplete (s : State) : Host.Outcome State Fault Refusal :=
  .next <|
    if s.unit.mode ≠ .calibrate then s
    else if s.cal.stage = 1 then s.calLoad
    else if s.cal.stage = 2 then s.referencesStage
    else if s.cal.stage = 3 then s.timingStage
    else if s.cal.stage = 4 && (s.power.dark || s.handedOver) then s.elementsStage
    else if s.cal.stage = 5 && s.unit.waiting.isNone && s.handedOver then s.roleDecision
    else s

end Sys2Proof.Machine
end

