-- ==== Sys2Proof/Machine/TimeCmds.lean ====
section
/-! DEFINITION. The TIME commands, the read-out registers' special reads and the events of the
timebase: 02_network_time. -/
namespace Sys2Proof.Machine

/-- TB_STATUS: R77. -/
def State.tbStatus (s : State) : Nat :=
  s.tb.reanchors * 65536 + flag (s.tb.cycleValid && (decide (0 < s.tb.k) || decide (s.tb.start ≤ s.now))) 8 + flag s.tb.syncInOk 7 + flag s.tb.syncLimit 6
    + flag s.tb.offsetLarge 5 + flag s.tb.holdover 4 + flag s.tb.locked 3 + flag s.tb.stepped 2
    + s.tb.source.code

/-- TB_OFFSET in ns, saturating (R77); the offset is rounded to whole nanoseconds. -/
def State.tbOffset (s : State) : Int := clampInt (-(2 ^ 31 - 1)) (2 ^ 31 - 1) (roundDiv s.tb.offset 16)

/-- TIME_GET_STATUS (R78): returns TB_STATUS, offset, rate estimate, source, gPTP port states, grandmaster identity
and NOTICE_MERGED. -/
def execTimeGetStatus (tag : Tag) (s : State) : Host.Outcome State Fault Refusal :=
  .next <| s.query tag 0x0201 (some 0) fun s =>
    Reply.ok ([(s.tbStatus : Int), s.tb.offset, s.tb.rEst, s.tb.source.code]
      ++ (([0, 1, 2, 3] : List Nat).map fun p => ((s.ptpRole p : Nat) : Int)) ++ [(s.ptpGrandmaster.toNat : Int), s.tb.noticeMerged])

/-- A counter value from its two parts. -/
def counterOf (time : BitVec 64) (frac : BitVec 32) : BitVec 96 := time ++ frac

/-- TIME_SET (R47): makes the single step of the counter, on the next tick (R553), refused with ALREADY_STEPPED once
the step is made or decided. -/
def execTimeSet (tag : Tag) (time : BitVec 64) (frac : BitVec 32) (s : State) : Host.Outcome State Fault Refusal :=
  .next <| s.serve tag 0x0202 false none fun s =>
    if s.stepTaken then refuse s .alreadyStepped else (s.timeStep (counterOf time frac), Reply.done)

/-- Step 1 of R49: every armed sheaf is disarmed and REANCHORED, every running stook stops. -/
def State.reanchorSheaves (s : State) : State :=
  let armed := (s.sheaves.store.filter fun x => x.phase = .arming || x.phase = .committed).map (·.id)
  let s1 := armed.foldl (fun t i => t.outcome i 0x05 0) s
  let running := (s1.sheaves.stooks.filter (·.running)).map (·.id)
  let left := (s1.sheaves.store.filter fun x =>
    x.pending && running.any fun k => x.submitter = .stook k).map (·.id)
  let s2 := left.foldl (fun t i => t.outcome i 0x08 0) s1
  State.settle (2 * s.sheaves.store.length + 2) (armed ++ left)
    { s2 with sheaves.stooks := s2.sheaves.stooks.map fun k => { k with running := false } }

/-- Step 4 of R49: cover sets off, captures aborted. -/
def State.abortCaptures (s : State) : State :=
  { s with
    loops.captures := mapListed none (fun _ c => c.map fun x =>
      if x.state = .armed || x.state = .running then { x with state := .aborted } else x) s.loops.captures }

/-- Steps 5 and 6 of R49. -/
def State.clearCycle (s : State) : State :=
  { s with
    tb.cycleB := 0, tb.cycleC := 0, tb.cycleValid := false, tb.pendCycle := none, tb.k := 0, tb.start := 0
    tb.syncOut := { s.tb.syncOut with mode := .off }, tb.syncOutPend := none
    tb.syncIn := { s.tb.syncIn with enable := false }, tb.syncInPend := none
    tb.dNext := none, tb.dAfter := none, tb.window := none, tb.early := false, tb.shiftS := 0
    tb.syncLimit := false, tb.syncInOk := false, tb.foldPending := false, tb.lastEdge := none, tb.pulseEnd := 0 }

/-- The re-anchor of R49 up to its step, which the next tick makes (R553). -/
def State.reanchor (tag : Tag) (c : BitVec 96) (s : State) : State :=
  let s1 := (((s.reanchorSheaves.gatesReanchor).withdrawSwap).coversOff).abortCaptures
  let s2 := s1.clearCycle.setSyncOut false
  { s2 with tb.load := some c, tb.loadKeeps := true, tb.reanchorTag := some tag }

/-- TIME_REANCHOR (R49): makes a second step of the counter after disarming sheaves, disabling gates, withdrawing
swaps, clearing the cycle and stopping SYNC_IN and SYNC_OUT. It is answered at the step. -/
def execTimeReanchor (tag : Tag) (time : BitVec 64) (frac : BitVec 32) (s : State) : Host.Outcome State Fault Refusal :=
  .next <|
    if s.tb.reanchorTag = some tag then s
    else if s.tb.stepped && s.tb.load.isNone then
      match findServed s.il.inflight tag 0x0203 false with
      | some _ => s.reanchor tag (counterOf time frac)
      | none => s
    else s.serve tag 0x0203 false none fun s =>
      if s.tb.stepped then refuse s .busy else refuse s .notStepped

/-- tau in ms is a power of two between 1/8 s and 16 s (R52). -/
def tauOk (t : Nat) : Bool := [125, 250, 500, 1000, 2000, 4000, 8000, 16000].contains t

/-- A new selection of sources takes effect at once (R79, R54). -/
def State.selectSource (p f : Source) (s : State) : State :=
  let s1 := { s with tb.primary := p, tb.fallback := f, tb.primaryRun := 0, tb.syncAt := s.up }
  if p = .none then
    { s1 with tb.source := .none, tb.holdover := false, tb.locked := s1.tb.locked && s.tb.source = .none }
  else if s1.tb.source = p && s1.tb.sourceValid p then s1
  else if s1.tb.sourceValid p then s1.useSource p
  else if f ≠ .none && s1.tb.sourceValid f then s1.useSource f
  else if s.tb.source = .none && !s.tb.holdover then { s1 with tb.source := .none }
  else s1.enterHoldover

/-- TIME_SET_SOURCE (R79): selects primary and fall-back discipline sources and sets tau, lock threshold and
large-offset limit. -/
def execTimeSetSource (tag : Tag) (primary fallback : BitVec 2) (tauMs lockNs largeNs : Nat) (s : State) : Host.Outcome State Fault Refusal :=
  .next <| s.serve tag 0x0204 false none fun s =>
    match sourceOf primary.toNat, sourceOf fallback.toNat with
    | some p, some f =>
      if !tauOk tauMs then refuse s .outOfRange (detailOf 0 4)
      else if lockNs < 10 || 10000 < lockNs then refuse s .outOfRange (detailOf 0 8)
      else if largeNs < 1000 || 1000000000 < largeNs then refuse s .outOfRange (detailOf 0 12)
      else ({ s.selectSource p f with tb.tauMs := tauMs, tb.lockNs := lockNs, tb.largeNs := largeNs }, Reply.done)
    | _, _ => refuse s .outOfRange (detailOf 0 0)

/-- C and H divide one into the other exactly (R61). -/
def divides (c h : Nat) : Bool := decide (c % h = 0) || decide (h % c = 0)

/-- The boundary condition of R62 for B', and R406 on a node whose Hedgerow is ACTIVE or PASSIVE. `at_` is the network
time of receipt. -/
def State.baseOk (s : State) (at_ b c : Nat) : Bool :=
  decide ((at_ : Int) + 1000000 ≤ (b : Int) + s.tb.shiftS) &&
  (s.tb.cycleC = 0 || (decide (s.tb.cycleB ≤ b) && decide ((b - s.tb.cycleB) % s.tb.cycleC = 0))) &&
  (!s.hedgeUp || decide (((b : Int) - s.hedge.phase) % (min c s.hNs : Nat) = 0))

/-- TIME_SET_CYCLE (R62): sets a new base time and cycle time that take effect at a future boundary B'. -/
def execTimeSetCycle (tag : Tag) (b : BitVec 64) (c : BitVec 32) (s : State) : Host.Outcome State Fault Refusal :=
  .next <| s.serve tag 0x0205 false none fun s =>
    if !s.tb.stepped then refuse s .notStepped
    else if s.tb.pendCycle.isSome then refuse s .busy
    else if c.toNat < 20000 || 1000000000 < c.toNat || !divides c.toNat s.hNs then refuse s .outOfRange (detailOf 0 8)
    else if !s.baseOk (s.arrivalOf tag) b.toNat c.toNat then refuse s .outOfRange (detailOf 0 0)
    else if !s.gatesFit b.toNat c.toNat then refuse s .outOfRange (detailOf 0 8)
    else ({ s with tb.pendCycle := some (b.toNat, c.toNat) }, Reply.done)

/-- TIME_FOLD_SHIFT (R68): requests that S be folded into B at the next common boundary and SYNC_LIMIT be cleared. -/
def execTimeFoldShift (tag : Tag) (s : State) : Host.Outcome State Fault Refusal :=
  .next <| s.serve tag 0x0206 false (some 0) fun s =>
    ({ s with tb.foldPending := true }.settleCommon, Reply.done)

/-- TIME_SET_SYNCIN (R64): enables or disables SYNC_IN shifting and sets the capture window and deadband. -/
def execTimeSetSyncin (tag : Tag) (enable : Bool) (wNs deadband : Nat) (s : State) : Host.Outcome State Fault Refusal :=
  .next <| s.serve tag 0x0207 false none fun s =>
    let m := max s.tb.cycleC s.hNs
    if wNs < 1000 || 100000 < wNs || (m ≠ 0 && decide (m ≤ 2 * wNs)) then refuse s .outOfRange (detailOf 0 4)
    else if 100 < deadband then refuse s .outOfRange (detailOf 0 8)
    else ({ s with tb.syncInPend := some ⟨enable, wNs, deadband⟩ }.settleCommon, Reply.done)

/-- A SYNC_OUT mode by its code (R71). -/
def syncOutOf (n : Nat) : Option SyncOutMode :=
  if n = 0 then some .off else if n = 1 then some .cycle else if n = 2 then some .pps
  else if n = 3 then some .sheafNotice else none

/-- TIME_SET_SYNCOUT (R71): sets the SYNC_OUT mode, pulse width and notice lead time. -/
def execTimeSetSyncout (tag : Tag) (mode : Nat) (p : Option Nat) (lNs : Nat) (s : State) : Host.Outcome State Fault Refusal :=
  .next <| s.serve tag 0x0208 false none fun s =>
    match syncOutOf mode with
    | none => refuse s .outOfRange (detailOf 0 0)
    | some m =>
      if p.any fun w => decide (w < 100) || decide (500000000 < w) then refuse s .outOfRange (detailOf 0 4)
      else if lNs < 1000 || 1000000 < lNs then refuse s .outOfRange (detailOf 0 8)
      else ({ s with tb.syncOutPend := some ⟨m, p, lNs⟩ }.settleCommon, Reply.done)

/-- TIME_SET_PTP (R79): sets gPTP domain, ports, role selection, priority1, log intervals and delay threshold. -/
def execTimeSetPtp (tag : Tag) (cfg : PtpCfg) (s : State) : Host.Outcome State Fault Refusal :=
  .next <| s.serve tag 0x0209 false none fun s =>
    if 127 < cfg.domain || 255 < cfg.priority1 || cfg.logSync < -7 || 3 < cfg.logSync ||
        cfg.logPdelay < -3 || 3 < cfg.logPdelay || cfg.roles.any (fun r => decide (3 < r)) then refuse s .outOfRange
    else ({ s with tb.ptpPend := some { cfg with priority1 := if cfg.gmCapable then cfg.priority1 else 255 } }, Reply.done)

/-- TIME_SET_PORT_LATENCY (R57): sets the ingress and egress time-stamp corrections of a port. They apply from the next
time stamp on: each time stamp is a measurement (R79; DEDUCED, log 14). -/
def execTimeSetPortLatency (tag : Tag) (port : Nat) (ingress egress : Int) (s : State) : Host.Outcome State Fault Refusal :=
  .next <| s.serve tag 0x020A false none fun s =>
    if 3 < port then refuse s .outOfRange (detailOf 0 0)
    else if mag ingress > 1600 then refuse s .outOfRange (detailOf 0 2)
    else if mag egress > 1600 then refuse s .outOfRange (detailOf 0 4)
    else ({ s with tb.lat := mapSet (0, 0) s.tb.lat port (ingress, egress) }, Reply.done)

/-! Reads that change state (R76, R77). -/

/-- TB_TIME_LO_READ (R76): A read of TB_TIME_LO latches the whole counter. -/
def execTbTimeLoRead (s : State) : Host.Outcome State Fault Refusal :=
  .next <| { s with tb.latched := s.tb.counter }.emit (.readData ((s.tb.counter >>> 32).setWidth 32))

/-- TB_COUNTS_READ (R77): A read of TB_COUNTS returns and clears the SYNC_IN counts. -/
def execTbCountsRead (s : State) : Host.Outcome State Fault Refusal :=
  .next <|
    let a := min s.tb.syncReject s.cycle.reject
    let b := min s.tb.syncMiss s.cycle.miss
    { s with tb.syncReject := a, tb.syncMiss := b }.emit
      (.readData (BitVec.ofNat 32 ((s.tb.syncReject - a) * 65536 + (s.tb.syncMiss - b))))

/-! Events. -/

/-- SYNC_IN_EDGE (R64). A rising edge on SYNC_IN, `elapsedPs` after the last tick (R64-R67). -/
def execSyncInEdge (elapsedPs : Nat) (s : State) : Host.Outcome State Fault Refusal :=
  .next <|
    if !(s.tb.syncIn.enable && s.tb.cycleValid) then s
    else
      let x : Int := s.captureAt elapsedPs
      let err (t : Nat) : Int := (x - t * 2 ^ 32 + 2 ^ 31) / 2 ^ 32
      let inside (t : Nat) : Bool := decide (mag (x - t * 2 ^ 32) ≤ s.tb.syncIn.wNs * 2 ^ 32)
      let s1 := s.closeWindow (x / 2 ^ 32).toNat
      let ahead : State := match s1.nextCommon with
        | some t =>
          if inside t then (if s1.tb.early then s1.rejectEdge else { s1 with tb.early := true }.acceptEdge (err t) true)
          else s1.rejectEdge
        | none => s1.rejectEdge
      match s1.tb.window with
      | some w =>
        if inside w.t then
          if w.accepted then s1.rejectEdge
          else { s1 with tb.window := some { w with accepted := true } }.acceptEdge (err w.t) false
        else ahead
      | none => ahead

/-- SYNC_OUT_PULSE (R71): A SYNC_OUT rising edge is placed at its cycle, PPS or sheaf-notice instant. -/
def execSyncOutPulse (s : State) : Host.Outcome State Fault Refusal :=
  .next <| match s.dueEdge with
    | some (t, id) => (s.launched t).pulse t id
    | none => s

/-- SYNC_OUT_PULSE_END (R72, R73). The end of a pulse; a notice that follows within 100 ns keeps the pin high. -/
def execSyncOutPulseEnd (s : State) : Host.Outcome State Fault Refusal :=
  .next <|
    let coming := s.tb.syncOut.mode = .sheafNotice && s.sheaves.store.any fun x =>
      s.noticeOpen x && decide (x.instant - s.tb.syncOut.lNs < s.tb.pulseEnd + 100)
    if s.tb.syncOutHigh && s.reached s.pulseEndNow && !coming then s.setSyncOut false else s

/-- SCHEDULE_BOUNDARY (R60): A schedule cycle boundary arrives. -/
def execScheduleBoundary (s : State) : Host.Outcome State Fault Refusal :=
  .next <|
    match s.nextBoundary with
    | some (_, _, at_) => if s.reached at_ then s.boundary.gatesAtBoundary s.tb.cycleC else s
    | none => s

/-- GPTP_MESSAGE_RECEIVED (R56). A gPTP frame (R54, R56). Settings that wait take effect first (R79): without that no
port that they enable could give the measurement for which they wait. A Sync counts on the slave port, in the domain of
the instance. A slave port whose measured delay is above the threshold stops being asCapable and loses the source. -/
def execGptpMessageReceived (port : Nat) (msg : GptpMsg) (s : State) : Host.Outcome State Fault Refusal :=
  .next <|
    if 3 < port then s
    else
      let s1 := s.applyPtp
      if !s1.tb.ptp.ports.getLsbD port then s1
      else match msg with
        | .sync domain valid offset rate sourceTime =>
          if domain ≠ s1.tb.ptp.domain || s1.ptpRole port ≠ 1 then s1
          else if valid then
            { s1 with tb.syncStamp := mapGet 0 s1.tb.gptpStamp port }.measurement .gptp offset rate (BitVec.ofNat 96 (sourceTime * 2 ^ 32))
          else if s1.tb.primary = .gptp then { s1 with tb.primaryRun := 0 } else s1
        | .pdelay d =>
          let s2 := { s1 with tb.portDelay := mapSet 0 s1.tb.portDelay port d }
          if s1.tb.ptp.npdtNs < d && s1.ptpSlave = some port then s2.sourceLost .gptp else s2
        | .announce domain pr gm steps =>
          if domain ≠ s1.tb.ptp.domain then s1
          else { s1 with tb.announce := mapSet none s1.tb.announce port (some ⟨pr, gm, steps⟩) }
        | .other => s1

/-- GPTP_MESSAGE_TRANSMIT (R56). A gPTP message joins the queue of class PTP_CLASS and obeys its gate (R56, 09 R258). Sync
goes out on master ports. -/
def execGptpMessageTransmit (port : Nat) (sync : Bool) (s : State) : Host.Outcome State Fault Refusal :=
  .next <|
    if 3 < port then s
    else
      let s1 := s.applyPtp
      if s1.tb.ptp.ports.getLsbD port && (!sync || s1.ptpRole port = 2) then
        s1.drawn.enqueue port
          { bytes := Config.gptpFrame port sync s1.free, tc := (s1.gate port).cfg.ptpClass, gptp := some sync }
      else s1

/-- GPTP_SYNC_TIMEOUT (R54). Three Sync intervals in a row have passed with no valid Sync on the slave port: the source is
lost. -/
def execGptpSyncTimeout (s : State) : Host.Outcome State Fault Refusal :=
  .next <| if s.tb.syncAt + 3 * s.tb.ptp.interval ≤ s.up then s.sourceLost .gptp else s

end Sys2Proof.Machine
end

