-- ==== Sys2Proof/Machine/StreamCmds.lean ====
section
/-! DEFINITION. The STREAM commands, the recovery reset timer, latent error detection and the cover
windows: 10_stream_redundancy R284-R303. -/
namespace Sys2Proof.Machine

/-- Codes of the states of a cover set. -/
def CoverState.code : CoverState → Nat
  | .off => 0 | .pending => 1 | .opened => 2 | .closed => 3

/-- STREAM_GET_STATUS (R303): returns stream entries in use, LATENT bitmap, cover set states and NO_ENTRY. -/
def execStreamGetStatus (tag : Tag) (s : State) : Host.Outcome State Fault Refusal :=
  .next <| s.query tag 0x0901 (some 0) fun s =>
    Reply.ok ([((s.streams.table.filter fun p => p.2.valid).length : Int)] ++
      (List.range 1024).map (fun n => b2i (s.stream n).latent) ++
      (List.range 255).flatMap (fun i =>
        let c := mapGet Cover.dflt s.streams.covers (i + 1)
        [(c.state.code : Int), c.hits]) ++ [(s.streams.noEntry : Int)])

/-- The byte offset of the first field of an entry that R287 refuses. -/
def State.entryOffends (s : State) (e : List Word) : Option Nat :=
  let x : Stream := { entry := e }
  let g := x.gen
  let rsvd (i : Nat) (m : Word) : Bool := decide (x.w i &&& m ≠ 0)
  let ptp := ([0, 1, 2, 3] : List Nat).any fun p => x.ports.testBit p && decide ((s.gate p).cfg.ptpClass = x.tc)
  let checks : List (Bool × Nat) :=
    [ (e.length ≠ 8, 0), (rsvd 0 0x1FF#32, 0), (ptp, 2), (x.valid && x.ports = 0 && !x.hostEn, 2),
      (decide (4 < g), 3), (x.tagOut && g = 0, 3),
      (rsvd 1 0x1FFFFF#32, 4), (x.rcvyEn && !x.matches_ && (decide (x.histLen < 2) || decide (1024 < x.histLen)), 6),
      (x.resetMs = 0, 8), (g = 3 && x.cycleM = 0, 10),
      (rsvd 3 0x1FFF0000#32, 14), (x.ledPaths = 1 || decide (4 < x.ledPaths), 15), (decide (x.ledPeriod < 10), 18),
      (rsvd 5 0x00007000#32, 21), (rsvd 5 0x70000000#32, 23), (rsvd 6 0x00007000#32, 25), (rsvd 6 0x70000000#32, 27),
      (rsvd 7 0x00FFFFFF#32, 28) ]
  (checks.find? (·.1)).map (·.2)

/-- An entry is replaced whole (R291, R294): a changed GEN restarts COUNTER, a changed RCVY_EN, ALG or
HIST_LEN takes any number next. A changed LED_PATHS or LED_PERIOD starts a period (DEDUCED, log 22). -/
def Stream.replaced (up : Nat) (e : List Word) (x : Stream) : Stream :=
  let y : Stream := { x with entry := e }
  let z : Stream := if x.gen ≠ y.gen then { y with counter := 0 } else y
  let w : Stream := if x.rcvyEn ≠ y.rcvyEn || x.matches_ ≠ y.matches_ || x.histLen ≠ y.histLen then z.takeAgain else z
  if x.ledPaths ≠ y.ledPaths || x.ledPeriod ≠ y.ledPeriod || x.valid ≠ y.valid then
    { w with ledStart := up, ledPassed := 0, ledDiscarded := 0, ledSpoilt := false }
  else w

/-- STREAM_SET (R287): writes up to 16 stream table entries, validated whole. -/
def execStreamSet (tag : Tag) (first : Nat) (entries : List (List Word)) (s : State) : Host.Outcome State Fault Refusal :=
  .next <| s.serve tag 0x0902 false none fun s =>
    if !s.inControl then refuse s .notPermitted
    else if entries.length = 0 || 16 < entries.length || 1024 < first + entries.length then refuse s .outOfRange
    else match entries.zipIdx.findSome? fun p => (s.entryOffends p.1).map fun o => detailOf p.2 o with
      | some d => refuse s .outOfRange d
      | none => (entries.zipIdx.foldl (fun t p => t.modStream (first + p.2) (Stream.replaced s.up p.1)) s, Reply.done)

/-- STREAM_GET (R303): returns stream entries with COUNTER and recovery state. -/
def execStreamGet (tag : Tag) (first count : Nat) (s : State) : Host.Outcome State Fault Refusal :=
  .next <| s.query tag 0x0903 none fun s =>
    if count = 0 || 16 < count || 1024 < first + count then Reply.no .outOfRange
    else Reply.ok ((mapRead Stream.dflt s.streams.table first count).flatMap fun x =>
      x.entry.map (fun w => (w.toNat : Int)) ++ [(x.counter : Int), b2i x.takeAny, x.recNum, x.hist])

/-- The counters of a stream in the order of R302. -/
def streamCounters (x : Stream) : List Int := (List.range 18).map fun i => ((mapGet (0 : Nat) x.ctr i : Nat) : Int)

/-- STREAM_GET_STATS restarts what it returns (R302, as 08 R251). -/
def execStreamGetStats (tag : Tag) (first count : Nat) (s : State) : Host.Outcome State Fault Refusal :=
  .next <| s.serve tag 0x0904 true none fun s =>
    if count = 0 || 16 < count || 1024 < first + count then refuse s .outOfRange
    else
      let s1 := (List.range count).foldl (fun t i => t.modStream (first + i) fun x => { x with ctr := [] }) s
      ({ s1 with streams.noEntry := 0 },
        Reply.ok ((mapRead Stream.dflt s.streams.table first count).flatMap streamCounters ++ [(s.streams.noEntry : Int), s.now]))

/-- STREAM_RESET_RECOVERY (R294): sets TAKE_ANY for a range of streams. -/
def execStreamResetRecovery (tag : Tag) (first count : Nat) (s : State) : Host.Outcome State Fault Refusal :=
  .next <| s.serve tag 0x0905 false none fun s =>
    if 1024 < first + count then refuse s .outOfRange
    else ((List.range count).foldl (fun t i => t.modStream (first + i) Stream.takeAgain) s, Reply.done)

/-- An armed sheaf names a set, up to its outcome (R299, R304). -/
def State.coverUsed (s : State) (set : Nat) : Bool :=
  s.sheaves.store.any fun x => x.cover = set && (x.phase = .arming || x.phase = .committed || x.phase = .applied)

/-- The members of a set have a latent error period that is not evaluated. -/
def State.spoil (set : Nat) (s : State) : State :=
  { s with streams.table := mapListed Stream.dflt (fun _ x => if x.cover = set then { x with ledSpoilt := true } else x) s.streams.table }

/-- STREAM_SET_COVER (R299): sets a cover set's window and enable. A window that has ended when the command is received is
refused. -/
def execStreamSetCover (tag : Tag) (set : Nat) (enable : Bool) (wStart wEnd : Nat) (s : State) : Host.Outcome State Fault Refusal :=
  .next <| s.serve tag 0x0906 false none fun s =>
    let c := mapGet Cover.dflt s.streams.covers set
    let same := if enable then c.enable && c.wStart = wStart && c.wEnd = wEnd else !c.enable
    if !s.inControl then refuse s .notPermitted
    else if set = 0 || 255 < set then refuse s .outOfRange
    else if same then (s, Reply.done)
    else if enable && (wEnd ≤ wStart || 100000000 < wEnd - wStart || wEnd ≤ s.arrivalOf tag) then refuse s .outOfRange
    else if s.coverUsed set then refuse s .inUse
    else
      let c1 : Cover := if enable then
          { enable := true, wStart := wStart, wEnd := wEnd, state := if s.now < wStart then .pending else .opened }
        else { c with enable := false, state := .off }
      let s1 := { s with streams.covers := mapSet Cover.dflt s.streams.covers set c1 }
      (if c1.state = .opened then s1.spoil set else s1, Reply.done)

/-- STREAM_GET_COVER (R303): returns a cover set's window, state, HITS and member count. -/
def execStreamGetCover (tag : Tag) (set : Nat) (s : State) : Host.Outcome State Fault Refusal :=
  .next <| s.query tag 0x0907 none fun s =>
    if set = 0 || 255 < set then Reply.no .outOfRange
    else
      let c := mapGet Cover.dflt s.streams.covers set
      Reply.ok [b2i c.enable, c.wStart, c.wEnd, c.state.code, c.hits,
        (s.streams.table.filter fun p => decide (p.2.cover = set)).length]

/-- STREAM_CLEAR_LATENT (R295): clears LATENT for a range of streams. -/
def execStreamClearLatent (tag : Tag) (first count : Nat) (s : State) : Host.Outcome State Fault Refusal :=
  .next <| s.serve tag 0x0908 false none fun s =>
    if 1024 < first + count then refuse s .outOfRange
    else ((List.range count).foldl (fun t i => t.modStream (first + i) fun x => { x with latent := false }) s, Reply.done)

/-! Events. -/

/-- RECOVERY_RESET_TIMER (R292). The reset timer has run RESET_MS with no frame passed; inside an open cover window it
waits (R292, R300), and a frame of the same tick is evaluated first (R294). -/
def execRecoveryResetTimer (stream : Nat) (s : State) : Host.Outcome State Fault Refusal := .next <| s.recoveryReset stream

/-- A latent error period overlaps the cover window of the stream's set (R300). -/
def State.coverOverlaps (s : State) (x : Stream) : Bool :=
  let c := mapGet Cover.dflt s.streams.covers x.cover
  x.cover ≠ 0 && c.enable && decide (c.wStart ≤ s.now) && decide (s.now < c.wEnd + (s.up - x.ledStart) / 10)

/-- LATENT_PERIOD (R295). The end of a latent error period. -/
def execLatentPeriod (stream : Nat) (s : State) : Host.Outcome State Fault Refusal :=
  .next <|
    let x := s.stream stream
    if !x.valid || x.ledPaths = 0 || s.up < x.ledStart + x.ledPeriod * 10000000 then s
    else
      let s1 := s.modStream stream fun x => { x with ledStart := s.up, ledPassed := 0, ledDiscarded := 0, ledSpoilt := false }
      if x.ledSpoilt || s.coverOverlaps x || x.ledPassed * (x.ledPaths - 1) ≤ x.ledDiscarded + x.ledDiff then s1
      else ((s1.modStream stream fun x => { x with latent := true }).countStream stream 7 1).raise 164

/-- COVER_WINDOW_START (R301): at W_START a cover set becomes OPEN. -/
def execCoverWindowStart (set : Nat) (s : State) : Host.Outcome State Fault Refusal :=
  .next <|
    let c := mapGet Cover.dflt s.streams.covers set
    if c.enable && c.state = .pending && decide (c.wStart ≤ s.now) then
      ({ s with streams.covers := mapSet Cover.dflt s.streams.covers set { c with state := .opened } }).spoil set
    else s

/-- COVER_WINDOW_END (R301). W_END. -/
def execCoverWindowEnd (set : Nat) (s : State) : Host.Outcome State Fault Refusal :=
  .next <|
    let c := mapGet Cover.dflt s.streams.covers set
    if c.enable && (c.state = .pending || c.state = .opened) && decide (c.wEnd ≤ s.now) then
      ({ s with streams.covers := mapSet Cover.dflt s.streams.covers set { c with state := .closed, hits := c.lost.length } }).spoil set
    else s

end Sys2Proof.Machine
end

