-- ==== Sys2Proof/Machine/UnitOps.lean ====
section
/-! DEFINITION. Pairs, the mirror link and its items, takeover detection and hand-back, as operations:
15_unit_redundancy R438-R461, 06_sheaves R190, R191. -/
namespace Sys2Proof.Machine

/-! Words of a record (06 R159, R160). -/

/-- The two words of a change entry. -/
def Change.words (c : Change) : List Word :=
  [BitVec.ofNat 32 (c.element * 2 ^ 17 + c.mode.code * 2 ^ 15 + flag c.cross 14 + flag c.levelValid 13 + c.level % 4096),
   BitVec.ofNat 32 (c.target * 2 ^ 16 + c.slew)]

/-- The words of a sheaf record. -/
def Sheaf.words (x : Sheaf) : List Word :=
  [BitVec.ofNat 32 (x.id * 2 ^ 16 + 0x100 + flag x.prep 2 + flag x.rel 1 + flag x.gwEn 0),
   BitVec.ofNat 32 x.instant, BitVec.ofNat 32 (x.instant / 2 ^ 32), BitVec.ofNat 32 x.gwOpen, BitVec.ofNat 32 x.gwClose,
   BitVec.ofNat 32 (x.changes.length * 2 ^ 16 + x.cover * 2 ^ 8), BitVec.ofNat 32 (x.stook * 2 ^ 16 + x.step * 2 ^ 8), x.hostTag]
    ++ x.changes.flatMap Change.words

/-- Queue and index of a sheaf's descriptor. -/
def Submitter.origin : Submitter → Option (Nat × Nat)
  | .fcq q i => some (q, i)
  | _ => none

/-! Elements as mirrored (R450). -/

/-- The mirrored fields of an element; `none` where they are those of a parked one. -/
def Elem.mirrored (x : Elem) : Option MirElem :=
  let m : MirElem := { mode := x.mode, cross := x.cross, target := x.target, rampSlew := x.rampSlew, ff := x.ff }
  if m = { mode := .pk, cross := false, target := 0, rampSlew := 0, ff := none } then none else some m

/-- The item of an element. -/
def mirItem (e : Nat) (m : Option MirElem) : MirItem :=
  match m with
  | some x => .element e x.mode x.cross x.target x.rampSlew x.ff
  | none => .element e .pk false 0 0 none

/-- The mirrored fields of every element. -/
def State.mirElems (s : State) : SMap (Option MirElem) :=
  (s.loops.elems.map fun p => (p.1, p.2.mirrored)).filter fun p => p.2 ≠ none

/-- Keys at which two maps differ. -/
def diffKeys {α : Type} [DecidableEq α] (d : α) (a b : SMap α) : List Nat :=
  (a.filter fun p => mapGet d b p.1 ≠ p.2).map (·.1) ++
    (b.filter fun p => mapGet d a p.1 = d).map (·.1)

/-! What an epoch carries (R444, R448, R450). -/

/-- Items of elements that differ from what was sent. -/
def State.elemItems (s : State) : List MirItem :=
  let now := s.mirElems
  (diffKeys none now s.unit.mirror.elems).map fun e => mirItem e (mapGet none now e)

/-- Items of the failed-cell lists. -/
def State.failedItems (s : State) : List MirItem :=
  let at_ (f g : FailedCell) : Bool := f.plane = g.plane && f.stage = g.stage && f.cell = g.cell
  let old := s.unit.mirror.failed
  (old.filter fun f => !(s.fabric.failed.any (at_ f))).map (fun f => .failed f.plane f.stage f.cell none) ++
  (s.fabric.failed.filter fun f => !old.contains f).map fun f => .failed f.plane f.stage f.cell (some (f.kind, f.evidence, f.time))

/-- Sheaves of this unit that are armed. -/
def State.armedSheaves (s : State) : List Sheaf :=
  s.sheaves.store.filter fun x => !x.mirrored && (x.phase = .arming || x.phase = .committed || x.phase = .applied)

/-- Items of armed sheaves, and of those sent that have ended. -/
def State.armedItems (s : State) : List MirItem :=
  let now := s.armedSheaves
  ((now.filter fun x => !s.unit.mirror.armed.contains x.id).map fun x => .armed x.submitter.origin x.words) ++
  (s.unit.mirror.armed.filterMap fun id =>
    match s.sheaf? id with
    | some x => if x.phase = .done then some (.sheafEnd (BitVec.ofNat 16 id) x.outcome x.detail) else none
    | none => some (.sheafEnd (BitVec.ofNat 16 id) 0x06 0))

/-- IDs sent that have not ended, with those now armed. -/
def State.armedSent (s : State) : List Nat :=
  (s.unit.mirror.armed.filter fun id => s.sheaves.store.any fun x => x.id = id && x.phase ≠ .done && !x.mirrored) ++
    ((s.armedSheaves.map (·.id)).filter fun id => !s.unit.mirror.armed.contains id)

/-- What of a port's gates is mirrored: banks, list, change time and configuration. -/
def GatePort.mirrored (g : GatePort) : GatePort :=
  { cfg := g.cfg, cfgPend := none, holdSet := g.holdSet, bank0 := g.bank0, bank1 := g.bank1, oper1 := g.oper1, list := g.list, pend := g.pend }

/-- A list state as a number. -/
def ListState.code : ListState → Nat
  | .none => 0 | .running => 1 | .disabled => 2

/-- Items of a port's gates. -/
def State.gateItems (s : State) : List MirItem :=
  let item (p bank : Nat) (g : GatePort) (b : Bank) : MirItem := .gateBank p g.oper1 bank b.n b.lct b.tag b.list
  ([0, 1, 2, 3] : List Nat).flatMap fun p =>
    let g := (s.gate p).mirrored
    let old := mapGet GatePort.dflt s.unit.mirror.gates p
    if g = old then []
    else [item p 0 g g.bank0, item p 1 g g.bank1, .gateList p g.list.code g.pend g.cfg]

/-- The mirrored fields of streams and of cover sets. -/
def State.mirStreams (s : State) : SMap (Option MirStream) :=
  s.streams.table.filterMap fun p =>
    if p.2.entry = streamDefault && p.2.counter = 0 then none else some (p.1, some ⟨p.2.entry, p.2.counter⟩)
def State.mirCovers (s : State) : SMap (Option MirCover) :=
  s.streams.covers.filterMap fun p =>
    if !p.2.enable && p.2.wStart = 0 && p.2.wEnd = 0 then none else some (p.1, some ⟨p.2.enable, p.2.wStart, p.2.wEnd⟩)

/-- Items of streams, cover sets and the rule generation. -/
def State.streamItems (s : State) : List MirItem :=
  let m := s.mirStreams
  let c := s.mirCovers
  ((diffKeys none m s.unit.mirror.streams).flatMap fun n =>
    match mapGet none m n with
    | some x => [.stream n x.entry, .counter n x.counter]
    | none => [.stream n streamDefault, .counter n 0]) ++
  ((diffKeys none c s.unit.mirror.covers).map fun n =>
    match mapGet none c n with
    | some x => .cover n x.enable x.wStart x.wEnd
    | none => .cover n false 0 0) ++
  (if s.rules.genNum = s.unit.mirror.genNum then [] else [.genNum s.rules.genNum s.rules.swappedAt])

/-- The refresh slice: the map and 336 elements in element order (R448). -/
def State.sliceItems (s : State) : List MirItem :=
  .map (connectionMap s.loops.elems s.fabric.failed) ::
    (List.range' (336 * s.unit.slice) 336).map fun e => mirItem e (s.elem e).mirrored

/-- What goes ahead of a hand-back (R460). -/
def State.handbackItems (s : State) : List MirItem :=
  ((s.sheaves.store.filter fun x => x.phase = .staged && !x.mirrored).map fun x => .staged x.words) ++
  s.sheaves.stooks.map fun k =>
    .stook (BitVec.ofNat 16 k.id) k.name k.stop (k.members.map Sheaf.words) (if s.stookRuns k.id then some k.ts else none)

/-- The mirrored state as sent once an epoch has gone. -/
def State.mirrorSent (s : State) : Mirror :=
  { elems := s.mirElems, failed := s.fabric.failed, armed := s.armedSent
    gates := (([0, 1, 2, 3] : List Nat).map fun p => (p, (s.gate p).mirrored)).filter fun p => p.2 ≠ GatePort.dflt
    streams := s.mirStreams, covers := s.mirCovers, genNum := s.rules.genNum }

/-- The items of an epoch leave on ML, each with its bytes. -/
def State.sendItems (epoch : Word) (base : Bool) (items : List MirItem) (s : State) : State :=
  items.foldl (fun t i => t.emit (.mirror (.item epoch base i (Config.mirrorBytes i)))) s

/-! The partner as seen (R439, R443, R453, R458, R462). -/

/-- Unit 0 of the pair is the one with the lower node ID (R438). -/
def State.unitNo (s : State) : Bool := s.unit.pair.paired && decide (s.unit.pair.partner < s.hedge.node)

/-- A baseline is due (R447). -/
def State.wantsBaseline (s : State) : State := if s.inControl then { s with unit.sendBaseline := true } else s

/-- MODE and CONTROL of the partner, from a heartbeat or a keepalive. The unit in control starts a baseline
when its partner enters STANDBY. -/
def State.sawPartner (m : Mode) (control : Bool) (s : State) : State :=
  let s1 := { s with unit.partnerMode := m, unit.partnerControl := control }
  let s2 := if m = .standby && s.unit.partnerMode ≠ .standby then s1.wantsBaseline else s1
  s2.dualCheck

/-- PREF_CONFLICT: both straps or neither (R439); its rise is an event of PARTNER. -/
def State.sawPref (pref : Bool) (s : State) : State :=
  let c := s.unit.pair.paired && pref = s.unit.pref
  let s1 := { s with unit.prefConflict := c }
  if c && !s.unit.prefConflict then s1.raise 169 else s1

/-- Staged sheaves and stooks moved by a hand-back become this unit's own (R460). -/
def State.adoptMoved (s : State) : State :=
  { s with
    sheaves.store := (s.sheaves.store.filter fun x => !(x.phase = .done && s.unit.moved.any fun y => y.id = x.id)) ++ s.unit.moved
    sheaves.stooks := (s.sheaves.stooks.filter fun k => !s.unit.movedStooks.any fun y => y.id = k.id) ++ s.unit.movedStooks
    unit.moved := [], unit.movedStooks := [] }

/-- The last eight of a list of commit records: those of the epochs that can still be held. -/
def lastRecs (l : List CommitRec) : List CommitRec := l.drop (l.length - 8)

/-- GEN_MISMATCH at an epoch boundary at least 20 µs after both swaps (11 R335). -/
def State.genCheck (boundary : Nat) (s : State) : State :=
  if max s.rules.swappedAt s.rules.partnerSwappedAt + 20000 ≤ boundary then
    { s with rules.mismatch := s.unit.pair.paired && s.rules.genNum ≠ s.rules.partnerGen }
  else s

/-- GEN_NUM of the partner as its heartbeat of network time `t` shows it: a swap that was not known took place by
then, and the two are compared at the last epoch boundary before it (11 R335). -/
def State.sawGen (g : Word) (t : Nat) (s : State) : State :=
  let s1 := if g = s.rules.partnerGen then s else { s with rules.partnerGen := g, rules.partnerSwappedAt := t }
  s1.genCheck (t / 250000 * 250000)

/-- A heartbeat of the partner is accepted (R441, R453 D1, R457). -/
def State.partnerHeartbeat (h : Heartbeat) (s0 : State) : State :=
  let s := s0.sawGen h.genNum h.tTx
  let before := s.unit.prevHbControl
  let s1 := { s with
    unit.hbAt := s.up, unit.frameAt := s.up, unit.hbCycles := 0, unit.partnerSeen := true
    unit.prevHbControl := h.control, unit.hbMode := h.mode, unit.ctlCycles := if h.control then 0 else s.unit.ctlCycles, unit.recs := lastRecs (s.unit.recs ++ h.recs) }
  let s2 := (s1.sawPref h.pref).sawPartner h.mode h.control
  let s3 := if h.control then s2.claimed
    else if s2.unit.mode = .standby && before then s2.takeover
    else s2
  if s3.unit.mode = .calibrate && s3.unit.waiting.isSome then s3.roleDecision else s3

/-- Any other frame of the partner on Hedgerow; a COMMIT frame brings commit records. -/
def State.partnerFrame (recs : List CommitRec) (s : State) : State :=
  { s with unit.frameAt := s.up, unit.recs := lastRecs (s.unit.recs ++ recs) }

/-- What the end of a Hedgerow cycle means for the pair (R434, R453 D2 and D4). `heard`: a heartbeat of the
partner was accepted in the cycle. -/
def State.partnerCycle (heard : Bool) (s : State) : State :=
  if !s.unit.pair.paired then s
  else
    let n := if heard then 0 else s.unit.hbCycles + 1
    let none_ := !s.inControl && !(s.unit.partnerControl && (heard || s.unit.mlUp))
    let s1 := { s with unit.hbCycles := n, unit.ctlCycles := min 8 (s.unit.ctlCycles + 1), unit.noControl := if none_ then s.unit.noControl + 1 else 0 }
    let s2 := if n = 3 && s1.unit.mlUp then s1.unSet 4 else s1
    if s2.unit.mode ≠ .standby then s2
    else if 3 ≤ n && !s2.unit.mlUp then s2.takeover
    else if 8 ≤ s2.unit.noControl && (s2.preferred || decide (8 ≤ n)) then s2.takeover
    else s2

/-- The units share a mirror protocol version (R443). -/
def versionsShared (v w : BitVec 16) : Bool := decide (v.toNat ≤ w.toNat + 1) && decide (w.toNat ≤ v.toNat + 1)

/-- The partner's version; a change of what is shared takes effect (R443, R447). -/
def State.sawVersion (v : BitVec 16) (s : State) : State :=
  if v = s.unit.partnerVer then s
  else
    let ok := versionsShared v Config.mirrorVer
    let s1 := { s with unit.partnerVer := v, unit.verOk := ok }
    if !ok && s.unit.verOk then s1.raise 168 else s1.wantsBaseline

/-- A valid frame of the partner on ML: the link is up, and a baseline starts when it comes up (R443, R447). -/
def State.mlHeard (s : State) : State :=
  let s1 := { s with unit.mlUp := true, unit.mlAt := s.up, unit.frameAt := s.up }
  if s.unit.mlUp then s1 else s1.wantsBaseline

/-! READY (R452). -/

/-- The fabric as mirrored. -/
def Mirror.fabric (m : Mirror) : SMap Elem :=
  m.elems.filterMap fun p => p.2.map fun x => (p.1,
    { mode := x.mode, cross := x.cross, target := x.target, rampSlew := x.rampSlew, ff := x.ff
      block := !isGate p.1 && x.mode = .ff && x.target = 0 })

/-- The elements of the path of input `i` in a plane of the mirrored fabric. -/
def Mirror.pathElements (m : Mirror) (f : SMap Elem) (plane i : Nat) : List Nat :=
  match carriedPath f m.failed plane i with
  | some (cs, j) => inVoa plane i :: outVoa plane j :: cs.flatMap fun c => [gateAt plane c.1 c.2.1, gateAt plane c.1 c.2.1 + 1]
  | none => []

/-- Every element of a mirrored connection's path is in LK here, or in a hand-over that runs (R452). -/
def State.pathsLocked (s : State) : Bool :=
  let f := s.unit.mirror.fabric
  ([0, 1] : List Nat).all fun pl => (List.range 512).all fun i =>
    (s.unit.mirror.pathElements f pl i).all fun e => (s.elem e).mode = .lk || (s.elem e).attempt.isSome

/-- READY: R452. -/
def State.readyNow (s : State) : Bool :=
  s.unit.mode = .standby && s.unit.baselineDone && decide (64 ≤ s.unit.cleanEpochs) && s.pathsLocked && !s.anySevere &&
    s.hedge.hstate = .active

/-- READY is found again; the fail-back hold-off starts at its rise (R459). -/
def State.checkReady (s : State) : State :=
  let r := s.readyNow
  if r = s.unit.ready then s
  else { s with unit.ready := r, unit.readySince := if r then s.up else s.unit.readySince, unit.failbackAsked := false }

/-! Epochs received (R446, R448, R451). -/

/-- An entry of the epoch history, of which 64 are kept (R463). -/
def State.logEpoch (x : EpochLog) (s : State) : State := { s with unit.epochs := (x :: s.unit.epochs).take 64 }

/-- An epoch and its commit record are no longer held. -/
def State.dropEpoch (epoch : Word) (s : State) : State :=
  { s with unit.held := s.unit.held.filter (·.epoch ≠ epoch), unit.recs := s.unit.recs.filter (·.epoch ≠ epoch) }

/-- An epoch is discarded whole, and is counted; the mirror is whole again after a baseline (R446, R452). -/
def State.discardEpoch (e : EpochIn) (fate : EpochFate) (digest : BitVec 64) (s : State) : State :=
  { s.dropEpoch e.epoch with unit.discards := min 65535 (s.unit.discards + 1), cycle.discards := s.cycle.discards + 1, unit.baselineDone := false }.logEpoch ⟨e.epoch, e.data.length, digest, fate⟩

/-- A Standby asks for a baseline, once until one opens. -/
def State.askBaseline (s : State) : State :=
  if s.unit.wantBaseline then s else { s with unit.wantBaseline := true }.emit (.mirror .baselineRequest)

/-- An epoch that no frame has yet brought is opened; the Standby holds two. -/
def State.openIn (epoch : Word) (base : Bool) (s : State) : State :=
  if s.unit.held.any (·.epoch = epoch) then s
  else
    let s1 := match s.unit.held with
      | e :: _ :: _ => (s.discardEpoch e .noRecord 0).checkReady
      | _ => s
    { s1 with unit.held := s1.unit.held ++ [({ epoch := epoch, baseline := base } : EpochIn)] }

/-- An item is added to its epoch. -/
def EpochIn.took (i : MirItem) (bs : List Byte) (e : EpochIn) : EpochIn :=
  { e with items := e.items ++ [i], data := e.data ++ bs, close := match i with | .header c _ _ _ => c | _ => e.close }

/-- The pair offset that a header gives, and PAIR_SKEW (R451). -/
def State.pairHeader (close : Nat) (s : State) : State :=
  let o : Int := (s.now : Int) - Config.mirrorLatency - close
  let skew := decide (mag o > 1000)
  let s1 := { s with unit.pairOffset := o, unit.pairSkew := skew }
  if skew && !s.unit.pairSkew then s1.raise 168 else s1

/-- An item arrives at a unit in STANDBY. -/
def State.itemArrived (epoch : Word) (base : Bool) (i : MirItem) (bs : List Byte) (s : State) : State :=
  let s1 := s.openIn epoch base
  let s2 := { s1 with unit.held := s1.unit.held.map fun e => if e.epoch = epoch then e.took i bs else e }
  match i with
  | .header c _ _ _ => s2.pairHeader c
  | _ => s2

/-- The mode that a mirrored record asks of a Standby's element. What LK or FF within a hand-over shows is the
hand-over's own, which each unit makes for its fabric, so that FF at the same state counts as LK but in a baseline; and
HD comes of causes, which are not mirrored, or of a sheaf that is, so that the element takes the rest of the record and
is asked for LK where it is not in FF (05 R158, R450; DEDUCED, log 31). -/
def followed (base : Bool) (x : Elem) (m : MirElem) : ElemMode :=
  match m.mode with
  | .hd => if x.mode = .ff && !x.reqLk then .ff else .lk
  | .ff => if !base && (x.mode = .lk || x.mode = .hd) && x.cross = m.cross then .lk else .ff
  | o => o

/-- The element shows a mirrored record, in the mode `k` that it asks for. -/
def Elem.shows (gate : Bool) (k : ElemMode) (m : MirElem) (x : Elem) : Bool :=
  x.cross = m.cross && (x.group ≠ 0 || (x.target = m.target && x.rampSlew = m.rampSlew)) &&
  (gate || m.ff.isNone || x.ff = m.ff.map fun f => (f.1, 0)) &&
  (match k with
    | .pk => x.mode = .pk
    | .ff => x.mode = .ff
    | _ => x.mode = .lk || x.mode = .hd || x.mode = .ff && x.reqLk)

/-- A mirrored mode record acts on the Standby's own fabric (05 R158): the element takes MODE, STATE, TARGET,
RAMP_SLEW and a VOA's FF code that its own record does not show. It does not where a hold cause other than SHEAF holds
it (05 R140), in a cell that has failed on this unit (03 R98), and where a sheaf that waits changes it. -/
def State.followMirror (base : Bool) (e : Nat) (m : MirElem) (s : State) : State :=
  let x := s.elem e
  let k := fabricCellOf e
  let mode := followed base x m
  if x.heldHard || isGate e && (failedAt s.fabric.failed k.1 k.2.1 k.2.2).isSome || x.shows (isGate e) mode m ||
      s.sheaves.store.any fun y => y.pending && y.changes.any (·.element = e) then s
  else
    let c : Change := { element := e, mode := mode, cross := m.cross, levelValid := false, level := 0, target := m.target, slew := m.rampSlew }
    s.modElem e fun x => x.change c (isGate e) (s.levelFor c) (if isGate e then none else (m.ff.map (·.1))) (handoverOf s.loops e).dwell s.now

/-- The mirrored record of an element is taken. `slice` says that it comes from a refresh slice, where a
difference counts in DIVERGE (R448). -/
def State.takeElement (slice base : Bool) (e : Nat) (m : MirElem) (s : State) : State :=
  let o : Option MirElem := if m = { mode := .pk, cross := false, target := 0, rampSlew := 0, ff := none } then none else some m
  let differs := mapGet none s.unit.mirror.elems e ≠ o
  let s1 := { s with unit.mirror.elems := mapSet none s.unit.mirror.elems e o }.followMirror base e m
  if slice && differs then { s1 with unit.diverge := s1.unit.diverge + 1, unit.cleanEpochs := 0 }.unSet 7 else s1

/-- A catch-up instant (06 R191): the first multiple of 1,000 at least 20 µs ahead that keeps the spacing of
R162 from the sheaves that wait. -/
def State.catchUpAt (s : State) : Nat :=
  let t0 := (s.now + 20999) / 1000 * 1000
  let busy (t : Nat) : Bool := s.sheaves.store.any fun y => y.pending && decide (t < y.instant + 1000) && decide (y.instant < t + 1000)
  (((List.range (2 * s.sheaves.store.length + 1)).map fun i => t0 + 1000 * i).find? fun t => !busy t).getD t0

/-- An armed sheaf of the unit in control is armed on the Standby's own fabric (06 R190, R191). -/
def State.takeArmed (fcq : Option (Nat × Nat)) (ws : List Word) (s : State) : State :=
  let x := { readSheaf ws with mirrored := true, accepted := s.now, submitter := match fcq with | some p => .fcq p.1 p.2 | none => .mailbox }
  if s.sheaves.store.any fun y => y.id = x.id && y.phase ≠ .done then s
  else
    let late := decide (x.instant < s.now + 20000)
    let at_ := if late then s.catchUpAt else x.instant
    let y := { x with instant := at_, detail := if late then 0x20 else 0, basis := (s.earlier at_ x.id).map (·.id) }
    let s1 := { s with sheaves.store := s.sheaves.store.filter (fun z => z.id ≠ x.id) ++ [y] }
    if late then { s1 with unit.catchUps := s1.unit.catchUps + 1 }.emit (.mirror (.caughtUp (BitVec.ofNat 16 x.id))) else s1

/-- A sheaf of the unit in control has ended: one not applied there is not applied here, and one whose
completion was written there is no longer held for a takeover. -/
def State.takeEnd (id outcome detail : Nat) (s : State) : State :=
  let s1 := if 2 ≤ outcome then s.outcome id outcome detail else s
  { s1 with sheaves.store := s1.sheaves.store.map fun x => if x.id = id && x.phase = .done then { x with mirrored := false } else x }

/-- A list state from its number. -/
def ListState.ofCode (n : Nat) : ListState := if n = 1 then .running else if n = 2 then .disabled else .none

/-- A gate bank taken into a port. -/
def GatePort.takeBank (oper1 : Bool) (bank : Nat) (b : Bank) (g : GatePort) : GatePort :=
  if bank = 0 then { g with oper1 := oper1, bank0 := b } else { g with oper1 := oper1, bank1 := b }

/-- What mirrored settings of a port's gates make of them: a changed configuration restarts verification (R271). -/
def GatePort.takeList (up st : Nat) (change : Option (Nat × Bool)) (c : GateCfg) (g : GatePort) : GatePort :=
  let h := { g with list := ListState.ofCode st, pend := change, gates := if st = 1 then g.gates else 0xFF#8, hold := st = 1 && g.hold }
  if g.cfg = c then h
  else { h with cfg := c, cfgPend := none, holdSet := c ≠ GateCfg.dflt, succeeded := false, failed := false, verifying := false
                tries := 0, verifyAt := up, rx := if c.enable then g.rx else none }

/-- A failed cell as mirrored, with its evidence and the time of its declaration (03 R104, R106). -/
def State.takeFailed (plane stage cell : Nat) (entry : Option (FailKind × Evidence × Nat)) (s : State) : State :=
  let others := s.unit.mirror.failed.filter fun f => !(f.plane = plane && f.stage = stage && f.cell = cell)
  { s with unit.mirror.failed := match entry with
      | some k => others ++ [⟨plane, stage, cell, k.1, k.2.1, k.2.2⟩]
      | none => others }

/-- One item of an epoch is applied. -/
def State.applyItem (slice base : Bool) (i : MirItem) (s : State) : State :=
  match i with
  | .header _ _ _ _ => s
  | .element e m x t r f => if e < numElements then s.takeElement slice base e { mode := m, cross := x, target := t, rampSlew := r, ff := f } else s
  | .map l => { s with unit.mirrorMap := l }
  | .failed p st c k => s.takeFailed p st c k
  | .armed f ws => s.takeArmed f ws
  | .sheafEnd id o d => s.takeEnd id.toNat o d
  | .gateBank p o b n lct tg es => s.modGate p (GatePort.takeBank o b { entries := mapSetList default [] 0 es, n := n, lct := lct, tag := tg })
  | .gateList p st ch cfg => s.modGate p (GatePort.takeList s.up st ch cfg)
  | .stream n en => s.modStream n (Stream.replaced s.up en)
  | .counter n v => s.modStream n fun x => { x with counter := v }
  | .cover n en a b =>
    { s with streams.covers := mapMod Cover.dflt s.streams.covers n fun c =>
        if c.enable = en && c.wStart = a && c.wEnd = b then c
        else { enable := en, wStart := a, wEnd := b, state := if en then .pending else .off } }
  | .genNum g t => { s with rules.partnerGen := g, rules.partnerSwappedAt := t }
  | .staged ws => { s with unit.moved := s.unit.moved ++ [readSheaf ws] }
  | .stook id nm st ms run =>
    { s with unit.movedStooks := s.unit.movedStooks ++ [{
        id := id.toNat, name := nm, stop := st, members := ms.map readSheaf, running := run.isSome, ts := run.getD 0 }] }

/-- The items of an epoch in order; those after the map are its refresh slice. -/
def applyItems (base : Bool) : Bool → List MirItem → State → State
  | _, [], s => s
  | slice, i :: is, s =>
    let after := slice || (match i with | .map _ => true | _ => false)
    applyItems base after is (s.applyItem slice base i)

/-- The position of the rolling refresh in an epoch's header. -/
def EpochIn.refresh (e : EpochIn) : Option Nat :=
  match e.items.head? with
  | some (.header _ _ _ r) => some r
  | _ => none

/-- The epoch opens a baseline: it is part of one, with the first slice. -/
def EpochIn.opens (e : EpochIn) : Bool := e.baseline && e.refresh = some 0

/-- What the opening epoch of a baseline brings anew. -/
def bringsGates (l : List MirItem) (p : Nat) : Bool := l.any fun i => match i with | .gateList q _ _ _ => q = p | _ => false
def bringsStream (l : List MirItem) (n : Nat) : Bool := l.any fun i => match i with | .stream m _ => m = n | _ => false
def bringsCover (l : List MirItem) (n : Nat) : Bool := l.any fun i => match i with | .cover m _ _ _ => m = n | _ => false

/-- The state of a Standby as a baseline opens (R447): what its first epoch, with the items of `l`, does not bring
is that of a unit on which nothing has been set. -/
def State.clearMirror (l : List MirItem) (s : State) : State :=
  { s with
    unit.mirror := {}, unit.baselineDone := false, unit.moved := [], unit.movedStooks := []
    gates.port := mapListed GatePort.dflt (fun p g => if bringsGates l p then g
      else { g.takeList s.up 0 none GateCfg.dflt with bank0 := {}, bank1 := {}, oper1 := false }) s.gates.port
    streams.table := mapListed Stream.dflt (fun n x => if bringsStream l n then x
      else { x.replaced s.up streamDefault with counter := 0 }) s.streams.table
    streams.covers := s.streams.covers.filter fun q => bringsCover l q.1 }

/-- An epoch is applied. -/
def State.applyEpoch (e : EpochIn) (digest : BitVec 64) (s : State) : State :=
  let s0 := if e.opens then s.clearMirror e.items else s
  let s1 := applyItems e.baseline false e.items { s0 with unit.cleanEpochs := min 64 (s0.unit.cleanEpochs + 1) }
  let s2 := { s1.dropEpoch e.epoch with
    unit.applied := some e.epoch, unit.appliedClose := e.close
    unit.wantBaseline := s1.unit.wantBaseline && !e.opens
    unit.baselineDone := s1.unit.baselineDone || (e.baseline && e.refresh = some 63) }
  ((s2.refreshMap.logEpoch ⟨e.epoch, e.data.length, digest, .applied⟩).genCheck e.close).checkReady

/-! Hand-back (R459-R461). -/

/-- The span of a sheaf, from I − 2 µs to its horizon (06 R172). -/
def State.spanOf (s : State) (x : Sheaf) : Nat × Nat :=
  (x.instant - 2000, x.instant + 10000 + (x.changes.map fun c => (handoverOf s.loops c.element).dwell).foldl max 0)

/-- A time lies in no span of a sheaf that is not done. -/
def State.clearOfSheaves (s : State) (t : Nat) : Bool :=
  s.sheaves.store.all fun x => x.phase = .done || decide (t < (s.spanOf x).1) || decide ((s.spanOf x).2 < t)

/-- The first schedule boundary from a time on, or the first multiple of 1 ms where there is no cycle. -/
def State.boundaryFrom (s : State) (t : Nat) : Nat :=
  if s.tb.cycleValid && s.tb.cycleC ≠ 0 then
    let b : Int := s.tb.cycleB + s.tb.shiftS
    (b + (((t : Int) - b + s.tb.cycleC - 1) / s.tb.cycleC) * (s.tb.cycleC : Int)).toNat
  else (t + 999999) / 1000000 * 1000000

/-- Candidates for T_hb: the first boundary at least 2 ms ahead, and the first after each span that ends later. The
first boundary in no span is one of them. -/
def State.handbackTimes (s : State) : List Nat :=
  let from_ := s.now + 2000000
  s.boundaryFrom from_ :: (s.sheaves.store.filter fun x => x.phase ≠ .done).map fun x => s.boundaryFrom (max from_ ((s.spanOf x).2 + 1))

/-- The unit in control chooses T_hb and announces it. -/
def State.startHandback (s : State) : State :=
  match (s.handbackTimes.filter s.clearOfSheaves).min? with
  | some t => { s with unit.handbackAt := some t, unit.handback := .pending }.emit (.mirror (.handback t))
  | none => s

/-- The COUNTER value of every stream. -/
def State.counterValues (s : State) : List (Nat × Nat) := s.streams.table.map fun p => (p.1, p.2.counter)

end Sys2Proof.Machine
end

