-- ==== Sys2Proof/Machine/HedgeRows.lean ====
section
/-! DEFINITION. The Hedgerow node: sending, receiving, its cycle and the HEDGE commands: 14_hedgerow
R402-R437. Stamps of received frames are network times in 1/16 ns. -/
namespace Sys2Proof.Machine

/-- θ at a network time in 1/16 ns. -/
def State.thetaAt (s : State) (t16 : Int) : Int :=
  s.hedge.theta + roundDiv (s.hedge.rate * (t16 - 16 * (s.hedge.thetaAt : Int))) (10 ^ 12)

/-- The shelf schedule time less P of a network time, both in 1/16 ns (R405). -/
def State.shelfTime (s : State) (t16 : Int) : Int := t16 + s.thetaAt t16 - 16 * s.hedge.shift - 16 * s.hedge.phase

/-- The part of the current cycle that has passed, in ns. -/
def State.inCycleNs (s : State) : Int := s.cyclePhase / 16

/-- This moment lies in static slot `slot`. -/
def State.inSlot (s : State) (slot : Nat) : Bool :=
  decide (4000 * (slot : Int) ≤ s.inCycleNs) && decide (s.inCycleNs < 4000 * ((slot : Int) + 1))

/-- A frame of the node has gone out for this FRAME_ID in this cycle. -/
def Hedge.hasSent (h : Hedge) (frameId : Nat) : Bool := h.sent.any fun f => f.frameId = frameId

/-- It has gone out on a channel. -/
def Hedge.hasSentOn (h : Hedge) (chanB : Bool) (frameId : Nat) : Bool :=
  h.sent.any fun f => f.frameId = frameId && (if chanB then f.onB else f.onA)

/-! Sending. -/

/-- The heartbeat of this moment (R414), with commit records. -/
def State.heartbeat (recs : List CommitRec) (s : State) : Heartbeat :=
  let paired := s.unit.pair.paired
  { tTx := s.now, phase := s.hedge.phase, mode := s.unit.mode, control := s.inControl, pref := s.unit.pref
    unit := s.unitNo, paired := paired, hstate := s.hedge.hstate.code, source := s.tb.source
    stepped := s.tb.stepped, locked := s.tb.locked, severe := s.anySevere
    partner := if paired then s.unit.pair.partner else 0
    epoch := if !paired then 0 else if s.inControl then s.unit.committed else s.unit.applied.getD 0
    genNum := s.rules.genNum, recs := recs }

/-- Commit records leave the queue. -/
def State.takeCommits (n : Nat) (s : State) : State := { s with hedge.commits := s.hedge.commits.drop n }

/-- HEDGEROW_SLOT_SEND (R413). A node sends in an owned static slot, once a cycle: its heartbeat, commit records, or
NULL. -/
def execHedgerowSlotSend (slot : Nat) (s : State) : Host.Outcome State Fault Refusal :=
  .next <|
    let h := s.hedge
    if !(h.hstate = .coldstart || h.hstate = .active) || !h.cfg.ownsSlot h.node slot || decide (h.cfg.ns ≤ slot) || !s.inSlot slot || h.hasSent slot then s
    else if slot = h.node then (s.hedgeSend slot (.heartbeat (s.heartbeat (h.commits.take 2)))).takeCommits 2
    else if h.commits = [] then s.hedgeSend slot .null
    else (s.hedgeSend slot (.commit (h.commits.take 4))).takeCommits 4

/-- A frame of `n` octets for a frame ID can start on a channel in minislot `m`: the counter of the channel meets the
frame ID there, no frame of it has gone out on the channel in this cycle, and its end lies 500 ns before that of the
segment (R416). -/
def Hedge.fitsMinislot (h : Hedge) (chanB : Bool) (frameId m n : Nat) : Bool :=
  h.sends chanB && decide (1 ≤ m) && decide (m ≤ h.cfg.nm) && decide ((h.chan chanB).holdTo ≤ m) &&
  decide ((h.chan chanB).counter m = frameId) && !h.hasSentOn chanB (31 + frameId) &&
  decide (1000 * (m - 1) + (9 * n + 7) * 5 + 500 ≤ 1000 * h.cfg.nm)

/-- NOTICE_SEND (R416). A node sends a notice in an owned dynamic frame, in minislot `minislot`, on each channel whose
counter meets the frame ID there (R416, R417). A notice that has gone out on one channel goes out on the other from the
same frame. -/
def execNoticeSend (frameId minislot : Nat) (s : State) : Host.Outcome State Fault Refusal :=
  .next <|
    let h := s.hedge
    let at_ : Int := 1000 * (4 * h.cfg.ns + minislot - 1 : Nat)
    let again := (h.sent.find? fun f => f.frameId = 31 + frameId).map (·.bytes)
    let first := h.queue.head?.map fun n => h.octets (31 + frameId) (.notice n)
    if !(h.hstate = .active && s.inControl && h.cfg.ownsFrame h.node frameId && decide (at_ ≤ s.inCycleNs) &&
        decide (s.inCycleNs < at_ + 1000)) then s
    else match again.or first with
      | none => s
      | some bs =>
        let a := h.fitsMinislot false frameId minislot bs.length
        let b := h.fitsMinislot true frameId minislot bs.length
        if !(a || b) then s
        else
          let s1 := { s with
            hedge.queue := if again.isSome then h.queue else h.queue.drop 1
            hedge.a := if a then h.a.holds minislot bs.length else h.a
            hedge.b := if b then h.b.holds minislot bs.length else h.b }
          s1.sendOn a b (31 + frameId) bs

/-! Receiving (R411, R412, R418, R420, R422, R423, R425, R433). -/

/-- The channel delay. -/
def HedgeCfg.delay (c : HedgeCfg) (chanB : Bool) : Nat := if chanB then c.dB else c.dA

/-- Δ of a frame in 1/16 ns: in a static slot against its start, in the dynamic segment against the nearest
minislot start (DEDUCED, log 30). -/
def State.frameDelta (slot : Nat) (chanB : Bool) (stamp : Int) (s : State) : Int :=
  let x := s.shelfTime stamp - 16 * s.hedge.cfg.delay chanB
  if slot < 32 then
    let h : Int := 16 * (s.hNs : Nat)
    (x - 64000 * slot + h / 2) % h - h / 2
  else (x + 8000) % 16000 - 8000

/-- A value of a SYNC heartbeat of another node (R425). -/
def State.measureSync (chanB : Bool) (node : Nat) (body : HedgeBody) (stamp : Int) (s : State) : State :=
  let s1 := { s with hedge.syncNodes := if s.hedge.syncNodes.contains node then s.hedge.syncNodes else node :: s.hedge.syncNodes }
  match body with
  | .heartbeat h =>
    let v : SyncValue := ⟨node, stamp - 16 * s.hedge.cfg.delay chanB - 16 * h.tTx, h.tTx⟩
    { s1 with hedge.values := addValue v s1.hedge.values }
  | _ => s1

/-- A notice joins the ring of the last 64 (R418). -/
def State.ringNotice (node : Nat) (n : Notice) (stamp : Int) (s : State) : State :=
  { s with
    hedge.nextNotice := s.hedge.nextNotice + 1
    hedge.ring := (s.hedge.ring ++ [({ sender := node, seq := s.hedge.nextNotice + 1, time := (stamp / 16).toNat, notice := n } : HeardNotice)]).drop
      (s.hedge.ring.length + 1 - 64) }

/-- The content of an accepted frame of another node. -/
def State.takeContent (node : Nat) (body : HedgeBody) (stamp : Int) (s : State) : State :=
  let partner := s.unit.pair.paired && node = s.unit.pair.partner
  match body with
  | .heartbeat h =>
    let s1 := { s with
      hedge.heard := mapSet none s.hedge.heard node (some (h, s.hedge.cycle % 64))
      hedge.heardNow := if s.hedge.heardNow.contains node then s.hedge.heardNow else node :: s.hedge.heardNow
      hedge.missed := mapSet 0 s.hedge.missed node 0 }
    if partner then s1.partnerHeartbeat h else s1
  | .commit recs => if partner then s.partnerFrame recs else s
  | .notice n => (if partner then s.partnerFrame [] else s).ringNotice node n stamp
  | _ => if partner then s.partnerFrame [] else s

/-- The copies of HA and HB: content is taken once, from HA where their payloads differ (R412). -/
def State.takeCopy (chanB : Bool) (slot node : Nat) (payload : List Byte) (body : HedgeBody) (stamp : Int) (s : State) : State :=
  let first := s.hedge.last.filter fun p => p.1 = slot
  let s1 := { s with hedge.last := some (slot, payload) }
  match first with
  | none => s1.takeContent node body stamp
  | some p =>
    if p.2 = payload then s1
    else
      let s2 := s1.countHedge 7 false
      if chanB then { s2 with hedge.last := s.hedge.last } else s2.takeContent node body stamp

/-- A frame is accepted on a channel. -/
def State.accepted (chanB sync : Bool) (s : State) : State :=
  let s1 := { s with hedge.frameNow := true }.countHedge 0 chanB
  if sync then s1.modChan chanB fun c => { c with syncNow := true } else s1

/-- A COLDSTART node aborts to LISTEN (R422). -/
def State.coldAbort (s : State) : State := (s.listen).countHedge 9 false

/-- A node adopts the shelf from a heartbeat (R423): P, the cycle count and θ. Where its source is HEDGE and STEPPED is 0
it makes its single step to shelf time (02 R59): the step takes θ to 0 on its tick, and the slots keep their places. -/
def State.integrate (h : Heartbeat) (cycle d : Nat) (stamp : Int) (s : State) : State :=
  let off : Int := 16 * ((h.tTx : Int) + d) - stamp
  let step := !s.stepTaken && s.stepsBy .hedge
  let s1 := if step then
      { s.measurement .hedge 0 0 (BitVec.ofInt 96 ((s.tb.counter.toNat : Int) + off * 2 ^ 28)) with tb.loadKeeps := true }
    else s
  let s2 := { s1 with
    hedge := { s1.hedge.cleared with
      hstate := .integrating, phase := h.phase, cycle := cycle, theta := off, shift := s1.tb.shiftS
      thetaAt := s1.now, rate := 0, whole := false, consistent := 0, prevValues := [], noSync := 0, noFrame := 0 } }
  { s2 with hedge.start16 := s2.cycleStartNow, hedge.incrs := (s2.tb.incr, s2.tb.incr) }

/-- A valid frame in LISTEN or COLDSTART: a startup or sync frame of another node aborts COLDSTART, and a
heartbeat with SYNC or STARTUP starts integration, and is accepted by the schedule that it gives. -/
def State.foundShelf (chanB : Bool) (slot : Nat) (x : HedgeHead) (body : HedgeBody) (stamp : Int) (s : State) : State :=
  if !(x.sync || x.startup) then s
  else
    let s1 := if s.hedge.hstate = .coldstart then s.coldAbort else s
    match body with
    | .heartbeat h =>
      ((s1.integrate h x.cycle (s.hedge.cfg.delay chanB) stamp).accepted chanB x.sync).takeCopy chanB slot x.node x.payload body stamp
    | _ => s1

/-- A frame whose read-back on a channel has come. -/
def SentFrame.came (chanB : Bool) (f : SentFrame) : SentFrame := if chanB then { f with readB := true } else { f with readA := true }

/-- A frame of the node itself comes back on a channel (R433): valid and accepted, and as it was sent, or not. -/
def State.ownFrame (chanB ok sync : Bool) (frameId : Nat) (bytes : List Byte) (s : State) : State :=
  let same := ok && s.hedge.sent.any fun f => f.frameId = frameId && f.bytes = bytes
  let s1 := { s with hedge.sent := s.hedge.sent.map fun (f : SentFrame) =>
      if f.frameId = frameId then f.came chanB else f }
  (if ok then s1.accepted chanB sync else s1).readBack chanB same

/-- A read-back of the node is awaited in a slot on a channel. -/
def Hedge.awaits (h : Hedge) (chanB : Bool) (slot : Nat) : Bool :=
  h.sent.any fun f => f.frameId = slot && !(if chanB then f.readB else f.readA)

/-- The number of the counter of the first check of R411 that a frame fails. The slot and cycle of arrival are
known to a node that keeps a cycle. -/
def Hedge.frameFault (h : Hedge) (placed : Bool) (slot : Nat) (bs : List Byte) : Option Nat :=
  let x := readHead bs
  if !lenMatches bs then some 3
  else if !crcMatches bs then some 2
  else if x.cfgId ≠ h.cfg.cfgId then some 4
  else if placed && (x.frameId ≠ slot || x.cycle ≠ h.cycle % 64) then some 3
  else if decide (x.frameId < 16) && x.node ≠ x.frameId then some 3
  else none

/-- The minislot in which a frame starts, by its stamp on a channel (R416). -/
def State.minislotOf (chanB : Bool) (stamp : Int) (s : State) : Nat :=
  let x := (s.shelfTime stamp - 16 * s.hedge.cfg.delay chanB) % (16 * max 1 s.hNs : Nat)
  ((x / 16 - 4000 * s.hedge.cfg.ns + 500) / 1000 + 1).toNat

/-- The place of a frame that arrives: its static slot, or 31 plus the minislot counter of the channel where it starts
(R411, R416). -/
def State.placeOf (chanB : Bool) (slot : Nat) (stamp : Int) (s : State) : Nat :=
  if slot < 32 then slot else 31 + (s.hedge.chan chanB).counter (s.minislotOf chanB stamp)

/-- A frame in the dynamic segment holds the minislot counter of its channel (R416). -/
def State.heldBy (chanB : Bool) (slot n : Nat) (stamp : Int) (s : State) : State :=
  if slot < 32 then s else s.modChan chanB (Chan.holds (s.minislotOf chanB stamp) n)

/-- A frame on a channel that the node reads. -/
def State.hedgeFrame (chanB : Bool) (slot : Nat) (rx : HedgeRx) (stamp : Int) (s : State) : State :=
  let h := s.hedge
  let place := s.placeOf chanB slot stamp
  let own := h.awaits chanB place
  let cold := h.hstate = .coldstart && decide (slot < 32)
  match rx with
  | .undecodable =>
    let s1 := s.countHedge 1 chanB
    let s2 := if own then s1.ownFrame chanB false false place [] else s1
    if cold then s2.coldAbort else s2
  | .frame bs =>
    let placed := h.hstate = .integrating || h.hstate = .active || h.hstate = .passive || own
    let s0 := s.heldBy chanB slot bs.length stamp
    match h.frameFault placed place bs with
    | some i =>
      let s1 := s0.countHedge i chanB
      let s2 := if own then s1.ownFrame chanB false false place bs else s1
      if cold then s2.coldAbort else s2
    | none =>
      let x := readHead bs
      let body := readBody bs
      if !placed then s0.foundShelf chanB place x body stamp
      else
        let dt : Int := mag (s.frameDelta slot chanB stamp)
        let fits := decide (dt ≤ 16 * h.cfg.pw)
        let s1 := if fits then s0 else s0.countHedge 5 chanB
        if own then s1.ownFrame chanB fits x.sync place bs
        else
          let s2 := if x.sync && x.node ≠ h.node && decide (dt ≤ 32000) then s1.measureSync chanB x.node body stamp else s1
          if fits then (s2.accepted chanB x.sync).takeCopy chanB place x.node x.payload body stamp else s2

/-- HEDGEROW_FRAME_RECEIVED (R411). A frame in static slot `slot`, or in the dynamic segment where `slot` is 32 or more.
`elapsedPs` places its time-stamp point against the last tick (R402, 02 R553). -/
def execHedgerowFrameReceived (chanB : Bool) (slot : Nat) (rx : HedgeRx) (elapsedPs : Int) (s : State) : Host.Outcome State Fault Refusal :=
  .next <|
    if s.hedge.hstate = .off || !(if chanB then s.hedge.cfg.chanB else s.hedge.cfg.chanA) then s
    else s.hedgeFrame chanB slot rx ((s.captureAt elapsedPs : Int) * 16 / 2 ^ 32)

/-! Start-up (R420, R421). -/

/-- LISTEN_TIMEOUT (R420). The listen timeout of a coldstart node: it enters COLDSTART with its key slot at this
moment. -/
def execListenTimeout (s : State) : Host.Outcome State Fault Refusal :=
  .next <|
    let h := s.hedge
    if h.hstate = .listen && h.coldNode && decide (h.listenAt ≤ s.up) then
      { s with hedge := { h.cleared with
          hstate := .coldstart, theta := 0, thetaAt := s.now, rate := 0, cycle := 0, noSync := 0, noFrame := 0, shift := s.tb.shiftS
          phase := (((s.now : Int) - s.tb.shiftS - 4000 * (h.node : Int)) % ((max 1 s.hNs : Nat) : Int)).toNat
          start16 := 16 * ((s.now : Int) - 4000 * (h.node : Int)), incrs := (s.tb.incr, s.tb.incr) } }
    else s

/-! Synchronisation (R426-R430). -/

/-- HEDGEROW_MIDPOINT (R426). After the last static slot the midpoint of the cycle's values is formed. -/
def execHedgerowMidpoint (s : State) : Host.Outcome State Fault Refusal :=
  .next <|
    let h := s.hedge
    if !h.cycling || h.midDone || !s.pastInCycle (4 * h.cfg.ns) then s
    else
      let l := h.counted.map (·.o)
      let m := midpoint l
      let s1 := { s with
        hedge.mid := m, hedge.midDone := true, hedge.lastN := l.length, hedge.lastK := discardsOf l.length
        hedge.lastO := m.getD h.lastO }
      if 8 < h.syncNodes.length + (if h.isSync then 1 else 0) then s1.countHedge 12 false else s1

/-- The cumulative shift that the Hedgerow cycle takes in this NIT: that of the common boundary nearest to it, with a step
decided for one that lies ahead by less than half a cycle (02 R66, R407; DEDUCED, log 30). -/
def State.nitShift (s : State) : Int :=
  match s.nextCommon with
  | some t => s.tb.shiftS + (if t ≤ s.now + s.hNs / 2 then s.tb.dNext.getD 0 else 0)
  | none => s.tb.shiftS

/-- o of the cycle passes to the servo as a measurement of source HEDGE (R427, R429). A coldstart node that has not made
its single step makes it at its entry into ACTIVE (R421). -/
def State.hedgeMeasure (o rEst : Int) (s : State) : State :=
  if s.hedge.hstate = .passive || (s.hedge.hstate = .coldstart && !s.tb.stepped) then s
  else s.applyPtp.measurement .hedge o rEst (BitVec.ofInt 96 ((s.tb.counter.toNat : Int) - o * 2 ^ 28))

/-- HEDGEROW_CORRECTION (R427). 1 µs into the NIT θ is corrected by the slot error at the end of the static segment, a
shift step of the schedule cycle takes effect on the Hedgerow cycle, and o passes to the servo of a node with source
HEDGE. -/
def execHedgerowCorrection (s : State) : Host.Outcome State Fault Refusal :=
  .next <|
    let h := s.hedge
    if !h.cycling || !h.midDone || h.corrected || !s.pastInCycle (4 * h.cfg.ns + h.cfg.nm + 1) then s
    else
      let s0 := { s with hedge.corrected := true, hedge.shift := s.nitShift }
      match h.mid with
      | none => s0
      | some o =>
        let e := o + s.thetaAt (h.start16 + 64000 * h.cfg.ns)
        let s1 := { s0 with hedge.theta := -o, hedge.thetaAt := s.now, hedge.eps := e }
        let s2 := if h.hstate = .active && decide (mag e > 24000) then s1.goPassive else s1
        s2.hedgeMeasure o h.rEst

/-- The rate limit of R430, in 10^-12. -/
def rateLimit : Int := 200000000

/-- The rate update of an odd cycle (R428), with whether the rate was within its limit (R430). -/
def State.rateUpdate (s : State) : State :=
  let h := s.hedge
  let l := (if h.isSync then [0] else []) ++ rateValues h.prevValues h.counted
  match (if h.cycle % 2 = 1 then midpoint l else none) with
  | none => s
  | some r =>
    let ok := decide (mag (r + h.rate) ≤ rateLimit)
    let rin := roundDiv (incrRate h.incrs.1 + incrRate h.incrs.2) 2
    let s1 := { s.foldTheta with hedge.rate := -r, hedge.rho := r, hedge.rEst := r - rin, hedge.rateOk := ok }
    if h.hstate = .active && !ok then s1.goPassive else s1

/-- Missed heartbeats of other nodes (R434): of those heard since the start, and of the partner. -/
def State.missedHeartbeats (s : State) : State :=
  let known := (s.hedge.heard.map (·.1)) ++
    (if s.unit.pair.paired && !(s.hedge.heard.any fun p => p.1 = s.unit.pair.partner) then [s.unit.pair.partner] else [])
  (known.filter fun n => !s.hedge.heardNow.contains n).foldl (fun t n =>
    { t with hedge.missed := mapMod 0 t.hedge.missed n (· + 1) }.countHedge 8 false) s

/-- What a channel notes at the end of a cycle (R432). -/
def Chan.ended (c : Chan) : Chan := { c with syncRun := if c.syncNow then min 4 (c.syncRun + 1) else 0, syncNow := false }

/-- The cycle was consistent (R423, R430): |ε| within PW. -/
def Hedge.consistentNow (h : Hedge) : Bool := h.corrected && h.mid.isSome && decide (mag h.eps ≤ 16 * h.cfg.pw)

/-- A node enters ACTIVE. -/
def State.enterActive (s : State) : State := { s with hedge.hstate := .active, hedge.consistent := 0, hedge.noSync := 0, hedge.noFrame := 0 }

/-- The single step as a step of zero of a coldstart node with source HEDGE (R421, 02 R59). -/
def State.zeroStep (s : State) : State := if s.stepTaken then s else s.measurement .hedge 0 0 s.tb.counter

/-- Start-up, return and loss at the end of a cycle (R421, R423, R430, R431). -/
def State.cycleState (s : State) : State :=
  let h := s.hedge
  match h.hstate with
  | .coldstart => if 2 ≤ h.cycle then s.enterActive.zeroStep else s
  | .integrating =>
    if !h.whole then { s with hedge.whole := true }
    else if h.values = [] || !h.consistentNow then s.listen
    else if 1 ≤ h.consistent then s.enterActive
    else { s with hedge.consistent := h.consistent + 1 }
  | .active => if (8 ≤ h.noSync && !h.isSync) || 8 ≤ h.noFrame then s.syncLost else s
  | .passive =>
    if 8 ≤ h.noSync then s.listen
    else if !(h.consistentNow && h.rateOk) then { s with hedge.consistent := 0 }
    else if 1 ≤ h.consistent then s.enterActive
    else { s with hedge.consistent := h.consistent + 1 }
  | _ => s

/-- The next cycle opens. -/
def State.nextCycle (s : State) : State :=
  let h := s.hedge
  { s with
    hedge := { h.cleared with
      cycle := h.cycle + 1, start16 := s.cycleStartNow, prevValues := h.counted, incrs := (h.incrs.2, s.tb.incr) } }

/-- HEDGEROW_CYCLE_END: R428. -/
def execHedgerowCycleEnd (s : State) : Host.Outcome State Fault Refusal :=
  .next <|
    if !s.hedge.cycling || decide (s.cycleStartNow - s.hedge.start16 < 8 * (s.hNs : Nat)) then s
    else
      let was := s.hedge.integrated
      let heard := s.hedge.heardNow.contains s.unit.pair.partner
      let s1 := s.unread.missedHeartbeats
      let r := s1.rateUpdate
      let h := r.hedge
      let s2 := { r with hedge := { h with
        a := h.a.ended, b := h.b.ended
        noSync := if h.values = [] then h.noSync + 1 else 0, noFrame := if h.frameNow then 0 else h.noFrame + 1 } }
      let s3 := s2.cycleState.checkIntegrated was
      let s4 := if s3.hedge.cycling then s3.nextCycle else s3
      let s5 := if s4.tb.cycleC = 0 && s4.hedgeUp then s4.applyAtCommon else s4
      s5.partnerCycle heard

/-! HEDGE commands (R436). -/

/-- The fields of a configuration. -/
def HedgeCfg.fields (c : HedgeCfg) : List Int :=
  [(c.hUs : Int), c.ns, c.nm, c.pw, c.dA, c.dB, c.tenLead, b2i c.syncNode, (c.cfgId.toNat : Int), b2i c.chanA, b2i c.chanB]
    ++ (c.slots ++ c.frameIds).flatMap fun p => [(p.1 : Int), (p.2 : Int)]

/-- What HEDGE_GET_STATUS returns of a node's last heartbeat. -/
def Heartbeat.fields (h : Heartbeat) : List Int :=
  [(h.tTx : Int), h.phase, h.mode.code, b2i h.control, b2i h.pref, b2i h.unit, b2i h.paired, h.hstate, h.source.code
   , b2i h.stepped, b2i h.locked, b2i h.severe, h.partner, (h.epoch.toNat : Int), (h.genNum.toNat : Int)]

/-- HEDGE_GET_STATUS (R436): returns Hedgerow state, synchronisation values and per-node heartbeats. -/
def execHedgeGetStatus (tag : Tag) (s : State) : Host.Outcome State Fault Refusal :=
  .next <| s.query tag 0x0B01 (some 0) fun s =>
    let h := s.hedge
    Reply.ok ([(h.hstate.code : Int), b2i (h.integratedOn false), b2i (h.integratedOn true), h.cycle, h.phase, s.thetaNow, h.lastO, h.eps
      , h.rho, h.lastN, h.lastK, b2i h.a.held, b2i h.b.held] ++
      (h.heard.flatMap fun p => match p.2 with
        | some (x, c) => (p.1 : Int) :: (c : Int) :: x.fields
        | none => []))

/-- Each number appears once among the first components. -/
def distinctKeys (l : List (Nat × Nat)) : Bool := !hasDup (l.map (·.1))

/-- The ranges of a configuration (R404, R413, R415, R416). -/
def State.hedgeCfgOk (s : State) (c : HedgeCfg) : Bool :=
  decide (100 ≤ c.hUs) && decide (c.hUs ≤ 1000) && decide (16 ≤ c.ns) && decide (c.ns ≤ 32) && decide (c.nm ≤ 800) &&
  decide (4 * c.ns + c.nm + 10 ≤ c.hUs) && decide (50 ≤ c.pw) && decide (c.pw ≤ 500) && decide (c.dA ≤ 2000) &&
  decide (c.dB ≤ 2000) && decide (c.tenLead ≤ 100) &&
  (c.slots.all fun p => decide (16 ≤ p.1) && decide (p.1 < c.ns) && decide (p.2 < 16)) && distinctKeys c.slots &&
  (c.frameIds.all fun p => decide (1 ≤ p.1) && decide (p.1 ≤ 800) && decide (p.2 < 16)) && distinctKeys c.frameIds &&
  ((List.range 16).all fun n => decide ((c.frameIds.filter fun p => p.2 = n).length ≤ 4)) &&
  !(decide (500 ≤ c.hUs) && s.unit.pair.paired && !((List.range' 16 (c.ns - 16)).any (c.ownsSlot s.hedge.node)))

/-- HEDGE_SET_CONFIG (R436): writes the pending Hedgerow configuration. -/
def execHedgeSetConfig (tag : Tag) (cfg : HedgeCfg) (s : State) : Host.Outcome State Fault Refusal :=
  .next <| s.serve tag 0x0B02 false none fun s =>
    if s.hedgeCfgOk cfg then ({ s with hedge.pend := cfg }, Reply.done) else refuse s .outOfRange

/-- HEDGE_GET_CONFIG (R436): returns the configuration in force and pending. -/
def execHedgeGetConfig (tag : Tag) (s : State) : Host.Outcome State Fault Refusal :=
  .next <| s.query tag 0x0B03 (some 0) fun s => Reply.ok (s.hedge.cfg.fields ++ s.hedge.pend.fields)

/-- HEDGE_SAVE_CONFIG (R436): saves the pending configuration to flash. -/
def execHedgeSaveConfig (tag : Tag) (s : State) : Host.Outcome State Fault Refusal :=
  .next <| s.serve tag 0x0B04 false (some 0) fun s => s.userSave 0x0B fun s => { s with hedge.saved := some s.hedge.pend }

/-- The node stops, takes the pending configuration, restores its channels and listens. -/
def Hedge.restart (up : Nat) (h : Hedge) : Hedge :=
  Hedge.listening up { h with cfg := h.pend, a := { h.a with held := false, failures := 0 }, b := { h.b with held := false, failures := 0 } }

/-- HEDGE_RESTART (R436): stops sending, applies the pending configuration, restores held channels and enters LISTEN.
-/
def execHedgeRestart (tag : Tag) (force : Bool) (s : State) : Host.Outcome State Fault Refusal :=
  .next <| s.serve tag 0x0B05 false none fun s =>
    if s.inControl && !force then refuse s .notPermitted
    else if s.hedge.hstate = .off then
      ({ s with
        hedge.cfg := s.hedge.pend, hedge.a.held := false, hedge.a.failures := 0, hedge.b.held := false, hedge.b.failures := 0 },
        Reply.done)
    else (({ s with hedge := s.hedge.restart s.up }.checkIntegrated s.hedge.integrated).settleCommon, Reply.done)

/-- HEDGE_GET_STATS (R435): returns and restarts Hedgerow counters. -/
def execHedgeGetStats (tag : Tag) (s : State) : Host.Outcome State Fault Refusal :=
  .next <| s.serve tag 0x0B06 true (some 0) fun s =>
    ({ s with hedge.ctr := [] }, Reply.ok ((s.now : Int) :: (mapRead 0 s.hedge.ctr 0 28).map fun (n : Nat) => (n : Int)))

/-- HEDGE_SET_NOTICE (R417): sets the notice policy. -/
def execHedgeSetNotice (tag : Tag) (policy : Nat) (s : State) : Host.Outcome State Fault Refusal :=
  .next <| s.serve tag 0x0B07 false none fun s =>
    if policy ≤ 3 then ({ s with hedge.policy := policy }, Reply.done) else refuse s .outOfRange

/-- HEDGE_GET_NOTICES (R418). The notices after a sequence number; the first notice has number 1. -/
def execHedgeGetNotices (tag : Tag) (seq : Nat) (s : State) : Host.Outcome State Fault Refusal :=
  .next <| s.query tag 0x0B08 none fun s =>
    if s.hedge.nextNotice < seq then Reply.no .outOfRange
    else Reply.ok ((s.hedge.ring.filter fun n => decide (seq < n.seq)).flatMap fun n =>
      [(n.sender : Int), n.seq, n.time, n.notice.instant, (n.notice.sheafId.toNat : Int), (n.notice.stookId.toNat : Int), n.notice.kind
       , (n.notice.outcome.toNat : Int), (n.notice.hostTag.toNat : Int)])

end Sys2Proof.Machine
end

