-- ==== Sys2Proof/Machine/UnitRows.lean ====
section
/-! DEFINITION. The mirror link, epochs, PARTNER_ALIVE, hand-back, the registers of the unit role block that act,
and the UNIT commands: 15_unit_redundancy R438-R463. -/
namespace Sys2Proof.Machine

/-! The mirror link (R443). -/

/-- ML_KEEPALIVE_SEND (R443). A keepalive states MODE, CONTROL, READY and the protocol version. -/
def execMlKeepaliveSend (s : State) : Host.Outcome State Fault Refusal :=
  .next <|
    if s.unit.pair.paired && s.ident.fwReady && (s.power.sleep = .none || s.power.sleep = .answered) then
      { s with unit.keepaliveAt := s.up }.emit (.mirror (.keepalive s.unit.mode s.inControl s.unit.ready Config.mirrorVer))
    else s

/-- COUNTER values that a hand-back brings (R460). -/
def State.takeCounters (l : List (Nat × Nat)) (s : State) : State :=
  if s.unit.counterWait.isNone then s
  else l.foldl (fun t p => t.modStream p.1 fun x => { x with counter := p.2 % 65536 }) { s with unit.counterWait := none }

/-- A catch-up of the Standby reaches the unit that answers for the sheaf (06 R191). -/
def State.caughtUp (id : Nat) (s : State) : State :=
  { s with sheaves.store := s.sheaves.store.map fun x => if x.id = id then { x with detail := x.detail ||| 0x20 } else x }

/-- What a valid frame of the partner brings. Epoch data are for a unit in STANDBY, requests for one in
control. -/
def State.mlFrame (f : MlFrame) (s : State) : State :=
  match f with
  | .keepalive m c r v => { (s.sawVersion v).sawPartner m c with unit.partnerReady := r }
  | .caughtUp id => if s.inControl then s.caughtUp id.toNat else s
  | .claim => { s with unit.partnerControl := true }.claimed
  | .item e b i bs => if s.unit.mode = .standby && s.unit.verOk then s.itemArrived e b i bs else s
  | .endOfData e =>
    { s with unit.held := s.unit.held.map fun x => if x.epoch = e then { x with ended := true } else x }
  | .baselineRequest => s.wantsBaseline
  | .failbackRequest => if s.inControl && s.unit.handbackAt.isNone then s.startHandback else s
  | .handback t => if s.unit.mode = .standby then { s with unit.handbackAt := some t, unit.handback := .pending } else s
  | .counters l => s.takeCounters l

/-- ML_FRAME_RECEIVED (R443): A keepalive, claim, epoch item or request arrives on the mirror link. -/
def execMlFrameReceived (frame : MlFrame) (s : State) : Host.Outcome State Fault Refusal :=
  .next <| if s.unit.pair.paired && s.ident.fwReady && (s.power.sleep = .none || s.power.sleep = .answered) then s.mlHeard.mlFrame frame else s

/-- ML_DOWN_TIMEOUT (R443). No valid frame for 100 µs: ML is down. It starts a takeover only where three heartbeats
are missed too (R453 D2). -/
def execMlDownTimeout (s : State) : Host.Outcome State Fault Refusal :=
  .next <|
    if !s.unit.mlUp || decide (s.up < s.unit.mlAt + 1000000) then s
    else
      let s1 := { s with unit.mlUp := false, unit.partnerReady := false }
      if s.unit.hbCycles < 3 then s1.unSet 5 else s1.takeover

/-! Epochs of the unit in control (R444, R445, R448, R449). -/

/-- A mirror runs: ML is up, and the units share a protocol version. -/
def State.mirrors (s : State) : Bool := s.unit.pair.paired && s.unit.mlUp && s.unit.verOk

/-- LAGGING: an item waits on ML, at 1,250 bytes per µs, for the data ahead of it (R449, DEDUCED, log 31). -/
def State.lagCheck (bytes : Nat) (s : State) : State :=
  let late := decide (150 * 1250 < bytes)
  let run := if late then 0 else s.unit.lagRun + 1
  let lag := late || (s.unit.lagging && decide (run < 16))
  let s1 := { s with unit.lagging := lag, unit.lagRun := min 16 run }
  if lag && !s.unit.lagging then s1.raise 168 else s1

/-- The next epoch opens. -/
def State.openEpoch (epoch : Word) (s : State) : State :=
  { s with unit.epoch := epoch, unit.data := [], unit.isBase := false }

/-- An epoch with its header, changes and refresh slice goes out (R444, R448). -/
def State.sendEpoch (close : Nat) (s0 : State) : State :=
  let fresh := s0.unit.sendBaseline
  let s := if fresh then { s0 with
    unit.sendBaseline := false, unit.baseLeft := 64, unit.slice := 0, unit.mirror := {} } else s0
  let base := decide (0 < s.unit.baseLeft)
  let last := s.unit.handbackAt.any fun t => decide (close < t) && decide (t ≤ close + 250000)
  let items := .header close (BitVec.ofNat 32 s.tbStatus) s.tb.incr s.unit.slice ::
    (s.elemItems ++ s.failedItems ++ s.armedItems ++ s.gateItems ++ s.streamItems
      ++ (if last then s.handbackItems else []) ++ s.sliceItems)
  let data := items.flatMap Config.mirrorBytes
  let s1 := (s.sendItems s.unit.epoch base items).emit (.mirror (.endOfData s.unit.epoch))
  { s1 with
    unit.mirror := s.mirrorSent, unit.slice := (s.unit.slice + 1) % 64, unit.baseLeft := s.unit.baseLeft - 1
    unit.closed := s1.unit.closed ++ [({ epoch := s.unit.epoch, data := data, baseline := base, handback := last } : EpochOut)] }.lagCheck data.length

/-- EPOCH_CLOSE (R444). An epoch closes and the next opens with its header. After a step of the timebase the epochs
start anew with a baseline. -/
def execEpochClose (s : State) : Host.Outcome State Fault Refusal :=
  .next <|
    let behind := (s.epochNow - s.unit.epoch).toNat
    if !s.inControl || !s.unit.epochOpen || behind = 0 then s
    else if 2 ^ 31 ≤ behind then { s.openEpoch s.epochNow with unit.sendBaseline := true }
    else
      let close := (s.now / 250000 + 1 - behind) * 250000
      (if s.mirrors then s.sendEpoch close else s).openEpoch (s.unit.epoch + 1)

/-- The first eight bytes of a digest, the first the highest. -/
def digest8 (bs : List Byte) : BitVec 64 := BitVec.ofNat 64 (ofBe ((sha512 bs).take 8))

/-- The commit record of a closed epoch (R445), for Hedgerow. -/
def EpochOut.record (e : EpochOut) : CommitRec :=
  { epoch := e.epoch, bytes := e.data.length % 2 ^ 24, baseline := e.baseline, handback := e.handback, digest := digest8 e.data }

/-- COMMIT_RECORD_CREATE (R445). The oldest closed epoch's data is complete: its commit record is created. -/
def execCommitRecordCreate (s : State) : Host.Outcome State Fault Refusal :=
  .next <|
    match s.unit.closed with
    | [] => s
    | e :: rest =>
      if !s.inControl then { s with unit.closed := rest }
      else { s with
        unit.closed := rest, unit.committed := e.epoch, hedge.commits := s.hedge.commits ++ [e.record] }.logEpoch
          ⟨e.epoch, e.data.length, e.record.digest, .sent⟩

/-! Epochs of the Standby (R446). -/

/-- DIGEST_FAIL: the event bit and the Gleaner's. -/
def State.digestFail (s : State) : State := (s.unSet 6).raise 168

/-- EPOCH_APPLY (R446). The oldest epoch held is applied or discarded whole, once its data and commit record are
present; one whose commit record was passed over by a later one is discarded. -/
def execEpochApply (s : State) : Host.Outcome State Fault Refusal :=
  .next <|
    match s.unit.held with
    | [] => s
    | e :: _ =>
      if s.unit.mode ≠ .standby then { s with unit.held := [] }
      else match s.unit.recs.find? fun r => r.epoch = e.epoch with
        | none =>
          if s.unit.recs.any fun r => decide (0 < (r.epoch - e.epoch).toNat) && decide ((r.epoch - e.epoch).toNat < 2 ^ 31)
          then (s.discardEpoch e .noRecord 0).checkReady else s
        | some r =>
          if !e.ended then s
          else if r.bytes ≠ e.data.length % 2 ^ 24 || r.digest ≠ digest8 e.data then
            ((s.discardEpoch e .badDigest r.digest).digestFail).checkReady
          else if e.opens || s.unit.applied = some (e.epoch - 1) then s.applyEpoch e r.digest
          else ({ s.discardEpoch e .outOfOrder r.digest with unit.baselineDone := false }.askBaseline).checkReady

/-! PARTNER_ALIVE (R453 D3, R457). -/

/-- PARTNER_ALIVE_TIMEOUT (R453). No edge for 3 ms: a takeover, unless heartbeats with CONTROL = 1 still come, where
the wire is at fault. -/
def execPartnerAliveTimeout (s : State) : Host.Outcome State Fault Refusal :=
  .next <|
    if s.unit.mode ≠ .standby || !s.unit.pair.paired || s.unit.aliveFault ||
        decide (s.up < s.unit.aliveAt.getD s.power.releasedAt + 30000000) then s
    else if s.unit.ctlCycles < 3 then ({ s with unit.aliveFault := true }.unSet 8).raise 169
    else s.takeover

/-- Edges arrive: one came within the last 3 ms (R462 ALIVE_OK). -/
def State.aliveOk (s : State) : Bool := s.unit.aliveAt.any fun t => decide (s.up < t + 30000000)

/-- PARTNER_ALIVE_EDGE (R457). An edge: a unit in control whose partner, last heard in STANDBY, is silent, and shows an edge later
than 2.5 ms after its last frame, demotes. The fail-back hold-off starts anew where no
edges had arrived (R459). -/
def execPartnerAliveEdge (s : State) : Host.Outcome State Fault Refusal :=
  .next <|
    let s0 := if s.aliveOk then s else { s with unit.readySince := s.up, unit.failbackAsked := false }
    let s1 := { s0 with unit.aliveAt := some s.up, unit.aliveFault := false }
    if s.inControl && s.unit.pair.paired && s.unit.partnerSeen && s.unit.hbMode = .standby && decide (3 ≤ s.unit.hbCycles) &&
        !s.unit.mlUp && decide (s.unit.frameAt + 25000000 < s.up) then s1.demote
    else s1

/-! Fail-back and hand-back (R459-R461). -/

/-- FAILBACK_HOLDOFF (R459). A preferred Standby that has been READY for the hold-off requests control back. -/
def execFailbackHoldoff (s : State) : Host.Outcome State Fault Refusal :=
  .next <|
    if s.unit.mode = .standby && s.unit.pair.paired && s.unit.pair.failback && s.preferred && s.unit.ready && s.aliveOk &&
        !s.unit.failbackAsked && decide (s.unit.readySince + 10000000 * s.unit.pair.holdoffMs ≤ s.up) then
      { s with unit.failbackAsked := true }.emit (.mirror .failbackRequest)
    else s

/-- T_hb on the unit in control: it demotes and sends the COUNTER values, unless its partner is not READY or ML
is down. -/
def State.giveControl (s : State) : State :=
  if s.unit.partnerReady && s.unit.mlUp then
    let s1 := s.emit (.mirror (.counters s.counterValues))
    { s1.demote with unit.handbackAt := none, unit.handback := .done }
  else { s with unit.handbackAt := none, unit.handback := .failed }

/-- T_hb on the partner: it promotes without JUMP, and waits for the COUNTER values. -/
def State.takeHandback (t : Nat) (s : State) : State :=
  if s.unit.ready && s.unit.mlUp && !s.sleeping then
    let s1 := { s.promote with
      unit.handbackAt := none, unit.handback := .done, unit.counterWait := some t, unit.applied := none }
    (s1.adoptSheaves false).adoptMoved
  else { s with unit.handbackAt := none, unit.handback := .failed, unit.failbackAsked := false, unit.moved := [], unit.movedStooks := [] }

/-- HANDBACK_INSTANT (R460): at T_hb control moves to the partner. -/
def execHandbackInstant (s : State) : Host.Outcome State Fault Refusal :=
  .next <|
    match s.unit.handbackAt with
    | none => s
    | some t =>
      if s.now < t then s
      else if s.inControl then s.giveControl
      else if s.unit.mode = .standby then s.takeHandback t
      else { s with unit.handbackAt := none, unit.handback := .failed }

/-! Registers that act (R462). -/

/-- UN_EVENTS_WRITE (R462): A write of 1 to UN_EVENTS bits clears them. -/
def execUnEventsWrite (value : Word) (s : State) : Host.Outcome State Fault Refusal :=
  .next <| { s with unit.events := (s.unit.events &&& ~~~ value.setWidth 10) ||| (s.unit.events &&& s.cycle.unBits) }

/-- UN_COUNTS_READ (R462): A read of UN_COUNTS returns and clears its counts. -/
def execUnCountsRead (s : State) : Host.Outcome State Fault Refusal :=
  .next <|
    let a := min s.unit.takeovers s.cycle.takeovers
    let b := min s.unit.discards s.cycle.discards
    { s with unit.takeovers := a, unit.discards := b }.emit
      (.readData (BitVec.ofNat 32 ((s.unit.takeovers - a) * 65536 + (s.unit.discards - b))))

/-! UNIT commands (R463). -/

/-- The state of a hand-back as a number. -/
def HandbackState.code : HandbackState → Nat
  | .none => 0 | .pending => 1 | .done => 2 | .failed => 3

/-- The protocol version in use: the higher that both units serve; 0 where they share none. -/
def State.mirrorVerInUse (s : State) : Nat :=
  if s.unit.partnerVer = 0 || !s.unit.verOk then 0 else min s.unit.partnerVer.toNat Config.mirrorVer.toNat

/-- The hold-off that is left, in ms. -/
def State.failbackLeft (s : State) : Nat :=
  if s.unit.ready then s.unit.pair.holdoffMs - (s.up - s.unit.readySince) / 10000000 else s.unit.pair.holdoffMs

/-- UNIT_GET_STATUS (R463): returns role, evidence, READY, epochs, DIVERGE, mirror version and hand-back state. -/
def execUnitGetStatus (tag : Tag) (s : State) : Host.Outcome State Fault Refusal :=
  .next <| s.query tag 0x0C01 (some 0) fun s =>
    let u := s.unit
    Reply.ok [(u.mode.code : Int), b2i s.inControl, b2i s.unitNo, b2i u.pref, b2i u.prefConflict, u.partnerMode.code, b2i u.partnerControl
      , u.hbCycles, b2i u.mlUp, b2i s.aliveOk, b2i u.lagging, b2i u.ready, b2i u.baselineDone, u.cleanEpochs, b2i s.pathsLocked, b2i s.anySevere
      , s.hedge.hstate.code, (u.committed.toNat : Int), (((u.applied.getD 0).toNat : Nat) : Int), u.discards, u.catchUps, u.diverge
      , s.mirrorVerInUse, s.failbackLeft, u.handback.code]

/-- The evidence of a partner is that of the node named; another partner starts with none. -/
def Unit.paired (cfg : PairCfg) (u : Unit) : Unit :=
  if u.pair.partner = cfg.partner && u.pair.paired = cfg.paired then { u with pair := cfg }
  else { u with
    pair := cfg, partnerMode := .boot, partnerControl := false, prevHbControl := false, partnerSeen := false, partnerReady := false
    hbMode := .boot, ctlCycles := 8, prefConflict := false, hbCycles := 8, noControl := 0 }

/-- UNIT_SET_PAIR (R438): sets partner node, pairing, ROLE_WAIT, hold-off and fail-back, saved to flash. -/
def execUnitSetPair (tag : Tag) (cfg : PairCfg) (force : Bool) (s : State) : Host.Outcome State Fault Refusal :=
  .next <| s.serve tag 0x0C02 false none fun s =>
    if 15 < cfg.partner || cfg.roleWaitMs < 1000 || 60000 < cfg.roleWaitMs || cfg.holdoffMs < 1000 || 3600000 < cfg.holdoffMs then
      refuse s .outOfRange
    else if s.inControl && !force then refuse s .notPermitted
    else ({ s with unit := s.unit.paired cfg }, Reply.done)

/-- UNIT_DRILL (R461): starts a hand-back of control to the partner. -/
def execUnitDrill (tag : Tag) (s : State) : Host.Outcome State Fault Refusal :=
  .next <| s.serve tag 0x0C03 false (some 0) fun s =>
    if !s.inControl || !s.unit.partnerReady then refuse s .notPermitted
    else if s.unit.handbackAt.isSome then refuse s .busy
    else
      let s1 := s.startHandback
      (s1, Reply.ok [((s1.unit.handbackAt.getD 0 : Nat) : Int)])

/-- UNIT_SAVE_STARTUP_MAP (R442): saves or clears the start-up connection map. -/
def execUnitSaveStartupMap (tag : Tag) (clear : Bool) (s : State) : Host.Outcome State Fault Refusal :=
  .next <| s.serve tag 0x0C04 false none fun s =>
    if !s.inControl then refuse s .notPermitted
    else s.userSave 0x0C fun s => { s with
      unit.startupMap := if clear then none else some (connectionMap s.loops.elems s.fabric.failed) }

/-- UNIT_RESYNC (R447): requests a mirror baseline from the partner. -/
def execUnitResync (tag : Tag) (s : State) : Host.Outcome State Fault Refusal :=
  .next <| s.serve tag 0x0C05 false (some 0) fun s =>
    if s.inControl then refuse s .notPermitted
    else ({ s with unit.wantBaseline := true }.emit (.mirror .baselineRequest), Reply.done)

/-- The fate of an epoch as a number. -/
def EpochFate.code : EpochFate → Nat
  | .sent => 0 | .applied => 1 | .noRecord => 2 | .badDigest => 3 | .outOfOrder => 4

/-- UNIT_GET_EPOCHS (R463): returns the last 64 epochs and their fate. -/
def execUnitGetEpochs (tag : Tag) (s : State) : Host.Outcome State Fault Refusal :=
  .next <| s.query tag 0x0C06 (some 0) fun s =>
    Reply.ok (s.unit.epochs.flatMap fun e => [(e.epoch.toNat : Int), e.bytes, (e.digest.toNat : Int), e.fate.code])

end Sys2Proof.Machine
end

