-- ==== Sys2Proof/Machine/DeviceRows.lean ====
section
/-! DEFINITION. Mailboxes, answers and the DEVICE group with firmware update: 13_ilucy R375-R398. -/
namespace Sys2Proof.Machine

/-! Codes (R387, R389, R393). -/

/-- The last command byte of each group from 0x01 on; commands are numbered from 1. -/
def groupSizes : List Nat := [9, 10, 9, 16, 13, 9, 11, 8, 8, 15, 8, 6, 10, 3, 10]

/-- A code of this manual. -/
def servedIn2 (code : Nat) : Bool :=
  decide (1 ≤ code / 256) && decide (1 ≤ code % 256) && decide (code % 256 ≤ groupSizes.getD (code / 256 - 1) 0)

/-- A code of Ilucy 1. -/
def servedIn1 (code : Nat) : Bool :=
  servedIn2 code && decide (code % 256 ≤ 7) && (decide (code / 256 ≤ 8) || code / 256 = 13 || code / 256 = 14)

/-- Every served code, in rising order. -/
def allCodes : List Nat := groupSizes.zipIdx.flatMap fun p => (List.range p.1).map fun i => (p.2 + 1) * 256 + i + 1

/-! Posting (R380, R386). -/

/-- Word `i` of the body of a mailbox. -/
def State.bodyWord (s : State) (m i : Nat) : Word := BitVec.ofNat 32 (ofLe (mapRead 0 s.il.bar2 (4096 * m + 4 * i) 4))

/-- The eight header words of a body. -/
def State.bodyHeader (s : State) (m : Nat) : List Word := (List.range 8).map (s.bodyWord m)

/-- The command that a header gives (R378). -/
def readHeader (m : Nat) (h : List Word) : InFlight :=
  let w (i : Nat) : Word := h.getD i 0
  { mailbox := m, tag := (w 0).setWidth 16, code := (w 0 >>> 16).setWidth 16, gen := fld (w 1) 31 28, noint := bit (w 1) 17
    rhost := bit (w 1) 16, raddr := (w 3).toNat * 2 ^ 32 + (w 2).toNat, len := fld (w 1) 15 0, hdr := h }

/-- The least byte offset of an offending header field (R386 check 1). -/
def headerFault (il1 il2 : Bool) (c : InFlight) : Option Nat :=
  let w1 := c.hdr.getD 1 0
  let six := decide (fld w1 23 18 ≠ 0) || (c.rhost && c.gen = 1)
  let seven := decide (fld w1 27 24 ≠ 0) || !((c.gen = 1 && il1) || (c.gen = 2 && il2))
  let eight := if c.rhost then c.raddr = 0 || c.raddr % 64 ≠ 0 else c.raddr ≠ 0
  if six then some 6 else if seven then some 7 else if eight then some 8 else none

/-- What refuses a header, by the checks 1 to 3 of R386. -/
def State.headerRefused (s : State) (c : InFlight) : Option Reply :=
  match headerFault s.ident.il1 s.ident.il2 c with
  | some o => some (Reply.no .badHeader o)
  | none =>
    if 4064 < c.len then some (Reply.no .badLength 4064)
    else if (if c.gen = 1 then servedIn1 c.code.toNat else servedIn2 c.code.toNat) then none
    else some (Reply.no .unknownCommand)

/-- What answers a doorbell in the body without the command being in flight: steps 4 to 6 of R380. -/
def State.postRefused (s : State) (c : InFlight) : Option Reply :=
  let live := s.il.inflight.filter fun d => !d.orphan
  if 256 ≤ live.length then some (Reply.no .full)
  else if live.any fun d => d.tag = c.tag then some (Reply.no .tagInUse)
  else s.headerRefused c

/-- A mailbox takes a posted command. -/
def Mailbox.posted (c : InFlight) (x : Mailbox) : Mailbox := { x with state := .posted, lastCode := c.code, lastTag := c.tag }

/-- A command is in flight (R380 step 7). -/
def State.takeCommand (c : InFlight) (s : State) : State := { s with il.inflight := s.il.inflight ++ [{ c with arrived := s.now }] }

/-- The doorbell of a mailbox is rung. -/
def State.ring (m : Nat) (s : State) : State :=
  if !s.ident.fwReady then s
  else if (mapGet Mailbox.dflt s.il.mb m).state = .posted then s.modMb m fun x => { x with overrun := true }
  else
    let c := readHeader m (s.bodyHeader m)
    let s1 := s.modMb m (Mailbox.posted c)
    match s.postRefused c with
    | some r => (s1.writeBody m 0 (wordsBytes (answerHeader c.hdr c.gen r 0))).modMb m fun x => { x with state := .answered }
    | none =>
      let s2 := s1.takeCommand c
      if c.rhost then s2.modMb m fun x => { x with state := .released } else s2

/-- MB_DOORBELL_RING (R380): A doorbell write posts the command in a mailbox body. -/
def execMbDoorbellRing (mailbox : Nat) (value : Word) (s : State) : Host.Outcome State Fault Refusal :=
  .next <| if decide (mailbox < 32) && bit value 0 then s.ring mailbox else s

/-- MB_ANSWER as a read returns it (R377). -/
def AnswerRec.word (a : AnswerRec) : Word :=
  BitVec.ofNat 32 (2 ^ 31 + flag a.rhost 24 + a.mailbox % 32 * 2 ^ 16 + a.tag.toNat)

/-- MB_ANSWER_READ (R377). A read of MB_ANSWER removes the oldest record, and its command is in flight no longer
(R382). -/
def execMbAnswerRead (s : State) : Host.Outcome State Fault Refusal :=
  .next <|
    match s.il.answers with
    | [] => s.emit (.readData 0)
    | a :: rest =>
      { s with il.answers := rest, il.inflight := s.il.inflight.filter fun c => !(c.tag = a.tag && c.answered) }.emit (.readData a.word)

/-- MAILBOX_BODY_WRITE (R375). A 32-bit write to a mailbox body. -/
def execMailboxBodyWrite (mailbox offset : Nat) (value : Word) (s : State) : Host.Outcome State Fault Refusal :=
  .next <|
    if 32 ≤ mailbox || 4096 ≤ offset || offset % 4 ≠ 0 then s
    else if (mapGet Mailbox.dflt s.il.mb mailbox).state = .posted then s.modMb mailbox fun x => { x with ignoredWrite := true }
    else s.writeBody mailbox offset (leBytes value)

/-- HELD_ANSWER_WRITE (R392). The oldest held answer is written once host memory can be written. -/
def execHeldAnswerWrite (s : State) : Host.Outcome State Fault Refusal :=
  .next <|
    match s.il.held with
    | [] => s
    | h :: rest => if s.canMaster then { s with il.held := rest }.writeHostAnswer h else s

/-- MB_STATE_WRITE (R376). W1C of IGNORED_WRITE and OVERRUN. -/
def execMbStateWrite (mailbox : Nat) (value : Word) (s : State) : Host.Outcome State Fault Refusal :=
  .next <|
    if 32 ≤ mailbox then s
    else s.modMb mailbox fun x => { x with ignoredWrite := x.ignoredWrite && !bit value 9, overrun := x.overrun && !bit value 8 }

/-! Identity (00 R14, R394). -/

/-- ID_FW_STATE. -/
def State.fwState (s : State) : Nat :=
  flag s.ident.bootSlot 4 + flag s.ident.updateStaged 3 + flag s.ident.il2 2 + flag s.ident.il1 1 + flag s.ident.fwReady 0

/-- The record of DEVICE_GET_INFO. -/
def State.infoBytes (s : State) : List Byte :=
  let f := s.il.fw
  let staged := s.ident.updateStaged
  leNat 4 0x434C5244 ++ leNat 4 0x4D485120 ++ leBytes s.ident.rev ++ leNat 8 s.ident.serial.toNat ++ leBytes s.ident.fwVer
    ++ leNat 4 s.fwState ++ leNat 4 (imageSvn s.runningImage) ++ leBytes Config.romVer ++ leNat 2 Config.il2Rev.toNat
    ++ leNat 2 Config.mirrorVer.toNat ++ leNat 4 (if staged then f.stagedVer.toNat else 0) ++ leNat 4 (if staged then f.stagedSvn.toNat else 0)
    ++ sha512 s.runningImage ++ leNat 64 (if staged then f.stagedDigest.toNat else 0) ++ leNat 4 s.trust.lc

/-- DEVICE_GET_INFO (R394): returns the device identity and firmware record. -/
def execDeviceGetInfo (tag : Tag) (s : State) : Host.Outcome State Fault Refusal :=
  .next <| s.query tag 0x0101 (some 0) fun s => Reply.bytes s.infoBytes

/-- An entry of DEVICE_GET_COMMANDS. -/
def codeEntry (i : Ident) (c : Nat) : Int := c * 65536 + flag (i.il2 && servedIn2 c) 1 + flag (i.il1 && servedIn1 c) 0

/-- DEVICE_GET_COMMANDS (R393): returns served command codes and generations. -/
def execDeviceGetCommands (tag : Tag) (start : Nat) (s : State) : Host.Outcome State Fault Refusal :=
  .next <| s.query tag 0x0102 none fun s =>
    if allCodes.length ≤ start then Reply.no .outOfRange
    else Reply.ok ((allCodes.length : Int) :: ((allCodes.drop start).take 1000).map (codeEntry s.ident))

/-! Firmware update (R395-R397). -/

/-- The slot that the running image was not loaded from takes bytes. -/
def State.writeSlot (bs : List Byte) (s : State) : State :=
  if s.ident.bootSlot then { s with trust.img0 := some bs } else { s with trust.img1 := some bs }

/-- A session is open. One whose commit failed its verification can be opened anew (R397). -/
def FwUpdate.busy (f : FwUpdate) : Bool := f.open_ && f.phase ≠ .verifying

/-- DEVICE_FW_BEGIN (R395): opens a firmware update session and starts erasing the other slot. -/
def execDeviceFwBegin (tag : Tag) (size : Nat) (s : State) : Host.Outcome State Fault Refusal :=
  .next <| s.serve tag 0x0103 false none fun s =>
    if size < 1024 || 8388608 < size then refuse s .outOfRange
    else if s.il.fw.busy then refuse s .busy
    else if s.unit.mode = .boot || s.unit.mode = .factoryTest then refuse s .notPermitted
    else ({ s.writeSlot [] with
      ident.updateStaged := false, trust.staged := false
      il.fw := { phase := .erasing, open_ := true, size := size } }, Reply.done)

/-- FW_ERASE_COMPLETE (R395): the erase of the update slot completes and data may be received. -/
def execFwEraseComplete (s : State) : Host.Outcome State Fault Refusal :=
  .next <| if s.il.fw.phase = .erasing then { s with il.fw.phase := .receiving } else s

/-- Offset R, a repeat, or neither (R396). -/
def State.fwData (offset : Nat) (bs : List Byte) (s : State) : State × Reply :=
  let f := s.il.fw
  let r := f.bytes.length
  if !f.open_ then refuse s .notPermitted
  else if f.phase = .erasing then refuse s .busy
  else if f.size < offset + bs.length then refuse s .outOfRange r
  else if offset = r then
    let all := f.bytes ++ bs
    ({ s.writeSlot all with il.fw.bytes := all }, Reply.done)
  else if offset + bs.length ≤ r then
    if slice f.bytes offset bs.length = bs then (s, Reply.done) else refuse s .outOfRange r
  else refuse s .outOfRange r

/-- The command of a tag is of Ilucy 2. -/
def State.isGen2 (s : State) (tag : Tag) : Bool := s.il.inflight.any fun c => c.tag = tag && !c.answered && c.gen = 2

/-- DEVICE_FW_DATA (R396): delivers or compares firmware image bytes at an offset. The form that names host memory
is of Ilucy 2, and waits while the device cannot read host memory (12 R343, R344). -/
def execDeviceFwData (tag : Tag) (offset : Nat) (data : FwData) (s : State) : Host.Outcome State Fault Refusal :=
  .next <|
    match data with
    | .direct bs => s.serve tag 0x0104 false (some (4 + bs.length)) fun s => s.fwData offset bs
    | .host _ bs =>
      if s.isGen2 tag && s.canMaster then
        s.serve tag 0x0104 false none fun s =>
          if 1048576 < bs.length then refuse s .outOfRange s.il.fw.bytes.length else s.fwData offset bs
      else s

/-- A verified image is staged: the boot control record names its slot (18 R511). -/
def State.stageImage (img : List Byte) (s : State) : State :=
  { s with
    ident.updateStaged := true, trust.staged := true
    trust.boot := { slot := !s.ident.bootSlot, trial := true, tries := 3 }
    il.fw := {
      phase := .staged, stagedVer := BitVec.ofNat 32 (imageVer img), stagedSvn := BitVec.ofNat 32 (imageSvn img)
      stagedDigest := BitVec.ofNat 512 (ofLe (sha512 img)) } }

/-- DEVICE_FW_COMMIT (R397): verifies the received image and stages it. -/
def execDeviceFwCommit (tag : Tag) (s : State) : Host.Outcome State Fault Refusal :=
  .next <| s.serve tag 0x0105 false (some 0) fun s =>
    let f := s.il.fw
    if !f.open_ then refuse s .notPermitted
    else if f.bytes.length < f.size then refuse s .badLength f.bytes.length
    else match s.trust.failing f.bytes with
      | 0 => (s.stageImage f.bytes, Reply.done)
      | 8 => ({ s with il.fw.phase := .verifying }, Reply.no .rollback s.trust.minSvn)
      | k => ({ s with il.fw.phase := .verifying }, Reply.no .signature k)

/-- DEVICE_FW_ABORT (R393): closes the update session and discards the slot contents. -/
def execDeviceFwAbort (tag : Tag) (s : State) : Host.Outcome State Fault Refusal :=
  .next <| s.serve tag 0x0106 false (some 0) fun s =>
    if s.il.fw.open_ then ({ s.writeSlot [] with il.fw := {} }, Reply.done) else refuse s .notPermitted

/-- A session state as a number. -/
def FwPhase.code : FwPhase → Nat
  | .none => 0 | .erasing => 1 | .receiving => 2 | .verifying => 3 | .staged => 4

/-- The progress of the erase in percent, of which `m` is measured while it runs: 0 before the first session, 100
once an erase is complete (DEDUCED, log 32). -/
def FwPhase.progress (m : Int) : FwPhase → Int
  | .none => 0 | .erasing => clampInt 0 99 m | .receiving => 100 | .verifying => 100 | .staged => 100

/-- DEVICE_FW_STATUS (R393): returns the update session state. -/
def execDeviceFwStatus (tag : Tag) (s : State) : Host.Outcome State Fault Refusal :=
  .next <| s.serve tag 0x0107 false (some 0) fun s =>
    let f := s.il.fw
    (s.drawn, Reply.ok [(f.phase.code : Int), f.bytes.length, f.phase.progress (s.measured 17 0),
      (if s.ident.updateStaged then f.stagedVer.toNat else 0 : Nat)])

/-! Resets by command (R398) and ECHO. -/

/-- DEVICE_RESET of subsystem LOOP: it is answered at its completion. -/
def State.startLoopReset (tag : Tag) (s : State) : State :=
  match findServed s.il.inflight tag 0x0108 false with
  | none => s
  | some _ => { s.classS 1 with il.loopReset := some tag }

/-- DEVICE_RESET (R398). SCOPE 0xFF is DEVICE, any other SUBSYSTEM (DEDUCED, log 32). -/
def execDeviceReset (tag : Tag) (scope subsystem : Byte) (force : Bool) (s : State) : Host.Outcome State Fault Refusal :=
  .next <|
    if scope ≠ 0xFF && subsystem = 1 then s.startLoopReset tag
    else s.serve tag 0x0108 false none fun s =>
      if scope = 0xFF then
        if s.inControl && !force then refuse s .notPermitted
        else ({ s with il.resetAsked := some tag }, Reply.done)
      else if 2 ≤ subsystem.toNat && subsystem.toNat ≤ 6 then (s.classS subsystem.toNat, Reply.done)
      else refuse s .outOfRange

/-- DEVICE_ECHO (R393): returns its payload unchanged. -/
def execDeviceEcho (tag : Tag) (data : List Byte) (s : State) : Host.Outcome State Fault Refusal :=
  .next <| s.serve tag 0x0109 false (some data.length) fun s => (s, Reply.bytes data)

/-- USER_CONFIG_SAVE_COMPLETE (R436). A save of the flash user-configuration area has finished (R436, R487). -/
def execUserConfigSaveComplete (s : State) : Host.Outcome State Fault Refusal :=
  .next <| { s with il.saving := none }

end Sys2Proof.Machine
end

