-- ==== Sys2Proof/Machine/GateCmds.lean ====
section
/-! DEFINITION. The GATE commands: 09_gates_preemption R259-R267, R271, R278-R281. -/
namespace Sys2Proof.Machine

/-- The entry that runs now, of the oper list (R262). -/
def GatePort.current (g : GatePort) : Nat := if g.oper.n = 0 then 0 else (g.done - 1) % g.oper.n

/-- GATE_GET_STATUS (R281): returns per-port gate list, hold and preemption state. -/
def execGateGetStatus (tag : Tag) (port : Nat) (s : State) : Host.Outcome State Fault Refusal :=
  .next <| s.query tag 0x0801 none fun s =>
    if 3 < port then Reply.no .outOfRange
    else
      let g := s.gate port
      Reply.ok [match g.list with
                | .none => 0
                | .running => 1
                | .disabled => 2,
        g.oper.lct, g.oper.n, g.current, b2i g.hold, b2i g.pend.isSome, (g.pend.map (·.1)).getD 0,
        g.verifyStatus, b2i (s.preemptive port), g.oper.tag.toNat, g.admin.tag.toNat]

/-- The settings of GATE_SET_CONFIG are in their ranges: the byte offset is that of the field in the
order of R281. PTP_CLASS is an express class (R278). -/
def GateCfg.offends (c : GateCfg) : Option Nat :=
  let checks : List (Bool × Nat) :=
    [ (decide (3 < c.addFrag), 2), (decide (c.verifyTimeMs = 0) || decide (128 < c.verifyTimeMs), 4),
      (decide (10000 < c.holdAdvance), 5),
      (decide (7 < c.ptpClass) || c.preemptable.getLsbD c.ptpClass, 7) ]
  (checks.find? (·.1)).map (·.2)

/-- GATE_SET_CONFIG (R271). A change takes effect at the end of the frame in transmission. -/
def execGateSetConfig (tag : Tag) (port : Nat) (cfg : GateCfg) (s : State) : Host.Outcome State Fault Refusal :=
  .next <| s.serve tag 0x0802 false none fun s =>
    if 3 < port then refuse s .outOfRange
    else match cfg.offends with
      | some o => refuse s .outOfRange (detailOf 0 o)
      | none =>
        let s1 := s.modGate port fun g => { g with cfgPend := some cfg }
        (if (s.prt port).wire.isSome then s1 else s1.applyPortPend port, Reply.done)

/-- An entry as a bank holds it: reserved bits read 0 (R259). -/
def GateEntry.kept (e : GateEntry) : GateEntry := { e with w0 := e.w0 &&& 0xE00000FF#32 }

/-- A write into a bank. -/
def Bank.write (start n lct : Nat) (listTag : Word) (entries : List GateEntry) (b : Bank) : Bank :=
  { entries := mapSetList default b.entries start (entries.map GateEntry.kept), n := n, lct := lct, tag := listTag }

/-- The admin bank is replaced. -/
def GatePort.setAdmin (f : Bank → Bank) (g : GatePort) : GatePort :=
  if g.oper1 then { g with bank0 := f g.bank0 } else { g with bank1 := f g.bank1 }

/-- GATE_SET_ADMIN (R281): writes entries of the admin gate list bank. -/
def execGateSetAdmin (tag : Tag) (port start n lct : Nat) (listTag : Word) (entries : List GateEntry) (s : State) :
    Host.Outcome State Fault Refusal :=
  .next <| s.serve tag 0x0803 false none fun s =>
    if 3 < port || 480 < entries.length || 1024 < start + entries.length then refuse s .outOfRange
    else if (s.gate port).pend.any fun q => !q.2 then refuse s .busy
    else (s.modGate port (GatePort.setAdmin (Bank.write start n lct listTag entries)), Reply.done)

/-- GATE_GET_LIST (R281): reads entries of the admin or oper bank. -/
def execGateGetList (tag : Tag) (port : Nat) (oper : Bool) (first count : Nat) (s : State) : Host.Outcome State Fault Refusal :=
  .next <| s.query tag 0x0804 none fun s =>
    if 3 < port || 480 < count || 1024 < first + count then Reply.no .outOfRange
    else
      let b := if oper then (s.gate port).oper else (s.gate port).admin
      Reply.ok ([(b.n : Int), b.lct, b.tag.toNat] ++
        (mapRead default b.entries first count).flatMap fun e => [(e.w0.toNat : Int), e.interval.toNat])

/-- B and C of the schedule cycle in force at schedule time `ct` (R62, R264). -/
def State.cycleAt (s : State) (ct : Nat) : Nat × Nat :=
  match s.tb.pendCycle with
  | some (b, c) => if b ≤ ct then (b, c) else (s.tb.cycleB, s.tb.cycleC)
  | none => (s.tb.cycleB, s.tb.cycleC)

/-- CT is a boundary of the cycle in force then, and lies at least 1 ms after receipt at `at_` (R264). With no cycle set it
is the base time of a pending cycle (02 R63). -/
def State.changeOk (s : State) (at_ ct : Nat) : Bool :=
  let q := s.cycleAt ct
  q.2 ≠ 0 && decide (q.1 ≤ ct) && decide ((ct - q.1) % q.2 = 0) && (s.tb.cycleC ≠ 0 || ct = q.1) &&
  decide ((at_ : Int) + 1000000 ≤ (ct : Int) + s.tb.shiftS)

/-- The index of the first entry that breaks R261: by itself, by the sum of the intervals up to it, as a SET_HOLD of a
list with no SET_RELEASE, or as a GUARD entry beyond the sixteenth. A list that breaks a rule of its length or of LCT is
named by its first entry. `c` is the cycle time at the change time and `safe` is GUARD_SAFE. -/
def Bank.broken (b : Bank) (c : Nat) (safe : BitVec 8) : Option Nat :=
  let l := b.list
  let frees := l.any (·.op = 2)
  let bad (p : GateEntry × Nat) : Bool :=
    let e := p.1
    let before := l.take p.2
    decide (3 < e.op) || decide (e.len < 64) || (e.op = 3 && e.gates &&& ~~~ safe ≠ 0) ||
    decide (b.lct < (before.map GateEntry.len).sum + e.len) || (e.op = 1 && !frees) ||
    (e.op = 3 && decide (16 ≤ (before.filter (·.op = 3)).length))
  let lctOk := b.lct ≠ 0 && decide (5000 ≤ b.lct) && decide (c % b.lct = 0) && decide (c / b.lct ≤ 256)
  if b.n = 0 || 1024 < b.n || !lctOk then some 0
  else (l.zipIdx.find? bad).map (·.2)

/-- The content that a gate list's block signs (18 R518). -/
def gateContent (port : Nat) (b : Bank) : List Byte :=
  leNat 1 port ++ b.list.flatMap (fun e => leBytes e.w0 ++ leBytes e.interval) ++
    leNat 4 b.n ++ leNat 4 b.lct ++ leBytes b.tag

/-- GATE_COMMIT (R264). A later commit or disable takes the place of one that waits (DEDUCED, log 21). -/
def execGateCommit (tag : Tag) (port ct : Nat) (sig : Option AxaroBlock) (s : State) : Host.Outcome State Fault Refusal :=
  .next <| s.serve tag 0x0805 false none fun s =>
    if 3 < port then refuse s .outOfRange
    else if !s.tb.stepped then refuse s .notStepped
    else if !s.changeOk (s.arrivalOf tag) ct then refuse s .outOfRange
    else
      let g := s.gate port
      match g.admin.broken (s.cycleAt ct).2 g.cfg.guardSafe with
      | some i => refuse s .outOfRange (detailOf i 0)
      | none =>
        match s.axaroVerdict 2 (gateContent port g.admin) sig with
        | .unsigned => refuse s .notPermitted
        | .bad => refuse s .signature 4
        | .good => (s.modGate port fun g => { g with pend := some (ct, false) }, Reply.done)

/-- GATE_CANCEL_COMMIT: up to 100 µs before CT (R265). -/
def execGateCancelCommit (tag : Tag) (port : Nat) (s : State) : Host.Outcome State Fault Refusal :=
  .next <| s.serve tag 0x0806 false none fun s =>
    if 3 < port then refuse s .outOfRange
    else match (s.gate port).pend with
    | some (ct, false) =>
      if (s.now : Int) + 100000 ≤ (ct : Int) + s.tb.shiftS then
        (s.modGate port fun g => { g with pend := none }, Reply.done)
      else refuse s .tooLate
    | _ => refuse s .tooLate

/-- GATE_DISABLE (R265): disables the oper list at a change time. -/
def execGateDisable (tag : Tag) (port ct : Nat) (s : State) : Host.Outcome State Fault Refusal :=
  .next <| s.serve tag 0x0807 false none fun s =>
    if 3 < port then refuse s .outOfRange
    else if !s.tb.stepped then refuse s .notStepped
    else if !s.changeOk (s.arrivalOf tag) ct then refuse s .outOfRange
    else (s.modGate port fun g => { g with pend := some (ct, true) }, Reply.done)

/-- GATE_GET_WINDOWS (R279): the start and end offsets of every GUARD entry. A class that never closes has no window end;
its field holds the cycle time. -/
def execGateGetWindows (tag : Tag) (port : Nat) (s : State) : Host.Outcome State Fault Refusal :=
  .next <| s.query tag 0x0808 none fun s =>
    if 3 < port then Reply.no .outOfRange
    else
      let b := (s.gate port).oper
      let c := s.tb.cycleC
      Reply.ok ((([0, 1, 2, 3, 4, 5, 6, 7] : List Nat).map fun k => ((b.window k c s.tb.syncIn.enable).getD c : Int)) ++
        ((b.events c).filter fun q => q.2.op = 3).flatMap fun q => [(q.1 : Int), ((q.1 + q.2.len : Nat) : Int)])

end Sys2Proof.Machine
end

