-- ==== Sys2Proof/Machine/HostQ.lean ====
section
/-! DEFINITION. Host queues: the registers that start and stop them, the service of transmit and fabric
command queues, receive reservations, completions and moderated interrupts: 12_host_queues. -/
namespace Sys2Proof.Machine

/-- A completion queue. -/
def State.cqn (s : State) (q : Nat) : ComplQ := mapGet ComplQ.dflt s.host.cq q
def State.modCq (q : Nat) (f : ComplQ → ComplQ) (s : State) : State :=
  { s with host.cq := mapMod ComplQ.dflt s.host.cq q f }

/-- SIZE of a ring. -/
def SubQ.size (q : SubQ) : Nat := 2 ^ q.log2
def ComplQ.size (q : ComplQ) : Nat := 2 ^ q.log2

/-! Errors and states (R362-R365). -/

/-- A queue stops with an error: one ERROR completion goes through a slot, after those of the entries
before it (R364). -/
def SubQ.failed (code : Nat) (index : Word) (order : Nat) (q : SubQ) : SubQ :=
  { q with state := .error, err := code, errIndex := index
           slots := q.slots ++ [{ firstIdx := index, lastIdx := index, ready := true, error := true
                                  body := List.replicate 12 0, order := order }] }
def State.queueError (k code : Nat) (index : Word) (s : State) : State :=
  { s with host.subq := mapMod SubQ.dflt s.host.subq k (SubQ.failed code index s.host.nextOutcome)
           host.nextOutcome := s.host.nextOutcome + 1 }

/-- A configuration is valid (R362). -/
def State.configOk (s : State) (kind : QKind) (q : SubQ) : Bool :=
  decide (6 ≤ q.log2) && decide (q.log2 ≤ 12) && (s.cqn q.cq).enable &&
  (match kind with
   | .rx => decide (1 ≤ q.bufUnits) && decide (q.bufUnits ≤ 64) && decide (4 ≤ q.qshare) && decide (q.qshare ≤ 2048)
   | _ => decide (1 ≤ q.weight) && decide (q.weight ≤ 255) && decide (1 ≤ q.burst) && decide (q.burst ≤ 64))

/-- The oldest waiting frame of a receive queue can be reserved. -/
def SubQ.reservable (q : SubQ) : Bool :=
  match q.waiting with
  | w :: _ => decide (q.needs w.len ≤ q.published) && decide (q.slots.length < 64)
  | [] => true

/-- Reservations of a queue that may try them fail from now on for the frames that have not failed yet
(R369). -/
def State.noteFailures (k : Nat) (s : State) : State :=
  let q := s.sub k
  if s.reserving q && !q.reservable then
    s.modSub k fun q => { q with waiting := q.waiting.map fun w => { w with firstFail := w.firstFail.orElse fun _ => some s.up } }
  else s

/-- Where a queue fetches from when it starts again: HEAD, or past the entries of received frames whose completions
are held (R363, R366). -/
def SubQ.restartAt (q : SubQ) : Word :=
  match (q.slots.filter fun x => !x.error).getLast? with
  | some x => if (x.lastIdx - q.head).toNat < (q.tail - q.head).toNat then x.lastIdx + 1 else q.head
  | none => q.head

/-- HQ_ENABLE (R362): ENABLE written 1 starts a submission queue or puts it in ERROR for a bad configuration. -/
def execHqEnable (q : QId) (s : State) : Host.Outcome State Fault Refusal :=
  .next <|
    let x := s.sub q.key
    if !s.barOpen || !q.ok || x.state ≠ .disabled then s
    else
      let s1 := s.modSub q.key fun x => { x with enable := true, err := 0, errIndex := 0, fetch := x.restartAt, partTail := none }
      if s.configOk q.kind x then (s1.modSub q.key fun x => { x with state := .running }).noteFailures q.key
      else s1.queueError q.key 9 x.head

/-- A slot that stays when its queue is disabled: its chain is retired, or its completion is held (R363,
R366). -/
def Slot.kept (x : Slot) : Bool := x.ready || (x.tx.isNone && x.desc = [])

/-- ENABLE written 0 (R362, R363): entries fetched and not retired are discarded. -/
def SubQ.disabled (q : SubQ) : SubQ :=
  let q1 := { q with enable := false, state := .draining, slots := q.slots.filter Slot.kept, partTail := none }
  { q1 with fetch := q1.restartAt }

/-- HQ_DISABLE (R363): ENABLE written 0 drains a submission queue, discarding unretired entries. -/
def execHqDisable (q : QId) (s : State) : Host.Outcome State Fault Refusal :=
  .next <|
    if !s.barOpen || !q.ok || (s.sub q.key).state = .disabled then s
    else s.modSub q.key SubQ.disabled

/-- QUEUE_DRAIN_COMPLETE (R362): A draining queue becomes DISABLED once its requests are answered. -/
def execQueueDrainComplete (q : QId) (s : State) : Host.Outcome State Fault Refusal :=
  .next <|
    let x := s.sub q.key
    if q.ok && x.state = .draining && x.requests = 0 then s.modSub q.key fun x => { x with state := .disabled } else s

/-- HQ_IDX_RESET (R347): IDX_RESET sets HEAD and TAIL of a disabled queue to 0. -/
def execHqIdxReset (q : QId) (s : State) : Host.Outcome State Fault Refusal :=
  .next <|
    if s.barOpen && q.ok && (s.sub q.key).state = .disabled then
      s.modSub q.key fun x => { x with head := 0, tail := 0, fetch := 0, merged := [] }
    else s

/-- HQ_TAIL_WRITE (R346). A write of HQ_TAIL (R346, R369). An invalid one leaves TAIL as it is and stops a running
queue. -/
def execHqTailWrite (q : QId) (value : Word) (s : State) : Host.Outcome State Fault Refusal :=
  .next <|
    if !s.barOpen || !q.ok then s
    else
      let x := s.sub q.key
      let s1 := s.modSub q.key fun x => { x with dropping := false }
      if decide ((value - x.tail).toNat ≤ x.size) && decide ((value - x.head).toNat ≤ x.size) then
        s1.modSub q.key fun x => { x with tail := value }
      else if x.state = .running then s1.queueError q.key 8 x.head
      else s1

/-- HQ_DROP_READ (R347). A read of HQ_DROP clears it. -/
def execHqDropRead (q : Nat) (s : State) : Host.Outcome State Fault Refusal :=
  .next <|
    if 64 ≤ q then s
    else
      let x := s.sub (64 + q)
      let a := min x.shareDrop (mapGet 0 s.cycle.shareDrops (64 + q))
      let b := min x.delayDrop (mapGet 0 s.cycle.delayDrops (64 + q))
      (s.modSub (64 + q) fun x => { x with shareDrop := a, delayDrop := b }).emit
        (.readData (BitVec.ofNat 32 ((x.shareDrop - a) * 65536 + (x.delayDrop - b))))

/-! Completion queues (R346, R348). -/

/-- CQ_ENABLE_WRITE (R348): setting or clearing ENABLE or IRQ_EN of a completion queue. -/
def execCqEnableWrite (q : Nat) (enable irqEn : Bool) (s : State) : Host.Outcome State Fault Refusal :=
  .next <| if !s.barOpen || 64 ≤ q then s else s.modCq q fun c => { c with enable := enable, irqEn := irqEn }

/-- CQ_IDX_RESET (R348). IDX_RESET while ENABLE is 0: held completions are discarded and their slots freed. -/
def execCqIdxReset (q : Nat) (s : State) : Host.Outcome State Fault Refusal :=
  .next <|
    if !s.barOpen || 64 ≤ q || (s.cqn q).enable then s
    else
      { s.modCq q fun c => { c with head := 0, tail := 0, err := false, late := [] } with
        host.subq := mapListed SubQ.dflt (fun _ x =>
          if x.cq = q then { x with slots := x.slots.filter fun y => !y.ready } else x) s.host.subq }

/-- CQ_HEAD_WRITE (R346). A write of CQ_HEAD; outside [CQ_HEAD, CQ_TAIL] it sets ERR. -/
def execCqHeadWrite (q : Nat) (value : Word) (s : State) : Host.Outcome State Fault Refusal :=
  .next <|
    if !s.barOpen || 64 ≤ q then s
    else s.modCq q fun c =>
      { c with head := value, err := c.err || decide ((c.tail - c.head).toNat < (value - c.head).toNat) }

/-! Service order (R361). -/

/-- Key of place `n` of the service order: TXQ00-TXQ63, then FCQ00-FCQ15. -/
def servedKey (n : Nat) : Nat := if n < 64 then n else 64 + n

/-- Bytes that the packet buffer holds for a port and class. -/
def State.classBytes (s : State) (p tc : Nat) : Nat := sizes ((mapGet [] (s.prt p).classes tc).map (·.bytes))

/-- The queue in place `n` is eligible. -/
def State.eligible (s : State) (n : Nat) : Bool :=
  let q := s.sub (servedKey n)
  q.state = .running && !q.stalled && decide (q.slots.length < 64) && s.canMaster && decide (0 < q.published) &&
  q.partTail ≠ some q.tail && (decide (64 ≤ n) || decide (s.classBytes q.port q.tc < 262144))

/-- min(BURST, credit) of a visit. -/
def SubQ.visitLimit (q : SubQ) : Int := min q.burst q.credit

/-- The visit ends: what it fetched is paid. -/
def State.endVisit (s : State) : State :=
  { s with host.subq := mapMod SubQ.dflt s.host.subq (servedKey s.host.visit.1) fun q => { q with credit := q.credit - s.host.visit.2 }
           host.visit := (s.host.visit.1, 0) }

/-- A new round: deficits carry over, and each queue gains its WEIGHT. -/
def State.newRound (s : State) : State :=
  { s with host.subq := mapModAll SubQ.dflt (fun _ q =>
             let d := min 0 q.credit
             { q with deficit := d, credit := d + q.weight }) ((List.range 80).map servedKey) s.host.subq }

/-- The first eligible queue with credit in places `a` to `b - 1`. -/
def State.firstServed (s : State) (a b : Nat) : Option Nat :=
  ((List.range (b - a)).map (a + ·)).find? fun n => s.eligible n && decide (0 < (s.sub (servedKey n)).credit)

/-- Up to so many rounds are begun until one of the first `n` queues is served, with the state of the service
then; a queue is at most 15 entries in debt. -/
def State.rounds (n : Nat) : Nat → State → Option (State × Nat)
  | 0, _ => none
  | k + 1, s =>
    match s.newRound.firstServed 0 n with
    | some i => some (s.newRound, i)
    | none => State.rounds n k s.newRound

/-- The queue served next, with the state of the service then. -/
def State.nextServed (s : State) : Option (State × Nat) :=
  let v := s.host.visit.1
  let q := s.sub (servedKey v)
  if s.eligible v && decide (0 < s.host.visit.2) && decide ((s.host.visit.2 : Int) < q.visitLimit) then some (s, v)
  else
    let s1 := s.endVisit
    match (s1.firstServed (v + 1) 80).orElse fun _ => s1.firstServed 0 80 with
    | some n => some (s1, n)
    | none => State.rounds 80 32 s1

/-! Descriptors (R349-R354, R364). -/

/-- A bit field of two descriptor bytes from byte `i`. -/
def dfld (d : Descriptor) (i hi lo : Nat) : Nat := (ofLe (slice d i 2) >>> lo) % 2 ^ (hi - lo + 1)
/-- All bytes of a range are 0. -/
def zeros (d : Descriptor) (i n : Nat) : Bool := (slice d i n).all fun b => decide (b = 0)
def Descriptor.first (d : Descriptor) : Bool := (byteAt d 25).getLsbD 0
def Descriptor.last (d : Descriptor) : Bool := (byteAt d 25).getLsbD 1
def Descriptor.cmpl (d : Descriptor) : Bool := (byteAt d 25).getLsbD 2
/-- LEN of a transmit descriptor. -/
def Descriptor.txLen (d : Descriptor) : Nat := dfld d 8 13 0

/-- LAP is that of an index (R345, R353). -/
def lapOk (size : Nat) (index : Word) (d : Descriptor) : Bool := (byteAt d 24).toNat = index.toNat / size % 256

/-- Reserved bits of the common fields are 0. -/
def commonOk (d : Descriptor) : Bool := decide ((byteAt d 25).toNat < 8) && zeros d 26 6

/-- The error of entry `i` of a transmit chain, or 0 (R349, R350, R354, R364). -/
def txEntryError (size : Nat) (index : Word) (i : Nat) (d : Descriptor) : Nat :=
  let own := if i = 0 then dfld d 10 14 10 = 0 && decide ((byteAt d 14).toNat < 4) else zeros d 10 5
  let reserved := !commonOk d || dfld d 8 15 14 ≠ 0 || !zeros d 15 9 || (!d.last && d.cmpl) || (d.first = (i = 0) && !own)
  if !lapOk size index d then 1
  else if reserved then 2
  else if d.first ≠ (i = 0) || 16 ≤ i then 3
  else if d.txLen = 0 || 9216 < d.txLen then 4
  else 0

/-- The error of a fabric command entry, or 0 (R192, R193, R349). -/
def fcqEntryError (size : Nat) (index : Word) (d : Descriptor) : Nat :=
  let len := ofLe (slice d 8 4)
  let op := (byteAt d 12).toNat
  if !lapOk size index d then 1
  else if !commonOk d || !decide ((byteAt d 13).toNat < 2) || !zeros d 16 8 then 2
  else if !d.first || !d.last then 3
  else if op = 1 && (len % 8 ≠ 0 || len < 40 || 172064 < len) then 4
  else if ofLe (slice d 0 8) % 8 ≠ 0 then 5
  else if op ≠ 1 && op ≠ 2 then 6
  else 0

/-- What reading a chain comes to. -/
inductive ChainRead where
  | chain (n : Nat) | malformed (code i : Nat) | open_
  deriving DecidableEq, Repr, Inhabited

/-- A transmit chain read entry by entry from entry `i` of it. -/
def readChain (size : Nat) (index : Word) : Nat → List Descriptor → ChainRead
  | _, [] => .open_
  | i, d :: ds =>
    let e := txEntryError size (index + BitVec.ofNat 32 i) i d
    if e ≠ 0 then .malformed e i
    else if d.last then .chain (i + 1)
    else readChain size index (i + 1) ds

/-- The length that MAX_LEN limits: with the FCS that the device appends (R237). -/
def wireLength (fcsHost : Bool) (n : Nat) : Nat := if fcsHost then n else max 60 n + 4

/-- A chain of `n` entries is fetched into a slot. -/
def SubQ.fetched (n : Nat) (req : Nat) (x : Slot) (q : SubQ) : SubQ :=
  { q with fetch := q.fetch + BitVec.ofNat 32 n, slots := q.slots ++ [x], requests := q.requests + req }

/-- A visit gains `n` entries. -/
def State.visited (place n : Nat) (s : State) : State :=
  { s with host.visit := (place, (if s.host.visit.1 = place then s.host.visit.2 else 0) + n) }

/-- A transmit queue fetches a chain whose buffers hold `bytes` (R361, R364). The frame limits are those of
PORT; a stream's copies are limited by R290. -/
def State.fetchTx (place : Nat) (entries : List Descriptor) (bytes : List Byte) (s : State) : State :=
  let q := s.sub place
  match readChain q.size q.fetch 0 entries with
  | .open_ =>
    if entries.length = q.published then s.modSub place fun q => { q with partTail := some q.tail } else s
  | .malformed e i => s.queueError place e (q.fetch + BitVec.ofNat 32 i)
  | .chain n =>
    let es := entries.take n
    let d := es.headD []
    let total := (es.map Descriptor.txLen).sum
    let fcsHost := (byteAt d 14).getLsbD 0
    let stream := if dfld d 10 15 15 = 1 then some (dfld d 10 9 0) else none
    let last := q.fetch + BitVec.ofNat 32 n - 1
    if bytes.length ≠ total then s
    else if (fcsHost && decide (total < 64)) ||
        (stream.isNone && decide ((s.prt q.port).maxLen < wireLength fcsHost total)) then s.queueError place 4 last
    else
      let x : Slot := {
        firstIdx := q.fetch, lastIdx := last, cmpl := (es.getLastD []).cmpl
        tx := some ⟨bytes, stream, dfld d 12 15 0, fcsHost⟩
        frame := s.host.nextFrame, len := total, copies := 1
        tsReq := (byteAt d 14).getLsbD 1 }
      ({ s with host.nextFrame := s.host.nextFrame + 1 }.modSub place (SubQ.fetched n 1 x)).visited place n

/-- A fabric command queue fetches an entry. -/
def State.fetchFcq (place : Nat) (d : Descriptor) (s : State) : State :=
  let k := servedKey place
  let q := s.sub k
  let e := fcqEntryError q.size q.fetch d
  if e ≠ 0 then s.queueError k e q.fetch
  else
    let x : Slot := { firstIdx := q.fetch, lastIdx := q.fetch, desc := d }
    (s.modSub k (SubQ.fetched 1 (if (byteAt d 12).toNat = 1 then 1 else 0) x)).visited place 1

/-- TX_CHAIN_FETCH (R361): the entries are those read, up to the first LAST, the first faulty one or
the last published one. Only the queue whose turn it is fetches. -/
def execTxChainFetch (q : QId) (entries : List Descriptor) (buffers : List Byte) (s : State) : Host.Outcome State Fault Refusal :=
  .next <|
    let place := match q.kind with
      | .tx => q.idx
      | .fcq => 64 + q.idx
      | .rx => 80
    if !q.ok || q.kind = .rx || entries.any (fun d => d.length ≠ 32) || (s.sub q.key).published < entries.length then s
    else match s.nextServed with
      | none => s
      | some (s1, n) =>
        if n ≠ place then s
        else match q.kind, entries with
          | .tx, _ => s1.fetchTx place entries buffers
          | _, [d] => s1.fetchFcq place d
          | _, _ => s

/-! Answers of host memory (R354, R364). -/

/-- The chain whose buffers are read first: the oldest unread one before any error. -/
def SubQ.reading (q : SubQ) : Option Slot := (q.slots.takeWhile fun x => !x.error).find? fun x => x.tx.isSome

/-- The frame of a chain that is read (R237): padded and given an FCS unless the host supplied one. -/
def TxPend.frame (x : TxPend) : List Byte :=
  if x.fcsHost then x.bytes else withFcs (x.bytes ++ List.replicate (60 - x.bytes.length) 0)

/-- The copies that a chain's frame came to: with none the outcome stands at once (R357). -/
def Slot.launched (copies st : Nat) (x : Slot) : Slot := { x with tx := none, copies := copies, tstatus := st }

/-- A transmit chain is retired and its frame launched (R288, R354). -/
def State.launch (k : Nat) (x : Slot) (t : TxPend) (s : State) : State :=
  let q := s.sub k
  let set (copies st : Nat) (s : State) : State := s.modSub k fun c => SubQ.txReady x.frame
    { c with slots := c.slots.map fun y => if y = x then y.launched copies st else y }
  let s1 := s.modSub k fun c => { c with head := x.lastIdx + 1, requests := c.requests - 1 }
  let padded := !t.fcsHost && decide (t.bytes.length < 60)
  match t.stream with
  | none =>
    let s2 := if padded then s1.count q.port 32 1 else s1
    (set 1 0 s2).enqueue q.port { bytes := t.frame, tc := q.tc, owner := some (k, x.frame) }
  | some n =>
    match s1.enterStream n { frame := t.frame, ingress := none, stamp := 0, owner := some (k, x.frame), hostSeq := some t.seq, padded := padded } with
    | (s2, copies, hostCopy) => set copies (if copies = 0 && !hostCopy then 3 else 0) s2

/-- A buffer read ended in error: the chain's slot takes the ERROR completion, and HEAD stays at it. -/
def SubQ.bufferError (order : Nat) (x : Slot) (q : SubQ) : SubQ :=
  { q with
    state := if q.state = .running then .error else q.state
    err := 7, errIndex := x.firstIdx, requests := q.requests - 1
    slots := q.slots.map fun y =>
      if y = x then { firstIdx := x.firstIdx, lastIdx := x.firstIdx, ready := true, error := true
                      body := List.replicate 12 0, order := order } else y }
def State.bufferError (k : Nat) (x : Slot) (s : State) : State :=
  { s with host.subq := mapMod SubQ.dflt s.host.subq k (SubQ.bufferError s.host.nextOutcome x)
           host.nextOutcome := s.host.nextOutcome + 1 }

/-- A failed DMA read is an event of the host interface too (16 R466). -/
def State.dmaEvent (s : State) : State := s.raise 166

/-- MEMORY_REQUEST_ANSWERED for the buffers of queue `k`. -/
def State.bufferAnswered (k : Nat) (ok : Bool) (s : State) : State :=
  let q := s.sub k
  if q.state = .draining || q.state = .disabled then s.modSub k fun q => { q with requests := q.requests - 1 }
  else match q.reading with
    | none => s
    | some x =>
      match x.tx with
      | none => s
      | some t =>
        if !ok then (s.bufferError k x).dmaEvent
        else if t.stream.any fun n => s.counterHeld n then s
        else s.launch k x t

/-- MEMORY_REQUEST_ANSWERED for the sheaf record of FCQ `k`. -/
def State.recordAnswered (k : Nat) (ok : Bool) (words : List Word) (s : State) : State :=
  let q := s.sub k
  if q.state = .draining || q.state = .disabled then s.modSub k fun q => { q with requests := q.requests - 1 }
  else match (q.slots.takeWhile fun x => !x.error).find? fun x => x.desc ≠ [] && (byteAt x.desc 12).toNat = 1 && x.record.isNone && !x.ready with
    | none => s
    | some x =>
      if !ok then (s.bufferError k x).dmaEvent
      else if words.length * 4 ≠ ofLe (slice x.desc 8 4) then s
      else s.modSub k fun q => { q with
        requests := q.requests - 1
        slots := q.slots.map fun y => if y = x then { y with record := some words } else y }

/-- MEMORY_REQUEST_ANSWERED (R364): A host memory read for a descriptor, buffer or sheaf record returns its data, or
returns an error completion or poisoned data. -/
def execMemoryRequestAnswered (answer : MemAnswer) (s : State) : Host.Outcome State Fault Refusal :=
  .next <|
    match answer with
    | .descriptors q ok =>
      let x := s.sub q.key
      if q.ok && !ok && x.state = .running && decide (0 < x.published) then (s.queueError q.key 7 x.fetch).dmaEvent else s
    | .buffer q ok => if q.ok && q.kind = .tx then s.bufferAnswered q.key ok else s
    | .sheafRecord q ok words => if q.ok && q.kind = .fcq then s.recordAnswered q.key ok words else s

/-! Receive (R358, R368, R369). -/

/-- The error of a receive entry, or 0 (R349, R351). -/
def rxEntryError (size : Nat) (index : Word) (d : Descriptor) : Nat :=
  if !lapOk size index d then 1
  else if !zeros d 8 16 || !zeros d 25 7 then 2
  else 0

/-- Bytes 0-11 of a receive completion (R358). -/
def rxBody (w : RxWait) : List Byte :=
  leNat 2 w.len ++ [w.flags] ++
    leNat 1 (w.port % 4 + flag w.ts.isSome 2 + w.source * 8 + flag w.stripped 5) ++
    leNat 4 ((w.ts.getD 0) % 2 ^ 32) ++ leNat 2 w.tag ++ leNat 2 (if w.source = 2 then w.seq else 0)

/-- The frame written into its buffers, filled in order (R358). -/
def State.writeBuffers (unit : Nat) : List Descriptor → List Byte → State → State
  | [], _, s => s
  | d :: ds, bs, s => State.writeBuffers unit ds (bs.drop unit) (s.emit (.hostWrite (ofLe (slice d 0 8)) (bs.take unit)))

/-- RX_RESERVATION (R368): the entries are those from the next free one on that the oldest waiting
frame needs. -/
def execRxReservation (q : Nat) (entries : List Descriptor) (s : State) : Host.Outcome State Fault Refusal :=
  .next <|
    let k := 64 + q
    let x := s.sub k
    match x.waiting with
    | [] => s
    | w :: rest =>
      let n := x.needs w.len
      if 64 ≤ q || !s.reserving x || 64 ≤ x.slots.length || x.published < n || entries.length ≠ n ||
          entries.any (fun d => d.length ≠ 32) then s
      else match entries.zipIdx.find? fun p => rxEntryError x.size (x.fetch + BitVec.ofNat 32 p.2) p.1 ≠ 0 with
        | some p => s.queueError k (rxEntryError x.size (x.fetch + BitVec.ofNat 32 p.2) p.1) (x.fetch + BitVec.ofNat 32 p.2)
        | none =>
          let slot : Slot := { firstIdx := x.fetch, lastIdx := x.fetch + BitVec.ofNat 32 n - 1, ready := true, body := rxBody w }
          let s1 := s.writeBuffers (x.bufUnits * 256) entries w.bytes
          let s2 := s1.modSub k fun x => { x with waiting := rest, fetch := x.fetch + BitVec.ofNat 32 n, slots := x.slots ++ [slot] }
          (s2.noteFailures k).pauseChecks

/-- RX_DROP_DELAY: the oldest frame has waited DROP_DELAY without a reservation (R369). -/
def execRxDropDelay (q : Nat) (s : State) : Host.Outcome State Fault Refusal :=
  .next <|
    let k := 64 + q
    let x := s.sub k
    match x.waiting with
    | [] => s
    | w :: rest =>
      match w.firstFail with
      | none => s
      | some t =>
        if decide (q < 64) && s.reserving x && !x.reservable && decide (t + min 10000 x.dropDelay * 10000 ≤ s.up) then
          ({ s with cycle.delayDrops := mapMod 0 s.cycle.delayDrops k (· + 1) }.modSub k fun x => { x with waiting := rest, delayDrop := min 65535 (x.delayDrop + 1), dropping := true }).pauseChecks
        else s

/-! Completions (R355-R359, R366, R367). -/

/-- The kind and number of the queue of a key. -/
def kindOfKey (k : Nat) : Nat × Nat := if k < 64 then (0, k) else if k < 128 then (1, k - 64) else (2, k - 128)

/-- What may be written next of a source queue: one of its slots, or a final sheaf outcome. -/
inductive NextCompl where
  | slot (k : Nat) (x : Slot)
  | late (x : Late)
  deriving DecidableEq, Repr, Inhabited

/-- The order of an FCQ's completion. -/
def NextCompl.order : NextCompl → Nat
  | .slot _ x => x.order
  | .late x => x.order

/-- The one with the least order of outcome. -/
def leastOrder (l : List NextCompl) : Option NextCompl :=
  l.foldl (fun b x => match b with
    | none => some x
    | some y => if x.order < y.order then some x else some y) none

/-- What may be written next of queue `k` on completion queue `q`: the oldest slot of a TXQ or RXQ, the
earliest outcome of an FCQ (R359). -/
def State.nextOf (s : State) (q k : Nat) : Option NextCompl :=
  let x := s.sub k
  let late := (s.cqn q).late.filter fun l => 128 + l.q = k
  if k < 128 then
    match x.slots with
    | y :: _ => if x.cq = q && y.ready then some (.slot k y) else none
    | [] => none
  else leastOrder (((x.slots.filter fun y => y.ready && x.cq = q).map (NextCompl.slot k)) ++ late.map NextCompl.late)

/-- Every completion that may be written next on a completion queue. -/
def State.candidates (s : State) (q : Nat) : List NextCompl := (List.range 144).filterMap (s.nextOf q)

/-- The common word (R356). -/
def commonWord (k didx : Nat) (error batch : Bool) : List Byte :=
  leNat 4 ((kindOfKey k).1 * 2 ^ 30 + (kindOfKey k).2 * 2 ^ 24 + didx % 65536 * 256 + flag error 4 + flag batch 3)

/-- An entry is written, then CQ_TAIL advances and the entry counts towards the vector (R341, R371). -/
def State.writeEntry (q : Nat) (bytes : List Byte) (s : State) : State :=
  let c := s.cqn q
  let s1 := (s.emit (.hostWrite (c.base.toNat + 16 * (c.tail.toNat % c.size)) bytes)).modCq q fun c => { c with tail := c.tail + 1 }
  if c.irqEn then s1.countEvent c.vector else s1

/-- A merged chain lies before index `i`. -/
def mergedBefore (i m : Word) : Bool := decide ((i - m).toNat < 2 ^ 31)

/-- A slot whose completion has been written is free; the entries of a receive frame are retired (R354). -/
def SubQ.written (k : Nat) (x : Slot) (q : SubQ) : SubQ :=
  { q with
    slots := q.slots.filter (· ≠ x), merged := q.merged.filter fun m => !mergedBefore x.lastIdx m
    head := if 64 ≤ k && decide (k < 128) && !x.error && decide ((x.lastIdx - q.head).toNat < (q.tail - q.head).toNat)
      then x.lastIdx + 1 else q.head }

/-- One held completion is written. -/
def State.writeCompl (q : Nat) (n : NextCompl) (s : State) : State :=
  match n with
  | .slot k x =>
    let batch := (s.sub k).merged.any (mergedBefore x.lastIdx)
    let s1 := s.modSub k (SubQ.written k x)
    (s1.writeEntry q (x.body ++ commonWord k x.lastIdx.toNat x.error batch)).noteFailures k
  | .late x =>
    let s1 := s.modCq q fun c => { c with late := c.late.filter (· ≠ x) }
    s1.writeEntry q (x.body ++ commonWord (128 + x.q) x.idx false false)

/-- Completion queue `q` can take an entry. -/
def State.cqTakes (s : State) (q : Nat) : Bool :=
  let c := s.cqn q
  decide (q < 64) && c.enable && !c.err && decide ((c.tail - c.head).toNat < c.size) && s.canMaster && !s.power.classF

/-- COMPLETION_WRITE: one completion; which source queue goes first is open (R359), a free choice. -/
def State.completeOne (q : Nat) (s : State) : State :=
  let l := s.candidates q
  match l[(s.measured 13 q).toNat % max 1 l.length]? with
  | some n => if s.cqTakes q then s.drawn.writeCompl q n else s
  | none => s

/-- COMPLETION_WRITE (R366): A held completion is written when its completion queue has room. -/
def execCompletionWrite (cq : Nat) (s : State) : Host.Outcome State Fault Refusal := .next <| s.completeOne cq

/-! Interrupts and the states of the function (R343, R344, R371). -/

/-- MODERATION_TIMER (R371): ELAPSED reaching MOD_TIME triggers a vector. -/
def execModerationTimer (vector : Nat) (s : State) : Host.Outcome State Fault Refusal :=
  .next <|
    let x := mapGet Vec.dflt s.host.vecs vector
    if decide (vector < 128) && x.since.isSome && decide (x.modTime ≤ s.elapsedUs x) then s.trigger vector else s

/-- A pending vector that can be delivered sends its message. -/
def State.deliver (v : Nat) (s : State) : State :=
  let x := mapGet Vec.dflt s.host.vecs v
  if x.pending && !s.masked v && s.canMaster then
    { s with host.vecs := mapSet Vec.dflt s.host.vecs v { x with pending := false, d3Pend := false } }.sendMsix v
  else s

/-- PENDING_VECTOR_DELIVER (R371): A pending vector sends its message when it becomes deliverable. -/
def execPendingVectorDeliver (vector : Nat) (s : State) : Host.Outcome State Fault Refusal :=
  .next <| if vector < 128 then s.deliver vector else s

/-- Every held completion that a queue can take is written; `n` bounds their number. -/
def State.completeAll (q : Nat) : Nat → State → State
  | 0, s => s
  | n + 1, s => if s.candidates q = [] || !s.cqTakes q then s else State.completeAll q n (s.completeOne q)

/-- Memory requests are allowed again after `t`: drop delays go on, held completions are written, and
pending vectors delivered in vector order (R343). -/
def State.resume (t : Nat) (s : State) : State :=
  let away := s.up - t
  let s1 := { s with
    host.awaySince := none
    host.subq := mapListed SubQ.dflt (fun _ q => { q with
      waiting := q.waiting.map fun w => { w with firstFail := w.firstFail.map (· + away) } }) s.host.subq }
  let held := ((s1.host.subq.map fun q => q.2.slots.length).sum + (s1.host.cq.map fun c => c.2.late.length).sum)
  let s2 := (List.range 64).foldl (fun u q => u.completeAll q held) s1
  let s3 := (List.range 64).foldl (fun u q => u.noteFailures (64 + q)) s2
  (List.range 128).foldl (fun u v => u.deliver v) s3

/-- The function stops issuing requests. -/
def State.away (s : State) : State := { s with host.awaySince := s.host.awaySince.orElse fun _ => some s.up }

/-- Requests are allowed again, if they are. -/
def State.back (s : State) : State := if s.canMaster then s.resume (s.host.awaySince.getD s.up) else s

/-- D3HOT_ENTRY (R343): the function is put in D3hot and stops memory requests and messages. -/
def execD3hotEntry (s : State) : Host.Outcome State Fault Refusal :=
  .next <| { s with host.d3hot := true }.away

/-- D0_RETURN (R343): return to D0 writes held completions and delivers pending vectors. -/
def execD0Return (s : State) : Host.Outcome State Fault Refusal :=
  .next <| if s.host.d3hot then { s with host.d3hot := false }.back else s

/-- BUS_MASTER_ENABLE_WRITE (R344): bus Master Enable cleared or set changes whether the device acts as in D3hot. -/
def execBusMasterEnableWrite (enable : Bool) (s : State) : Host.Outcome State Fault Refusal :=
  .next <| if enable then { s with host.busMaster := true }.back else { s with host.busMaster := false }.away

end Sys2Proof.Machine
end

