-- ==== Sys2Proof/Machine/RuleOps.lean ====
section
/-! DEFINITION. The Thresher's programs, its matcher, its tables and its lookup: 11_thresher R308-R325,
R329. -/
namespace Sys2Proof.Machine

/-- Store 1 or store 0. -/
def Rules.store (r : Rules) (one : Bool) : Generation := if one then r.store1 else r.store0
/-- `f` applied to the shadow generation (R332). -/
def State.modShadow (f : Generation → Generation) (s : State) : State :=
  if s.rules.active1 then { s with rules.store0 := f s.rules.store0 } else { s with rules.store1 := f s.rules.store1 }

/-- Counter `i` of R336 gains 1. -/
def State.countRule (i : Nat) (s : State) : State :=
  { s with rules.ctr := mapMod 0 s.rules.ctr i fun c => min (2 ^ 64 - 1) (c + 1) }

/-! Swaps (R333, R334). -/

/-- The former shadow becomes active at a network time, and the old generation drains. -/
def State.swapNow (at_ : Nat) (s : State) : State :=
  { s with rules.active1 := !s.rules.active1, rules.genNum := s.rules.genNum + 1
           rules.swappedAt := at_, rules.swap := .draining at_ }

/-- The time of a scheduled swap has come. -/
def State.swapDue (s : State) : State :=
  match s.rules.swap with
  | .scheduled t => if t ≤ s.now then s.swapNow t else s
  | _ => s

/-- A packet latched a store and is not yet released. -/
def State.latched (s : State) (one : Bool) : Bool :=
  s.rules.flight.any fun p => p.2.any fun x => x.gen = one && x.stage ≠ .waiting

/-- A swap of which no packet of the old generation remains is complete. -/
def State.swapDrained (s : State) : State :=
  match s.rules.swap with
  | .draining _ => if s.latched (!s.rules.active1) then s else { s with rules.swap := .none }
  | _ => s

/-- A swap is between its command and its completion (R334). -/
def State.swapBusy (s : State) : Bool := s.swapDrained.rules.swap ≠ .none && s.rules.swap ≠ .withdrawn

/-! Programs (R310-R313, R317). -/

def opOf (w : Word) : Nat := fld w 31 26

/-- The bits that an operation's format lists (R310, R311); `none` for a reserved code. -/
def opMask (op : Nat) : Option Word :=
  if op = 0x00 then some 0xFC000000#32
  else if 1 ≤ op ∧ op ≤ 8 then some 0xFFF8FFFF#32
  else if op = 0x10 ∨ op = 0x11 then some 0xFF80FF00#32
  else if op = 0x12 then some 0xFF80FFFF#32
  else if op = 0x18 then some 0xFFFFFF00#32
  else if op = 0x19 then some 0xFFF70000#32
  else if op = 0x20 then some 0xFF800FFF#32
  else if op = 0x28 then some 0xFFFFFF00#32
  else if op = 0x30 then some 0xFC00003F#32
  else if op = 0x31 then some 0xFC000001#32
  else if op = 0x32 then some 0xFF80FFFF#32
  else if op = 0x33 then some 0xFC000FFF#32
  else none

/-- Firmware accepts an instruction (R317). -/
def wordOk (w : Word) : Bool :=
  let op := opOf w
  (match opMask op with
   | none => false
   | some m => decide (w &&& ~~~ m = 0)) &&
  !(op = 0x20 && fld w 25 23 = 7) && !(op = 0x28 && decide (0x0B ≤ fld w 25 20)) &&
  !(op = 0x12 && decide (7 ≤ fld w 7 0)) &&
  !(op = 0x18 && (decide (40 < fld w 25 20 + fld w 19 16 + 1) || decide (256 < fld w 15 8 + fld w 19 16 + 1))) &&
  !(op = 0x19 && decide (38 < fld w 25 20)) && !(op = 0x11 && decide (254 < fld w 15 8))

/-- Registers. -/
def Thread.reg (t : Thread) (i : Nat) : BitVec 16 := t.x.getD i 0
def Thread.setReg (i : Nat) (v : BitVec 16) (t : Thread) : Thread := { t with x := t.x.set i v }
/-- The operand of an ALU instruction. -/
def Thread.operand (t : Thread) (w : Word) : BitVec 16 :=
  if bit w 19 then w.setWidth 16 else t.reg (fld w 22 20)

/-- The instruction is executed and the next one follows. -/
def Thread.next (t : Thread) : Thread := { t with executed := t.executed + 1, pc := (t.pc + 1) % 4096 }

/-- How a pass ends (R329). -/
inductive PassEnd where
  | done | frag | depth | len | fault | recirc (target : Nat)
  deriving DecidableEq, Repr, Inhabited

/-- Bytes of a window from offset `off`: bytes beyond the frame read 0 (R308). `bs` is the frame without
its FCS. -/
def Thread.read (t : Thread) (bs : List Byte) (off n : Nat) : List Byte :=
  (List.range n).map fun i => byteAt bs (t.wbase + off + i)

/-- SHORT sets when a byte that is read lies beyond the frame (R309). -/
def Thread.short (bs : List Byte) (off n : Nat) (t : Thread) : Thread :=
  if bs.length < t.wbase + off + n then { t with flags := t.flags ||| 0x08#8 } else t

/-- The KEY bytes from `k` replaced. -/
def Thread.setKey (k : Nat) (bs : List Byte) (t : Thread) : Thread :=
  { t with key := (spliced t.key k bs.length bs).take 40 }

/-- The length of a header (R313) and the bytes from CUR that give it: `x` is the length from the
instruction. -/
def headerLength (type x : Nat) (h : Nat → Nat) : Nat × Nat :=
  if type = 3 then (h 0 % 16 * 4, 1)
  else if type = 4 then (40, 0)
  else if type = 5 then ((h 1 + 1) * 8, 2)
  else if type = 6 then (8, 0)
  else if type = 7 then (8, 0)
  else if type = 8 then (h 12 / 16 * 4, 13)
  else if type = 9 then (6, 0)
  else (x, 0)

/-- The length conflict of R314 step 2. -/
def lengthConflict (type : Nat) (h : Nat → Nat) (rmn : Int) : Bool :=
  let total := h 2 * 256 + h 3
  let payload := h 4 * 256 + h 5
  (type = 3 && (decide (h 0 % 16 < 5) || decide (total < h 0 % 16 * 4) || decide (rmn < total))) ||
  (type = 4 && (payload = 0 || decide (rmn < 40 + payload)))

/-- The fragment test of R314 step 4. -/
def isFragment (type : Nat) (h : Nat → Nat) : Bool :=
  type = 6 || (type = 3 && decide ((h 6 * 256 + h 7) % 0x4000 ≠ 0))

/-- HDR: R314. -/
def Thread.hdr (bs : List Byte) (w : Word) (t : Thread) : Thread × Option PassEnd :=
  let type := fld w 25 20
  let h (i : Nat) : Nat := (byteAt bs (t.wbase + t.cur + i)).toNat
  let x := if bit w 19 then fld w 15 8 else (t.reg (fld w 18 16)).toNat
  let l := headerLength type x h
  let t1 := if l.2 = 0 then t else t.short bs t.cur l.2
  let t2 := if type = 3 then t1.short bs t.cur 4 else if type = 4 then t1.short bs t.cur 6 else t1
  if 16 ≤ t.headers || 256 < t.cur + l.1 then (t, some .depth)
  else if lengthConflict type h ((bs.length : Int) - (t.wbase + t.cur : Nat)) then (t2.next, some .len)
  else
    let t3 := if type = 3 then t2.short bs t.cur 8 else t2
    let t4 := { t3.next with
      stack := (type, t.wbase + t.cur) :: t.stack, cur := t.cur + l.1, headers := t.headers + 1 }
    if isFragment type h then ({ t4 with flags := t4.flags ||| 0x01#8 }, some .frag) else (t4, none)

/-- A metadata item (R312). -/
def Thread.item (t : Thread) (bs : List Byte) (i : Nat) : BitVec 16 :=
  BitVec.ofNat 16 (
    if i = 0 then t.port else if i = 1 then min 65535 bs.length else if i = 2 then t.wbase
    else if i = 3 then t.cur else if i = 4 then t.headers else if i = 5 then t.executed
    else if 0 < tagsOf bs then outerTci bs % 4096 else 0xFFFF)

/-- A branch condition (R312). -/
def Thread.holds (t : Thread) (c : Nat) : Bool :=
  if c = 0 then true else if c = 1 then t.z else if c = 2 then !t.z else if c = 3 then t.lt
  else if c = 4 then !t.lt else if c = 5 then t.lt || t.z else !t.lt && !t.z

/-! The ALU, load, key and control operations: one function each (R311). -/

def Thread.alu (f : BitVec 16 → BitVec 16 → BitVec 16) (w : Word) (t : Thread) : Thread × Option PassEnd :=
  let d := fld w 25 23
  ((t.setReg d (f (t.reg d) (t.operand w))).next, none)

def Thread.cmp (w : Word) (t : Thread) : Thread × Option PassEnd :=
  let a := t.reg (fld w 25 23)
  let b := t.operand w
  ({ t.next with z := a = b, lt := decide (a < b) }, none)

/-- LDB (`n` 1) and LDH (`n` 2). -/
def Thread.load (n : Nat) (bs : List Byte) (w : Word) (t : Thread) : Thread × Option PassEnd :=
  let o := t.cur + fld w 15 8
  if 256 < o + n then (t, some .depth)
  else (((t.short bs o n).setReg (fld w 25 23) (BitVec.ofNat 16 (ofBe (t.read bs o n)))).next, none)

def Thread.ldm (bs : List Byte) (w : Word) (t : Thread) : Thread × Option PassEnd :=
  ((t.setReg (fld w 25 23) (t.item bs (fld w 7 0))).next, none)

def Thread.kld (bs : List Byte) (w : Word) (t : Thread) : Thread × Option PassEnd :=
  let o := t.cur + fld w 15 8
  let n := fld w 19 16 + 1
  if 256 < o + n then (t, some .depth)
  else (((t.short bs o n).setKey (fld w 25 20) (t.read bs o n)).next, none)

def Thread.kmov (w : Word) (t : Thread) : Thread × Option PassEnd :=
  ((t.setKey (fld w 25 20) (be16Bytes (t.reg (fld w 18 16)).toNat)).next, none)

def Thread.br (w : Word) (t : Thread) : Thread × Option PassEnd :=
  (if t.holds (fld w 25 23) then { t.next with pc := fld w 11 0 } else t.next, none)

def Thread.prof (w : Word) (t : Thread) : Thread × Option PassEnd := ({ t.next with profile := fld w 5 0 }, none)

def Thread.mark (w : Word) (t : Thread) : Thread × Option PassEnd :=
  let m : Mark := ⟨t.key, t.profile⟩
  (if bit w 0 then { t.next with outer := some m } else { t.next with l2 := some m }, none)

/-- PM: a second one in a packet is a FAULT (R317); at CUR 256 it would read window offset 256 (R309). -/
def Thread.pm (w : Word) (t : Thread) : Thread × Option PassEnd :=
  if 256 ≤ t.cur then (t, some .depth)
  else if t.pmDone then (t, some .fault)
  else ({ t.next with pmDone := true, pmWait := some (fld w 25 23, fld w 15 0) }, none)

def Thread.recirc (w : Word) (t : Thread) : Thread × Option PassEnd :=
  if t.pass2 then (t, some .fault) else (t.next, some (.recirc (fld w 11 0)))

/-! The payload matcher (R318, R319). -/

/-- A pattern record matches in the searched bytes under GROUPS. -/
def patternMatches (groups : Nat) (region : List Byte) (p : List Byte) : Bool :=
  let n := (byteAt p 0).toNat
  let b := byteAt p 1
  let data := slice p 4 n
  let at_ (q : Nat) : Bool := decide (q + n ≤ region.length) && decide (slice region q n = data)
  b.getLsbD 7 && groups.testBit (b.toNat % 16) &&
  (if b.getLsbD 6 then at_ (ofLe (slice p 2 2)) else (List.range region.length).any at_)

/-- The result of a search from P0. -/
def Generation.search (g : Generation) (groups : Nat) (bs : List Byte) (p0 : Nat) : Nat :=
  match g.patterns.find? fun p => patternMatches groups (slice bs p0 1024) p.2 with
  | some p => p.1
  | none => 0xFFFF

/-! Lookup (R320-R325). -/

/-- What a lookup compares. -/
structure LookKey where
  profile : Nat
  flags : BitVec 8
  key : List Byte
  deriving DecidableEq, Repr, Inhabited

/-- The 42 bytes over which H is computed. -/
def LookKey.bytes (k : LookKey) : List Byte := BitVec.ofNat 8 k.profile :: k.flags :: k.key

/-- The two buckets of R322. -/
def LookKey.buckets (k : LookKey) : Nat × Nat :=
  let h := (crc32c k.bytes).toNat
  let b1 := h % 16384
  let sig := if h / 65536 = 0 then 1 else h / 65536
  (b1, b1 ^^^ (sig % 16384 ||| 1))

/-- What a hashed entry compares; an empty list is a free way. -/
def hashedKey (e : List Byte) : LookKey := ⟨(byteAt e 0).toNat % 64, byteAt e 1, slice e 4 40⟩

/-- The eight ways of a key, b1 before b2. -/
def LookKey.ways (k : LookKey) : List Nat :=
  let b := k.buckets
  ([0, 1, 2, 3] : List Nat).map (b.1 * 4 + ·) ++ ([0, 1, 2, 3] : List Nat).map (b.2 * 4 + ·)

/-- The way that holds a key. -/
def findHashed (m : SMap (List Byte)) (k : LookKey) : Option Nat :=
  k.ways.find? fun n => mapGet [] m n ≠ [] && hashedKey (mapGet [] m n) = k

/-- Masked bytes agree. -/
def maskedEq (v m k : List Byte) : Bool :=
  ((v.zip m).zip k).all fun q => q.1.1 &&& q.1.2 = q.2 &&& q.1.2

/-- A ternary entry matches (R325). -/
def ternaryMatches (k : LookKey) (e : List Byte) : Bool :=
  (byteAt e 0).getLsbD 7 &&
  maskedEq ((byteAt e 0 &&& 0x3F#8) :: byteAt e 1 :: slice e 4 40) ((byteAt e 2 &&& 0x3F#8) :: byteAt e 3 :: slice e 44 40) k.bytes

/-- Four little-endian words of an action record. -/
def actionWords (bs : List Byte) : List Word :=
  ([0, 1, 2, 3] : List Nat).map fun i => BitVec.ofNat 32 (ofLe (slice bs (4 * i) 4))

/-- The rule of a key: action and source. -/
def Generation.lookup (g : Generation) (k : LookKey) : List Word × RuleSource :=
  match findHashed g.hashed k with
  | some n => (actionWords (slice (mapGet [] g.hashed n) 48 16), .hashed n)
  | none =>
    match g.ternary.find? fun e => ternaryMatches k e.2 with
    | some e => (actionWords (slice e.2 96 16), .ternary e.1)
    | none => (mapGet dropAction g.misses k.profile, .miss)

/-! Placing an entry (R323). -/

/-- A free way of a bucket. -/
def freeWay (m : SMap (List Byte)) (b : Nat) : Option Nat :=
  (([0, 1, 2, 3] : List Nat).map (b * 4 + ·)).find? fun n => mapGet [] m n = []

/-- The other bucket of the entry in way `n`. -/
def otherBucket (m : SMap (List Byte)) (n : Nat) : Nat :=
  let b := (hashedKey (mapGet [] m n)).buckets
  if n / 4 = b.1 then b.2 else b.1

/-- Room in bucket `b` with at most `moves` moves: the table after them and the way made free. -/
def makeRoom : Nat → SMap (List Byte) → Nat → Option (SMap (List Byte) × Nat)
  | 0, m, b => (freeWay m b).map fun n => (m, n)
  | moves + 1, m, b =>
    match freeWay m b with
    | some n => some (m, n)
    | none =>
      (([0, 1, 2, 3] : List Nat).map (b * 4 + ·)).findSome? fun n =>
        match makeRoom moves m (otherBucket m n) with
        | some (m1, j) =>
          if mapGet [] m1 n = mapGet [] m n && j ≠ n then
            some (mapSet [] (mapSet [] m1 j (mapGet [] m n)) n [], n)
          else none
        | none => none

/-- An entry added or replaced; `none` where no room can be made. An entry with VALID 0 is not in use:
it takes the place of one with its key, and is none (DEDUCED, log 23). -/
def addHashed (m : SMap (List Byte)) (e : List Byte) : Option (SMap (List Byte)) :=
  let k := hashedKey e
  let v := if (byteAt e 0).getLsbD 7 then e else []
  match findHashed m k with
  | some n => some (mapSet [] m n v)
  | none =>
    if v = [] then some m
    else match freeWay m k.buckets.1 with
      | some n => some (mapSet [] m n v)
      | none => match makeRoom 8 m k.buckets.2 with
        | some (m1, n) => some (mapSet [] m1 n v)
        | none => (makeRoom 8 m k.buckets.1).map fun q => mapSet [] q.1 q.2 v

/-! The end of a pass (R329-R331). -/

/-- The bits of action word 0 that mark a rule for DEPTH_EXCEEDED and LEN_CONFLICT packets. -/
def outerOk (a : List Word) : Bool := bit (a.getD 0 0) 2
def l2Ok (a : List Word) : Bool := bit (a.getD 0 0) 1

/-- The counter of a source that a lookup found (R336). -/
def State.countFound (x : RuleSource) (s : State) : State :=
  match x with
  | .hashed _ => s.countRule 2
  | .ternary _ => s.countRule 3
  | _ => s

/-- `f` applied to packet `id` of a port. -/
def State.modPkt (p id : Nat) (f : Pkt → Pkt) (s : State) : State :=
  { s with rules.flight := mapMod [] s.rules.flight p fun l => l.map fun x => if x.id = id then f x else x }

/-- The verdict of a packet whose last pass has ended, with the counters of R336. -/
def State.classify (t : Thread) (e : PassEnd) (s : State) : State :=
  let g := s.rules.store t.gen
  let base : Mark := ⟨List.replicate 40 0, mapGet 0 g.profileDef t.port⟩
  let m : Mark := match e with
    | .depth => (t.outer.orElse fun _ => t.l2).getD base
    | .len => t.l2.getD base
    | _ => ⟨t.key, t.profile⟩
  let add : BitVec 8 := match e with
    | .depth => 0x02#8
    | .len => 0x04#8
    | _ => 0
  let flags := t.flags ||| add
  let r := g.lookup ⟨m.profile, flags, m.key⟩
  let v : List Word × RuleSource := match e with
    | .depth => if outerOk r.1 then r else (g.deep, .deepDefault)
    | .len => if l2Ok r.1 then r else ([if g.lenCopyMp then 0x80#32 else 0, 0, 0, 0], .lenDefault)
    | .fault => (dropAction, .fault)
    | _ => r
  let s1 := match e with
    | .fault => s.countRule 9
    | .frag => (s.countFound r.2).countRule 5
    | .depth => (s.countFound r.2).countRule 6
    | .len => (s.countFound r.2).countRule 7
    | _ => s.countFound r.2
  let s2 := if v.2 = .miss then s1.countRule 4 else s1
  let s3 := if flags.getLsbD 3 then s2.countRule 8 else s2
  let s4 := if t.pmHit && e ≠ .len && e ≠ .fault then s3.countRule 11 else s3
  s4.modPkt t.port t.pkt fun p =>
    { p with stage := .classified, verdict := some {
        action := v.1, source := v.2, flags := flags, wbase2 := if t.pass2 then t.wbase else 0 } }

/-- A pass ends: the thread is free, and the packet is classified or recirculated. -/
def State.endPass (n : Nat) (t : Thread) (e : PassEnd) (s : State) : State :=
  let s1 := { s with rules.threads := mapSet none s.rules.threads n none }
  match e with
  | .recirc target =>
    let t2 := { t with pass2 := true, wbase := t.wbase + t.cur, cur := 0, z := false, lt := false
                       flags := t.flags ||| 0x10#8, pc := target }
    ({ s1 with rules.recirc := s1.rules.recirc ++ [t2] }.modPkt t.port t.pkt fun p => { p with stage := .recirc }).countRule 1
  | e => s1.classify t e

/-- Packet `id` of a port. -/
def State.pkt? (s : State) (p id : Nat) : Option Pkt := (mapGet [] s.rules.flight p).find? fun x => x.id = id

/-- The thread executes the instruction at its program counter, if that is one of operation `op`; the
513th of a packet ends the pass instead (R309). `f` is given the frame without its FCS and the
instruction. -/
def State.runThread (n op : Nat) (f : List Byte → Word → Thread → Thread × Option PassEnd) (s : State) : State :=
  match mapGet none s.rules.threads n with
  | none => s
  | some t =>
    let w := mapGet 0 (s.rules.store t.gen).program t.pc
    if t.pmWait.isSome || opOf w ≠ op then s
    else match s.pkt? t.port t.pkt with
      | none => s
      | some p =>
        if 512 ≤ t.executed then s.endPass n t .depth
        else
          match f (noFcs p.bytes) w t with
          | (t1, some e) => s.endPass n t1 e
          | (t1, none) => { s with rules.threads := mapSet none s.rules.threads n (some t1) }

end Sys2Proof.Machine
end

