-- ==== Sys2Proof/Machine/TrustCmds.lean ====
section
/-! DEFINITION. The TRUST group: 18_trust R508, R511-R524. -/
namespace Sys2Proof.Machine

/-- A key slot: 0 empty, 1 usable, 2 revoked. -/
def slotState (empty revoked : Bool) : Int := if revoked then 2 else if empty then 0 else 1

/-- TRUST_GET_STATUS (R524): returns life-cycle, policy, key slots, MIN_SVN and boot record state. -/
def execTrustGetStatus (tag : Tag) (s : State) : Host.Outcome State Fault Refusal :=
  .next <| s.query tag 0x0F01 (some 0) fun s =>
    let t := s.trust
    Reply.ok ([(t.lc : Int), b2i t.policySigned]
      ++ ([0, 1, 2, 3] : List Nat).map (fun k => slotState (allZero (Config.claordKey k)) (t.crevoke.getLsbD k))
      ++ ([0, 1, 2, 3] : List Nat).map (fun k => slotState (mapGet 0 t.akey k = 0) (t.arevoke.getLsbD k))
      ++ [(t.minSvn : Int), b2i t.boot.slot, b2i t.boot.trial, t.boot.tries, t.fail0, t.fail1])

/-- TRUST_GET_IDENTITY (R515): returns the device, CA and root certificates. -/
def execTrustGetIdentity (tag : Tag) (s : State) : Host.Outcome State Fault Refusal :=
  .next <| s.query tag 0x0F02 (some 0) fun _ => Reply.bytes Config.certificates

/-! Attestation (R516, R517). -/

/-- A configuration digest. -/
def digest32 (bs : List Byte) : List Byte := (sha512 bs).take 32

def State.mapDigest (s : State) : List Byte :=
  digest32 ((connectionMap s.loops.elems s.fabric.failed).flatMap fun o => leNat 2 (o.getD 0xFFFF))

/-- An entry of a gate list. -/
def GateEntry.bytes (e : GateEntry) : List Byte := leBytes e.w0 ++ leBytes e.interval

def State.gateDigest (s : State) (p : Nat) : List Byte :=
  let g := s.gate p
  if g.list = .none then List.replicate 32 0
  else digest32 (g.oper.list.flatMap GateEntry.bytes ++ leNat 4 g.oper.lct ++ leNat 4 g.oper.n)

def State.streamDigest (s : State) : List Byte :=
  digest32 ((List.range 1024).flatMap fun n => wordsBytes (s.stream n).entry)

/-- Insertion of a hashed entry by PROFILE, FLAGS and KEY. -/
def insertHashed (e : List Byte) : List (List Byte) → List (List Byte)
  | [] => [e]
  | x :: l => if ofBe (hashedKey e).bytes ≤ ofBe (hashedKey x).bytes then e :: x :: l else x :: insertHashed e l

/-- The bytes of a generation that its digest covers. -/
def Generation.bytes (g : Generation) : List Byte :=
  wordsBytes (mapRead 0 g.program 0 4096) ++ (mapRead dropAction g.misses 0 64).flatMap wordsBytes
    ++ ([0, 1, 2, 3] : List Nat).flatMap (fun p => leNat 2 (mapGet 0 g.entry p) ++ leNat 1 (mapGet 0 g.profileDef p))
    ++ wordsBytes g.deep ++ [if g.lenCopyMp then 1 else 0]
    ++ ((g.hashed.map (·.2)).foldr insertHashed []).flatten
    ++ (mapRead [] g.ternary 0 2048).flatMap (fitBytes 128) ++ (mapRead [] g.patterns 0 4096).flatMap (fitBytes 72)

def State.ruleDigest (s : State) : List Byte :=
  digest32 (if s.rules.active1 then s.rules.store1 else s.rules.store0).bytes

def State.sheafDigest (s : State) : List Byte :=
  digest32 ((byInstant (s.sheaves.store.filter fun x => x.phase = .arming || x.phase = .committed)).flatMap fun x => wordsBytes x.words)

/-- UN_EPOCH: the last epoch committed by a unit in control, or applied by a Standby (15 R462). -/
def State.unEpoch (s : State) : Word := if s.inControl then s.unit.committed else s.unit.applied.getD 0

/-- Bytes 0 to 511 of an attestation. -/
def State.attestation (nonce : BitVec 256) (s : State) : List Byte :=
  let img := s.runningImage
  fitBytes 512 (leNat 4 1 ++ leNat 8 s.ident.serial.toNat ++ leBytes s.ident.rev ++ leNat 1 s.trust.lc ++ leNat 1 s.unit.mode.code
    ++ leNat 1 (flag s.inControl 0 + flag s.tb.stepped 1 + flag s.trust.policySigned 2) ++ leNat 1 (imageKeySlot img)
    ++ leNat 4 (imageVer img) ++ leNat 4 (imageSvn img) ++ leNat 4 s.trust.minSvn
    ++ leNat 4 (s.trust.crevoke.toNat + 16 * s.trust.arevoke.toNat) ++ leBytes s.rules.genNum ++ leNat 8 (s.now / 1000 * 1000)
    ++ leNat 32 nonce.toNat ++ sha512 img ++ leNat 64 s.cal.digest ++ s.mapDigest
    ++ ([0, 1, 2, 3] : List Nat).flatMap s.gateDigest ++ s.streamDigest ++ s.ruleDigest ++ s.sheafDigest ++ leBytes s.unEpoch)

/-- The signed attestation record, captured at this loop frame start. -/
def State.attested (nonce : BitVec 256) (s : State) : List Byte :=
  s.attestation nonce ++ fitBytes 64 (Config.sign s.trust.idSeed (sha512 (s.attestation nonce)))

/-- The capture of an attestation falls due at a loop frame start. Where a sheaf with its instant at or before that
frame start has still to act, firmware takes the next frame start (R516). -/
def State.attestAt (tag : Tag) (nonce : BitVec 256) (s : State) : State :=
  if s.sheaves.store.any fun x => x.phase = .committed && decide (x.instant ≤ s.now / 1000 * 1000) then
    s.atFrame (.attest tag nonce)
  else s.answerTag tag (Reply.bytes (s.attested nonce))

/-- An attestation of a tag waits for its loop frame start. -/
def State.attesting (s : State) (tag : Tag) : Bool :=
  s.loops.frames.any fun p => match p.2 with
    | .attest t _ => t = tag
    | _ => false

/-- TRUST_ATTEST (R516): captures state at the next loop frame start, and is answered with the signed record. -/
def execTrustAttest (tag : Tag) (nonce : BitVec 256) (s : State) : Host.Outcome State Fault Refusal :=
  .next <|
    match findServed s.il.inflight tag 0x0F03 false with
    | none => s
    | some c =>
      if c.len ≠ 32 then s.answer c (Reply.no .badLength 32)
      else if s.trust.lc = 3 || s.unit.mode = .boot then s.answer c (Reply.no .notPermitted)
      else if s.attesting tag then s
      else s.atFrame (.attest tag nonce)

/-! Fuses (R513, R514, R522). -/

/-- TRUST_ADVANCE_SVN (R513): blows MIN_SVN up to the running image's SVN. -/
def execTrustAdvanceSvn (tag : Tag) (s : State) : Host.Outcome State Fault Refusal :=
  .next <| s.serve tag 0x0F04 false (some 0) fun s =>
    if !s.trust.confirmed then refuse s .notPermitted
    else ({ s with trust.minSvn := max s.trust.minSvn (min 127 (imageSvn s.runningImage)) }, Reply.done)

/-- A record over some content verifies: it names ID_SERIAL and is signed by a usable slot. -/
def State.recordOk (s : State) (axaro : Bool) (content : List Byte) (r : SignedRecord) : Bool :=
  let key := if axaro then leNat 32 (mapGet 0 s.trust.akey r.signer).toNat else Config.claordKey r.signer
  (if axaro then s.trust.axaroOk r.signer else s.trust.claordOk r.signer) && r.serial = s.ident.serial &&
    Config.signatureOk key (sha512 content) (leNat 64 r.signature.toNat)

/-- A revocation carries the record that it needs. -/
def State.revocationOk (s : State) (axaro : Bool) (slot : Nat) (rec_ : Option SignedRecord) : Bool :=
  (axaro && decide (s.trust.lc ≤ 1)) ||
    rec_.any fun r => r.signer ≠ slot && s.recordOk axaro (Config.payloadBytes 0x0F05 [(slot : Int), (r.serial.toNat : Int)]) r

/-- The Claord slot signed the running image or an image in the other slot. -/
def State.signedImage (s : State) (slot : Nat) : Bool :=
  let signed (img : List Byte) : Bool := headerOk img && imageKeySlot img = slot
  signed (s.slotBytes false) || signed (s.slotBytes true)

/-- TRUST_REVOKE_KEY (R514): blows one key revocation bit. -/
def execTrustRevokeKey (tag : Tag) (axaro : Bool) (slot : Nat) (rec_ : Option SignedRecord) (s : State) : Host.Outcome State Fault Refusal :=
  .next <| s.serve tag 0x0F05 false none fun s =>
    if 3 < slot then refuse s .outOfRange
    else if !s.revocationOk axaro slot rec_ then refuse s .signature 4
    else if axaro then ({ s with trust.arevoke := s.trust.arevoke ||| BitVec.ofNat 4 (2 ^ slot) }, Reply.done)
    else if s.signedImage slot then refuse s .inUse
    else if !(([0, 1, 2, 3] : List Nat).any fun k => k ≠ slot && s.trust.claordOk k) then refuse s .notPermitted
    else ({ s with trust.crevoke := s.trust.crevoke ||| BitVec.ofNat 4 (2 ^ slot) }, Reply.done)

/-- TRUST_SET_AXARO_KEY (R522): writes an empty Axaro key slot. -/
def execTrustSetAxaroKey (tag : Tag) (slot : Nat) (key : BitVec 256) (s : State) : Host.Outcome State Fault Refusal :=
  .next <| s.serve tag 0x0F06 false none fun s =>
    if 3 < slot then refuse s .outOfRange
    else if 1 < s.trust.lc then refuse s .notPermitted
    else if mapGet 0 s.trust.akey slot ≠ 0 then refuse s .inUse
    else ({ s with trust.akey := mapSet 0 s.trust.akey slot key }, Reply.done)

/-- TRUST_SET_POLICY (R522): blows POLICY_SIGNED. -/
def execTrustSetPolicy (tag : Tag) (s : State) : Host.Outcome State Fault Refusal :=
  .next <| s.serve tag 0x0F07 false (some 0) fun s =>
    if 1 < s.trust.lc then refuse s .notPermitted else ({ s with trust.policySigned := true }, Reply.done)

/-- TRUST_GET_NONCE (R524). A nonce, valid for one return record. -/
def execTrustGetNonce (tag : Tag) (s : State) : Host.Outcome State Fault Refusal :=
  .next <| s.serve tag 0x0F08 true (some 0) fun s =>
    let n := Config.random s.free
    ({ s.drawn with trust.nonce := some n }, Reply.bytes (leNat 32 n.toNat))

/-! Life cycle (R520, R521, R523; 17 R503). -/

/-- The preconditions of a transition but for its record. -/
def State.lifecycleOpen (s : State) (target : Nat) : Bool :=
  !s.inControl && decide (s.trust.lc < 3) && target = s.trust.lc + 1 && (s.trust.lc ≠ 0 || (s.trust.identityStored && s.cal.copy.valid s.ident.serial s.ident.phoRev))

/-- A return record: signed by a usable Claord slot, with the nonce that was given. -/
def State.returnOk (s : State) (rec_ : Option SignedRecord) : Bool :=
  rec_.any fun r => s.trust.nonce = some r.nonce &&
    s.recordOk false (Config.payloadBytes 0x0F09 [(r.serial.toNat : Int), (r.nonce.toNat : Int)]) r

/-- The sequence of R503: every element parks, LC_FUSE is blown, the flash user-configuration area is erased, and
a class H reset follows, which leaves the fabric dark (R506). -/
def State.advanceLifecycle (s : State) : State :=
  let s1 := { s with loops.elems := mapListed Elem.park (fun _ x => x.parked s.now) s.loops.elems }
  let s2 := { s1 with
    trust.lc := s.trust.lc + 1, trust.idSeed := if s.trust.lc = 2 then BitVec.allOnes 256 else s.trust.idSeed, trust.nonce := none
    hedge.saved := none, gl.saved := [], unit.pair := PairCfg.dflt, unit.startupMap := none }.classReset false 7
  { s2 with loops := {}, fabric := { failed := s2.fabric.failed }, power.dark := true }

/-- TRUST_SET_LIFECYCLE (R520): moves the life-cycle state one step forward. -/
def execTrustSetLifecycle (tag : Tag) (target : Nat) (rec_ : Option SignedRecord) (s : State) : Host.Outcome State Fault Refusal :=
  .next <| s.serve tag 0x0F09 false none fun s =>
    if !s.lifecycleOpen target then refuse s .notPermitted
    else if s.il.fw.open_ || s.il.saving.isSome || s.cal.saving then refuse s .busy
    else if target = 3 && !s.returnOk rec_ then refuse s .signature 4
    else (s.advanceLifecycle, Reply.done)

/-- TRUST_FACTORY_TEST (R523): stores a factory-test request and performs a class H reset. -/
def execTrustFactoryTest (tag : Tag) (s : State) : Host.Outcome State Fault Refusal :=
  .next <| s.serve tag 0x0F0A false (some 0) fun s =>
    if s.inControl || !(s.trust.lc = 0 || s.trust.lc = 3) then refuse s .notPermitted
    else ({ s with trust.factoryRequest := some s.trust.lc }.classReset false 7, Reply.done)

end Sys2Proof.Machine
end

