-- ==== Sys2Proof/Machine/RegRead.lean ====
section
/-! DEFINITION. What the registers of BAR0, the SMBus target and the TAP read as: 00_scope R6, R14, 02_network_time
R77, 12_host_queues R347, R348, R370, 13_ilucy R376, R377, 15_unit_redundancy R462, 16_gleaner R486,
19_package_electrical R545, R546. A read with an effect has a row of its own. -/
namespace Sys2Proof.Machine

/-- A signed number as a word. -/
def wordOfInt (x : Int) : Word := BitVec.ofInt 32 x

/-- Word `i` of a number. -/
def wordOf (n : Nat) (i : Nat) : Word := BitVec.ofNat 32 (n >>> (32 * i))

/-- Identity (00 R14). -/
def State.identReg (s : State) (o : Nat) : Word :=
  match o with
  | 0x00 => 0x434C5244
  | 0x04 => 0x4D485120
  | 0x08 => s.ident.rev
  | 0x0C => wordOf s.ident.serial.toNat 0
  | 0x10 => wordOf s.ident.serial.toNat 1
  | 0x14 => s.ident.fwVer
  | 0x18 => BitVec.ofNat 32 s.fwState
  | 0x1C => BitVec.ofNat 32 s.trust.lc
  | 0x20 => s.ident.pace.setWidth 32
  | _ => 0

/-- Timebase (02 R77). -/
def State.timeReg (s : State) (o : Nat) : Word :=
  match o with
  | 0x00 => wordOf s.now 0
  | 0x04 => (s.tb.latched >>> 64).setWidth 32
  | 0x08 => s.tb.latched.setWidth 32
  | 0x0C => s.tb.incr.setWidth 32
  | 0x10 => (s.tb.incr >>> 32).setWidth 32
  | 0x14 => BitVec.ofNat 32 s.tbStatus
  | 0x18 => wordOfInt s.tb.shiftS
  | 0x1C => wordOfInt s.tbOffset
  | 0x20 => BitVec.ofNat 32 s.tb.cycleC
  | 0x24 => wordOf s.tb.cycleB 0
  | 0x28 => wordOf s.tb.cycleB 1
  | 0x2C => BitVec.ofNat 32 (s.tb.syncReject * 65536 + s.tb.syncMiss)
  | _ => 0

/-- Gleaner (16 R486). -/
def State.glReg (s : State) (o : Nat) : Word :=
  if o = 0 then statusWord s.glStatus 0
  else if o < 0x20 then statusWord s.gl.latchStatus (o / 4)
  else if o < 0x40 then statusWord s.gl.latchShadow ((o - 0x20) / 4)
  else match o with
    | 0x40 => BitVec.ofNat 32 s.glSummary
    | 0x44 => s.glSeq
    | 0x48 => BitVec.ofNat 32 s.glDeadline
    | 0x50 => s.gl.resetCause
    | 0x54 => s.gl.events.setWidth 32
    | _ => 0

/-- UN_ROLE. -/
def State.unRole (s : State) : Nat :=
  s.unit.pair.partner * 2 ^ 16 + s.hedge.node * 2 ^ 12 + flag s.unit.ready 11 + flag s.unit.pair.paired 10 + flag s.unitNo 9
    + flag s.unit.pref 8 + flag s.inControl 4 + s.unit.mode.code

/-- The fibres of VOA elements. -/
def fibresOf (l : List Nat) : List Nat := (l.map fun e => localOf e - 9728).eraseDups

/-- UN_LOST. -/
def State.unLost (s : State) : Nat :=
  (fibresOf s.unit.fibresLost).length * 2 ^ 16 + flag (s.unit.fibresLost ≠ []) 4 + flag s.routeLost 3 + flag s.laneLost 2
    + flag (s.cal.lost ≠ []) 1 + flag (s.gl.shed ≠ 0) 0

/-- UN_PARTNER. -/
def State.unPartner (s : State) : Nat :=
  flag s.unit.prefConflict 9 + flag s.unit.lagging 8 + s.unit.partnerMode.code * 16 + flag s.unit.partnerControl 3 + flag s.aliveOk 2
    + flag s.unit.mlUp 1 + flag (s.unit.partnerSeen && decide (s.unit.hbCycles < 3)) 0

/-- Unit role (15 R462). -/
def State.unReg (s : State) (o : Nat) : Word :=
  match o with
  | 0x00 => BitVec.ofNat 32 s.unRole
  | 0x04 => BitVec.ofNat 32 s.unLost
  | 0x08 => BitVec.ofNat 32 s.unPartner
  | 0x0C => s.unEpoch
  | 0x10 => s.unit.takeoverEpoch
  | 0x14 => wordOf s.unit.takeoverTime 0
  | 0x18 => wordOf s.unit.takeoverTime 1
  | 0x1C => s.unit.events.setWidth 32
  | 0x20 => BitVec.ofNat 32 (s.unit.takeovers * 65536 + s.unit.discards)
  | 0x24 => wordOfInt (clampInt (-(2 ^ 31)) (2 ^ 31 - 1) s.unit.pairOffset)
  | _ => 0

/-- The pending-bit array, as a number. -/
def State.pendingBits (s : State) : Nat := s.host.vecs.foldl (fun n p => if p.2.pending then n ||| 2 ^ p.1 else n) 0

/-- Interrupt control, MSI-X table and pending bits (12 R340, R370). -/
def State.icReg (s : State) (o : Nat) : Word :=
  if o = 0 then s.host.ctrl
  else if 0x100 ≤ o && o < 0x500 then
    let x := mapGet Vec.dflt s.host.vecs ((o - 0x100) / 8)
    if o % 8 = 0 then BitVec.ofNat 32 (x.modTime * 65536 + x.modCount)
    else BitVec.ofNat 32 (flag x.d3Pend 31 + x.pendN * 65536 + s.elapsedUs x)
  else if 0x600 ≤ o && o < 0x610 then wordOf s.pendingBits ((o - 0x600) / 4)
  else if 0x800 ≤ o then s.tableWord ((o - 0x800) / 4)
  else 0

/-- STATE of a submission queue. -/
def QState.code : QState → Nat
  | .disabled => 0 | .running => 1 | .draining => 2 | .error => 3

/-- A word at +0x20 of a submission queue block. -/
def SubQ.cfg2 (k : QKind) (q : SubQ) : Nat :=
  match k with
  | .rx => q.bufUnits * 2 ^ 24 + q.dropDelay
  | .tx => q.tc * 16 + q.port
  | .fcq => 0

/-- Submission queues (12 R347). -/
def SubQ.reg (k : QKind) (q : SubQ) (o : Nat) : Word :=
  let rx (n : Nat) : Word := if k = .rx then BitVec.ofNat 32 n else 0
  match o with
  | 0x00 => q.base.setWidth 32
  | 0x04 => (q.base >>> 32).setWidth 32
  | 0x08 => BitVec.ofNat 32 (q.log2 * 2 ^ 28 + q.cq * 2 ^ 16 + q.weight * 256 + q.burst)
  | 0x0C => BitVec.ofNat 32 (flag q.enable 0)
  | 0x10 => q.tail
  | 0x14 => q.head
  | 0x18 => BitVec.ofNat 32 (min 64 q.slots.length * 2 ^ 24 + q.err * 2 ^ 16 + flag q.dropping 4 + flag q.stalled 3 + q.state.code)
  | 0x1C => q.errIndex
  | 0x20 => BitVec.ofNat 32 (q.cfg2 k)
  | 0x24 => rx q.qshare
  | 0x28 => rx (q.shareDrop * 65536 + q.delayDrop)
  | _ => 0

/-- Completions that wait for a completion queue. -/
def State.cqHeld (s : State) (c : Nat) : Nat :=
  ((s.host.subq.filter fun q => q.2.cq = c).map fun q => (q.2.slots.filter (·.ready)).length).sum + (s.cqn c).late.length

/-- Completion queues (12 R348). -/
def State.cqReg (s : State) (c o : Nat) : Word :=
  let q := s.cqn c
  match o with
  | 0x00 => q.base.setWidth 32
  | 0x04 => (q.base >>> 32).setWidth 32
  | 0x08 => BitVec.ofNat 32 (q.log2 * 2 ^ 28 + q.vector)
  | 0x0C => BitVec.ofNat 32 (flag q.irqEn 1 + flag q.enable 0)
  | 0x10 => q.tail
  | 0x14 => q.head
  | 0x18 => BitVec.ofNat 32 (min 65535 (s.cqHeld c) * 65536 + flag q.err 1 +
      flag ((q.tail - q.head).toNat = q.size && decide (0 < s.cqHeld c)) 0)
  | _ => 0

/-- The submission queue whose block holds a BAR0 offset. -/
def queueAt (o : Nat) : Option (QId × Nat) :=
  if 0x8000 ≤ o && o < 0x9000 then some (⟨.tx, (o - 0x8000) / 64⟩, o % 64)
  else if 0x9000 ≤ o && o < 0xA000 then some (⟨.rx, (o - 0x9000) / 64⟩, o % 64)
  else if 0xB000 ≤ o && o < 0xB400 then some (⟨.fcq, (o - 0xB000) / 64⟩, o % 64)
  else none

/-- The latency tolerance in ns that the device reports by LTR (12 R342): half the smallest DROP_DELAY above 0 of the
enabled receive queues, at most 1 ms. -/
def State.ltrNs (s : State) : Nat :=
  ((List.range 64).filterMap fun i =>
    let q := s.sub (QId.key ⟨.rx, i⟩)
    if q.enable && q.dropDelay ≠ 0 then some (500 * min 10000 q.dropDelay) else none).foldl min 1000000

/-- A state of a mailbox body. -/
def MbState.code : MbState → Nat
  | .idle => 0 | .posted => 1 | .answered => 2 | .released => 3

/-- Mailbox doorbells (13 R376, R377). -/
def State.mbReg (s : State) (o : Nat) : Word :=
  if o < 0x200 then
    let x := mapGet Mailbox.dflt s.il.mb (o / 16)
    match o % 16 with
    | 4 => BitVec.ofNat 32 (flag x.ignoredWrite 9 + flag x.overrun 8 + x.state.code)
    | 8 => x.lastCode ++ x.lastTag
    | _ => 0
  else if o = 0x200 then (s.il.answers.head?.map AnswerRec.word).getD 0
  else if o = 0x204 then BitVec.ofNat 32 (s.il.answers.length * 65536 + (s.il.inflight.filter fun c => !c.orphan).length)
  else 0

/-- What a 32-bit read of BAR0 returns. A reserved offset reads 0 (00 R6). -/
def State.readReg (s : State) (offset : Nat) : Word :=
  if offset % 4 ≠ 0 then 0
  else if offset < 0x1000 then s.identReg offset
  else if offset < 0x2000 then s.timeReg (offset - 0x1000)
  else if offset < 0x3000 then s.glReg (offset - 0x2000)
  else if offset < 0x4000 then s.unReg (offset - 0x3000)
  else if offset < 0x5000 then s.icReg (offset - 0x4000)
  else if 0xA000 ≤ offset && offset < 0xB000 then s.cqReg ((offset - 0xA000) / 64) (offset % 64)
  else if 0xC000 ≤ offset && offset < 0xD000 then s.mbReg (offset - 0xC000)
  else match queueAt offset with
    | some (q, o) => (s.sub q.key).reg q.kind o
    | none => 0

/-! SMBus and TAP (19 R545, R546). -/

/-- The byte at an SMBus offset, as last updated; `none` while the target does not respond: without power, in SLEEP and
before the reset release. -/
def State.smbus (s : State) (offset : Nat) : Option Byte :=
  if s.power.phase = .off || s.power.phase = .asleep || s.power.phase = .waitRelease then none
  else some ((if s.power.smb = [] then s.smbValues else s.power.smb).getD offset 0xFF)

/-- SMB_ALERT_N is low. -/
def State.smbAlert (s : State) : Bool := s.alive ≠ 0 && !s.inReset && s.powered

/-- The 32 bits of IDCODE; bit 0 is 1 (IEEE 1149.1; PRESUMED, log 34). -/
def State.idcode (s : State) : Word :=
  BitVec.ofNat 32 (fld s.ident.rev 3 0 * 2 ^ 28 + 0x5120 * 2 ^ 12 + Config.jedec.toNat * 2 + 1)

end Sys2Proof.Machine
end

