-- ==== Sys2Proof/Machine/MiscRows.lean ====
section
/-! DEFINITION. Register writes, memory errors, link and clock events, and the TAP: 00_scope R5, R6, 01_architecture
R23, 12_host_queues R346-R348, R370, 16_gleaner R466, 19_package_electrical R538, R546. -/
namespace Sys2Proof.Machine

/-! Register writes. -/

/-- The low or the high half of a 64-bit base address; its low six bits stay 0. -/
def setBase (high : Bool) (v : Word) (b : BitVec 64) : BitVec 64 :=
  if high then v ++ b.setWidth 32 else (b >>> 32).setWidth 32 ++ (v &&& 0xFFFFFFC0#32)

/-- A write to a configuration register of a DISABLED submission queue (R347). -/
def SubQ.configure (k : QKind) (o : Nat) (v : Word) (q : SubQ) : SubQ :=
  match o with
  | 0x00 => { q with base := setBase false v q.base }
  | 0x04 => { q with base := setBase true v q.base }
  | 0x08 => { q with log2 := fld v 31 28, cq := fld v 21 16, weight := fld v 15 8, burst := fld v 6 0 }
  | 0x20 => match k with
    | .rx => { q with bufUnits := fld v 30 24, dropDelay := fld v 13 0 }
    | .tx => { q with tc := fld v 6 4, port := fld v 1 0 }
    | .fcq => q
  | 0x24 => if k = .rx then { q with qshare := fld v 11 0 } else q
  | _ => q

/-- A write to a configuration register of a completion queue whose ENABLE is 0 (R348). -/
def ComplQ.configure (o : Nat) (v : Word) (q : ComplQ) : ComplQ :=
  match o with
  | 0x00 => { q with base := setBase false v q.base }
  | 0x04 => { q with base := setBase true v q.base }
  | 0x08 => { q with log2 := fld v 31 28, vector := fld v 6 0 }
  | _ => q

/-- A write to the interrupt block (R370); entries of the MSI-X table keep the reserved bits 0. -/
def State.writeIc (o : Nat) (v : Word) (s : State) : State :=
  if o = 0 then { s with host.ctrl := v &&& 0x7F7F7F07#32 }
  else if 0x100 ≤ o && o < 0x500 && o % 8 = 0 then
    { s with host.vecs := mapMod Vec.dflt s.host.vecs ((o - 0x100) / 8) fun x => { x with modTime := fld v 25 16, modCount := fld v 7 0 } }
  else if 0x800 ≤ o && o < 0x1000 then
    let i := (o - 0x800) / 4
    let w := if i % 4 = 3 then (v &&& 1#32) ^^^ 1#32 else if i % 4 = 0 then v &&& 0xFFFFFFFC#32 else v
    { s with host.table := mapSet 0 s.host.table i w }
  else s

/-- REGISTER_WRITE (R5): a register without a row of its own takes the value, or ignores it. -/
def execRegisterWrite (offset : Nat) (value : Word) (s : State) : Host.Outcome State Fault Refusal :=
  .next <|
    if offset % 4 ≠ 0 || !s.barOpen then s
    else if 0x4000 ≤ offset && offset < 0x5000 then s.writeIc (offset - 0x4000) value
    else if 0xA000 ≤ offset && offset < 0xB000 then
      let q := (offset - 0xA000) / 64
      if (s.cqn q).enable then s else s.modCq q (ComplQ.configure (offset % 64) value)
    else match queueAt offset with
      | some (q, o) => if (s.sub q.key).state = .disabled then s.modSub q.key (SubQ.configure q.kind o value) else s
      | none => s

/-! Memory errors (01 R23, 16 R466, 07 R218). -/

/-- What an error does where it is found, and the source that it raises. -/
def State.memoryError (e : MemErr) (s : State) : State :=
  match e with
  | .blockCorrectable r b row => ((s.raise (blockSource r (s.physBlock r b))).partEvent (.row (blockSource r (s.physBlock r b)) row))
  | .blockUncorrectable el =>
    ((s.holdBlock [el]).raiseBlock el 1).partEvent (.block (regionOf el) (blockOf el))
  | .unfinishedSlot r b c =>
    let s1 := (s.holdBlock (List.range' (elementAt r b c 0) 16)).raise (blockSource r (s.physBlock r b))
    { s1 with cal.unfinished := if s1.cal.unfinished.contains (r, b, c) then s1.cal.unfinished else (r, b, c) :: s1.cal.unfinished }
  | .missedSweep r b => ((s.holdBlock (List.range' (elementAt r b 0 0) 336)).raise (regionSource r)).partEvent (.block r b)
  | .interconnectParity => s.raise 145
  | .granaryCorrectable _ => s
  | .granaryUncorrectable ch => s.raise (if ch = 0 then 170 else 171)
  | .packetBuffer => s.raise 172
  | .mgmtSram => s.raise 173
  | .thresherTable => s.raise 165
  | .gateBank _ => s.raise 187
  | .commitRegister => s.raise 186
  | .broadcastParity => s.raise 152
  | .flash => s.raise 175
  | .switchSupply r => s.raise (driveSource r)

/-- The place that an error names exists. -/
def MemErr.placed : MemErr → Bool
  | .blockCorrectable r b _ => decide (r < 4) && decide (b < 16)
  | .blockUncorrectable e => decide (e < numElements)
  | .unfinishedSlot r b c => decide (r < 4) && decide (b < 16) && decide (c < 21)
  | .missedSweep r b => decide (r < 4) && decide (b < 16)
  | .switchSupply r => decide (r < 4)
  | _ => true

/-- MEMORY_ERROR (R23): A correctable or uncorrectable memory error, or a parity error, is detected in a block, the
Granary, the packet buffer, SRAM, the Thresher tables, the interconnect, the gate banks or the commit register, and is
corrected, counted or raised to the Gleaner. The flash and the switch supply of a region (16 R466), which have no row of
their own, are detected here too (DESIGN CHOICE, log 27). -/
def execMemoryError (err : MemErr) (s : State) : Host.Outcome State Fault Refusal :=
  .next <| if err.placed && s.functionUp then s.memoryError err else s

/-! Links and clocks (16 R466, 19 R538). -/

/-- GRANARY_RETRAIN (R538). A Granary channel trains, in BOOT during the wipe and then every 10 ms; a failure raises the
channel's source. -/
def execGranaryRetrain (channelB ok : Bool) (s : State) : Host.Outcome State Fault Refusal :=
  .next <|
    let last := if channelB then s.power.retrainB else s.power.retrainA
    if !(s.power.phase = .wiping || s.functionUp) || !s.periodDue last 100000000 then s
    else
      let s1 := if channelB then { s with power.retrainB := some s.up } else { s with power.retrainA := some s.up }
      if ok then s1 else s1.raise (if channelB then 171 else 170)

/-- PCIE_LINK_CHANGE (R466). The PCIe link is lost, or is up with a width and speed; below ×8 at 32 GT/s it is
degraded. -/
def execPcieLinkChange (up : Bool) (lanes speed : Nat) (s : State) : Host.Outcome State Fault Refusal :=
  .next <|
    if !s.functionUp then s
    else
      let s1 := { s with host.linkUp := up, host.lanes := if up then lanes else s.host.lanes, host.speed := if up then speed else s.host.speed }
      if up && decide (8 ≤ lanes) && decide (5 ≤ speed) then s1 else s1.raise 188

/-- ML_LANE_LOSS_OF_LOCK (R466): A mirror link lane loses lock and raises source 189. -/
def execMlLaneLossOfLock (s : State) : Host.Outcome State Fault Refusal := .next <| if s.functionUp then s.raise 189 else s
/-- PLL_LOSS_OF_LOCK (R466): A SerDes or Granary PLL loses lock and raises source 190 (CLOCKS). -/
def execPllLossOfLock (s : State) : Host.Outcome State Fault Refusal := .next <| if s.functionUp then s.raise 190 else s

/-! The TAP (19 R546). -/

/-- EXTEST, CLAMP and HIGHZ take effect: RESET_N is low, or the device is in BOOT before FW_READY. -/
def State.tapOpen (s : State) : Bool := !s.power.resetN || (s.unit.mode = .boot && !s.ident.fwReady)

/-- An instruction that leaves the pins alone. -/
def State.tapSelect (i : TapIr) (s : State) : State := { s with tap.ir := i, tap.driving := none, tap.highZ := false }

/-- BYPASS (R546): TAP instruction BYPASS. -/
def execTapBypass (s : State) : Host.Outcome State Fault Refusal := .next <| s.tapSelect .bypass
/-- IDCODE (R546): TAP instruction IDCODE. -/
def execTapIdcode (s : State) : Host.Outcome State Fault Refusal := .next <| s.tapSelect .idcode

/-- SAMPLE_PRELOAD (R546). SAMPLE/PRELOAD loads the cells. -/
def execTapSamplePreload (preload : List Bool) (s : State) : Host.Outcome State Fault Refusal :=
  .next <| { s.tapSelect .samplePreload with tap.cells := preload }

/-- EXTEST (R546). The cells drive the balls. -/
def execTapExtest (s : State) : Host.Outcome State Fault Refusal :=
  .next <| if s.tapOpen then { s.tapSelect .extest with tap.driving := some s.tap.cells } else s.tapSelect .bypass

/-- CLAMP (R546): TAP instruction CLAMP, effective only in reset or failed boot. -/
def execTapClamp (s : State) : Host.Outcome State Fault Refusal :=
  .next <| if s.tapOpen then { s.tapSelect .clamp with tap.driving := some s.tap.cells } else s.tapSelect .bypass

/-- HIGHZ (R546): TAP instruction HIGHZ, effective only in reset or failed boot. -/
def execTapHighz (s : State) : Host.Outcome State Fault Refusal :=
  .next <| if s.tapOpen then { s.tapSelect .highz with tap.highZ := true } else s.tapSelect .bypass

end Sys2Proof.Machine
end

