-- ==== Sys2Proof/Machine/RxOps.lean ====
section
/-! DEFINITION. Reception: limits and counters, bad frames, MAC control and filters, and reassembly:
08_network_ports R236-R243 and 09_gates_preemption R277. -/
namespace Sys2Proof.Machine

/-! Filters (R240, R241). -/

/-- The TAGS field matches a number of tags and an outer TPID. -/
def tagsMatch (tags : Nat) (outer88A8 : Bool) (n tpid : Nat) : Bool :=
  let count := tags = 0 || tags = 1 && n = 0 || tags = 2 && n = 1 || tags = 3 && n = 2 || tags = 4 && decide (1 ≤ n)
  count && (tags ≤ 1 || !outer88A8 || tpid = 0x88A8)

/-- A filter entry matches a frame of port `p`. -/
def filterMatches (e : List Word) (p : Nat) (bs : List Byte) : Bool :=
  let w0 := e.getD 0 0
  let n := tagsOf bs
  bit w0 31 && bit w0 (27 + p) && tagsMatch (fld w0 17 15) (bit w0 12) n (be16 bs 12) &&
  (!bit w0 14 || (decide (0 < n) && decide (outerTci bs % 4096 = fld w0 11 0))) &&
  (!bit w0 13 || (decide (0 < n) && decide (outerTci bs / 8192 = fld (e.getD 2 0) 31 29))) &&
  decide (etherType bs &&& fld (e.getD 1 0) 15 0 = fld (e.getD 1 0) 31 16 &&& fld (e.getD 1 0) 15 0)

/-- The filter that decides: the lowest-numbered one that matches. -/
def State.filterFor (s : State) (p : Nat) (bs : List Byte) : Option (Nat × List Word) :=
  s.ports.filters.find? fun f => filterMatches f.2 p bs

/-! Stored frames. -/

/-- Network time of a time-stamp point, as reported: the point less the ingress correction, which moves it out to the
connector; the egress correction is added for the same reason (02 R57; the signs are DEDUCED, log 14). -/
def State.ingressStamp (s : State) (p : Nat) (elapsedPs : Int) : Nat :=
  (((s.captureAt elapsedPs * 16 / 2 ^ 32 : Nat) : Int) - (mapGet (0, 0) s.tb.lat p).1).toNat / 16

/-- A stored frame joins the packets of its port that wait for the Thresher. -/
def State.toFlight (p : Nat) (bs : List Byte) (ts : Nat) (s : State) : State :=
  { s with
    rules.flight := mapMod [] s.rules.flight p fun l => l ++ [{ id := s.rules.nextPkt, bytes := bs, ts := ts }]
    rules.nextPkt := s.rules.nextPkt + 1 }

/-- A frame is stored for the Thresher, within the port's share (R238). -/
def State.toThresher (p : Nat) (bs : List Byte) (ts : Nat) (s : State) : State :=
  if s.storable p bs.length then s.toFlight p bs ts else s.count p 17 1

/-- A bad frame is discarded, or written to BADQ while delivery is on (R237, R239). `bs` are the bytes
stored. -/
def State.badFrame (p : Nat) (bs : List Byte) (flags : Byte) (ts : Nat) (s : State) : State :=
  let x := s.prt p
  if !x.cfg.badDelivery || decide (bs.length < 14) then s
  else
    let k := 64 + x.cfg.badq
    let s1 := s.storeToHost x.cfg.badq (s.rxCopy p bs (some ts) 0 0xFFFF 0 flags)
    if (s.sub k).waiting.length < (s1.sub k).waiting.length then s1.count p 18 1 else s1

/-- The index of the length counter of a good frame (R251, 19 to 25). -/
def lengthIndex (n : Nat) : Nat :=
  if n ≤ 64 then 19 else if n ≤ 127 then 20 else if n ≤ 255 then 21 else if n ≤ 511 then 22
  else if n ≤ 1023 then 23 else if n ≤ 1522 then 24 else 25

/-- A good frame counted (R251). -/
def State.countGood (p : Nat) (bs : List Byte) (s : State) : State :=
  (((s.count p 0 bs.length).count p 1 1).count p (2 + destKind bs) 1).count p (lengthIndex bs.length) 1

/-- What a filter's action does to a good frame (R241). `n` is its number. A frame that is copied and passed on is stored
for both or dropped whole (R238). -/
def State.filtered (p : Nat) (bs : List Byte) (ts n : Nat) (e : List Word) (gptp : Bool) (s : State) : State :=
  let a := fld (e.getD 0 0) 26 24
  let q := fld (e.getD 0 0) 23 18
  let s1 := { s with ports.hits := mapMod 0 s.ports.hits n fun h => h + 1 }
  let w := s1.rxCopy p bs (some ts) 0 n 0 0
  if gptp then (if a = 1 || a = 3 then s1.storeToHost q w else s1)
  else if a = 1 then s1.storeToHost q w
  else if a = 2 then s1.count p 16 1
  else if a = 3 then
    if s1.storable p (w.bytes.length + bs.length) then (s1.toHost q w).toFlight p bs ts else s1.count p 17 1
  else s1.toThresher p bs ts

/-- A good frame: MAC control, gPTP and the filters (R242). -/
def State.goodFrame (p : Nat) (bs : List Byte) (ts : Nat) (s : State) : State :=
  if etherType bs = 0x8808 then
    if be16 bs (typeAt bs + 2) = 1 then s.rxPause p (be16 bs (typeAt bs + 4)) else s.count p 15 1
  else
    let gptp := etherType bs = 0x88F7
    let s1 := if gptp then { s with tb.gptpStamp := mapSet 0 s.tb.gptpStamp p ts } else s
    match s1.filterFor p bs with
    | some (n, e) => s1.filtered p bs ts n e gptp
    | none => if gptp then s1 else s1.toThresher p bs ts

/-- A frame received whole on port `p` (R237): counted in one of seven counters, and handled as the
table of R237 says. `maxLen` is MAX_LEN as its first octet arrived. -/
def State.receive (p : Nat) (f : RxFrame) (ts maxLen : Nat) (s : State) : State :=
  let n := f.bytes.length
  let long := decide (maxLen < n)
  let flags : Byte := BitVec.ofNat 8 (flag (!f.fcsOk) 0 + flag (decide (n < 64)) 1 + flag long 2
    + flag (long || f.reasmErr) 3 + flag f.codeErr 4 + flag f.fecUncorr 5 + flag f.reasmErr 6)
  let s1 := if f.codeErr then s.count p 10 1 else s
  let other := f.codeErr || f.fecUncorr
  let bad (t : State) : State := t.badFrame p (f.bytes.take maxLen) flags ts
  let s2 :=
    if f.reasmErr then bad (s1.count p 57 1)
    else if n < 14 then s1.count p 7 1
    else if n < 64 then bad (s1.count p 6 1)
    else if 16384 ≤ n then bad (s1.count p 9 1)
    else if long then bad (s1.count p 8 1)
    else if !f.fcsOk then bad (s1.count p 5 1)
    else if other then bad (s1.count p 57 1)
    else (s1.countGood p f.bytes).goodFrame p f.bytes ts
  s2.pauseCheck (decide (s.occupancy p < s2.occupancy p)) p

/-! Reassembly (09 R277). -/

/-- A reassembly error: the frame in progress, if any, ends with what it has. -/
def State.assemblyError (p : Nat) (s : State) : State :=
  let s1 := (s.modGate p fun g => { g with rx := none }).count p 51 1
  match (s.gate p).rx with
  | none => s1
  | some r => s1.receive p { bytes := r.bytes, fcsOk := true, codeErr := r.codeErr, fecUncorr := r.fecUncorr, reasmErr := true } r.stamp r.maxLen

/-- A fragment joins the frame in progress `r`; the last one completes it. -/
def State.fragment (p frag : Nat) (bs : List Byte) (final crcOk : Bool) (r : Reassembly) (s : State) : State :=
  if final then
    let s1 := s.modGate p fun g => { g with rx := none }
    let s2 := if 1 ≤ r.frags then s1.count p 50 1 else s1
    s2.receive p { bytes := r.bytes ++ bs, fcsOk := crcOk, codeErr := r.codeErr, fecUncorr := r.fecUncorr, reasmErr := false } r.stamp r.maxLen
  else
    let s1 := (s.modGate p fun g => { g with
      rx := some { r with next := (frag + 1) % 4, bytes := r.bytes ++ bs, frags := r.frags + 1 } }).count p 49 1
    if crcOk then s1 else s1.assemblyError p

/-- An mPacket received while ENABLE is 1. -/
def State.mpacket (p : Nat) (m : MPacket) (s : State) : State :=
  let g := s.gate p
  match m with
  | .verify =>
    if (s.prt p).txAsleep || (s.prt p).wakeEnd.isSome then s.modGate p fun g => { g with respondDue := true }
    else (s.emit (.mpacket p true)).count p 55 1
  | .respond =>
    if g.verifying then s.modGate p fun g => { g with verifying := false, succeeded := true } else s
  | .smdS frag bs final crcOk code fec ps =>
    let s1 := if g.rx.isSome then s.assemblyError p else s
    s1.fragment p frag bs final crcOk
      { next := 0, bytes := [], frags := 0, stamp := s.ingressStamp p ps, maxLen := (s.prt p).maxLenAt (s.upPs + ps)
        codeErr := code, fecUncorr := fec }
  | .smdC frag bs final crcOk code fec =>
    match g.rx with
    | none => s.assemblyError p
    | some r =>
      if frag % 4 ≠ r.next then s.assemblyError p
      else s.fragment p frag bs final crcOk { r with codeErr := r.codeErr || code, fecUncorr := r.fecUncorr || fec }
  | .unknown => s.count p 52 1

end Sys2Proof.Machine
end

