-- ==== Sys2Proof/Machine/PortRows.lean ====
section
/-! DEFINITION. The PORT commands and the events of links, lanes and reception: 08_network_ports and
09_gates_preemption R277. -/
namespace Sys2Proof.Machine

/-- Fields of a port's settings. -/
def portConfig (x : Port) : List Int :=
  [x.cfg.mode, x.cfg.fec, b2i x.cfg.clause37, x.cfg.address.toNat, x.cfg.maxLen.toNat, b2i x.cfg.stripFcs,
   b2i x.cfg.badDelivery, x.cfg.badq, b2i x.pause.generate, x.pause.share, x.pause.high, x.pause.low, x.pause.pq,
   x.pause.cableM, x.pause.pausable.toNat, x.pause.rxpWdMs, x.pause.rearmMs, x.pause.txpWdMs, x.lpiMode, x.idleNs]

/-- PORT_GET_STATUS (R253). The error ratio is a measured quantity (DESIGN CHOICE, log 8). -/
def execPortGetStatus (tag : Tag) (port : Nat) (s : State) : Host.Outcome State Fault Refusal :=
  .next <| s.serve tag 0x0701 true none fun s =>
    if 3 < port then refuse s .outOfRange
    else
      let x := s.prt port
      (s.drawn, Reply.ok [b2i x.up, x.cfg.mode, x.cfg.fec, x.lane, b2i x.localFault, b2i x.remoteFault,
        s.measured 12 port, b2i x.txAsleep, b2i x.rxLpi, b2i x.ownPauseSince.isSome, b2i x.rxPauseEnd.isSome,
        s.occupancy port])

/-- A line mode, FEC and clause 37 setting that R228 lists. -/
def lineOk (mode fec : Nat) (clause37 : Bool) : Bool :=
  (!clause37 || mode = 2) &&
  (if mode = 5 then decide (fec ≤ 2) else if mode = 4 then decide (fec ≤ 1) else decide (mode < 4) && fec = 0)

/-- The headroom rule of R247: CABLE = ceil(rate × 10 ns/m × length / 8) bytes. -/
def headroomOk (mode : Nat) (maxLen : BitVec 2) (c : PauseCfg) : Bool :=
  let bt := byteTime mode
  let cable := if bt = 0 then 0 else (c.cableM * 10000 + bt - 1) / bt
  decide (c.high + 2 * maxLenOf maxLen + 8192 + cable ≤ c.share)

/-- The pause settings that are or will be in force. -/
def Port.pauseNext (x : Port) : PauseCfg := x.pausePend.getD x.pause

/-- PORT_SET_MODE (R228): sets a port's line mode, FEC, address, MAX_LEN, FCS stripping and bad-frame delivery. -/
def execPortSetMode (tag : Tag) (port : Nat) (cfg : PortModeCfg) (s : State) : Host.Outcome State Fault Refusal :=
  .next <| s.serve tag 0x0702 false none fun s =>
    let x := s.prt port
    if 3 < port || !lineOk cfg.mode cfg.fec cfg.clause37 || cfg.maxLen = 3 || 63 < cfg.badq ||
        !headroomOk cfg.mode cfg.maxLen x.pauseNext then refuse s .outOfRange
    else if x.subst.isSome then refuse s .busy
    else
      let relink := x.cfg.mode ≠ cfg.mode || x.cfg.fec ≠ cfg.fec
      let s1 := if relink && x.up then s.linkDown port false else s
      (s1.modPort port fun x => { x with
        cfg := cfg, addressSet := true
        maxLenWas := if x.cfg.maxLen = cfg.maxLen then x.maxLenWas else some (s.up, x.cfg.maxLen) }, Reply.done)

/-- PORT_GET_CONFIG (R253): returns every setting of a port. -/
def execPortGetConfig (tag : Tag) (port : Nat) (s : State) : Host.Outcome State Fault Refusal :=
  .next <| s.query tag 0x0703 none fun s =>
    if 3 < port then Reply.no .outOfRange
    else
      let x := s.prt port
      Reply.ok (portConfig (if x.addressSet then x else { x with cfg := { x.cfg with address := s.portAddress port } }))

/-- The ranges of R244 and R247-R248. -/
def PauseCfg.ok (c : PauseCfg) : Bool :=
  decide (262144 ≤ c.share) && decide (c.share ≤ 8388608) && decide (c.share % 4096 = 0) &&
  decide (16384 ≤ c.high) && decide (8192 ≤ c.low) && decide (c.low + 4096 ≤ c.high) &&
  decide (1 ≤ c.pq) && decide (c.pq ≤ 65535) && decide (c.cableM ≤ 40000) &&
  decide (1 ≤ c.rxpWdMs) && decide (c.rxpWdMs ≤ 10000) && decide (10 ≤ c.rearmMs) && decide (c.rearmMs ≤ 10000) &&
  decide (1 ≤ c.txpWdMs) && decide (c.txpWdMs ≤ 10000)

/-- PORT_SET_PAUSE (R247). Settings take effect at the end of the frame in transmission; a share below the occupancy
at once (R254). -/
def execPortSetPause (tag : Tag) (port : Nat) (cfg : PauseCfg) (s : State) : Host.Outcome State Fault Refusal :=
  .next <| s.serve tag 0x0704 false none fun s =>
    let x := s.prt port
    let others := ((([0, 1, 2, 3] : List Nat).filter (· ≠ port)).map fun p => (s.prt p).pauseNext.share).sum
    if 3 < port || !cfg.ok || !headroomOk x.cfg.mode x.cfg.maxLen cfg || 10485760 < others + cfg.share then refuse s .outOfRange
    else
      let s1 := s.modPort port fun x => { x with
        pausePend := some cfg
        pause := if cfg.share < s.occupancy port then { x.pause with share := cfg.share } else x.pause }
      (if x.wire.isSome then s1 else s1.applyPortPend port, Reply.done)

/-- A filter entry is accepted: ACTION and TAGS are not reserved (R240, R241). -/
def filterOk (e : List Word) : Bool :=
  e.length = 4 && decide (fld (e.getD 0 0) 26 24 ≤ 3) && decide (fld (e.getD 0 0) 17 15 ≤ 4)

/-- Reserved bits read 0 (00 R6). -/
def filterKept (e : List Word) : List Word :=
  [e.getD 0 0, e.getD 1 0, e.getD 2 0 &&& 0xE0000000#32, 0]

/-- What an unlisted filter reads as: not VALID. -/
def filterDflt : List Word := [0, 0, 0, 0]

/-- PORT_SET_FILTER (R243): writes up to 16 consecutive filters atomically per entry. -/
def execPortSetFilter (tag : Tag) (first : Nat) (entries : List (List Word)) (s : State) : Host.Outcome State Fault Refusal :=
  .next <| s.serve tag 0x0705 false none fun s =>
    if entries.length = 0 || 16 < entries.length || 256 < first + entries.length then refuse s .outOfRange
    else match entries.zipIdx.find? fun p => !filterOk p.1 with
      | some p => refuse s .outOfRange (detailOf p.2 0)
      | none => ({ s with
          ports.filters := mapSetList filterDflt s.ports.filters first (entries.map filterKept)
          ports.hits := mapSetList 0 s.ports.hits first (entries.map fun _ => 0) }, Reply.done)

/-- PORT_GET_FILTER (R253): returns up to 64 filters with match counts. -/
def execPortGetFilter (tag : Tag) (first count : Nat) (s : State) : Host.Outcome State Fault Refusal :=
  .next <| s.query tag 0x0706 none fun s =>
    if count = 0 || 64 < count || 256 < first + count then Reply.no .outOfRange
    else Reply.ok ((List.range count).flatMap fun k =>
      ((mapGet filterDflt s.ports.filters (first + k)).map fun w => (w.toNat : Int)) ++ [((mapGet (0 : Nat) s.ports.hits (first + k) : Nat) : Int)])

/-- PORT_SET_LPI (R249): sets a port's low-power idle mode and IDLE_T. -/
def execPortSetLpi (tag : Tag) (port mode idleNs : Nat) (s : State) : Host.Outcome State Fault Refusal :=
  .next <| s.serve tag 0x0707 false none fun s =>
    let x := s.prt port
    if 3 < port || 2 < mode || (mode ≠ 0 && (lpiTimes x.cfg.mode x.cfg.fec).isNone) ||
        idleNs < 10000 || 100000000 < idleNs then refuse s .outOfRange
    else
      let s1 := s.modPort port fun x => { x with lpiPend := some (mode, idleNs) }
      (if x.wire.isSome then s1 else s1.applyPortPend port, Reply.done)

/-- The counters of a port in the order of R251 and R280. -/
def counterFields (c : SMap Nat) : List Int := (List.range 58).map fun i => ((mapGet (0 : Nat) c i : Nat) : Int)

/-- What the FEC of a port has corrected, and could not correct, since it was last counted (R251, 11 to 13): measured
quantities (DESIGN CHOICE, log 8). -/
def State.fecCounts (p : Nat) (s : State) : State :=
  let c := (s.prt p).cfg
  if !(s.prt p).up || c.fec = 0 then s
  else
    let s1 := ((s.drawn.count p 11 (s.measured 30 p).natAbs).count p 12 (s.measured 31 p).natAbs)
    if c.fec = 2 then s1.count p 13 (s.measured 32 p).natAbs else s1

/-- PORT_GET_STATS (R251): returns and restarts a port's counters sampled at one network time. -/
def execPortGetStats (tag : Tag) (port : Option Nat) (s : State) : Host.Outcome State Fault Refusal :=
  .next <| s.serve tag 0x0708 true none fun s =>
    let ps : List Nat := match port with
      | some p => [p]
      | none => [0, 1, 2, 3]
    if ps.any fun p => decide (3 < p) then refuse s .outOfRange
    else
      let s1 := ps.foldl (fun t p => t.fecCounts p) s
      (ps.foldl (fun t p => t.modPort p fun x => { x with ctr := [] }) s1,
        Reply.ok (ps.flatMap fun p => counterFields (s1.prt p).ctr ++ [(s.now : Int)]))

/-- PORT_GET_HISTORY (R252): returns one page of one-second counter history. -/
def execPortGetHistory (tag : Tag) (port page : Nat) (s : State) : Host.Outcome State Fault Refusal :=
  .next <| s.query tag 0x0709 none fun s =>
    if 3 < port || 14 < page then Reply.no .outOfRange
    else Reply.ok ((((s.prt port).history.drop (60 * page)).take 60).flatMap counterFields)

/-- A port would lose a spare lane that serves it or is to serve it. -/
def State.spareKept (s : State) (k : Nat) (mask : BitVec 4) : Bool :=
  ([0, 1, 2, 3] : List Nat).all fun p =>
    mask.getLsbD p || !((s.prt p).lane = k || (s.prt p).subst.any (·.lane = k))

/-- PORT_SET_SPARES (R233): sets the wiring masks of the spare lanes. -/
def execPortSetSpares (tag : Tag) (mask0 mask1 : BitVec 4) (s : State) : Host.Outcome State Fault Refusal :=
  .next <| s.serve tag 0x070A false none fun s =>
    if !s.spareKept 1 mask0 || !s.spareKept 2 mask1 then refuse s .inUse
    else ({ s with ports.mask0 := mask0, ports.mask1 := mask1 }.checkDegraded, Reply.done)

/-- PORT_SUBST_LANE (R234): starts a lane substitution of a port at once. -/
def execPortSubstLane (tag : Tag) (port : Nat) (s : State) : Host.Outcome State Fault Refusal :=
  .next <| s.serve tag 0x070B false none fun s =>
    if 3 < port then refuse s .outOfRange
    else if (s.prt port).subst.isSome then refuse s .busy
    else match s.spareFor port with
      | none => refuse s .inUse
      | some k => (s.startLane port k 4 false, Reply.done)

/-! Events. -/

/-- FRAME_RECEIVED (R237). A frame's last octet has arrived; `elapsedPs` places its time-stamp point, with which its first
octet begins, against the last tick (02 R57, R553). -/
def execFrameReceived (port : Nat) (frame : RxFrame) (elapsedPs : Int) (s : State) : Host.Outcome State Fault Refusal :=
  .next <|
    if decide (port < 4) && (s.prt port).up then
      s.receive port frame (s.ingressStamp port elapsedPs) ((s.prt port).maxLenAt (s.upPs + elapsedPs))
    else s

/-- MPACKET_RECEIVED (R277): A received mPacket is reassembled, answered or discarded. -/
def execMpacketReceived (port : Nat) (packet : MPacket) (s : State) : Host.Outcome State Fault Refusal :=
  .next <|
    if decide (port < 4) && (s.prt port).up then
      if (s.gate port).cfg.enable then s.mpacket port packet else s.count port 52 1
    else s

/-- A substitution whose port is up on its spare lane is complete: it is counted and logged, and it is a repair for the
port's LINK source (R234, 16 R473). -/
def State.laneDone (port : Nat) (c : LaneSubst) (s : State) : State :=
  let old := (s.prt port).dead.headD 0
  let s1 := s.modPort port fun x => { x with subst := none }
  let left := (([1, 2] : List Nat).filter fun k => (s.spareMask k) ≠ 0 && !s1.spareTaken k).length
  let s2 := ((s1.count port 45 1).logSubstAt (c.t2.getD s.now) 6 c.cause (156 + port)
    (locLane port) (locLane (laneNumber port old)) (locLane (laneNumber port c.lane)) 0 left
    (s.partEvents (.lane port))).repairDone (156 + port)
  if left = 0 then s2.raise 155 else s2

/-- PORT_LINK_UP (R229): the port has had neither fault for 1 ms. It ends a substitution whose switch has
been made. -/
def execPortLinkUp (port : Nat) (s : State) : Host.Outcome State Fault Refusal :=
  .next <|
    let x := s.prt port
    if 3 < port || x.up || x.cfg.mode = 0 || x.dead.contains x.lane || s.power.sleep = .shutdown then s
    else
      let s1 := s.modPort port fun x => { x with
        up := true, localFault := false, remoteFault := false, idleSince := s.up }
      let s2 := s1.modGate port (GatePort.unverified s.up)
      match x.subst.filter (·.switched) with
      | some c => (s2.laneDone port c).checkDegraded
      | none => s2.checkDegraded

/-- PORT_LINK_DOWN (R229): A port goes down on a fault and raises its LINK source. -/
def execPortLinkDown (port : Nat) (remote : Bool) (s : State) : Host.Outcome State Fault Refusal :=
  .next <| if 3 < port then s else s.linkDown port remote

/-- LANE_LOSS_OF_LOCK (R234). Loss of lock of the serving lane (R234, R235): the port goes down, and a substitution starts,
or no spare lane is left. Where the port is down already the loss is an event of its LINK source of its own. -/
def execLaneLossOfLock (port : Nat) (s : State) : Host.Outcome State Fault Refusal :=
  .next <|
    let x := s.prt port
    if 3 < port || x.cfg.mode = 0 then s
    else
      let s1 := if x.up then s.linkDown port false else (s.linkDown port false).raise (156 + port)
      let lost (t : State) : State := (t.modPort port fun x => { x with dead := x.lane :: x.dead }).checkDegraded
      match x.subst with
      | some c =>
        if c.switched then
          match s.spareFor port with
          | some k => s1.startLane port k 2 true
          | none => lost (s1.modPort port fun x => { x with subst := none })
        else s1.modPort port fun x => { x with subst := some { c with t1 := s.up + 1000000, t2 := none, cause := 2 } }
      | none =>
        match s.spareFor port with
        | some k => s1.startLane port k 2 true
        | none => lost s1

/-- LANE_SWITCH (R234, instant t2): the selector and the lane map change. A frame in transmission ends
first, but for a loss of lock, which cuts it. The spare map keeps every substitution (R234, 07 R201). -/
def execLaneSwitch (port : Nat) (s : State) : Host.Outcome State Fault Refusal :=
  .next <|
    let x := s.prt port
    match x.subst with
    | none => s
    | some c =>
      if 3 < port || !s.switchDue c || (c.cause ≠ 2 && (x.wire.isSome || x.held.isSome)) then s
      else
        let s1 := s.linkDown port false
        let s2 := s1.modPort port fun x => { x with
          lane := c.lane, dead := if x.dead.contains x.lane then x.dead else x.lane :: x.dead
          subst := some { c with switched := true, t1 := s.up, t2 := some s.now } }
        let s3 := if x.lane = 0 then s2 else s2.setLsel x.lane 0
        { s3.setLsel c.lane (4 + port) with
          cal.map.lanes := s3.cal.map.lanes ++ [(port, c.lane)] }.checkDegraded

/-- STATS_HISTORY_TICK (R252): once a second the deltas of the second join the history of the last 900. -/
def execStatsHistoryTick (s : State) : Host.Outcome State Fault Refusal :=
  .next <|
    if !s.functionUp || !s.periodDue (some (s.ports.historyAt.getD s.power.releasedAt)) 10000000000 then s
    else
      ([0, 1, 2, 3] : List Nat).foldl (fun t p =>
        (t.fecCounts p).modPort p fun x => { x with history := (x.tick :: x.history).take 900, tick := [] })
        { s with ports.historyAt := some s.up }

end Sys2Proof.Machine
end

