-- ==== Sys2Proof/Machine/Thresher.lean ====
section
/-! DEFINITION. The Thresher's events: dispatch, the instructions of a thread, the matcher's result,
release, and the swap of generations: 11_thresher R306-R334. -/
namespace Sys2Proof.Machine

/-- A packet of a port that waits for a thread, the oldest. -/
def State.waitingPkt (s : State) (p : Nat) : Option Pkt := (mapGet [] s.rules.flight p).find? fun x => x.stage = .waiting

/-- The next port of the round robin that has a packet waiting. -/
def State.nextPort (s : State) : Option (Nat × Pkt) :=
  ([1, 2, 3, 4] : List Nat).findSome? fun i =>
    let p := (s.rules.rr + i) % 4
    (s.waitingPkt p).map fun x => (p, x)

/-- THRESHER_DISPATCH (R306). A packet reaches a free thread: a recirculated one before any new frame (R306, R308,
R332). From AT on a new frame latches the former shadow (R333). -/
def execThresherDispatch (thread : Nat) (s0 : State) : Host.Outcome State Fault Refusal :=
  .next <|
    let s := s0.swapDue
    if 32 ≤ thread || (mapGet none s.rules.threads thread).isSome then s
    else match s.rules.recirc with
      | t :: rest =>
        { s with rules.recirc := rest
                 rules.threads := mapSet none s.rules.threads thread (some t) }.modPkt t.port t.pkt fun p => { p with stage := .thread }
      | [] =>
        match s.nextPort with
        | none => s
        | some (p, x) =>
          let g := s.rules.store s.rules.active1
          let t : Thread := { port := p, pkt := x.id, profile := mapGet 0 g.profileDef p, pc := mapGet 0 g.entry p
                              gen := s.rules.active1 }
          ({ s with rules.rr := p
                    rules.threads := mapSet none s.rules.threads thread (some t) }.modPkt p x.id
            fun y => { y with stage := .thread, gen := s.rules.active1 }).countRule 0

/-- DONE (R320): ends the pass and looks up PROFILE, FLAGS and KEY. -/
def execThDone (thread : Nat) (s : State) : Host.Outcome State Fault Refusal :=
  .next <| s.runThread thread 0x00 fun _ _ t => (t.next, some .done)
/-- MOV (R311): loads a register with the operand. -/
def execThMov (thread : Nat) (s : State) : Host.Outcome State Fault Refusal :=
  .next <| s.runThread thread 0x01 fun _ w t => t.alu (fun _ b => b) w
/-- ADD (R311): adds the operand to a register. -/
def execThAdd (thread : Nat) (s : State) : Host.Outcome State Fault Refusal :=
  .next <| s.runThread thread 0x02 fun _ w t => t.alu (fun a b => a + b) w
/-- SUB (R311): subtracts the operand from a register. -/
def execThSub (thread : Nat) (s : State) : Host.Outcome State Fault Refusal :=
  .next <| s.runThread thread 0x03 fun _ w t => t.alu (fun a b => a - b) w
/-- AND (R311): ANDs the operand into a register. -/
def execThAnd (thread : Nat) (s : State) : Host.Outcome State Fault Refusal :=
  .next <| s.runThread thread 0x04 fun _ w t => t.alu (fun a b => a &&& b) w
/-- OR (R311): ORs the operand into a register. -/
def execThOr (thread : Nat) (s : State) : Host.Outcome State Fault Refusal :=
  .next <| s.runThread thread 0x05 fun _ w t => t.alu (fun a b => a ||| b) w
/-- SHL (R311): shifts a register left. -/
def execThShl (thread : Nat) (s : State) : Host.Outcome State Fault Refusal :=
  .next <| s.runThread thread 0x06 fun _ w t => t.alu (fun a b => a <<< (b.toNat % 16)) w
/-- SHR (R311): shifts a register right with zero fill. -/
def execThShr (thread : Nat) (s : State) : Host.Outcome State Fault Refusal :=
  .next <| s.runThread thread 0x07 fun _ w t => t.alu (fun a b => a >>> (b.toNat % 16)) w
/-- CMP (R311): sets Z and LT from a comparison. -/
def execThCmp (thread : Nat) (s : State) : Host.Outcome State Fault Refusal :=
  .next <| s.runThread thread 0x08 fun _ w t => t.cmp w
/-- LDB (R311): loads a window byte into a register. -/
def execThLdb (thread : Nat) (s : State) : Host.Outcome State Fault Refusal :=
  .next <| s.runThread thread 0x10 fun bs w t => t.load 1 bs w
/-- LDH (R311): loads a window halfword into a register. -/
def execThLdh (thread : Nat) (s : State) : Host.Outcome State Fault Refusal :=
  .next <| s.runThread thread 0x11 fun bs w t => t.load 2 bs w
/-- LDM (R312): loads a metadata item into a register. -/
def execThLdm (thread : Nat) (s : State) : Host.Outcome State Fault Refusal :=
  .next <| s.runThread thread 0x12 fun bs w t => t.ldm bs w
/-- KLD (R311): copies window bytes into the key. -/
def execThKld (thread : Nat) (s : State) : Host.Outcome State Fault Refusal :=
  .next <| s.runThread thread 0x18 fun bs w t => t.kld bs w
/-- KMOV (R311): copies a register into two key bytes. -/
def execThKmov (thread : Nat) (s : State) : Host.Outcome State Fault Refusal :=
  .next <| s.runThread thread 0x19 fun _ w t => t.kmov w
/-- BR (R312): branches when its condition holds. -/
def execThBr (thread : Nat) (s : State) : Host.Outcome State Fault Refusal :=
  .next <| s.runThread thread 0x20 fun _ w t => t.br w
/-- HDR (R314): closes a header, checks lengths and fragments, and advances CUR. -/
def execThHdr (thread : Nat) (s : State) : Host.Outcome State Fault Refusal :=
  .next <| s.runThread thread 0x28 fun bs w t => t.hdr bs w
/-- PROF (R311): sets PROFILE. -/
def execThProf (thread : Nat) (s : State) : Host.Outcome State Fault Refusal :=
  .next <| s.runThread thread 0x30 fun _ w t => t.prof w
/-- MARK (R316): copies KEY and PROFILE into the L2 or OUTER mark. -/
def execThMark (thread : Nat) (s : State) : Host.Outcome State Fault Refusal :=
  .next <| s.runThread thread 0x31 fun _ w t => t.mark w
/-- RECIRC (R331): ends pass 1 and queues the packet for pass 2. -/
def execThRecirc (thread : Nat) (s : State) : Host.Outcome State Fault Refusal :=
  .next <| s.runThread thread 0x33 fun _ w t => t.recirc w

/-- A thread waits for the matcher. -/
def State.scanning (s : State) (thread : Nat) : Bool :=
  match mapGet none s.rules.threads thread with
  | some t => t.pmWait.isSome
  | none => false

/-- PM (R318): an executed one counts in PM_SCANS, and the thread waits. -/
def execThPm (thread : Nat) (s : State) : Host.Outcome State Fault Refusal :=
  .next <|
    let s1 := s.runThread thread 0x32 fun _ w t => t.pm w
    if !s.scanning thread && s1.scanning thread then s1.countRule 10 else s1

/-- PM_RESULT (R318). The matcher's result reaches the thread. -/
def execPmResult (thread : Nat) (s : State) : Host.Outcome State Fault Refusal :=
  .next <|
    match mapGet none s.rules.threads thread with
    | none => s
    | some t =>
      match t.pmWait, s.pkt? t.port t.pkt with
      | some (d, groups), some p =>
        let r := (s.rules.store t.gen).search groups (noFcs p.bytes) (t.wbase + t.cur)
        { s with rules.threads := mapSet none s.rules.threads thread
                   (some { t.setReg d (BitVec.ofNat 16 r) with pmWait := none, pmHit := decide (r ≠ 0xFFFF) }) }
      | _, _ => s

/-! Release (R306, R326-R328, R336). -/

/-- The rule counter of an action gains a frame and its octets. -/
def State.countAction (a : List Word) (octets : Nat) (s : State) : State :=
  let c := fld (a.getD 1 0) 31 20
  if c = 0 then s
  else { s with rules.ruleCtr := mapMod (0, 0) s.rules.ruleCtr c fun q =>
           (min (2 ^ 64 - 1) (q.1 + 1), min (2 ^ 64 - 1) (q.2 + octets)) }

/-- GEN_NUM of the generation that a packet latched. -/
def State.genOf (s : State) (x : Pkt) : Word := if x.gen = s.rules.active1 then s.rules.genNum else s.rules.genNum - 1

/-- What the management processor keeps of a frame (R328). -/
def State.mpCopy (s : State) (p : Nat) (x : Pkt) (v : Verdict) : MpCopy :=
  { bytes := x.bytes.take 2048, port := p, ts := x.ts, flags := v.flags, source := v.source, genNum := s.genOf x }

/-- A copy for the management processor, through the token bucket (R328). -/
def State.copyMp (p : Nat) (x : Pkt) (v : Verdict) (s : State) : State :=
  let full := 256 * 10 ^ 10
  let tokens := min full (s.rules.mpTokens + (s.up - s.rules.mpAt) * s.rules.mpRate)
  if tokens < 10 ^ 10 then { s with rules.mpTokens := tokens, rules.mpAt := s.up }.countRule 14
  else
    { s with rules.mpTokens := tokens - 10 ^ 10, rules.mpAt := s.up
             rules.copies := (s.mpCopy p x v :: s.rules.copies).take 64 }.countRule 13

/-- A frame is sent by PORT, within the MAX_LEN of that port. -/
def State.forward (ingress p tc : Nat) (b : List Byte) (s : State) : State × Bool :=
  if (s.prt p).maxLen < b.length then (s.countRule 16, false)
  else (s.enqueue p { bytes := b, tc := tc, ingress := some ingress }, true)

/-- A mirror copy (R328). A truncated copy is TRUNC bytes of the frame with an FCS of their own (DEDUCED, log 23). -/
def State.mirrorCopy (p k : Nat) (x : Pkt) (s : State) : State :=
  let m := mapGet ({} : Session) s.rules.sessions k
  let b := if m.trunc ≠ 0 && decide (m.trunc < (noFcs x.bytes).length) then withFcs (x.bytes.take m.trunc) else x.bytes
  match m.dest with
  | .off => s
  | .port q tc =>
    let r := s.forward p q tc b
    if r.2 then r.1.countRule 15 else r.1
  | .queue q => (s.storeToHost q (s.rxCopy p b (some x.ts) 3 k 0 0)).countRule 15

/-- The disposition of a frame (R327). -/
def State.dispose (p : Nat) (x : Pkt) (v : Verdict) (s : State) : State :=
  let w0 := v.action.getD 0 0
  let disp := fld w0 31 29
  let b := if bit w0 3 && v.flags.getLsbD 4 then withFcs ((noFcs x.bytes).drop v.wbase2) else x.bytes
  if v.source = .fault then s
  else if disp = 1 then (s.forward p (fld w0 28 27) (fld w0 26 24) b).1
  else if disp = 2 then s.toHost (fld w0 23 18) (s.rxCopy p b (some x.ts) 1 (fld (v.action.getD 2 0) 31 16) 0 0)
  else if disp = 3 then
    (s.enterStream (fld w0 17 8) { frame := b, ingress := some p, stamp := x.ts, owner := none, hostSeq := none }).1
  else s.countRule 12

/-- THRESHER_RELEASE (R306). A classified frame is released to its actions, in the order of its ingress port. -/
def execThresherRelease (port : Nat) (s : State) : Host.Outcome State Fault Refusal :=
  .next <|
    match mapGet [] s.rules.flight port with
    | [] => s
    | x :: rest =>
      match x.verdict with
      | none => s
      | some v =>
        let w0 := v.action.getD 0 0
        if v.source ≠ .fault && fld w0 31 29 = 3 && s.counterHeld (fld w0 17 8) then s else
        let s1 := { s with rules.flight := mapSet [] s.rules.flight port rest }.countAction v.action x.bytes.length
        let s2 := if bit w0 7 then s1.copyMp port x v else s1
        let k := fld w0 6 4
        let s3 := if 1 ≤ k && k ≤ 4 then s2.mirrorCopy port (k - 1) x else s2
        (s3.dispose port x v).pauseChecks

/-! Swaps (R333). -/

/-- RULE_SWAP_AT (R333): at AT new packets latch the former shadow and GEN_NUM increments. -/
def execRuleSwapAt (s : State) : Host.Outcome State Fault Refusal := .next <| s.swapDue

/-- RULE_SWAP_DRAIN (R333): the swap completes when no packet of the old generation remains. -/
def execRuleSwapDrain (s : State) : Host.Outcome State Fault Refusal := .next <| s.swapDrained

end Sys2Proof.Machine
end

