-- ==== Sys2Proof/Machine/RuleCmds.lean ====
section
/-! DEFINITION. The RULE commands: 11_thresher R317, R319, R323-R328, R333-R337. -/
namespace Sys2Proof.Machine

/-- Entries in use of a generation: hashed, ternary, patterns. -/
def Generation.used (g : Generation) : List Int :=
  [(g.hashed.length : Int), ((g.ternary.filter fun e => (byteAt e.2 0).getLsbD 7).length : Int),
   ((g.patterns.filter fun e => (byteAt e.2 1).getLsbD 7).length : Int)]

/-- RULE_GET_STATUS (R335): returns GEN_NUMs, GEN_MISMATCH, swap state and table usage. -/
def execRuleGetStatus (tag : Tag) (s : State) : Host.Outcome State Fault Refusal :=
  .next <| s.query tag 0x0A01 (some 0) fun s0 =>
    let s := s0.swapDue.swapDrained
    let sw : Int × Int := match s.rules.swap with
      | .none => (0, 0)
      | .scheduled t => (1, t)
      | .draining t => (2, t)
      | .withdrawn => (3, 0)
    Reply.ok ([(s.rules.genNum.toNat : Int), s.rules.partnerGen.toNat, b2i s.rules.mismatch, sw.1, sw.2] ++
      (s.rules.store s.rules.active1).used ++ (s.rules.store (!s.rules.active1)).used)

/-- RULE_LOAD_PROGRAM (R317). Up to 960 instructions, refused whole with the first offending address. -/
def execRuleLoadProgram (tag : Tag) (start : Nat) (words : List Word) (s : State) : Host.Outcome State Fault Refusal :=
  .next <| s.serve tag 0x0A02 false none fun s =>
    if s.swapBusy then refuse s .busy
    else if 960 < words.length || 4096 < start + words.length then refuse s .outOfRange
    else match words.zipIdx.find? fun p => !wordOk p.1 with
      | some p => refuse s .outOfRange (detailOf (start + p.2) 0)
      | none => (s.modShadow fun g => { g with program := mapSetList 0 g.program start words }, Reply.done)

/-- An action record in the ranges of R326 and R327. -/
def actionOk (a : List Word) : Bool :=
  a.length = 4 && decide (fld (a.getD 0 0) 31 29 ≤ 3) && decide (fld (a.getD 0 0) 6 4 ≤ 4)

/-- An action record as it is kept: reserved bits read 0 (00 R6). -/
def actionKept (a : List Word) : List Word :=
  [a.getD 0 0 &&& 0xFFFFFFFE#32, a.getD 1 0 &&& 0xFFF00000#32, a.getD 2 0 &&& 0xFFFF0000#32, 0]

/-- A profile setting applied to a generation. -/
def Generation.profiled (c : ProfileCfg) (g : Generation) : Generation :=
  { g with
    misses := c.misses.foldl (fun m q => mapSet dropAction m q.1 (actionKept q.2)) g.misses
    entry := c.entries.foldl (fun m q => mapSet 0 m q.1 q.2.toNat) g.entry
    profileDef := c.profileDefs.foldl (fun m q => mapSet 0 m q.1 q.2.toNat) g.profileDef
    deep := (c.deep.map actionKept).getD g.deep
    lenCopyMp := c.lenCopyMp.getD g.lenCopyMp }

/-- The fields of RULE_SET_PROFILE are in range. -/
def ProfileCfg.ok (c : ProfileCfg) : Bool :=
  (c.misses.all fun q => decide (q.1 < 64) && actionOk q.2) && (c.entries.all fun q => decide (q.1 < 4)) &&
  (c.profileDefs.all fun q => decide (q.1 < 4)) && (c.deep.all fun a => actionOk a)

/-- RULE_SET_PROFILE (R337): sets profile MISS actions, ENTRY, PROFILE_DEF and defaults in the shadow. -/
def execRuleSetProfile (tag : Tag) (cfg : ProfileCfg) (s : State) : Host.Outcome State Fault Refusal :=
  .next <| s.serve tag 0x0A03 false none fun s =>
    if s.swapBusy then refuse s .busy
    else if !cfg.ok then refuse s .outOfRange
    else (s.modShadow (Generation.profiled cfg), Reply.done)

/-- The bytes of an action record as kept, from byte `i` of a record. -/
def actionBytes (r : List Byte) (i : Nat) : List Byte := wordsBytes (actionKept (actionWords (slice r i 16)))

/-- A hashed record in its ranges, and as it is kept (R324). -/
def hashedOk (r : List Byte) : Bool := r.length = 64 && actionOk (actionWords (slice r 48 16))
def hashedKept (r : List Byte) : List Byte :=
  [byteAt r 0 &&& 0xBF#8, byteAt r 1, 0, 0] ++ slice r 4 40 ++ [0, 0, 0, 0] ++ actionBytes r 48

/-- Records added one after the other, or the index of the first that finds no room. -/
def addAll : Nat → SMap (List Byte) → List (List Byte) → Nat ⊕ SMap (List Byte)
  | _, m, [] => .inr m
  | i, m, r :: rs =>
    match addHashed m (hashedKept r) with
    | some m1 => addAll (i + 1) m1 rs
    | none => .inl i

/-- RULE_ADD_HASH (R323): adds or replaces hashed entries in the shadow, moving entries if needed. -/
def execRuleAddHash (tag : Tag) (recs : List (List Byte)) (s : State) : Host.Outcome State Fault Refusal :=
  .next <| s.serve tag 0x0A04 false none fun s =>
    if s.swapBusy then refuse s .busy
    else if recs.length = 0 || 32 < recs.length then refuse s .outOfRange
    else match recs.zipIdx.find? fun p => !hashedOk p.1 with
      | some p => refuse s .outOfRange (detailOf p.2 48)
      | none =>
        match addAll 0 (s.rules.store (!s.rules.active1)).hashed recs with
        | .inl i => refuse s .noSpace i
        | .inr m => (s.modShadow fun g => { g with hashed := m }, Reply.done)

/-- A key of RULE_DEL_HASH or a lookup; KEY[0] is its lowest byte (DESIGN CHOICE, log 5). -/
def lookKey (profile : BitVec 6) (flags : Byte) (key : BitVec 320) : LookKey :=
  ⟨profile.toNat, flags, leNat 40 key.toNat⟩

/-- Entries removed; a key that no entry has removes nothing (DEDUCED, log 23). -/
def delHashed (m : SMap (List Byte)) (k : LookKey) : SMap (List Byte) :=
  match findHashed m k with
  | some n => mapSet [] m n []
  | none => m

/-- RULE_DEL_HASH (R337): removes hashed entries from the shadow. -/
def execRuleDelHash (tag : Tag) (keys : List (BitVec 6 × Byte × BitVec 320)) (s : State) : Host.Outcome State Fault Refusal :=
  .next <| s.serve tag 0x0A05 false none fun s =>
    if s.swapBusy then refuse s .busy
    else if keys.length = 0 || 32 < keys.length then refuse s .outOfRange
    else (s.modShadow fun g => { g with hashed := keys.foldl (fun m q => delHashed m (lookKey q.1 q.2.1 q.2.2)) g.hashed }, Reply.done)

/-- Bytes with a bit set where the mask has none. -/
def outsideMask (v m : List Byte) : Bool := (v.zip m).any fun q => decide (q.1 &&& ~~~ q.2 ≠ 0)

/-- The byte offset of the first field of a ternary record that R325 refuses. -/
def ternaryOffends (r : List Byte) : Option Nat :=
  let checks : List (Bool × Nat) :=
    [ (decide (r.length ≠ 128), 0), (decide (byteAt r 0 &&& 0x3F#8 &&& ~~~ byteAt r 2 ≠ 0), 0),
      (decide (byteAt r 1 &&& ~~~ byteAt r 3 ≠ 0), 1), (outsideMask (slice r 4 40) (slice r 44 40), 4),
      (!actionOk (actionWords (slice r 96 16)), 96) ]
  (checks.find? (·.1)).map (·.2)

/-- A ternary record as it is kept. -/
def ternaryKept (r : List Byte) : List Byte :=
  [byteAt r 0 &&& 0xBF#8, byteAt r 1, byteAt r 2 &&& 0x3F#8, byteAt r 3] ++ slice r 4 80 ++ List.replicate 12 0 ++
    actionBytes r 96 ++ List.replicate 16 0

/-- RULE_SET_TERNARY (R325): writes ternary entries in the shadow. -/
def execRuleSetTernary (tag : Tag) (first : Nat) (recs : List (List Byte)) (s : State) : Host.Outcome State Fault Refusal :=
  .next <| s.serve tag 0x0A06 false none fun s =>
    if s.swapBusy then refuse s .busy
    else if recs.length = 0 || 16 < recs.length || 2048 < first + recs.length then refuse s .outOfRange
    else match recs.zipIdx.findSome? fun p => (ternaryOffends p.1).map fun o => detailOf p.2 o with
      | some d => refuse s .outOfRange d
      | none => (s.modShadow fun g => { g with ternary := mapSetList [] g.ternary first (recs.map ternaryKept) }, Reply.done)

/-- The byte offset of the first field of a pattern that R319 refuses. -/
def patternOffends (r : List Byte) : Option Nat :=
  let n := (byteAt r 0).toNat
  let checks : List (Bool × Nat) :=
    [ (r.length ≠ 72 || n = 0 || decide (64 < n), 0), (decide (byteAt r 1 &&& 0x30#8 ≠ 0), 1),
      (decide (1023 < ofLe (slice r 2 2)), 2), (decide (ofLe (slice r 68 4) ≠ 0), 68) ]
  (checks.find? (·.1)).map (·.2)

/-- RULE_SET_PATTERN (R319): writes payload patterns in the shadow. -/
def execRuleSetPattern (tag : Tag) (first : Nat) (recs : List (List Byte)) (s : State) : Host.Outcome State Fault Refusal :=
  .next <| s.serve tag 0x0A07 false none fun s =>
    if s.swapBusy then refuse s .busy
    else if recs.length = 0 || 32 < recs.length || 4096 < first + recs.length then refuse s .outOfRange
    else match recs.zipIdx.findSome? fun p => (patternOffends p.1).map fun o => detailOf p.2 o with
      | some d => refuse s .outOfRange d
      | none => (s.modShadow fun g => { g with patterns := mapSetList [] g.patterns first recs }, Reply.done)

/-- RULE_CLONE (R334): copies the active generation into the shadow. -/
def execRuleClone (tag : Tag) (s : State) : Host.Outcome State Fault Refusal :=
  .next <| s.serve tag 0x0A08 false (some 0) fun s =>
    if s.swapBusy then refuse s .busy
    else (s.modShadow fun _ => s.rules.store s.rules.active1, Reply.done)

/-- RULE_SWAP (R333): schedules the swap of shadow and active generations at AT, at least 1 ms after the command is
received. -/
def execRuleSwap (tag : Tag) (swapAt : Nat) (s : State) : Host.Outcome State Fault Refusal :=
  .next <| s.serve tag 0x0A09 false none fun s =>
    if s.swapBusy then refuse s .busy
    else if swapAt = 0 then (s.swapNow s.now, Reply.done)
    else if !s.tb.stepped then refuse s .notStepped
    else if swapAt < s.arrivalOf tag + 1000000 then refuse s .outOfRange
    else ({ s with rules.swap := .scheduled swapAt }, Reply.done)

/-- RULE_CANCEL_SWAP: while AT is more than 100 µs away (R334). -/
def execRuleCancelSwap (tag : Tag) (s : State) : Host.Outcome State Fault Refusal :=
  .next <| s.serve tag 0x0A0A false (some 0) fun s =>
    match s.rules.swap with
    | .scheduled t => if s.now + 100000 < t then ({ s with rules.swap := .none }, Reply.done) else refuse s .tooLate
    | _ => refuse s .tooLate

/-- Bytes as payload fields. -/
def byteFields (bs : List Byte) : List Int := bs.map fun b => (b.toNat : Int)

/-- A source of a rule as fields: kind and index. -/
def RuleSource.fields : RuleSource → List Int
  | .hashed n => [0, n] | .ternary n => [1, n] | .miss => [2, 0] | .deepDefault => [3, 0] | .lenDefault => [4, 0]
  | .fault => [5, 0]

/-- The generation that a query names. -/
def State.genFor (s : State) (shadow : Bool) : Generation := s.rules.store (if shadow then !s.rules.active1 else s.rules.active1)

/-- A range of a table that fits into one answer payload. -/
def tableRangeOk (total size first count : Nat) : Bool := count ≠ 0 && decide (first + count ≤ total) && decide (count * size ≤ 4064)

/-- RULE_GET (R337): reads entries or looks up a key in either generation. -/
def execRuleGet (tag : Tag) (query : RuleQuery) (s : State) : Host.Outcome State Fault Refusal :=
  .next <| s.query tag 0x0A0B none fun s =>
    match query with
    | .program sh start count =>
      if !tableRangeOk 4096 4 start count then Reply.no .outOfRange
      else Reply.ok ((mapRead 0 (s.genFor sh).program start count).map fun w => (w.toNat : Int))
    | .hashed sh first count =>
      if !tableRangeOk 65536 64 first count then Reply.no .outOfRange
      else Reply.ok ((mapRead [] (s.genFor sh).hashed first count).flatMap fun r => byteFields (slice (r ++ List.replicate 64 0) 0 64))
    | .ternary sh first count =>
      if !tableRangeOk 2048 128 first count then Reply.no .outOfRange
      else Reply.ok ((mapRead [] (s.genFor sh).ternary first count).flatMap fun r => byteFields (slice (r ++ List.replicate 128 0) 0 128))
    | .patterns sh first count =>
      if !tableRangeOk 4096 72 first count then Reply.no .outOfRange
      else Reply.ok ((mapRead [] (s.genFor sh).patterns first count).flatMap fun r => byteFields (slice (r ++ List.replicate 72 0) 0 72))
    | .profiles sh =>
      let g := s.genFor sh
      Reply.ok ((mapRead dropAction g.misses 0 64).flatMap (fun a => a.map fun w => (w.toNat : Int)) ++
        (mapRead (0 : Nat) g.entry 0 4).map (fun n : Nat => (n : Int)) ++ (mapRead (0 : Nat) g.profileDef 0 4).map (fun n : Nat => (n : Int)) ++
        g.deep.map (fun w => (w.toNat : Int)) ++ [b2i g.lenCopyMp])
    | .lookup sh profile flags key =>
      let r := (s.genFor sh).lookup (lookKey profile flags key)
      Reply.ok (r.1.map (fun w => (w.toNat : Int)) ++ r.2.fields)

/-- RULE_GET_STATS restarts what it returns (R336, as 08 R251). -/
def execRuleGetStats (tag : Tag) (first count : Nat) (s : State) : Host.Outcome State Fault Refusal :=
  .next <| s.serve tag 0x0A0C true none fun s =>
    if 240 < count || 4096 < first + count then refuse s .outOfRange
    else
      let m := (List.range count).foldl (fun m i => mapSet (0, 0) m (first + i) (0, 0)) s.rules.ruleCtr
      ({ s with rules.ctr := [], rules.ruleCtr := m },
        Reply.ok ((List.range 18).map (fun i => ((mapGet (0 : Nat) s.rules.ctr i : Nat) : Int)) ++
          (mapRead (0, 0) s.rules.ruleCtr first count).flatMap (fun q => [(q.1 : Int), q.2]) ++ [(s.now : Int)]))

/-- A destination that exists. -/
def MirrorDest.ok : MirrorDest → Bool
  | .off => true
  | .port p tc => decide (p < 4) && decide (tc < 8)
  | .queue q => decide (q < 64)

/-- RULE_SET_MIRROR (R328): sets a mirror session's destination and truncation. -/
def execRuleSetMirror (tag : Tag) (session : Nat) (dest : MirrorDest) (trunc : Nat) (s : State) : Host.Outcome State Fault Refusal :=
  .next <| s.serve tag 0x0A0D false none fun s =>
    if 3 < session || !dest.ok || (trunc ≠ 0 && (trunc < 64 || 9216 < trunc)) then refuse s .outOfRange
    else ({ s with rules.sessions := mapSet {} s.rules.sessions session { dest := dest, trunc := trunc } }, Reply.done)

/-- RULE_SET_MP (R328): the tokens gathered so far are counted at the old rate. -/
def execRuleSetMp (tag : Tag) (rate : Nat) (s : State) : Host.Outcome State Fault Refusal :=
  .next <| s.serve tag 0x0A0E false none fun s =>
    if rate < 100 || 100000 < rate then refuse s .outOfRange
    else ({ s with
        rules.mpTokens := min (256 * 10 ^ 10) (s.rules.mpTokens + (s.up - s.rules.mpAt) * s.rules.mpRate)
        rules.mpAt := s.up
        rules.mpRate := rate }, Reply.done)

/-- RULE_GET_COPIES (R328): returns the last copies to the management processor. -/
def execRuleGetCopies (tag : Tag) (count : Nat) (s : State) : Host.Outcome State Fault Refusal :=
  .next <| s.query tag 0x0A0F none fun s =>
    Reply.ok ((s.rules.copies.take (min 64 count)).flatMap fun c =>
      [(c.port : Int), c.ts, c.flags.toNat, c.genNum.toNat] ++ c.source.fields ++ [(c.bytes.length : Int)] ++ byteFields c.bytes)

end Sys2Proof.Machine
end

