-- ==== Sys2Proof/Machine/Sheaves.lean ====
section
/-! DEFINITION. The SHEAF, SOLVE and STOOK commands, the fabric command queue operations and the
events of a sheaf: 06_sheaves. -/
namespace Sys2Proof.Machine

/-- The reply to a submission: status OK with OUTCOME STAGED, or REFUSED and the reason (R195). -/
def submitReply (id : Nat) : Option Nat → Reply
  | none => Reply.ok [id, 0x0B, 0]
  | some r => Reply.ok [id, 0x0A, r]

/-- Changes of a part of a sheaf: whole entries, at most 480 (R195). -/
def partOk (ws : List Word) : Bool := decide (ws.length % 2 = 0) && decide (ws.length ≤ 960)

/-- SHEAF_STAGE (R162): stages a sheaf header and changes, validating it whole unless MORE keeps it open. A second
open sheaf of one ID is refused (log 18). -/
def execSheafStage (tag : Tag) (more : Bool) (words : List Word) (s : State) : Host.Outcome State Fault Refusal :=
  .next <| s.serve tag 0x0401 false none fun s =>
    let id := (readSheaf words).id
    if words.length < 8 || !partOk (words.drop 8) then refuse s .outOfRange
    else if more then
      if 16 ≤ s.sheaves.opened.length then refuse s .busy
      else if s.sheaves.opened.any fun p => p.1 = id then refuse s .outOfRange
      else ({ s with sheaves.opened := s.sheaves.opened ++ [(id, words)] }, Reply.ok [id])
    else
      let p := s.submit words .mailbox
      (p.1, submitReply id p.2)

/-- SHEAF_APPEND (R195): adds changes to an open sheaf and validates it at the last part. -/
def execSheafAppend (tag : Tag) (id : BitVec 16) (more : Bool) (words : List Word) (s : State) : Host.Outcome State Fault Refusal :=
  .next <| s.serve tag 0x0402 false none fun s =>
    match s.sheaves.opened.find? fun p => p.1 = id.toNat with
    | none => refuse s .outOfRange
    | some p =>
      if !partOk words || decide (21504 * 2 + 8 < p.2.length + words.length) then refuse s .outOfRange
      else
        let all := p.2 ++ words
        let rest := s.sheaves.opened.filter (· ≠ p)
        if more then ({ s with sheaves.opened := rest ++ [(p.1, all)] }, Reply.ok [id.toNat])
        else
          let q := { s with sheaves.opened := rest }.submit all .mailbox
          (q.1, submitReply id.toNat q.2)

/-- A cancel (R177): the new state, or the status that refuses it. -/
def State.cancelSheaf (id : Nat) (s : State) : State × Option Status :=
  match s.sheaf? id with
  | none => (s, some .outOfRange)
  | some x =>
    if x.phase = .staged || (x.pending && !s.pastCutoff x) then ((s.failSheaf id 0x06 0), none)
    else (s, some .tooLate)

/-- SHEAF_CANCEL (R177): cancels a staged or armed sheaf before its cut-off. -/
def execSheafCancel (tag : Tag) (id : BitVec 16) (s : State) : Host.Outcome State Fault Refusal :=
  .next <| s.serve tag 0x0403 false none fun s =>
    match s.cancelSheaf id.toNat with
    | (s1, none) => (s1, Reply.done)
    | (s1, some st) => (s1, Reply.no st)

/-- The state of a sheaf as SHEAF_GET_STATUS reports it. -/
def SheafPhase.code : SheafPhase → Nat
  | .staged => 0 | .arming => 1 | .committed => 2 | .applied => 2 | .done => 3

/-- SHEAF_GET_STATUS (R195): returns the state, outcome, DETAIL, HOST_TAG and instant of a sheaf. -/
def execSheafGetStatus (tag : Tag) (id : BitVec 16) (s : State) : Host.Outcome State Fault Refusal :=
  .next <| s.query tag 0x0404 none fun s =>
    match s.sheaf? id.toNat with
    | none => Reply.no .outOfRange
    | some x => Reply.ok [x.phase.code, x.outcome, x.detail, x.hostTag.toNat, x.instant]

/-- Codes of the causes of exclusion (R176), in the order of their flags. -/
def ExclCause.code : ExclCause → Nat
  | .drive => 0 | .heldElement => 1 | .failedCell => 2

/-- SHEAF_GET_RESULT (R176): returns one page of excluded elements of a sheaf with their causes. -/
def execSheafGetResult (tag : Tag) (id : BitVec 16) (page : Nat) (s : State) : Host.Outcome State Fault Refusal :=
  .next <| s.query tag 0x0405 none fun s =>
    match s.sheaf? id.toNat with
    | none => Reply.no .outOfRange
    | some x =>
      if page ≠ 0 && decide (x.excluded.length ≤ 480 * page) then Reply.no .outOfRange
      else Reply.ok (((x.excluded.drop (480 * page)).take 480).flatMap fun p => [(p.1 : Int), p.2.code])

/-- SHEAF_LIST (R195): returns IDs and instants of staged and armed sheaves in order of instant. -/
def execSheafList (tag : Tag) (page : Nat) (s : State) : Host.Outcome State Fault Refusal :=
  .next <| s.query tag 0x0406 none fun s =>
    let l := byInstant (s.sheaves.store.filter Sheaf.pending)
    Reply.ok (((l.drop (480 * page)).take 480).flatMap fun x => [(x.id : Int), x.instant])

/-- SHEAF_SET_TIMING (R166): sets ARM_LEAD and PREP_LEAD. -/
def execSheafSetTiming (tag : Tag) (armLead prepLead : Nat) (s : State) : Host.Outcome State Fault Refusal :=
  .next <| s.serve tag 0x0407 false none fun s =>
    if armLead < 20000 || 100000000 < armLead then refuse s .outOfRange (detailOf 0 0)
    else if prepLead < 70000 || 10000000 < prepLead then refuse s .outOfRange (detailOf 0 4)
    else ({ s with sheaves.armLead := armLead, sheaves.prepLead := prepLead }, Reply.done)

/-- A solver request carried out (R183, R185, R195). Where no route exists, the request is BLOCKED and names the
connections that it cannot carry. Where R162 refuses the sheaves of every route, the answer carries the reason of the
chosen one. -/
def State.solveCommand (r : SolveReq) (dry okReq : Bool) (s : State) : State × Reply :=
  if !s.inControl then refuse s .notPermitted
  else if !okReq then refuse s .outOfRange
  else if r.instant < s.now + 20000 then refuse s .tooSoon ((s.now + 20000) % 2 ^ 32)
  else match s.chooseRoute r with
    | none =>
      let refused := s.refusedPairs r
      (s, { status := .blocked, detail := refused.length, payload := .fields (refused.flatMap fun p => [(p.1 : Int), p.2]) })
    | some x =>
      let l := s.routeSheaves r x
      let first := (l.map (·.instant)).foldl min r.instant
      let rep := s.solverReport r (reportIds l) x
      if first < s.now + 20000 then refuse s .tooSoon ((s.now + 20000 + (r.instant - first)) % 2 ^ 32)
      else match s.stageAll l with
        | (_, some e) => (s, submitReply ((l.head?.map (·.id)).getD 0) (some e))
        | (t, none) =>
          ({ (if dry then s else t) with sheaves.report := rep }, Reply.ok ((rep.length : Int) :: (rep.take 128).flatten))

/-- The inputs that the planes carry to each output, by every sheaf with an earlier instant applied. -/
def State.carriedAt (s : State) (instant : Nat) : List (Option Nat × Option Nat) :=
  let m := s.viewAt instant 0
  (List.range 512).map fun j => (carried m s.fabric.failed 0 j, carried m s.fabric.failed 1 j)

/-- SOLVE_CONNECT (R183): asks the route solver to add connections and stage the resulting sheaves. -/
def execSolveConnect (tag : Tag) (instant : Nat) (move dryRun : Bool) (pairs : List (Nat × Nat)) (s : State) : Host.Outcome State Fault Refusal :=
  .next <| s.serve tag 0x0408 false none fun s =>
    let m := s.carriedAt instant
    let okReq := decide (pairs.length ≤ 512) && decide (1 ≤ pairs.length) &&
      !hasDup (pairs.map (·.1)) && !hasDup (pairs.map (·.2)) &&
      pairs.all fun p => decide (p.1 < 512) && decide (p.2 < 512) &&
        m.getD p.2 (none, none) = (none, none) && !m.any fun q => q.1 = some p.1 || q.2 = some p.1
    s.solveCommand { instant := instant, move := move, adds := pairs } dryRun okReq

/-- SOLVE_DISCONNECT (R183): asks the route solver to release connections. -/
def execSolveDisconnect (tag : Tag) (instant : Nat) (move dryRun : Bool) (inputs outputs : List Nat) (s : State) : Host.Outcome State Fault Refusal :=
  .next <| s.serve tag 0x0409 false none fun s =>
    let okReq := decide (inputs.length + outputs.length ≤ 512) &&
      (inputs ++ outputs).all fun f => decide (f < 512)
    let release := ((s.carriedAt instant).zipIdx.filter fun p =>
      outputs.contains p.2 || p.1.1.any inputs.contains || p.1.2.any inputs.contains).map (·.2)
    s.solveCommand { instant := instant, move := move, release := release } dryRun okReq

/-- SOLVE_PERMUTE (R183): asks the route solver to reach a whole target map. -/
def execSolvePermute (tag : Tag) (instant : Nat) (move dryRun : Bool) (target : List (Option Nat)) (s : State) : Host.Outcome State Fault Refusal :=
  .next <| s.serve tag 0x040A false none fun s =>
    let used := target.filterMap id
    let okReq := decide (target.length = 512) && used.all (fun i => decide (i < 512)) && !hasDup used
    let m := s.carriedAt instant
    let adds := target.zipIdx.filterMap fun p => p.1.bind fun i =>
      if m.getD p.2 (none, none) = (some i, some i) then none else some (i, p.2)
    let release := (target.zipIdx.filter fun p => p.1.isNone && decide (m.getD p.2 (none, none) ≠ (none, none))).map (·.2)
    s.solveCommand { instant := instant, move := move, adds := adds, release := release } dryRun okReq

/-- SOLVE_GET_REPORT (R186): returns one page of route solver report entries. -/
def execSolveGetReport (tag : Tag) (page : Nat) (s : State) : Host.Outcome State Fault Refusal :=
  .next <| s.query tag 0x040B none fun s =>
    if page ≠ 0 && decide (s.sheaves.report.length ≤ 128 * page) then Reply.no .outOfRange
    else Reply.ok ((s.sheaves.report.drop (128 * page)).take 128).flatten

/-! Stooks (R188, R189). -/

/-- Offsets rise strictly with STEP, by at least 1,000 ns. -/
def stepsRise : List Sheaf → Bool
  | a :: b :: l => decide (a.step < b.step) && decide (a.instant + 1000 ≤ b.instant) && stepsRise (b :: l)
  | _ => true

/-- Insertion of a member in order of STEP. -/
def insertStep (x : Sheaf) : List Sheaf → List Sheaf
  | [] => [x]
  | y :: ys => if x.step < y.step then x :: y :: ys else y :: insertStep x ys

/-- Members in order of STEP. -/
def byStep (l : List Sheaf) : List Sheaf := l.foldr insertStep []

/-- STOOK_DEFINE (R188): defines a stook with its name, failure policy and member sheaves, verifying any Axaro
signature. -/
def execStookDefine (tag : Tag) (id : BitVec 16) (name : BitVec 128) (stop : Bool) (members : List (List Word)) (sig : Option AxaroBlock) (s : State) : Host.Outcome State Fault Refusal :=
  .next <| s.serve tag 0x040C false none fun s =>
    let sheaves := byStep (members.map fun ws => { readSheaf ws with submitter := .stook id.toNat })
    if id = 0 || members = [] || decide (256 < members.length) ||
        !(members.all fun ws => formatOk ws true) || !(sheaves.all fun x => x.rel && x.stook = id.toNat) ||
        !stepsRise sheaves || (s.sheaves.stooks.any fun k => k.id = id.toNat) then refuse s .outOfRange
    else if 64 ≤ s.sheaves.stooks.length then refuse s .busy
    else
      let content := Config.payloadBytes 0x040C ([(id.toNat : Int), name.toNat, b2i stop] ++
        members.flatten.map fun w => (w.toNat : Int))
      let load := s.storeLoad
      if decide (16384 < load.1 + sheaves.length) || decide (4194304 < load.2 + (sheaves.map (·.changes.length)).sum) then
        (s, Reply.ok (sheaves.flatMap fun x => [(x.id : Int), 0x0A, 0x0A]))
      else match s.axaroVerdict 1 content sig with
      | .unsigned => (s, { status := .notPermitted, payload := .fields (sheaves.flatMap fun x => [(x.id : Int), 0x0A, 0x0F]) })
      | .bad => (s, { status := .signature, detail := 4, payload := .fields (sheaves.flatMap fun x => [(x.id : Int), 0x0A, 0x0F]) })
      | .good =>
        ({ s with
           sheaves.stooks := s.sheaves.stooks ++ [{
             id := id.toNat, name := name, stop := stop, members := sheaves, sig := sig, content := content }] }, Reply.done)

/-- The members of a stook accepted at their absolute instants, or the reason of the first that
fails (R188). -/
def State.startMembers (ts : Nat) : List Sheaf → State → State × Option (Nat × Nat)
  | [], s => (s, none)
  | m :: ms, s =>
    let x := { m with instant := ts + m.instant }
    match s.sheafReason x true with
    | some r => (s, some (x.step, r))
    | none => State.startMembers ts ms (s.acceptSheaf { x with rel := false })

/-- STOOK_START (R188): starts a stook at T_S after validating all its members. -/
def execStookStart (tag : Tag) (id : BitVec 16) (ts : Nat) (s : State) : Host.Outcome State Fault Refusal :=
  .next <| s.serve tag 0x040D false none fun s =>
    match s.sheaves.stooks.find? fun k => k.id = id.toNat with
    | none => refuse s .outOfRange
    | some k =>
      if !s.tb.stepped then refuse s .notStepped
      else if s.stookRuns k.id || decide (4 ≤ (s.sheaves.stooks.filter fun y => s.stookRuns y.id).length) then refuse s .busy
      else if s.axaroVerdict 1 k.content k.sig ≠ .good then refuse s .notPermitted
      else match s.startMembers ts k.members with
        | (_, some f) => (s, Reply.ok [0x0A, f.2, f.1])
        | (s1, none) =>
          ({ s1 with
            sheaves.stooks := s1.sheaves.stooks.map fun y =>
              if y.id = k.id then { y with running := true, ts := ts } else y }, Reply.ok [0x0B, 0, 0])

/-- A stook of an ID is marked as no longer running. -/
def stopRunning (id : Nat) (l : List Stook) : List Stook :=
  l.map fun y => if y.id = id then { y with running := false } else y

/-- A stook stops: its members not yet at their cut-off are ABANDONED (R188). -/
def State.abandonStook (id : Nat) (s : State) : State :=
  let ids := (s.sheaves.store.filter fun x =>
    x.pending && x.submitter = .stook id && !s.pastCutoff x).map (·.id)
  { s with sheaves.stooks := stopRunning id s.sheaves.stooks }.failSheaves ids 0x08

/-- STOOK_STOP (R188): abandons every member of a stook not yet at its cut-off. -/
def execStookStop (tag : Tag) (id : BitVec 16) (s : State) : Host.Outcome State Fault Refusal :=
  .next <| s.serve tag 0x040E false none fun s =>
    if s.sheaves.stooks.any fun k => k.id = id.toNat then (s.abandonStook id.toNat, Reply.done)
    else refuse s .outOfRange

/-- STOOK_GET_STATUS (R195): returns a stook's members with their instants and outcomes. -/
def execStookGetStatus (tag : Tag) (id : BitVec 16) (s : State) : Host.Outcome State Fault Refusal :=
  .next <| s.query tag 0x040F none fun s =>
    match s.sheaves.stooks.find? fun k => k.id = id.toNat with
    | none => Reply.no .outOfRange
    | some k => Reply.ok (b2i (s.stookRuns k.id) :: k.members.flatMap fun m =>
        match s.sheaves.store.reverse.find? fun x => x.id = m.id && x.submitter = .stook k.id with
        | some x => [(x.id : Int), x.instant, x.outcome]
        | none => [(m.id : Int), m.instant, 0x0B])

/-- STOOK_DELETE (R195): removes a stook that is not running and its members. -/
def execStookDelete (tag : Tag) (id : BitVec 16) (s : State) : Host.Outcome State Fault Refusal :=
  .next <| s.serve tag 0x0410 false none fun s =>
    match s.sheaves.stooks.find? fun k => k.id = id.toNat with
    | none => (s, Reply.no .outOfRange)
    | some k =>
      if s.stookRuns k.id then refuse s .busy
      else ({ s with sheaves.stooks := s.sheaves.stooks.filter (·.id ≠ k.id)
                     sheaves.store := s.sheaves.store.filter fun x => !(x.submitter = .stook k.id && x.phase = .done) },
            Reply.done)

/-! Fabric command queues (R192-R194). -/

/-- The chain that FCQ `q` fetched first and has not retired. -/
def SubQ.oldest (q : SubQ) : Option Slot := q.slots.find? fun x => !x.ready

/-- FCQ `q` runs and has fetched a descriptor with an OPCODE (R192). -/
def State.fcqReady (s : State) (q opcode : Nat) : Option Slot :=
  let x := mapGet SubQ.dflt s.host.subq (128 + q)
  if (x.state = .running || x.state = .error) && decide (q < 16) then
    x.oldest.filter fun c => (byteAt c.desc 12).toNat = opcode
  else none

/-- The chain of a slot is retired, and its slot takes a completion or is freed (R354, R367). -/
def State.fcqRetire (q : Nat) (x : Slot) (body : Option (List Byte)) (s : State) : State :=
  let f (c : SubQ) : SubQ := { c with
    head := x.lastIdx + 1
    slots := match body with
      | some b => c.slots.map fun y => if y = x then { y with ready := true, body := b, order := s.host.nextOutcome } else y
      | none => c.slots.filter (· ≠ x) }
  { s with host.subq := mapMod SubQ.dflt s.host.subq (128 + q) f
           host.nextOutcome := s.host.nextOutcome + 1 }

/-- FCQ_SUBMIT (R193): the oldest descriptor of the queue, with the record that has been read for it. -/
def execFcqSubmit (q : Nat) (ack : Bool) (words : List Word) (s : State) : Host.Outcome State Fault Refusal :=
  .next <| match s.fcqReady q 1 with
    | none => s
    | some slot =>
      if slot.record ≠ some words || ack ≠ (byteAt slot.desc 13).getLsbD 0 then s
      else
        let x := readSheaf words
        match s.submit words (.fcq q slot.lastIdx.toNat) with
        | (s1, none) =>
          s1.fcqRetire q slot (if ack then some (sheafCompletion x.id 0x0B 0 x.instant 0 0) else none)
        | (s1, some r) => s1.fcqRetire q slot (some (sheafCompletion x.id 0x0A r x.instant 0 0))

/-- FCQ_CANCEL (R177): A fabric command descriptor cancels a sheaf. -/
def execFcqCancel (q : Nat) (id : BitVec 16) (s : State) : Host.Outcome State Fault Refusal :=
  .next <| match s.fcqReady q 2 with
    | none => s
    | some slot =>
      if ofLe (slice slot.desc 14 2) ≠ id.toNat then s
      else match s.cancelSheaf id.toNat with
        | (s1, none) => s1.fcqRetire q slot (some (sheafCompletion id.toNat 0 0 0 0 0))
        | (s1, some _) => s1.fcqRetire q slot (some (sheafCompletion id.toNat 0x0A 0 0 0 0))

/-! Arming (R166-R168, R182). -/

/-- The sheaf whose arming is next: the pending one not yet arming with the earliest instant. -/
def State.nextToArm (s : State) : Option Sheaf :=
  (byInstant (s.sheaves.store.filter fun x => x.phase = .staged)).head?

/-- The lowest free arm slot. -/
def State.freeArmSlot (s : State) : Option Nat :=
  (List.range 256).find? fun j => !s.sheaves.slots.contains j

/-- The block location of an element as a number: its region and physical block. -/
def State.blockLoc (s : State) (e : Nat) : Nat := blockSource (regionOf e) (s.physBlock (regionOf e) (blockOf e))

/-- Every armed list has room for the changes of a sheaf (R166). -/
def State.listRoom (s : State) (x : Sheaf) : Bool :=
  let armed := (s.sheaves.store.filter fun y => y.slot.isSome).flatMap (·.changes)
  (x.changes.map fun c => s.blockLoc c.element).all fun b =>
    decide (((armed ++ x.changes).filter fun c => s.blockLoc c.element = b).length ≤ 4096)

/-- The cover check of R182. -/
def State.covered (s : State) (x : Sheaf) : Bool :=
  x.cover = 0 ||
  (let c := mapGet Cover.dflt s.streams.covers x.cover
   c.enable && decide (c.wStart + 2000 ≤ x.instant) && decide (x.instant + 6000 < c.wEnd))

/-- SHEAF_ARM_START (R166): arming of a sheaf starts at I minus ARM_LEAD or when a slot frees. -/
def execSheafArmStart (id : BitVec 16) (s : State) : Host.Outcome State Fault Refusal :=
  .next <| match s.nextToArm with
    | none => s
    | some x =>
      if x.id = id.toNat && s.tb.stepped && (s.inControl || x.mirrored) && decide (x.instant ≤ s.now + s.sheaves.armLead) then
        if !s.covered x then s.failSheaf x.id 0x09 0
        else match s.freeArmSlot with
          | some j =>
            if s.listRoom x then
              let s1 := s.modSheaf x.id fun y => { y with
                phase := .arming, slot := some j, changes := y.changes.map fun c => { c with ff := s.voaFf c } }
              { s1 with sheaves.slots := s.sheaves.slots ++ [j] }.noticeFor x 1 0
            else s
          | none => s
      else s

/-- SHEAF_ARM_COMMIT (R167): after all block acknowledgements the commit bit is set. -/
def execSheafArmCommit (id : BitVec 16) (allAcks : Bool) (s : State) : Host.Outcome State Fault Refusal :=
  .next <| match s.sheaf? id.toNat with
    | none => s
    | some x =>
      if x.phase = .arming then
        if !allAcks then s.raise 186
        else if s.pastCutoff x then s
        else s.modSheaf x.id fun y => { y with phase := .committed, armedAt := s.now }
      else s

/-- SHEAF_CUTOFF (R168): at I minus 2,000 ns the commit bit freezes and an unarmed sheaf completes LATE. -/
def execSheafCutoff (id : BitVec 16) (s : State) : Host.Outcome State Fault Refusal :=
  .next <| match s.sheaf? id.toNat with
    | none => s
    | some x =>
      if (x.phase = .staged || x.phase = .arming) && s.tb.stepped && s.pastCutoff x then s.failSheaf x.id 0x02 0 else s

/-! The instant (R170, R174, R180, R36). -/

/-- The cells of a sheaf with a drive fault: a named gate whose change is applied and requests no HD. -/
def driveCells (applied : List Change) (faults : List Nat) : List Nat :=
  ((applied.filter fun c => isGate c.element && c.mode ≠ .hd && faults.contains c.element).filterMap Change.cellKey).eraseDups

/-- The sheaf meets its instant in HOLD, but before T_h: it is applied as it would have been (05 R155). -/
def State.beforeHold (s : State) (x : Sheaf) : Bool := s.unit.mode = .hold && decide (x.instant < s.power.holdFrame)

/-- A change is not applied to an element with a hold cause other than SHEAF, or with one released since its last sample
(R140), nor to a gate of a failed cell (R99; 03 R98). -/
def State.excludes (s : State) (x : Sheaf) (c : Change) : Option ExclCause :=
  let e := s.elem c.element
  let k := fabricCellOf c.element
  if (x.excluded.any fun p => p.1 = c.element) || isGate c.element && (failedAt s.fabric.failed k.1 k.2.1 k.2.2).isSome then some .failedCell
  else if e.cBlock || e.cRegion || e.cCell || ((e.cDevice || e.clearing) && !s.beforeHold x) then some .heldElement
  else none

/-- Cells that a sheaf leaves apart after it was applied past its cut-off (R164): both gates in HD. -/
def State.apartCells (s : State) (x : Sheaf) : List Nat :=
  (x.cells.eraseDups).filter fun g => pathOfGates (s.elem g) (s.elem (g + 1)) = .mixed
def State.holdMixed (x : Sheaf) (s : State) : State :=
  s.modElems ((s.apartCells x).flatMap fun g => [g, g + 1]) fun _ e =>
    { (if e.held then e else e.freeze s.now) with cSheaf := true }

/-- A change taken by its element at the instant. Where DEVICE has come since, the element is held again at once (05 R155). -/
def State.takeChange (s : State) (x : Sheaf) (m : SMap Elem) (c : Change) : SMap Elem :=
  mapMod Elem.park m c.element fun e =>
    let late := s.beforeHold x && e.cDevice
    let e0 := if late then { e with cDevice := false, mode := if e.mode = .hd && !e.cSheaf then e.prior else e.mode
                                    prior := if e.mode = .hd && !e.cSheaf then .pk else e.prior } else e
    let e1 := e0.change c (isGate c.element) (s.levelFor c) (s.carriedFf c) (handoverOf s.loops c.element).dwell x.instant
    let e2 := { e1 with since := some (e0.before x.id x.instant) }
    if late then e2.holdByDevice s.power.holdFrame else e2

/-- The instant by the counter without its steps (R170). -/
def State.runAt (s : State) (instant : Nat) : Nat := ((s.tb.run : Int) + instant * 2 ^ 32 - s.tb.counter.toNat).toNat

/-- A sheaf meets its instant: its slot is freed 2,000 ns later (R170). -/
def State.meets (x : Sheaf) (s : State) : State :=
  { s.modSheaf x.id (fun y => { y with firedAt := some (s.runAt x.instant) }) with
    sheaves.freeing := s.sheaves.freeing ++ (x.slot.toList.map fun j => (j, s.runAt x.instant + 2000 * 2 ^ 32)) }

/-- The extra conversion of the timing form, in 0.1 ns of network time, overlaps the conversion of the element's own slot,
of 62.5 ns from its strobe (04 R116, 07 R213; DEDUCED, log 9). -/
def ownSlot (e at_ : Nat) : Bool :=
  let d := (at_ + 10000 - 625 * slotOf e) % 10000
  decide (d < 625) || decide (9375 < d)

/-- The timing form of a visit (07 R213), at the act of a gate: its trigger-to-edge delay, a free value, and one extra
conversion at an offset that steps by 1 ns; after 41 acts the settling figure is built again. -/
def State.timed (instant e : Nat) (s : State) : State :=
  let delay := (s.measured 11 e).natAbs
  let n := mapGet 0 s.cal.acts e
  let skip := ownSlot e (10 * instant + min 40 delay + 10 * n)
  let s1 := s.calibrated e fun i =>
    { i with delay := delay, settling := if !skip && n = 40 then (s.measured 50 e).natAbs else i.settling }
  if skip then s1 else { s1 with cal.acts := mapSet 0 s1.cal.acts e ((n + 1) % 41) }

/-- The sheaf is applied at its instant. -/
def State.fire (x : Sheaf) (faults : List Nat) (s : State) : State :=
  let judged := x.changes.map fun c => (c, s.excludes x c)
  let applied := (judged.filter fun p => p.2.isNone).map (·.1)
  let bad := driveCells applied faults
  let hits := applied.filter fun c => isGate c.element && c.mode ≠ .hd && faults.contains c.element
  let real := applied.map fun c =>
    if c.cellKey.any bad.contains then { c with mode := ElemMode.hd } else c
  let wasPark := x.cells.filter fun g => (s.elem g).mode = .pk && (s.elem (g + 1)).mode = .pk
  let s1 := { s with loops.elems := real.foldl (s.takeChange x) s.loops.elems }
  let out := judged.filterMap fun p => p.2.map fun k => (p.1.element, k)
  let excl := out ++ ((bad.flatMap fun g => [g, g + 1]).filter fun e => !out.any fun p => p.1 = e).map fun e => (e, ExclCause.drive)
  let cold := wasPark.any fun g =>
    cellCarries s1.loops.elems s.fabric.failed (planeOf g) (localOf g / 512) (localOf g % 512 / 2)
  let dw := (x.changes.map fun c =>
    if (s1.elem c.element).reqLk then (handoverOf s.loops c.element).dwell else 0).foldl max 0
  let s1 := if x.gwEn then (applied.filter fun c => isGate c.element && (s.elem c.element).cross ≠ c.cross).foldl
    (fun t c => t.timed x.instant c.element) s1.drawn else s1
  let s2 := hits.foldl (fun t c => t.raiseBlock c.element 1) s1
  let s3 := (s2.meets x).modSheaf x.id fun y =>
    { y with phase := .applied, excluded := excl, dwell := dw, detail := y.detail ||| exclFlags excl ||| flag cold 3 }
  let s4 := { s3 with fabric.lastSheaf := x.instant }
  let dep := x.detail &&& 64 = 64
  let apart := if dep then s4.apartCells x else []
  let s5 := if dep then s4.holdMixed x else s4
  let s6 := s5.refreshMap
  let s7 := if excl = [] then s6 else s6.settle (2 * s.sheaves.store.length + 2) [x.id]
  let s8 := bad.foldl (fun t g => t.judgeCell g .driveFault) s7
  let s9 := if dep || bad ≠ [] then s8.autoRepair (bad ++ apart) else s8
  s9.checkDegraded

/-- SHEAF_INSTANT (R170): at the instant's tick comparators fire and the sheaf is applied in every block or none. Its
action is launched through a delay line set to the instant less the tick's counter value (02 R75). -/
def execSheafInstant (id : BitVec 16) (driveFaults : List Nat) (s : State) : Host.Outcome State Fault Refusal :=
  .next <| match s.sheaf? id.toNat with
    | none => s
    | some x =>
      if x.phase = .committed && s.reached x.instant then
        if s.unit.mode = .hold && !s.beforeHold x then (s.meets x).failSheaf x.id 0x03 0
        else if !s.guardPasses x then (s.meets x).failSheaf x.id 0x04 0
        else (s.launched x.instant).fire x driveFaults
      else s

/-- ARM_SLOT_FREE (R170): 2,000 ns after the instant the arm slot is freed. -/
def execArmSlotFree (slot : Nat) (s : State) : Host.Outcome State Fault Refusal :=
  .next <|
    if s.sheaves.freeing.any fun p => p.1 = slot && decide (p.2 < s.tb.run + s.tb.incr.toNat) then
      { s with sheaves.slots := s.sheaves.slots.filter (· ≠ slot)
               sheaves.freeing := s.sheaves.freeing.filter fun p => p.1 ≠ slot
               sheaves.store := s.sheaves.store.map fun y => if y.slot = some slot then { y with slot := none } else y }
    else s

/-- SHEAF_HORIZON (R172): at the horizon the outcome is recorded and the completion written. -/
def execSheafHorizon (id : BitVec 16) (s : State) : Host.Outcome State Fault Refusal :=
  .next <| match s.sheaf? id.toNat with
    | none => s
    | some x =>
      if x.phase = .applied && x.firedAt.any fun u => decide (u + (10000 + x.dwell) * 2 ^ 32 < s.tb.run + s.tb.incr.toNat) then
        let code := if x.excluded = [] then 0x00 else 0x01
        let s2 := s.outcome x.id code x.detail
        if code = 1 then (match s2.sheaf? x.id with
          | some y =>
            let p := s2.stopStook y
            p.1.settle (2 * s.sheaves.store.length + 2) p.2
          | none => s2) else s2
      else s

end Sys2Proof.Machine
end

