-- ==== Sys2Proof/Machine/Dispatch.lean ====
section
/-! DEFINITION. One arm for each row of the table of operations and events. -/
namespace Sys2Proof.Machine

/-- The effect of a command or event on everything but the queue. -/
def exec (i : Instr) (s : State) : Host.Outcome State Fault Refusal :=
  match i with
  | .timeGetStatus tag => Sys2Proof.Machine.execTimeGetStatus tag s
  | .timeSet tag time frac => Sys2Proof.Machine.execTimeSet tag time frac s
  | .timeReanchor tag time frac => Sys2Proof.Machine.execTimeReanchor tag time frac s
  | .timeSetSource tag primary fallback tauMs lockNs largeNs => Sys2Proof.Machine.execTimeSetSource tag primary fallback tauMs lockNs largeNs s
  | .timeSetCycle tag b c => Sys2Proof.Machine.execTimeSetCycle tag b c s
  | .timeFoldShift tag => Sys2Proof.Machine.execTimeFoldShift tag s
  | .timeSetSyncin tag enable wNs deadband => Sys2Proof.Machine.execTimeSetSyncin tag enable wNs deadband s
  | .timeSetSyncout tag mode p lNs => Sys2Proof.Machine.execTimeSetSyncout tag mode p lNs s
  | .timeSetPtp tag cfg => Sys2Proof.Machine.execTimeSetPtp tag cfg s
  | .timeSetPortLatency tag port ingress egress => Sys2Proof.Machine.execTimeSetPortLatency tag port ingress egress s
  | .fabricGetMap tag => Sys2Proof.Machine.execFabricGetMap tag s
  | .fabricGetPath tag plane output => Sys2Proof.Machine.execFabricGetPath tag plane output s
  | .fabricGetCells tag plane first count => Sys2Proof.Machine.execFabricGetCells tag plane first count s
  | .fabricGetFailed tag plane => Sys2Proof.Machine.execFabricGetFailed tag plane s
  | .fabricSetFailed tag plane stage cell kind => Sys2Proof.Machine.execFabricSetFailed tag plane stage cell kind s
  | .fabricClearFailed tag plane stage cell => Sys2Proof.Machine.execFabricClearFailed tag plane stage cell s
  | .fabricGetLevels tag output first count => Sys2Proof.Machine.execFabricGetLevels tag output first count s
  | .fabricSetRepair tag enable leadNs => Sys2Proof.Machine.execFabricSetRepair tag enable leadNs s
  | .fabricSetParking tag enable delayNs => Sys2Proof.Machine.execFabricSetParking tag enable delayNs s
  | .sheafStage tag more words => Sys2Proof.Machine.execSheafStage tag more words s
  | .sheafAppend tag id more words => Sys2Proof.Machine.execSheafAppend tag id more words s
  | .sheafCancel tag id => Sys2Proof.Machine.execSheafCancel tag id s
  | .sheafGetStatus tag id => Sys2Proof.Machine.execSheafGetStatus tag id s
  | .sheafGetResult tag id page => Sys2Proof.Machine.execSheafGetResult tag id page s
  | .sheafList tag page => Sys2Proof.Machine.execSheafList tag page s
  | .sheafSetTiming tag armLead prepLead => Sys2Proof.Machine.execSheafSetTiming tag armLead prepLead s
  | .solveConnect tag instant move dryRun pairs => Sys2Proof.Machine.execSolveConnect tag instant move dryRun pairs s
  | .solveDisconnect tag instant move dryRun inputs outputs => Sys2Proof.Machine.execSolveDisconnect tag instant move dryRun inputs outputs s
  | .solvePermute tag instant move dryRun target => Sys2Proof.Machine.execSolvePermute tag instant move dryRun target s
  | .solveGetReport tag page => Sys2Proof.Machine.execSolveGetReport tag page s
  | .stookDefine tag id name stop members sig => Sys2Proof.Machine.execStookDefine tag id name stop members sig s
  | .stookStart tag id ts => Sys2Proof.Machine.execStookStart tag id ts s
  | .stookStop tag id => Sys2Proof.Machine.execStookStop tag id s
  | .stookGetStatus tag id => Sys2Proof.Machine.execStookGetStatus tag id s
  | .stookDelete tag id => Sys2Proof.Machine.execStookDelete tag id s
  | .loopGetParams tag first count => Sys2Proof.Machine.execLoopGetParams tag first count s
  | .loopSetParams tag first recs => Sys2Proof.Machine.execLoopSetParams tag first recs s
  | .loopGetState tag first count => Sys2Proof.Machine.execLoopGetState tag first count s
  | .loopGetFlags tag first count => Sys2Proof.Machine.execLoopGetFlags tag first count s
  | .loopClearFlags tag first count mask => Sys2Proof.Machine.execLoopClearFlags tag first count mask s
  | .loopCapture tag element samples time => Sys2Proof.Machine.execLoopCapture tag element samples time s
  | .loopGetCapture tag element page => Sys2Proof.Machine.execLoopGetCapture tag element page s
  | .loopGetMode tag first count => Sys2Proof.Machine.execLoopGetMode tag first count s
  | .loopSetHandover tag voa dwellUs retryUs hoTol => Sys2Proof.Machine.execLoopSetHandover tag voa dwellUs retryUs hoTol s
  | .loopRetryLock tag first count => Sys2Proof.Machine.execLoopRetryLock tag first count s
  | .loopHoldRegion tag region hold => Sys2Proof.Machine.execLoopHoldRegion tag region hold s
  | .loopSetVoaGroup tag group cfg => Sys2Proof.Machine.execLoopSetVoaGroup tag group cfg s
  | .loopGetVoaGroup tag group => Sys2Proof.Machine.execLoopGetVoaGroup tag group s
  | .calGetStatus tag => Sys2Proof.Machine.execCalGetStatus tag s
  | .calGetElement tag first count => Sys2Proof.Machine.execCalGetElement tag first count s
  | .calSave tag => Sys2Proof.Machine.execCalSave tag s
  | .calRecalElement tag first count => Sys2Proof.Machine.execCalRecalElement tag first count s
  | .calSetBackground tag enable periodMs => Sys2Proof.Machine.execCalSetBackground tag enable periodMs s
  | .calSetSparePolicy tag policy => Sys2Proof.Machine.execCalSetSparePolicy tag policy s
  | .calSubstitute tag wholeBlock region block cell => Sys2Proof.Machine.execCalSubstitute tag wholeBlock region block cell s
  | .calGetLog tag seq => Sys2Proof.Machine.execCalGetLog tag seq s
  | .calGetSpares tag => Sys2Proof.Machine.execCalGetSpares tag s
  | .portGetStatus tag port => Sys2Proof.Machine.execPortGetStatus tag port s
  | .portSetMode tag port cfg => Sys2Proof.Machine.execPortSetMode tag port cfg s
  | .portGetConfig tag port => Sys2Proof.Machine.execPortGetConfig tag port s
  | .portSetPause tag port cfg => Sys2Proof.Machine.execPortSetPause tag port cfg s
  | .portSetFilter tag first entries => Sys2Proof.Machine.execPortSetFilter tag first entries s
  | .portGetFilter tag first count => Sys2Proof.Machine.execPortGetFilter tag first count s
  | .portSetLpi tag port mode idleNs => Sys2Proof.Machine.execPortSetLpi tag port mode idleNs s
  | .portGetStats tag port => Sys2Proof.Machine.execPortGetStats tag port s
  | .portGetHistory tag port page => Sys2Proof.Machine.execPortGetHistory tag port page s
  | .portSetSpares tag mask0 mask1 => Sys2Proof.Machine.execPortSetSpares tag mask0 mask1 s
  | .portSubstLane tag port => Sys2Proof.Machine.execPortSubstLane tag port s
  | .gateGetStatus tag port => Sys2Proof.Machine.execGateGetStatus tag port s
  | .gateSetConfig tag port cfg => Sys2Proof.Machine.execGateSetConfig tag port cfg s
  | .gateSetAdmin tag port start n lct listTag entries => Sys2Proof.Machine.execGateSetAdmin tag port start n lct listTag entries s
  | .gateGetList tag port oper first count => Sys2Proof.Machine.execGateGetList tag port oper first count s
  | .gateCommit tag port ct sig => Sys2Proof.Machine.execGateCommit tag port ct sig s
  | .gateCancelCommit tag port => Sys2Proof.Machine.execGateCancelCommit tag port s
  | .gateDisable tag port ct => Sys2Proof.Machine.execGateDisable tag port ct s
  | .gateGetWindows tag port => Sys2Proof.Machine.execGateGetWindows tag port s
  | .streamGetStatus tag => Sys2Proof.Machine.execStreamGetStatus tag s
  | .streamSet tag first entries => Sys2Proof.Machine.execStreamSet tag first entries s
  | .streamGet tag first count => Sys2Proof.Machine.execStreamGet tag first count s
  | .streamGetStats tag first count => Sys2Proof.Machine.execStreamGetStats tag first count s
  | .streamResetRecovery tag first count => Sys2Proof.Machine.execStreamResetRecovery tag first count s
  | .streamSetCover tag set enable wStart wEnd => Sys2Proof.Machine.execStreamSetCover tag set enable wStart wEnd s
  | .streamGetCover tag set => Sys2Proof.Machine.execStreamGetCover tag set s
  | .streamClearLatent tag first count => Sys2Proof.Machine.execStreamClearLatent tag first count s
  | .ruleGetStatus tag => Sys2Proof.Machine.execRuleGetStatus tag s
  | .ruleLoadProgram tag start words => Sys2Proof.Machine.execRuleLoadProgram tag start words s
  | .ruleSetProfile tag cfg => Sys2Proof.Machine.execRuleSetProfile tag cfg s
  | .ruleAddHash tag recs => Sys2Proof.Machine.execRuleAddHash tag recs s
  | .ruleDelHash tag keys => Sys2Proof.Machine.execRuleDelHash tag keys s
  | .ruleSetTernary tag first recs => Sys2Proof.Machine.execRuleSetTernary tag first recs s
  | .ruleSetPattern tag first recs => Sys2Proof.Machine.execRuleSetPattern tag first recs s
  | .ruleClone tag => Sys2Proof.Machine.execRuleClone tag s
  | .ruleSwap tag swapAt => Sys2Proof.Machine.execRuleSwap tag swapAt s
  | .ruleCancelSwap tag => Sys2Proof.Machine.execRuleCancelSwap tag s
  | .ruleGet tag query => Sys2Proof.Machine.execRuleGet tag query s
  | .ruleGetStats tag first count => Sys2Proof.Machine.execRuleGetStats tag first count s
  | .ruleSetMirror tag session dest trunc => Sys2Proof.Machine.execRuleSetMirror tag session dest trunc s
  | .ruleSetMp tag rate => Sys2Proof.Machine.execRuleSetMp tag rate s
  | .ruleGetCopies tag count => Sys2Proof.Machine.execRuleGetCopies tag count s
  | .hedgeGetStatus tag => Sys2Proof.Machine.execHedgeGetStatus tag s
  | .hedgeSetConfig tag cfg => Sys2Proof.Machine.execHedgeSetConfig tag cfg s
  | .hedgeGetConfig tag => Sys2Proof.Machine.execHedgeGetConfig tag s
  | .hedgeSaveConfig tag => Sys2Proof.Machine.execHedgeSaveConfig tag s
  | .hedgeRestart tag force => Sys2Proof.Machine.execHedgeRestart tag force s
  | .hedgeGetStats tag => Sys2Proof.Machine.execHedgeGetStats tag s
  | .hedgeSetNotice tag policy => Sys2Proof.Machine.execHedgeSetNotice tag policy s
  | .hedgeGetNotices tag seq => Sys2Proof.Machine.execHedgeGetNotices tag seq s
  | .unitGetStatus tag => Sys2Proof.Machine.execUnitGetStatus tag s
  | .unitSetPair tag cfg force => Sys2Proof.Machine.execUnitSetPair tag cfg force s
  | .unitDrill tag => Sys2Proof.Machine.execUnitDrill tag s
  | .unitSaveStartupMap tag clear => Sys2Proof.Machine.execUnitSaveStartupMap tag clear s
  | .unitResync tag => Sys2Proof.Machine.execUnitResync tag s
  | .unitGetEpochs tag => Sys2Proof.Machine.execUnitGetEpochs tag s
  | .faultGetStatus tag => Sys2Proof.Machine.execFaultGetStatus tag s
  | .faultGetSource tag first count => Sys2Proof.Machine.execFaultGetSource tag first count s
  | .faultSetSource tag first params => Sys2Proof.Machine.execFaultSetSource tag first params s
  | .faultClear tag source seq => Sys2Proof.Machine.execFaultClear tag source seq s
  | .faultGetRecord tag which => Sys2Proof.Machine.execFaultGetRecord tag which s
  | .faultSaveConfig tag => Sys2Proof.Machine.execFaultSaveConfig tag s
  | .faultGetLog tag seq => Sys2Proof.Machine.execFaultGetLog tag seq s
  | .faultRaise tag => Sys2Proof.Machine.execFaultRaise tag s
  | .faultInject tag op => Sys2Proof.Machine.execFaultInject tag op s
  | .faultGetInject tag => Sys2Proof.Machine.execFaultGetInject tag s
  | .powerGetStatus tag => Sys2Proof.Machine.execPowerGetStatus tag s
  | .powerHold tag hold => Sys2Proof.Machine.execPowerHold tag hold s
  | .powerSleep tag => Sys2Proof.Machine.execPowerSleep tag s
  | .trustGetStatus tag => Sys2Proof.Machine.execTrustGetStatus tag s
  | .trustGetIdentity tag => Sys2Proof.Machine.execTrustGetIdentity tag s
  | .trustAttest tag nonce => Sys2Proof.Machine.execTrustAttest tag nonce s
  | .trustAdvanceSvn tag => Sys2Proof.Machine.execTrustAdvanceSvn tag s
  | .trustRevokeKey tag axaro slot rec_ => Sys2Proof.Machine.execTrustRevokeKey tag axaro slot rec_ s
  | .trustSetAxaroKey tag slot key => Sys2Proof.Machine.execTrustSetAxaroKey tag slot key s
  | .trustSetPolicy tag => Sys2Proof.Machine.execTrustSetPolicy tag s
  | .trustGetNonce tag => Sys2Proof.Machine.execTrustGetNonce tag s
  | .trustSetLifecycle tag target rec_ => Sys2Proof.Machine.execTrustSetLifecycle tag target rec_ s
  | .trustFactoryTest tag => Sys2Proof.Machine.execTrustFactoryTest tag s
  | .deviceGetInfo tag => Sys2Proof.Machine.execDeviceGetInfo tag s
  | .deviceGetCommands tag start => Sys2Proof.Machine.execDeviceGetCommands tag start s
  | .deviceFwBegin tag size => Sys2Proof.Machine.execDeviceFwBegin tag size s
  | .deviceFwData tag offset data => Sys2Proof.Machine.execDeviceFwData tag offset data s
  | .deviceFwCommit tag => Sys2Proof.Machine.execDeviceFwCommit tag s
  | .deviceFwAbort tag => Sys2Proof.Machine.execDeviceFwAbort tag s
  | .deviceFwStatus tag => Sys2Proof.Machine.execDeviceFwStatus tag s
  | .deviceReset tag scope subsystem force => Sys2Proof.Machine.execDeviceReset tag scope subsystem force s
  | .deviceEcho tag data => Sys2Proof.Machine.execDeviceEcho tag data s
  | .fcqSubmit q ack words => Sys2Proof.Machine.execFcqSubmit q ack words s
  | .fcqCancel q id => Sys2Proof.Machine.execFcqCancel q id s
  | .mbDoorbellRing mailbox value => Sys2Proof.Machine.execMbDoorbellRing mailbox value s
  | .mbAnswerRead => Sys2Proof.Machine.execMbAnswerRead s
  | .mailboxBodyWrite mailbox offset value => Sys2Proof.Machine.execMailboxBodyWrite mailbox offset value s
  | .heldAnswerWrite => Sys2Proof.Machine.execHeldAnswerWrite s
  | .tbTimeLoRead => Sys2Proof.Machine.execTbTimeLoRead s
  | .tbCountsRead => Sys2Proof.Machine.execTbCountsRead s
  | .glStatus0Read => Sys2Proof.Machine.execGlStatus0Read s
  | .glClearSource value => Sys2Proof.Machine.execGlClearSource value s
  | .glClearAll value => Sys2Proof.Machine.execGlClearAll value s
  | .glEventsWrite value => Sys2Proof.Machine.execGlEventsWrite value s
  | .unEventsWrite value => Sys2Proof.Machine.execUnEventsWrite value s
  | .unCountsRead => Sys2Proof.Machine.execUnCountsRead s
  | .mbStateWrite mailbox value => Sys2Proof.Machine.execMbStateWrite mailbox value s
  | .hqEnable q => Sys2Proof.Machine.execHqEnable q s
  | .hqDisable q => Sys2Proof.Machine.execHqDisable q s
  | .hqIdxReset q => Sys2Proof.Machine.execHqIdxReset q s
  | .hqTailWrite q value => Sys2Proof.Machine.execHqTailWrite q value s
  | .hqDropRead q => Sys2Proof.Machine.execHqDropRead q s
  | .cqEnableWrite q enable irqEn => Sys2Proof.Machine.execCqEnableWrite q enable irqEn s
  | .cqIdxReset q => Sys2Proof.Machine.execCqIdxReset q s
  | .cqHeadWrite q value => Sys2Proof.Machine.execCqHeadWrite q value s
  | .registerWrite offset value => Sys2Proof.Machine.execRegisterWrite offset value s
  | .d3hotEntry => Sys2Proof.Machine.execD3hotEntry s
  | .d0Return => Sys2Proof.Machine.execD0Return s
  | .busMasterEnableWrite enable => Sys2Proof.Machine.execBusMasterEnableWrite enable s
  | .powerOn => Sys2Proof.Machine.execPowerOn s
  | .brownOut => Sys2Proof.Machine.execBrownOut s
  | .resetNAssert => Sys2Proof.Machine.execResetNAssert s
  | .perstAssert => Sys2Proof.Machine.execPerstAssert s
  | .resetRelease straps => Sys2Proof.Machine.execResetRelease straps s
  | .wipeComplete => Sys2Proof.Machine.execWipeComplete s
  | .fwReady => Sys2Proof.Machine.execFwReady s
  | .fwConfirm => Sys2Proof.Machine.execFwConfirm s
  | .pcieHotReset => Sys2Proof.Machine.execPcieHotReset s
  | .functionLevelReset => Sys2Proof.Machine.execFunctionLevelReset s
  | .classFWipeComplete => Sys2Proof.Machine.execClassFWipeComplete s
  | .holdNAssert => Sys2Proof.Machine.execHoldNAssert s
  | .holdNRelease => Sys2Proof.Machine.execHoldNRelease s
  | .wakeRise => Sys2Proof.Machine.execWakeRise s
  | .pwrEnRise => Sys2Proof.Machine.execPwrEnRise s
  | .sleepShutdown => Sys2Proof.Machine.execSleepShutdown s
  | .sleepPark => Sys2Proof.Machine.execSleepPark s
  | .pwrEnFall => Sys2Proof.Machine.execPwrEnFall s
  | .tbRefLoss => Sys2Proof.Machine.execTbRefLoss s
  | .railExcursion rail millivolts => Sys2Proof.Machine.execRailExcursion rail millivolts s
  | .paceUpdate pace => Sys2Proof.Machine.execPaceUpdate pace s
  | .syncInEdge elapsedPs => Sys2Proof.Machine.execSyncInEdge elapsedPs s
  | .syncOutPulse => Sys2Proof.Machine.execSyncOutPulse s
  | .scheduleBoundary => Sys2Proof.Machine.execScheduleBoundary s
  | .gptpMessageReceived port msg => Sys2Proof.Machine.execGptpMessageReceived port msg s
  | .gptpMessageTransmit port sync => Sys2Proof.Machine.execGptpMessageTransmit port sync s
  | .gptpSyncTimeout => Sys2Proof.Machine.execGptpSyncTimeout s
  | .loopSample element m1 m2 residueFail => Sys2Proof.Machine.execLoopSample element m1 m2 residueFail s
  | .handoverAttempt element m1 m2 => Sys2Proof.Machine.execHandoverAttempt element m1 m2 s
  | .trimInSample group microvolts => Sys2Proof.Machine.execTrimInSample group microvolts s
  | .voaGroupLost group => Sys2Proof.Machine.execVoaGroupLost group s
  | .heaterPowerMeasure element nanowatts => Sys2Proof.Machine.execHeaterPowerMeasure element nanowatts s
  | .bandgapCheck a b c => Sys2Proof.Machine.execBandgapCheck a b c s
  | .temperatureSample junction diodes => Sys2Proof.Machine.execTemperatureSample junction diodes s
  | .delayLineExchange line busy => Sys2Proof.Machine.execDelayLineExchange line busy s
  | .backgroundVisit region block => Sys2Proof.Machine.execBackgroundVisit region block s
  | .spareProof region block same => Sys2Proof.Machine.execSpareProof region block same s
  | .spareThresholdMet part => Sys2Proof.Machine.execSpareThresholdMet part s
  | .loopCellSwitch region block cell selfTest => Sys2Proof.Machine.execLoopCellSwitch region block cell selfTest s
  | .blockSwitch region block selfTest => Sys2Proof.Machine.execBlockSwitch region block selfTest s
  | .rowRepair inst row => Sys2Proof.Machine.execRowRepair inst row s
  | .spareMapWrite => Sys2Proof.Machine.execSpareMapWrite s
  | .logEntryWrite => Sys2Proof.Machine.execLogEntryWrite s
  | .calAutoSave => Sys2Proof.Machine.execCalAutoSave s
  | .calSaveComplete ok => Sys2Proof.Machine.execCalSaveComplete ok s
  | .calStageComplete => Sys2Proof.Machine.execCalStageComplete s
  | .roleWaitExpiry => Sys2Proof.Machine.execRoleWaitExpiry s
  | .idleParkTimeout plane stage cell => Sys2Proof.Machine.execIdleParkTimeout plane stage cell s
  | .sheafArmStart id => Sys2Proof.Machine.execSheafArmStart id s
  | .sheafArmCommit id allAcks => Sys2Proof.Machine.execSheafArmCommit id allAcks s
  | .sheafCutoff id => Sys2Proof.Machine.execSheafCutoff id s
  | .sheafInstant id driveFaults => Sys2Proof.Machine.execSheafInstant id driveFaults s
  | .armSlotFree slot => Sys2Proof.Machine.execArmSlotFree slot s
  | .sheafHorizon id => Sys2Proof.Machine.execSheafHorizon id s
  | .frameReceived port frame elapsedPs => Sys2Proof.Machine.execFrameReceived port frame elapsedPs s
  | .rxPause port quanta => Sys2Proof.Machine.execRxPause port quanta s
  | .pauseExpiry port => Sys2Proof.Machine.execPauseExpiry port s
  | .pauseRefresh port => Sys2Proof.Machine.execPauseRefresh port s
  | .rxpWatchdog port => Sys2Proof.Machine.execRxpWatchdog port s
  | .rearmExpiry port => Sys2Proof.Machine.execRearmExpiry port s
  | .txpWatchdog port => Sys2Proof.Machine.execTxpWatchdog port s
  | .portLinkUp port => Sys2Proof.Machine.execPortLinkUp port s
  | .portLinkDown port remote => Sys2Proof.Machine.execPortLinkDown port remote s
  | .laneLossOfLock port => Sys2Proof.Machine.execLaneLossOfLock port s
  | .laneSwitch port => Sys2Proof.Machine.execLaneSwitch port s
  | .lpiIdleTimeout port => Sys2Proof.Machine.execLpiIdleTimeout port s
  | .lpiSleepEntry port => Sys2Proof.Machine.execLpiSleepEntry port s
  | .lpiWake port early => Sys2Proof.Machine.execLpiWake port early s
  | .verifyTimer port => Sys2Proof.Machine.execVerifyTimer port s
  | .mpacketReceived port packet => Sys2Proof.Machine.execMpacketReceived port packet s
  | .txSelect port => Sys2Proof.Machine.execTxSelect port s
  | .txFrameDone port => Sys2Proof.Machine.execTxFrameDone port s
  | .gateEvent port => Sys2Proof.Machine.execGateEvent port s
  | .gateHoldAssert port => Sys2Proof.Machine.execGateHoldAssert port s
  | .statsHistoryTick => Sys2Proof.Machine.execStatsHistoryTick s
  | .thresherDispatch thread => Sys2Proof.Machine.execThresherDispatch thread s
  | .thDone thread => Sys2Proof.Machine.execThDone thread s
  | .thMov thread => Sys2Proof.Machine.execThMov thread s
  | .thAdd thread => Sys2Proof.Machine.execThAdd thread s
  | .thSub thread => Sys2Proof.Machine.execThSub thread s
  | .thAnd thread => Sys2Proof.Machine.execThAnd thread s
  | .thOr thread => Sys2Proof.Machine.execThOr thread s
  | .thShl thread => Sys2Proof.Machine.execThShl thread s
  | .thShr thread => Sys2Proof.Machine.execThShr thread s
  | .thCmp thread => Sys2Proof.Machine.execThCmp thread s
  | .thLdb thread => Sys2Proof.Machine.execThLdb thread s
  | .thLdh thread => Sys2Proof.Machine.execThLdh thread s
  | .thLdm thread => Sys2Proof.Machine.execThLdm thread s
  | .thKld thread => Sys2Proof.Machine.execThKld thread s
  | .thKmov thread => Sys2Proof.Machine.execThKmov thread s
  | .thBr thread => Sys2Proof.Machine.execThBr thread s
  | .thHdr thread => Sys2Proof.Machine.execThHdr thread s
  | .thProf thread => Sys2Proof.Machine.execThProf thread s
  | .thMark thread => Sys2Proof.Machine.execThMark thread s
  | .thPm thread => Sys2Proof.Machine.execThPm thread s
  | .pmResult thread => Sys2Proof.Machine.execPmResult thread s
  | .thRecirc thread => Sys2Proof.Machine.execThRecirc thread s
  | .thresherRelease port => Sys2Proof.Machine.execThresherRelease port s
  | .ruleSwapAt => Sys2Proof.Machine.execRuleSwapAt s
  | .ruleSwapDrain => Sys2Proof.Machine.execRuleSwapDrain s
  | .recoveryResetTimer stream => Sys2Proof.Machine.execRecoveryResetTimer stream s
  | .latentPeriod stream => Sys2Proof.Machine.execLatentPeriod stream s
  | .coverWindowStart set => Sys2Proof.Machine.execCoverWindowStart set s
  | .coverWindowEnd set => Sys2Proof.Machine.execCoverWindowEnd set s
  | .txChainFetch q entries buffers => Sys2Proof.Machine.execTxChainFetch q entries buffers s
  | .rxReservation q entries => Sys2Proof.Machine.execRxReservation q entries s
  | .rxDropDelay q => Sys2Proof.Machine.execRxDropDelay q s
  | .completionWrite cq => Sys2Proof.Machine.execCompletionWrite cq s
  | .queueDrainComplete q => Sys2Proof.Machine.execQueueDrainComplete q s
  | .moderationTimer vector => Sys2Proof.Machine.execModerationTimer vector s
  | .pendingVectorDeliver vector => Sys2Proof.Machine.execPendingVectorDeliver vector s
  | .hedgerowSlotSend slot => Sys2Proof.Machine.execHedgerowSlotSend slot s
  | .noticeSend frameId minislot => Sys2Proof.Machine.execNoticeSend frameId minislot s
  | .hedgerowFrameReceived chanB slot rx stamp => Sys2Proof.Machine.execHedgerowFrameReceived chanB slot rx stamp s
  | .listenTimeout => Sys2Proof.Machine.execListenTimeout s
  | .hedgerowMidpoint => Sys2Proof.Machine.execHedgerowMidpoint s
  | .hedgerowCorrection => Sys2Proof.Machine.execHedgerowCorrection s
  | .hedgerowCycleEnd => Sys2Proof.Machine.execHedgerowCycleEnd s
  | .mlKeepaliveSend => Sys2Proof.Machine.execMlKeepaliveSend s
  | .mlFrameReceived frame => Sys2Proof.Machine.execMlFrameReceived frame s
  | .mlDownTimeout => Sys2Proof.Machine.execMlDownTimeout s
  | .epochClose => Sys2Proof.Machine.execEpochClose s
  | .commitRecordCreate => Sys2Proof.Machine.execCommitRecordCreate s
  | .epochApply => Sys2Proof.Machine.execEpochApply s
  | .partnerAliveTimeout => Sys2Proof.Machine.execPartnerAliveTimeout s
  | .partnerAliveEdge => Sys2Proof.Machine.execPartnerAliveEdge s
  | .failbackHoldoff => Sys2Proof.Machine.execFailbackHoldoff s
  | .handbackInstant => Sys2Proof.Machine.execHandbackInstant s
  | .gleanerEvaluation mismatch => Sys2Proof.Machine.execGleanerEvaluation mismatch s
  | .gleanerWindowExpiry source => Sys2Proof.Machine.execGleanerWindowExpiry source s
  | .sourceSevere source => Sys2Proof.Machine.execSourceSevere source s
  | .gleanerDeadline source => Sys2Proof.Machine.execGleanerDeadline source s
  | .regionReinitComplete region => Sys2Proof.Machine.execRegionReinitComplete region s
  | .firmwareClear source => Sys2Proof.Machine.execFirmwareClear source s
  | .recordFlashWrite => Sys2Proof.Machine.execRecordFlashWrite s
  | .watchdogExpiry => Sys2Proof.Machine.execWatchdogExpiry s
  | .comparatorSelfTest flagged => Sys2Proof.Machine.execComparatorSelfTest flagged s
  | .aliveEdge => Sys2Proof.Machine.execAliveEdge s
  | .faultInjectEvent => Sys2Proof.Machine.execFaultInjectEvent s
  | .fwEraseComplete => Sys2Proof.Machine.execFwEraseComplete s
  | .granaryRetrain channelB ok => Sys2Proof.Machine.execGranaryRetrain channelB ok s
  | .tapBypass => Sys2Proof.Machine.execTapBypass s
  | .tapIdcode => Sys2Proof.Machine.execTapIdcode s
  | .tapSamplePreload preload => Sys2Proof.Machine.execTapSamplePreload preload s
  | .tapExtest => Sys2Proof.Machine.execTapExtest s
  | .tapClamp => Sys2Proof.Machine.execTapClamp s
  | .tapHighz => Sys2Proof.Machine.execTapHighz s
  | .syncOutPulseEnd => Sys2Proof.Machine.execSyncOutPulseEnd s
  | .receivedLpi port entering => Sys2Proof.Machine.execReceivedLpi port entering s
  | .pcieLinkChange up lanes speed => Sys2Proof.Machine.execPcieLinkChange up lanes speed s
  | .mlLaneLossOfLock => Sys2Proof.Machine.execMlLaneLossOfLock s
  | .pllLossOfLock => Sys2Proof.Machine.execPllLossOfLock s
  | .memoryError err => Sys2Proof.Machine.execMemoryError err s
  | .memoryRequestAnswered answer => Sys2Proof.Machine.execMemoryRequestAnswered answer s
  | .userConfigSaveComplete => Sys2Proof.Machine.execUserConfigSaveComplete s
  | .resetDeviceDelayExpiry => Sys2Proof.Machine.execResetDeviceDelayExpiry s
  | .vwakeLoss => Sys2Proof.Machine.execVwakeLoss s
  | .tbRefReturn => Sys2Proof.Machine.execTbRefReturn s
  | .trimInPulseEdge pin rising elapsedPs => Sys2Proof.Machine.execTrimInPulseEdge pin rising elapsedPs s

end Sys2Proof.Machine
end

