-- ==== Sys2Proof/Machine/Tick.lean ====
section
/-! DEFINITION. What passes while no command waits: one rising edge of TB_REF (02_network_time R45). -/
namespace Sys2Proof.Machine

/-- The network time counter counts: its logic is powered and out of reset (17_power_reset R494, R499). -/
def State.counting (s : State) : Bool :=
  match s.power.phase with
  | .wiping | .bootRom | .running => true
  | _ => false

/-- What one rising edge of TB_REF does to time (R45): INCR is added to the counter, and 6.4 ns pass; a step that is
decided is made in place of adding (R553). -/
def State.edge (s : State) : State :=
  match s.counting, s.tb.load with
  | true, some c => s.loadStep c
  | true, none => { s with up := s.up + 64, tb.counter := s.tb.counter + s.tb.incr.setWidth 96, tb.run := s.tb.run + s.tb.incr.toNat }
  | false, _ => { s with up := s.up + 64 }

/-- What waited for a loop frame start takes effect (04 R133, 05 R156, 16 R474, R475, 18 R516). -/
def State.frameAct (s : State) (a : FrameAct) : State :=
  match a with
  | .params first recs => recs.zipIdx.foldl (fun t p =>
      t.modElem (first + p.2) (Elem.writeRecord (t.image (first + p.2)) p.1)) s
  | .region r => if s.regionHeld r then s.holdRegion r else s.releaseRegion r
  | .hold => if s.holdCaused then s.holdEntry else s
  | .select => s.selections
  | .attest tag nonce => s.attestAt tag nonce
  | .holdover => if s.tb.holdover then s.enterHoldover else s

/-- Every loop frame start that network time has reached has its effect, in the order asked. -/
def State.loopFrames (s : State) : State :=
  let due := s.loops.frames.filter fun p => decide (p.1 ≤ s.now)
  if due = [] then s
  else due.foldl (fun t p => t.frameAct p.2) { s with loops.frames := s.loops.frames.filter fun p => decide (s.now < p.1) }

/-- One rising edge of TB_REF: a new access cycle begins (00 R7), time passes, and a loop frame start that network time
has reached has its effect (04 R116), and READY follows what it states (15 R452). With TB_REF lost no edge comes (DESIGN CHOICE, logs 1 and 3). -/
def State.tbTick (s : State) : State :=
  let s0 := { s with cycle := {} }
  if s.power.tbRef then let s1 := s0.edge; (s1.closeWindow s1.now).loopFrames.checkReady else s0

end Sys2Proof.Machine
end

