-- ==== Sys2Proof/WellFormed.lean ====
section
/-! DEFINITION. Well-formed commands: the place that an operand names exists (00_scope R5, R11, 08, 10, 11,
12, 13, 16), and a payload fits in the 4,064 bytes that a mailbox body holds (13_ilucy R378). A payload
field that names a place too large is well-formed: the command answers OUT_OF_RANGE. -/
namespace Sys2Proof

open Machine

/-- The queue exists (12_host_queues R347). -/
def wfQ (q : QId) : Bool :=
  match q.kind with
  | .fcq => decide (q.idx < 16)
  | _ => decide (q.idx < 64)

/-- The part exists (07_calibration_spares R218). -/
def wfPart : Part → Bool
  | .loopCell r b c => decide (r < 4) && decide (b < 16) && decide (c < 21)
  | .block r b => decide (r < 4) && decide (b < 16)
  | .row _ _ => true
  | .segment ch _ => decide (ch < 65536)
  | .lane p => decide (p < 4)

/-- The bytes of DEVICE_FW_DATA fit in its payload; bytes from host memory are bounded by R396. -/
def wfFwData : FwData → Bool
  | .direct bytes => decide (bytes.length ≤ 4064)
  | .host _ _ => true

/-- The command or event names places that exist and fits where it travels. -/
def Instr.wf : Instr → Bool
  | .sheafStage _ _ words => decide (4 * words.length ≤ 4064)
  | .sheafAppend _ _ _ words => decide (4 * words.length ≤ 4064)
  | .solveConnect _ instant _ _ pairs => decide (instant < 2 ^ 64) && decide (4 * pairs.length ≤ 4064)
  | .solveDisconnect _ instant _ _ _ _ => decide (instant < 2 ^ 64)
  | .solvePermute _ instant _ _ _ => decide (instant < 2 ^ 64)
  | .stookDefine _ _ _ _ members _ => decide (4 * (members.map List.length).sum ≤ 4064)
  | .stookStart _ _ ts => decide (ts < 2 ^ 64)
  | .loopSetParams _ _ recs => decide (32 * recs.length ≤ 4064)
  | .loopCapture _ _ _ time => decide (time < 2 ^ 64)
  | .calGetLog _ seq => decide (seq < 2 ^ 32)
  | .portSetFilter _ _ entries => decide (4 * (entries.map List.length).sum ≤ 4064)
  | .gateSetAdmin _ _ _ _ _ _ entries => decide (8 * entries.length ≤ 4064)
  | .gateCommit _ _ ct _ => decide (ct < 2 ^ 64)
  | .gateDisable _ _ ct => decide (ct < 2 ^ 64)
  | .streamSet _ _ entries => decide (4 * (entries.map List.length).sum ≤ 4064)
  | .ruleLoadProgram _ _ words => decide (4 * words.length ≤ 4064)
  | .ruleAddHash _ recs => decide ((recs.map List.length).sum ≤ 4064)
  | .ruleSetTernary _ _ recs => decide ((recs.map List.length).sum ≤ 4064)
  | .ruleSetPattern _ _ recs => decide ((recs.map List.length).sum ≤ 4064)
  | .ruleSwap _ swapAt => decide (swapAt < 2 ^ 64)
  | .hedgeGetNotices _ seq => decide (seq < 2 ^ 32)
  | .faultGetLog _ seq => decide (seq < 2 ^ 32)
  | .deviceFwData _ _ data => wfFwData data
  | .deviceEcho _ data => decide (data.length ≤ 4064)
  | .fcqSubmit q _ _ => decide (q < 16)
  | .fcqCancel q _ => decide (q < 16)
  | .mbDoorbellRing mailbox _ => decide (mailbox < 32)
  | .mailboxBodyWrite mailbox offset _ => decide (mailbox < 32) && decide (offset % 4 = 0) && decide (offset < 4096)
  | .mbStateWrite mailbox _ => decide (mailbox < 32)
  | .hqEnable q => wfQ q
  | .hqDisable q => wfQ q
  | .hqIdxReset q => wfQ q
  | .hqTailWrite q _ => wfQ q
  | .hqDropRead q => decide (q < 64)
  | .cqEnableWrite q _ _ => decide (q < 64)
  | .cqIdxReset q => decide (q < 64)
  | .cqHeadWrite q _ => decide (q < 64)
  | .registerWrite offset _ => decide (offset % 4 = 0) && decide (offset < 0x10000)
  | .railExcursion rail _ => decide (rail < 8)
  | .gptpMessageReceived port _ => decide (port < 4)
  | .gptpMessageTransmit port _ => decide (port < 4)
  | .loopSample element _ _ _ => decide (element < 21504)
  | .handoverAttempt element _ _ => decide (element < 21504)
  | .trimInSample group _ => decide (group < 8)
  | .voaGroupLost group => decide (group < 8)
  | .heaterPowerMeasure element _ => decide (element < 21504)
  | .backgroundVisit region block => decide (region < 4) && decide (block < 17)
  | .spareProof region block _ => decide (region < 4) && decide (block < 17)
  | .spareThresholdMet part => wfPart part
  | .loopCellSwitch region block cell _ => decide (region < 4) && decide (block < 17) && decide (cell < 21)
  | .blockSwitch region block _ => decide (region < 4) && decide (block < 17)
  | .idleParkTimeout plane stage cell => decide (plane < 2) && decide (stage < 19) && decide (cell < 256)
  | .armSlotFree slot => decide (slot < 256)
  | .frameReceived port _ _ => decide (port < 4)
  | .rxPause port _ => decide (port < 4)
  | .pauseExpiry port => decide (port < 4)
  | .pauseRefresh port => decide (port < 4)
  | .rxpWatchdog port => decide (port < 4)
  | .rearmExpiry port => decide (port < 4)
  | .txpWatchdog port => decide (port < 4)
  | .portLinkUp port => decide (port < 4)
  | .portLinkDown port _ => decide (port < 4)
  | .laneLossOfLock port => decide (port < 4)
  | .laneSwitch port => decide (port < 4)
  | .lpiIdleTimeout port => decide (port < 4)
  | .lpiSleepEntry port => decide (port < 4)
  | .lpiWake port _ => decide (port < 4)
  | .verifyTimer port => decide (port < 4)
  | .mpacketReceived port _ => decide (port < 4)
  | .txSelect port => decide (port < 4)
  | .txFrameDone port => decide (port < 4)
  | .gateEvent port => decide (port < 4)
  | .gateHoldAssert port => decide (port < 4)
  | .thresherDispatch thread => decide (thread < 32)
  | .thDone thread => decide (thread < 32)
  | .thMov thread => decide (thread < 32)
  | .thAdd thread => decide (thread < 32)
  | .thSub thread => decide (thread < 32)
  | .thAnd thread => decide (thread < 32)
  | .thOr thread => decide (thread < 32)
  | .thShl thread => decide (thread < 32)
  | .thShr thread => decide (thread < 32)
  | .thCmp thread => decide (thread < 32)
  | .thLdb thread => decide (thread < 32)
  | .thLdh thread => decide (thread < 32)
  | .thLdm thread => decide (thread < 32)
  | .thKld thread => decide (thread < 32)
  | .thKmov thread => decide (thread < 32)
  | .thBr thread => decide (thread < 32)
  | .thHdr thread => decide (thread < 32)
  | .thProf thread => decide (thread < 32)
  | .thMark thread => decide (thread < 32)
  | .thPm thread => decide (thread < 32)
  | .pmResult thread => decide (thread < 32)
  | .thRecirc thread => decide (thread < 32)
  | .thresherRelease port => decide (port < 4)
  | .recoveryResetTimer stream => decide (stream < 1024)
  | .latentPeriod stream => decide (stream < 1024)
  | .coverWindowStart set => decide (set < 256)
  | .coverWindowEnd set => decide (set < 256)
  | .txChainFetch q entries _ => wfQ q && entries.all (·.length = 32)
  | .rxReservation q entries => decide (q < 64) && entries.all (·.length = 32)
  | .rxDropDelay q => decide (q < 64)
  | .completionWrite cq => decide (cq < 64)
  | .queueDrainComplete q => wfQ q
  | .moderationTimer vector => decide (vector < 128)
  | .pendingVectorDeliver vector => decide (vector < 128)
  | .hedgerowSlotSend slot => decide (slot < 32)
  | .gleanerWindowExpiry source => decide (source < 192)
  | .sourceSevere source => decide (source < 192)
  | .gleanerDeadline source => decide (source < 192)
  | .regionReinitComplete region => decide (region < 4)
  | .firmwareClear source => decide (source < 192)
  | .receivedLpi port _ => decide (port < 4)
  | .trimInPulseEdge pin _ _ => decide (pin < 4)
  | .timeGetStatus _ | .timeSet _ _ _ | .timeReanchor _ _ _
  | .timeSetSource _ _ _ _ _ _ | .timeSetCycle _ _ _ | .timeFoldShift _
  | .timeSetSyncin _ _ _ _ | .timeSetSyncout _ _ _ _ | .timeSetPtp _ _
  | .timeSetPortLatency _ _ _ _ | .fabricGetMap _ | .fabricGetPath _ _ _
  | .fabricGetCells _ _ _ _ | .fabricGetFailed _ _ | .fabricSetFailed _ _ _ _ _
  | .fabricClearFailed _ _ _ _ | .fabricGetLevels _ _ _ _ | .fabricSetRepair _ _ _
  | .fabricSetParking _ _ _ | .sheafCancel _ _ | .sheafGetStatus _ _
  | .sheafGetResult _ _ _ | .sheafList _ _ | .sheafSetTiming _ _ _
  | .solveGetReport _ _ | .stookStop _ _ | .stookGetStatus _ _
  | .stookDelete _ _ | .loopGetParams _ _ _ | .loopGetState _ _ _
  | .loopGetFlags _ _ _ | .loopClearFlags _ _ _ _ | .loopGetCapture _ _ _
  | .loopGetMode _ _ _ | .loopSetHandover _ _ _ _ _ | .loopRetryLock _ _ _
  | .loopHoldRegion _ _ _ | .loopSetVoaGroup _ _ _ | .loopGetVoaGroup _ _
  | .calGetStatus _ | .calGetElement _ _ _ | .calSave _
  | .calRecalElement _ _ _ | .calSetBackground _ _ _ | .calSetSparePolicy _ _
  | .calSubstitute _ _ _ _ _ | .calGetSpares _ | .portGetStatus _ _
  | .portSetMode _ _ _ | .portGetConfig _ _ | .portSetPause _ _ _
  | .portGetFilter _ _ _ | .portSetLpi _ _ _ _ | .portGetStats _ _
  | .portGetHistory _ _ _ | .portSetSpares _ _ _ | .portSubstLane _ _
  | .gateGetStatus _ _ | .gateSetConfig _ _ _ | .gateGetList _ _ _ _ _
  | .gateCancelCommit _ _ | .gateGetWindows _ _ | .streamGetStatus _
  | .streamGet _ _ _ | .streamGetStats _ _ _ | .streamResetRecovery _ _ _
  | .streamSetCover _ _ _ _ _ | .streamGetCover _ _ | .streamClearLatent _ _ _
  | .ruleGetStatus _ | .ruleSetProfile _ _ | .ruleDelHash _ _
  | .ruleClone _ | .ruleCancelSwap _ | .ruleGet _ _
  | .ruleGetStats _ _ _ | .ruleSetMirror _ _ _ _ | .ruleSetMp _ _
  | .ruleGetCopies _ _ | .hedgeGetStatus _ | .hedgeSetConfig _ _
  | .hedgeGetConfig _ | .hedgeSaveConfig _ | .hedgeRestart _ _
  | .hedgeGetStats _ | .hedgeSetNotice _ _ | .unitGetStatus _
  | .unitSetPair _ _ _ | .unitDrill _ | .unitSaveStartupMap _ _
  | .unitResync _ | .unitGetEpochs _ | .faultGetStatus _
  | .faultGetSource _ _ _ | .faultSetSource _ _ _ | .faultClear _ _ _
  | .faultGetRecord _ _ | .faultSaveConfig _ | .faultRaise _
  | .faultInject _ _ | .faultGetInject _ | .powerGetStatus _
  | .powerHold _ _ | .powerSleep _ | .trustGetStatus _
  | .trustGetIdentity _ | .trustAttest _ _ | .trustAdvanceSvn _
  | .trustRevokeKey _ _ _ _ | .trustSetAxaroKey _ _ _ | .trustSetPolicy _
  | .trustGetNonce _ | .trustSetLifecycle _ _ _ | .trustFactoryTest _
  | .deviceGetInfo _ | .deviceGetCommands _ _ | .deviceFwBegin _ _
  | .deviceFwCommit _ | .deviceFwAbort _ | .deviceFwStatus _
  | .deviceReset _ _ _ _ | .mbAnswerRead | .heldAnswerWrite
  | .tbTimeLoRead | .tbCountsRead | .glStatus0Read
  | .glClearSource _ | .glClearAll _ | .glEventsWrite _
  | .unEventsWrite _ | .unCountsRead | .d3hotEntry
  | .d0Return | .busMasterEnableWrite _ | .powerOn
  | .brownOut | .resetNAssert | .perstAssert
  | .resetRelease _ | .wipeComplete | .fwReady
  | .fwConfirm | .pcieHotReset | .functionLevelReset
  | .classFWipeComplete | .holdNAssert | .holdNRelease
  | .wakeRise | .pwrEnRise | .sleepShutdown
  | .sleepPark | .pwrEnFall | .tbRefLoss
  | .paceUpdate _ | .syncInEdge _ | .syncOutPulse
  | .scheduleBoundary | .gptpSyncTimeout | .bandgapCheck _ _ _
  | .temperatureSample _ _ | .delayLineExchange _ _ | .rowRepair _ _
  | .spareMapWrite | .logEntryWrite | .calAutoSave
  | .calSaveComplete _ | .calStageComplete | .roleWaitExpiry
  | .sheafArmStart _ | .sheafArmCommit _ _ | .sheafCutoff _
  | .sheafInstant _ _ | .sheafHorizon _ | .statsHistoryTick
  | .ruleSwapAt | .ruleSwapDrain | .noticeSend _ _
  | .hedgerowFrameReceived _ _ _ _ | .listenTimeout | .hedgerowMidpoint
  | .hedgerowCorrection | .hedgerowCycleEnd | .mlKeepaliveSend
  | .mlFrameReceived _ | .mlDownTimeout | .epochClose
  | .commitRecordCreate | .epochApply | .partnerAliveTimeout
  | .partnerAliveEdge | .failbackHoldoff | .handbackInstant
  | .gleanerEvaluation _ | .recordFlashWrite | .watchdogExpiry
  | .comparatorSelfTest _ | .aliveEdge | .faultInjectEvent
  | .fwEraseComplete | .granaryRetrain _ _ | .tapBypass
  | .tapIdcode | .tapSamplePreload _ | .tapExtest
  | .tapClamp | .tapHighz | .syncOutPulseEnd
  | .pcieLinkChange _ _ _ | .mlLaneLossOfLock | .pllLossOfLock
  | .memoryError _ | .memoryRequestAnswered _ | .userConfigSaveComplete
  | .resetDeviceDelayExpiry | .vwakeLoss | .tbRefReturn => true

end Sys2Proof
end

