-- ==== Sys2Proof/Safety.lean ====
section
/-! DEFINITION. The terms in which the statements are written: a command that waits for firmware, an answer
that it gets, and what a run keeps. -/
namespace Sys2Proof.Machine

/-- Firmware may carry out command `c`, of this tag and code: it is in flight and not answered, and no command of
its group is ahead of it (13_ilucy R384). -/
def Waits (s : State) (tag : Tag) (code : Nat) (c : InFlight) : Prop :=
  findServed s.il.inflight tag code false = some c

/-- A command that waits and has no payload (R378). -/
def Asks (s : State) (tag : Tag) (code : Nat) (c : InFlight) : Prop :=
  Waits s tag code c ∧ c.len = 0

/-- The state `t` with command `c` answered OK and no payload (R379, R381). -/
def State.ok (t : State) (c : InFlight) : Host.Outcome State Fault Refusal := .next (t.answer c {})

/-- The state `t` with command `c` answered with status `st` and DETAIL `d` (R388). -/
def State.no (t : State) (c : InFlight) (st : Status) (d : Nat := 0) : Host.Outcome State Fault Refusal :=
  .next (t.answer c (Reply.no st d))

/-- The row answers command `c` OK and changes nothing else: what the answer carries is read from `s`. -/
def Reads (i : Instr) (s : State) (c : InFlight) : Prop :=
  ∃ r : Reply, r.status = .ok ∧ exec i s = .next (s.answer c r)

/-- The row answers command `c` OK with measured quantities, and takes free values for them (DESIGN CHOICE, log 8); nothing else
changes. -/
def Measures (i : Instr) (s : State) (c : InFlight) : Prop :=
  ∃ r : Reply, r.status = .ok ∧ exec i s = .next (s.drawn.answer c r)

/-- Thread `n` holds `t` and may execute the instruction `w`, of operation `op`; `bs` is its packet without the
FCS (11_thresher R309, R310). -/
def Runs (s : State) (n op : Nat) (t : Thread) (w : Word) (bs : List Byte) : Prop :=
  mapGet none s.rules.threads n = some t ∧ t.pmWait = none ∧ mapGet 0 (s.rules.store t.gen).program t.pc = w ∧
  opOf w = op ∧ t.executed < 512 ∧ ∃ p, s.pkt? t.port t.pkt = some p ∧ noFcs p.bytes = bs

/-- Thread `n` holds `t`, and all else is as in `s`. -/
def State.threadIs (s : State) (n : Nat) (t : Thread) : Host.Outcome State Fault Refusal :=
  .next { s with rules.threads := mapSet none s.rules.threads n (some t) }

/-- `t` with register XD of instruction `w` at `v`, after one more instruction (11_thresher R309, R311). -/
def Thread.wrote (t : Thread) (w : Word) (v : BitVec 16) : Thread :=
  { t with x := t.x.set (fld w 25 23) v, executed := t.executed + 1, pc := (t.pc + 1) % 4096 }

/-- The state one tick on, with nothing else to happen: INCR is added to the counter, and 6.4 ns pass (02 R45). -/
def State.ticked (s : State) : State :=
  { s with cycle := {}, up := s.up + 64, tb.counter := s.tb.counter + s.tb.incr.setWidth 96, tb.run := s.tb.run + s.tb.incr.toNat }

/-! Invariants. -/

/-- The commands in flight that a class F reset has not ended: they count towards INFLIGHT and keep their tags
(13_ilucy R382, R391). -/
def liveCommands (l : List InFlight) : List InFlight := l.filter fun d => !d.orphan

/-- At most 256 commands are in flight, and no two have one tag (13_ilucy R378, R380, R382). -/
def inFlightOk (l : List InFlight) : Prop := (liveCommands l).length ≤ 256 ∧ ((liveCommands l).map (·.tag)).Nodup

/-- The tables of elements, gates, frames in flight, host queues and vectors are in canonical form: keys rise strictly,
and no entry equals what an unlisted one reads as (guide, Memory). -/
def State.tidy (s : State) : Prop :=
  mapWf Elem.park s.loops.elems = true ∧ mapWf GatePort.dflt s.gates.port = true ∧ mapWf [] s.rules.flight = true ∧
  mapWf SubQ.dflt s.host.subq = true ∧ mapWf Vec.dflt s.host.vecs = true

/-- Those tables, the mailbox bodies and the Axaro key slots are in canonical form. -/
def State.canonical (s : State) : Prop := mapWf 0 s.il.bar2 = true ∧ mapWf 0 s.trust.akey = true ∧ s.tidy

/-! One entry of a table is put, and all else is as in `s`. -/

def State.putTrim (pin : Nat) (x : TrimPin) (s : State) : State :=
  { s with loops.trim := mapSet TrimPin.dflt s.loops.trim pin x }
def State.putGroup (g : Nat) (x : VoaGroup) (s : State) : State :=
  { s with loops.groups := mapSet VoaGroup.dflt s.loops.groups g x }
def State.putCover (n : Nat) (x : Cover) (s : State) : State :=
  { s with streams.covers := mapSet Cover.dflt s.streams.covers n x }
def State.putVec (v : Nat) (x : Vec) (s : State) : State :=
  { s with host.vecs := mapSet Vec.dflt s.host.vecs v x }

end Sys2Proof.Machine
end

