-- ==== Sys2Proof/Certificates/Slice0/Obligations.lean ====
section
/-! DEFINITION. The statements about the model that the provers settle, each listed in OBLIGATIONS.json. `Waits`, `Asks`,
`State.ok`, `State.no`, `Reads` and `Measures` say how a command in flight is answered (Sys2Proof/Safety.lean). -/
open Sys2Proof Sys2Proof.Machine

/-- Each TIME command that waits and passes its checks has its effect and is answered OK: TIME_SET decides the single
step, which the next tick makes, and changes nothing else of the timebase (a second TIME_SET is refused
ALREADY_STEPPED), TIME_REANCHOR re-anchors up to its step, at which it is answered, TIME_SET_SOURCE,
TIME_SET_CYCLE, TIME_FOLD_SHIFT, TIME_SET_SYNCIN, TIME_SET_SYNCOUT, TIME_SET_PTP and TIME_SET_PORT_LATENCY store
what they carry where the operands lie in the ranges of the manual. How a row of a command group stands for
firmware that carries out the command in flight with its tag is the model's reading (log 4). -/
def Obligations.TimeCommandsTakeEffect : Prop :=
  (∀ (s : State) (tag : Tag) (c : InFlight),
    (∀ time frac, Waits s tag 0x0202 c → s.tb.stepped = false → s.tb.load = none →
      exec (.timeSet tag time frac) s = { s with tb.load := some (time ++ frac) }.ok c) ∧
    (∀ time frac, Waits s tag 0x0203 c → s.tb.stepped = true → s.tb.load = none → s.tb.reanchorTag = none →
      exec (.timeReanchor tag time frac) s = .next (s.reanchor tag (time ++ frac))) ∧
    (∀ p f x y tau lock large, Waits s tag 0x0204 c → sourceOf p.toNat = some x → sourceOf f.toNat = some y →
      tauOk tau = true → 10 ≤ lock → lock ≤ 10000 → 1000 ≤ large → large ≤ 1000000000 →
      exec (.timeSetSource tag p f tau lock large) s =
        { s.selectSource x y with tb.tauMs := tau, tb.lockNs := lock, tb.largeNs := large }.ok c) ∧
    (∀ b n, Waits s tag 0x0205 c → s.tb.stepped = true → s.tb.pendCycle = none → 20000 ≤ n.toNat → n.toNat ≤ 1000000000 →
      divides n.toNat s.hNs = true → s.baseOk (s.arrivalOf tag) b.toNat n.toNat = true → s.gatesFit b.toNat n.toNat = true →
      exec (.timeSetCycle tag b n) s = { s with tb.pendCycle := some (b.toNat, n.toNat) }.ok c) ∧
    (Asks s tag 0x0206 c → exec (.timeFoldShift tag) s = { s with tb.foldPending := true }.settleCommon.ok c) ∧
    (∀ en w d, Waits s tag 0x0207 c → 1000 ≤ w → w ≤ 100000 → 2 * w < max s.tb.cycleC s.hNs → d ≤ 100 →
      exec (.timeSetSyncin tag en w d) s = { s with tb.syncInPend := some ⟨en, w, d⟩ }.settleCommon.ok c) ∧
    (∀ m k p l, Waits s tag 0x0208 c → syncOutOf m = some k → (∀ w ∈ p, 100 ≤ w ∧ w ≤ 500000000) → 1000 ≤ l → l ≤ 1000000 →
      exec (.timeSetSyncout tag m p l) s = { s with tb.syncOutPend := some ⟨k, p, l⟩ }.settleCommon.ok c) ∧
    (∀ cfg : PtpCfg, Waits s tag 0x0209 c → cfg.domain ≤ 127 → cfg.priority1 ≤ 255 → -7 ≤ cfg.logSync → cfg.logSync ≤ 3 →
      -3 ≤ cfg.logPdelay → cfg.logPdelay ≤ 3 → (∀ r ∈ cfg.roles, r ≤ 3) → cfg.gmCapable = true →
      exec (.timeSetPtp tag cfg) s = { s with tb.ptpPend := some cfg }.ok c) ∧
    (∀ port i e, Waits s tag 0x020A c → port ≤ 3 → mag i ≤ 1600 → mag e ≤ 1600 →
      exec (.timeSetPortLatency tag port i e) s =
        { s with tb.lat := mapSet (0, 0) s.tb.lat port (i, e) }.ok c)) ∧
  (∀ (s : State) (tag : Tag) (c : InFlight) (time : BitVec 64) (frac : BitVec 32), Waits s tag 0x0202 c →
    (s.tb.stepped = false → s.tb.load = none → ∃ t, exec (.timeSet tag time frac) s = .next t ∧
      t.tb = { s.tb with load := some (time ++ frac) } ∧ t.loops = s.loops ∧ t.sheaves = s.sheaves ∧ t.hedge = s.hedge) ∧
    (s.tb.stepped = true ∨ s.tb.load.isSome = true → exec (.timeSet tag time frac) s = s.no c .alreadyStepped))

/-- A read of TB_TIME_LO latches the whole counter and changes nothing else: TB_TIME_HI and TB_TIME_FRAC then return
their parts of the same sample. In every state they return the last latched sample. -/
def Obligations.LatchedTimeReads : Prop :=
  ∀ s : State,
    (∃ t, exec .tbTimeLoRead s = .next t ∧
      t = { s with tb.latched := s.tb.counter, out := .readData ((s.tb.counter >>> 32).setWidth 32) :: s.out } ∧
      t.readReg 0x1004 = (s.tb.counter >>> 64).setWidth 32 ∧ t.readReg 0x1008 = s.tb.counter.setWidth 32) ∧
    s.readReg 0x1004 = (s.tb.latched >>> 64).setWidth 32 ∧ s.readReg 0x1008 = s.tb.latched.setWidth 32

/-- A SYNC_IN edge inside its open window is accepted with its offset; a due SYNC_OUT pulse is launched, driven and ends; a
boundary of the schedule cycle that has come applies what waits for it; a Sync message of the domain received on the
gPTP slave port gives a measurement; one is queued for transmission on a master port; three Sync intervals without a
valid one lose the source; a read of TB_COUNTS returns both counts and clears them, but for what the hardware has
counted in the same access cycle (log 1). -/
def Obligations.TimebaseEvents : Prop :=
  (∀ s : State,
    (∀ (ps : Nat) w, s.tb.syncIn.enable = true → s.tb.cycleValid = true → s.tb.window = some w → w.accepted = false →
      w.t * 2 ^ 32 ≤ s.captureAt ps → s.captureAt ps ≤ (w.t + s.tb.syncIn.wNs) * 2 ^ 32 →
      exec (.syncInEdge ps) s = .next ({ s with tb.window := some ⟨w.t, true⟩ }.acceptEdge
        (((s.captureAt ps : Int) - w.t * 2 ^ 32 + 2 ^ 31) / 2 ^ 32) false)) ∧
    (∀ t id, s.dueEdge = some (t, id) → exec .syncOutPulse s = .next ((s.launched t).pulse t id)) ∧
    (s.tb.syncOutHigh = true → s.reached s.pulseEndNow = true → s.tb.syncOut.mode ≠ .sheafNotice →
      exec .syncOutPulseEnd s =
        .next { s with tb.syncOutHigh := false, out := .pin .syncOut 0 :: s.out }) ∧
    (∀ sw com at_, s.nextBoundary = some (sw, com, at_) → s.reached at_ = true →
      exec .scheduleBoundary s = .next (s.boundary.gatesAtBoundary s.tb.cycleC)) ∧
    (∀ port off rate src, port ≤ 3 → s.applyPtp.tb.ptp.ports.getLsbD port = true → s.applyPtp.ptpRole port = 1 →
      exec (.gptpMessageReceived port (.sync s.applyPtp.tb.ptp.domain true off rate src)) s =
        .next ({ s.applyPtp with tb.syncStamp := mapGet 0 s.tb.gptpStamp port }.measurement .gptp off rate
          (BitVec.ofNat 96 (src * 2 ^ 32)))) ∧
    (∀ port sync, port < 4 → s.applyPtp.tb.ptp.ports.getLsbD port = true → (sync = true → s.applyPtp.ptpRole port = 2) →
      exec (.gptpMessageTransmit port sync) s = .next (s.applyPtp.drawn.enqueue port
        { bytes := Config.gptpFrame port sync s.free, tc := (s.gate port).cfg.ptpClass, gptp := some sync })) ∧
    (s.tb.syncAt + 3 * s.tb.ptp.interval ≤ s.up → exec .gptpSyncTimeout s = .next (s.sourceLost .gptp))) ∧
  (∀ s : State,
    exec .tbTimeLoRead s =
      .next { s with tb.latched := s.tb.counter, out := .readData ((s.tb.counter >>> 32).setWidth 32) :: s.out } ∧
    exec .tbCountsRead s =
      .next { s with tb.syncMiss := min s.tb.syncMiss s.cycle.miss, tb.syncReject := min s.tb.syncReject s.cycle.reject
                     out := .readData (BitVec.ofNat 32 ((s.tb.syncReject - min s.tb.syncReject s.cycle.reject) * 65536 +
                       (s.tb.syncMiss - min s.tb.syncMiss s.cycle.miss))) :: s.out })

/-- At RESET_RELEASE, where the power, the reference and the pins allow it, the counter is 0, the increment is
nominal and STEPPED is 0. A class F reset (a function-level reset), a class S reset of any subsystem and a class
D demotion change neither the counter, the increment nor STEPPED. -/
def Obligations.ResetsAndTheCounter : Prop :=
  ∀ s : State,
    (∀ straps, s.power.phase = .waitRelease → s.power.tbRef = true → s.power.pwrEn = true → s.railsGood = true →
      s.power.tbRefAt + 10000000 ≤ s.up → ∃ t, exec (.resetRelease straps) s = .next t ∧ t.power.phase = .wiping ∧
        t.tb.counter = 0 ∧ t.tb.incr = 0x666666666#36 ∧ t.tb.stepped = false) ∧
    (s.functionUp = true → ∃ t, exec .functionLevelReset s = .next t ∧
      t.tb.counter = s.tb.counter ∧ t.tb.incr = s.tb.incr ∧ t.tb.stepped = s.tb.stepped) ∧
    (∀ k, (s.classS k).tb.counter = s.tb.counter ∧ (s.classS k).tb.incr = s.tb.incr ∧ (s.classS k).tb.stepped = s.tb.stepped) ∧
    (s.demote.tb.counter = s.tb.counter ∧ s.demote.tb.incr = s.tb.incr ∧ s.demote.tb.stepped = s.tb.stepped)

/-- With no command waiting, TB_REF present and the device counting, a step adds INCR to the counter and advances
the model's elapsed time; where a step of the counter is decided it loads that value in place of adding. A capture
window of SYNC_IN that has passed without an edge is a miss. With nothing waiting for a loop frame start, or only for a
later one, READY as it states and no window past its end, it changes nothing else, and where the time reaches the frame
start the waiting records are written, the waiting region is held or released as its setters say, or the HOLD that is
caused is entered. That an empty queue stands for one edge of TB_REF is the model's choice (log 3). -/
def Obligations.IdleStepIsOneTick : Prop :=
  ∀ s : State, s.pending = [] → s.power.tbRef = true → s.counting = true →
    (∀ v, s.tb.load = some v → s.tb.reanchorTag = none → s.tb.window = none → s.loops.frames = [] →
      ∃ t, step s = .next t ∧ t.tb.counter = v ∧ t.tb.stepped = true ∧ t.tb.load = none ∧ t.tb.incr = s.tb.incr ∧
        t.up = s.up + 64) ∧
    (∀ w, s.tb.load = none → s.loops.frames = [] → s.tb.window = some w → w.accepted = false →
      w.t + s.tb.syncIn.wNs < s.ticked.now → s.tb.missRun ≠ 15 →
      step s = .next ({ s.ticked with
        tb.window := none, tb.missRun := s.tb.missRun + 1, tb.syncMiss := min 65535 (s.tb.syncMiss + 1), cycle.miss := 1 } : State).checkReady) ∧
    (s.tb.load = none → (∀ w, s.tb.window = some w → s.ticked.now ≤ w.t + s.tb.syncIn.wNs) →
      (s.loops.frames = [] → s.ticked.readyNow = s.unit.ready → step s = .next s.ticked) ∧
      (∀ f x, s.loops.frames = [(f, x)] → s.ticked.now < f → s.ticked.readyNow = s.unit.ready → step s = .next s.ticked) ∧
      (∀ f first recs, s.loops.frames = [(f, .params first recs)] → f ≤ s.ticked.now →
        step s = .next (recs.zipIdx.foldl (fun (t : State) p => t.modElem (first + p.2) (Elem.writeRecord (t.image (first + p.2)) p.1))
          ({ s.ticked with loops.frames := [] } : State)).checkReady) ∧
      (∀ f r, s.loops.frames = [(f, .region r)] → f ≤ s.ticked.now → s.regionHeld r = true →
        step s = .next (({ s.ticked with loops.frames := [] } : State).holdRegion r).checkReady) ∧
      (∀ f r, s.loops.frames = [(f, .region r)] → f ≤ s.ticked.now → s.regionHeld r = false →
        step s = .next (({ s.ticked with loops.frames := [] } : State).releaseRegion r).checkReady) ∧
      (∀ f, s.loops.frames = [(f, .hold)] → f ≤ s.ticked.now → s.holdCaused = true →
        step s = .next ({ s.ticked with loops.frames := [] } : State).holdEntry.checkReady))

/-- Each GET and LIST command whose operands lie in range answers OK and changes nothing but what an answer changes
(and, for the commands that return measured quantities, the model's counter of free values, log 8): time,
fabric, sheaves, stooks, loops, calibration, ports, gates, streams, rules, faults and power. -/
def Obligations.QueriesAnswerOk : Prop :=
  (∀ (s : State) (tag : Tag) (c : InFlight) (first count : Nat),
    (Asks s tag 0x0201 c → Reads (.timeGetStatus tag) s c) ∧
    (Asks s tag 0x0301 c → Reads (.fabricGetMap tag) s c) ∧
    (∀ p j i cs k, Waits s tag 0x0302 c → p ≤ 1 → j ≤ 511 → carried s.loops.elems s.fabric.failed p j = some i →
      tracePath s.loops.elems s.fabric.failed p 19 i = some (cs, k) → Reads (.fabricGetPath tag p j) s c) ∧
    (∀ p, Waits s tag 0x0303 c → p ≤ 1 → 1 ≤ count → count ≤ 1024 → first + count ≤ 4864 →
      Reads (.fabricGetCells tag p first count) s c) ∧
    (∀ p, Waits s tag 0x0304 c → p ≤ 1 → Reads (.fabricGetFailed tag p) s c) ∧
    (∀ o, Waits s tag 0x0307 c → 1 ≤ count → first + count ≤ 512 → Measures (.fabricGetLevels tag o first count) s c) ∧
    (∀ id x, Waits s tag 0x0404 c → s.sheaf? id.toNat = some x →
      exec (.sheafGetStatus tag id) s = .next (s.answer c (Reply.ok [x.phase.code, x.outcome, x.detail, x.hostTag.toNat, x.instant]))) ∧
    (∀ id x page, Waits s tag 0x0405 c → s.sheaf? id.toNat = some x → (page = 0 ∨ 480 * page < x.excluded.length) →
      Reads (.sheafGetResult tag id page) s c) ∧
    (∀ page, Waits s tag 0x0406 c → Reads (.sheafList tag page) s c) ∧
    (∀ page, Waits s tag 0x040B c → (page = 0 ∨ 128 * page < s.sheaves.report.length) → Reads (.solveGetReport tag page) s c) ∧
    (∀ id, ∀ k ∈ s.sheaves.stooks, Waits s tag 0x040F c → k.id = id.toNat → Reads (.stookGetStatus tag id) s c) ∧
    (Waits s tag 0x0501 c → rangeOk first count 64 = true → Reads (.loopGetParams tag first count) s c) ∧
    (Waits s tag 0x0503 c → rangeOk first count 64 = true → Reads (.loopGetState tag first count) s c) ∧
    (Waits s tag 0x0504 c → rangeOk first count 1024 = true → exec (.loopGetFlags tag first count) s =
      .next (s.answer c (Reply.ok ((List.range count).map fun k => ((s.elem (first + k)).flags.toNat : Int))))) ∧
    (∀ x page, Waits s tag 0x0507 c → mapGet none s.loops.captures (regionOf first) = some x → x.element = first →
      128 * page < x.count → (x.state = .complete ∨ min x.count (128 * (page + 1)) ≤ x.samples.length) →
      Reads (.loopGetCapture tag first page) s c) ∧
    (Waits s tag 0x0508 c → rangeOk first count 254 = true → Reads (.loopGetMode tag first count) s c) ∧
    (∀ g, Waits s tag 0x050D c → g ≤ 7 → Reads (.loopGetVoaGroup tag g) s c) ∧
    (Asks s tag 0x0601 c → Reads (.calGetStatus tag) s c) ∧
    (∀ seq, Waits s tag 0x0608 c → seq < s.cal.logSeq → Reads (.calGetLog tag seq) s c)) ∧
  (∀ (s : State) (tag : Tag) (c : InFlight) (first count port : Nat),
    (Waits s tag 0x0701 c → port ≤ 3 → Measures (.portGetStatus tag port) s c) ∧
    (Waits s tag 0x0703 c → port ≤ 3 → Reads (.portGetConfig tag port) s c) ∧
    (Waits s tag 0x0706 c → 1 ≤ count → count ≤ 64 → first + count ≤ 256 → Reads (.portGetFilter tag first count) s c) ∧
    (∀ page, Waits s tag 0x0709 c → port ≤ 3 → page ≤ 14 → Reads (.portGetHistory tag port page) s c) ∧
    (Waits s tag 0x0801 c → port ≤ 3 → Reads (.gateGetStatus tag port) s c) ∧
    (∀ o, Waits s tag 0x0804 c → port ≤ 3 → count ≤ 480 → first + count ≤ 1024 → Reads (.gateGetList tag port o first count) s c) ∧
    (Waits s tag 0x0808 c → port ≤ 3 → Reads (.gateGetWindows tag port) s c) ∧
    (Asks s tag 0x0901 c → Reads (.streamGetStatus tag) s c) ∧
    (Waits s tag 0x0903 c → 1 ≤ count → count ≤ 16 → first + count ≤ 1024 → Reads (.streamGet tag first count) s c) ∧
    (∀ n, Waits s tag 0x0907 c → 1 ≤ n → n ≤ 255 → Reads (.streamGetCover tag n) s c) ∧
    (Asks s tag 0x0A01 c → Reads (.ruleGetStatus tag) s c) ∧
    (∀ sh, Waits s tag 0x0A0B c → tableRangeOk 4096 4 first count = true → Reads (.ruleGet tag (.program sh first count)) s c) ∧
    (∀ sh, Waits s tag 0x0A0B c → tableRangeOk 65536 64 first count = true → Reads (.ruleGet tag (.hashed sh first count)) s c) ∧
    (∀ sh, Waits s tag 0x0A0B c → tableRangeOk 2048 128 first count = true → Reads (.ruleGet tag (.ternary sh first count)) s c) ∧
    (∀ sh, Waits s tag 0x0A0B c → tableRangeOk 4096 72 first count = true → Reads (.ruleGet tag (.patterns sh first count)) s c) ∧
    (Waits s tag 0x0A0F c → Reads (.ruleGetCopies tag count) s c) ∧
    (Asks s tag 0x0D01 c → Reads (.faultGetStatus tag) s c) ∧
    (Waits s tag 0x0D02 c → sourcesOk first count = true → Reads (.faultGetSource tag first count) s c) ∧
    (Waits s tag 0x0D05 c → exec (.faultGetRecord tag 0) s = .next (s.answer c (Reply.bytes (recordBytes s.gl.record))) ∧
      exec (.faultGetRecord tag 1) s = .next (s.answer c (Reply.bytes (recordBytes s.gl.lastClosed))) ∧
      exec (.faultGetRecord tag 2) s = .next (s.answer c (Reply.bytes (recordBytes s.power.ret.record)))) ∧
    (∀ seq x, Waits s tag 0x0D07 c → x ∈ s.gl.log → seq ≤ x.seq.toNat → Reads (.faultGetLog tag seq) s c) ∧
    (Asks s tag 0x0D0A c → Reads (.faultGetInject tag) s c) ∧
    (Asks s tag 0x0E01 c → Measures (.powerGetStatus tag) s c))

/-- FABRIC_SET_FAILED declares a cell failed, FABRIC_CLEAR_FAILED parks both gates of a cell whose test finds
nothing and answers the test's count otherwise, FABRIC_SET_REPAIR and FABRIC_SET_PARKING store their settings,
and a cell whose idle time has run parks both its gates. What the test of a cell finds is a free value (log 8). -/
def Obligations.FabricCommandsTakeEffect : Prop :=
  ∀ (s : State) (tag : Tag) (c : InFlight) (plane stage cell : Nat),
    (∀ kind k, Waits s tag 0x0305 c → s.inControl = true → plane < 2 → stage < 19 → cell < 256 → kindOfCode kind = some k →
      (s.fabric.failed.filter fun f => f.plane = plane).length < 256 →
      exec (.fabricSetFailed tag plane stage cell kind) s = (s.declareFailed plane stage cell k .host).checkDegraded.ok c) ∧
    (∀ f, Waits s tag 0x0306 c → s.inControl = true → plane < 2 → stage < 19 → cell < 256 →
      failedAt s.fabric.failed plane stage cell = some f →
      s.substituting (gateAt plane stage cell) = false → s.substituting (gateAt plane stage cell + 1) = false →
      cellCarries s.loops.elems s.fabric.failed plane stage cell = false → exec (.fabricClearFailed tag plane stage cell) s =
        if s.measured 2 (gateAt plane stage cell) = 0 then
          .next ((({ s with fabric.failed := s.fabric.failed.filter fun f => !(f.plane = plane && f.stage = stage && f.cell = cell)
              }.logSubst 7 4 0xFFFF (locFabric plane stage cell f.kind.code) (locFabric plane stage cell f.kind.code)
              (locFabric plane stage cell f.kind.code) 0 0 0).modElems
              [gateAt plane stage cell, gateAt plane stage cell + 1] fun _ x => x.parked s.now).drawn.refreshMap.checkDegraded.answer c (Reply.ok [0]))
        else .next (s.drawn.answer c (Reply.ok [1, s.measured 2 (gateAt plane stage cell)]))) ∧
    (∀ en lead, Waits s tag 0x0308 c → 50000 ≤ lead → lead ≤ 100000000 →
      exec (.fabricSetRepair tag en lead) s =
        ({ s with fabric.repairOn := en, fabric.repairLead := lead }.autoRepair []).ok c) ∧
    (∀ en delay, Waits s tag 0x0309 c → 10000000 ≤ delay → delay ≤ 3600000000000 →
      exec (.fabricSetParking tag en delay) s = { s with fabric.parkOn := en, fabric.parkDelay := delay }.ok c) ∧
    (s.idleParkDue plane stage cell = true →
      exec (.idleParkTimeout plane stage cell) s =
        .next (s.modElems [gateAt plane stage cell, gateAt plane stage cell + 1] fun _ x => x.parked s.now))

/-- LOOP_SET_PARAMS has the records of its range written at the next loop frame start and answers its time;
LOOP_CLEAR_FLAGS clears the masked flags but UNLOCKABLE; LOOP_CAPTURE arms a capture at least 50 us after its arrival;
LOOP_SET_HANDOVER stores the dwell, the retry time and the tolerance of VOAs or gates; LOOP_RETRY_LOCK lets the
elements of its range try again; LOOP_HOLD_REGION sets or clears its hold of a region, which acts at the next
loop frame start, and answers its time; LOOP_SET_VOA_GROUP sets a group, or is refused NOT_PERMITTED where another
group has one of its fibres, or an enabled one reads its pin in the other mode. -/
def Obligations.LoopCommandsTakeEffect : Prop :=
  ∀ (s : State) (tag : Tag) (c : InFlight),
    (∀ first recs, Waits s tag 0x0502 c → s.unit.mode ≠ .factoryTest → rangeOk first recs.length 64 = true →
      firstBad first recs = none → (∀ k < recs.length, s.substituting (first + k) = false) →
      exec (.loopSetParams tag first recs) s =
        .next ({ s with loops.frames := s.loops.frames ++ [(s.nextFrame, FrameAct.params first recs)] }.answer c
          (Reply.ok [s.nextFrame]))) ∧
    (∀ first count mask, Waits s tag 0x0505 c → rangeOk first count 21504 = true →
      exec (.loopClearFlags tag first count mask) s =
        (s.modElems (List.range' first count) fun _ x => { x with flags := x.flags &&& ~~~(mask &&& 0xEFFF#16) }).ok c) ∧
    (∀ e n at_, Waits s tag 0x0506 c → s.tb.stepped = true → e < numElements → 1 ≤ n → n ≤ 4096 → s.arrivalOf tag + 50000 ≤ at_ →
      s.capturing (regionOf e) = false →
      exec (.loopCapture tag e n at_) s =
        { s with
          loops.captures := mapSet none s.loops.captures (regionOf e) (some { element := e, start := at_, count := n, samples := [], state := .armed }) }.ok c) ∧
    (∀ dwell retry tol, Waits s tag 0x0509 c → 10 ≤ dwell → dwell ≤ 10000 → 1 ≤ retry → retry ≤ 1000 → 1 ≤ tol → tol ≤ 65535 →
      exec (.loopSetHandover tag true dwell retry tol) s =
        { s with loops.voa := { dwell := 1000 * dwell, retry := 1000 * retry, tol := tol } }.ok c) ∧
    (∀ dwell retry tol, Waits s tag 0x0509 c → 1 ≤ dwell → dwell ≤ 100 → 1 ≤ retry → retry ≤ 1000 → 1 ≤ tol → tol ≤ 65535 →
      exec (.loopSetHandover tag false dwell retry tol) s =
        { s with loops.gate := { dwell := 1000 * dwell, retry := 1000 * retry, tol := tol } }.ok c) ∧
    (∀ first count, Waits s tag 0x050A c → s.inControl = true → rangeOk first count 21504 = true →
      exec (.loopRetryLock tag first count) s =
        (s.modElems (List.range' first count) fun _ x => x.retry s.now).ok c) ∧
    (∀ region, Waits s tag 0x050B c → region ≤ 3 →
      exec (.loopHoldRegion tag region true) s =
        .next ({ s with
          loops.regionHold := s.loops.regionHold ||| BitVec.ofNat 4 (2 ^ region)
          loops.frames := s.loops.frames ++ [(s.nextFrame, FrameAct.region region)] }.answer c
          (Reply.ok [s.nextFrame])) ∧
      exec (.loopHoldRegion tag region false) s =
        .next ({ s with
          loops.regionHold := s.loops.regionHold &&& ~~~BitVec.ofNat 4 (2 ^ region)
          loops.frames := s.loops.frames ++ [(s.nextFrame, FrameAct.region region)] }.answer c
          (Reply.ok [s.nextFrame]))) ∧
    (∀ g cfg, Waits s tag 0x050C c → g ≤ 7 → cfg.pin ≤ 3 → cfg.aLo ≤ 2000 → cfg.aHi ≤ 2000 → hasDup cfg.fibres = false →
      (∀ f ∈ cfg.fibres, f ≤ 511) →
      (s.groupClash g cfg = false → exec (.loopSetVoaGroup tag g cfg) s = (s.setGroup g cfg).ok c) ∧
      (s.groupClash g cfg = true → exec (.loopSetVoaGroup tag g cfg) s = s.no c .notPermitted))

/-- At a strobe that it has not sampled an element evaluates its sample, and an attempt that is due is that evaluation; a
heater power measurement gives U_CAP, once a second; a sample of TRIM_IN moves an enabled group by its analogue value,
once for each multiple of 10 us; falling
and rising edges of a pulsed pin are timed, with a period between 10 us and 1 ms; a pulsed group without a valid
period for 2 ms is lost, with an event of source 154. That a row HANDOVER_ATTEMPT names the evaluation in which
the attempt falls is the model's reading (log 4). -/
def Obligations.LoopEvents : Prop :=
  ∀ (s : State) (e : Nat) (m1 m2 : BitVec 12),
    (∀ res t, e < numElements → s.sampleAt e = some t →
      exec (.loopSample e m1 m2 res) s = .next (s.sampleElem e m1 m2 res t)) ∧
    (∀ t, e < numElements → s.sampleAt e = some t → (s.elem e).due t.2 = true →
      exec (.handoverAttempt e m1 m2) s = .next (s.sampleElem e m1 m2 false t)) ∧
    (∀ nw, e < numElements → 0 < nw → s.periodDue (s.elem e).capAt 10000000000 = true →
      exec (.heaterPowerMeasure e nw) s =
        .next (s.modElem e fun x => { x with uCap := some (uCapOf nw), capAt := some s.up })) ∧
    (∀ g uv, g ≤ 7 → (mapGet VoaGroup.dflt s.loops.groups g).cfg.enabled = true →
      (mapGet VoaGroup.dflt s.loops.groups g).cfg.pulse = false →
      (mapGet VoaGroup.dflt s.loops.groups g).formedAt ≠ some (s.now / 10000 * 10000) →
      exec (.trimInSample g uv) s = .next ((s.putGroup g { mapGet VoaGroup.dflt s.loops.groups g with
        formedAt := some (s.now / 10000 * 10000) }).groupValue g (min 255 (min uv 1200000 * 256 / 1200000)))) ∧
    (∀ pin ps, pin ≤ 3 →
      exec (.trimInPulseEdge pin false ps) s =
        .next (s.putTrim pin { mapGet TrimPin.dflt s.loops.trim pin with lastFall := some (s.up + ps / 100) })) ∧
    (∀ pin ps r f, pin ≤ 3 → (mapGet TrimPin.dflt s.loops.trim pin).lastRise = some r →
      (mapGet TrimPin.dflt s.loops.trim pin).lastFall = some f → r ≤ f →
      r + 100000 ≤ s.up + ps / 100 → s.up + ps / 100 ≤ r + 10000000 →
      exec (.trimInPulseEdge pin true ps) s =
        .next (s.putTrim pin { mapGet TrimPin.dflt s.loops.trim pin with
          lastRise := some (s.up + ps / 100), period := some (s.up + ps / 100 - r, f - r) })) ∧
    (∀ g, g < 8 → (mapGet VoaGroup.dflt s.loops.groups g).cfg.enabled = true →
      (mapGet VoaGroup.dflt s.loops.groups g).cfg.pulse = true → (mapGet VoaGroup.dflt s.loops.groups g).lost = false →
      (mapGet VoaGroup.dflt s.loops.groups g).lastValid + 20000000 ≤ s.up →
      exec (.voaGroupLost g) s =
        .next ((s.putGroup g { mapGet VoaGroup.dflt s.loops.groups g with lost := true, good := 0 }).raise 154))

/-- LOOP_CLEAR_FLAGS over a range completes; in each element of the range the flags named by the mask, but bit 12
(UNLOCKABLE), are cleared and every other field stands; every element outside the range is unchanged. The
premise that the tables are in canonical form is an invariant of the model (CanonicalFormIsKept). -/
def Obligations.ClearFlagsSparesUnlockable : Prop :=
  ∀ (s : State) (tag : Tag) (c : InFlight) (first count : Nat) (mask : BitVec 16),
    s.tidy → Waits s tag 0x0505 c → rangeOk first count 21504 = true →
    ∃ t, exec (.loopClearFlags tag first count mask) s = .next t ∧
      ∀ e, if first ≤ e ∧ e < first + count
        then (t.elem e).flags = (s.elem e).flags &&& ~~~(mask &&& 0xEFFF#16) ∧
          { t.elem e with flags := (s.elem e).flags } = s.elem e
        else t.elem e = s.elem e

/-- SHEAF_STAGE validates a sheaf whole: it is staged, or refused with the reason of the first check that it fails and
nothing changes; a part with MORE stays open. SHEAF_APPEND adds to an open sheaf and validates it at its last part. A
cancel of a staged sheaf, or of an armed one before its cut-off, ends it CANCELLED. SHEAF_SET_TIMING stores its leads.
STOOK_DEFINE stores a stook, STOOK_START runs it with its members on their instants, STOOK_STOP abandons what is left of
it, STOOK_DELETE removes it with its finished sheaves. -/
def Obligations.SheafCommandsTakeEffect : Prop :=
  (∀ (s : State) (tag : Tag) (c : InFlight),
    (∀ words, Waits s tag 0x0401 c → 8 ≤ words.length → partOk (words.drop 8) = true →
      let x : Sheaf := { readSheaf words with submitter := .mailbox }
      (formatOk words true = true → s.sheafReason x false = none →
        exec (.sheafStage tag false words) s = .next ((s.acceptSheaf x).answer c (Reply.ok [(x.id : Int), 0x0B, 0]))) ∧
      (∀ r, formatOk words true = true → s.sheafReason x false = some r →
        exec (.sheafStage tag false words) s = .next (s.answer c (Reply.ok [(x.id : Int), 0x0A, r]))) ∧
      (formatOk words true = false →
        exec (.sheafStage tag false words) s = .next (s.answer c (Reply.ok [(x.id : Int), 0x0A, 1]))) ∧
      (s.sheaves.opened.length < 16 → (∀ p ∈ s.sheaves.opened, p.1 ≠ x.id) →
        exec (.sheafStage tag true words) s =
          .next ({ s with sheaves.opened := s.sheaves.opened ++ [(x.id, words)] }.answer c (Reply.ok [x.id])))) ∧
    (∀ id p words, Waits s tag 0x0402 c → (s.sheaves.opened.find? fun p => p.1 = BitVec.toNat id) = some p →
      partOk words = true → p.2.length + words.length ≤ 21504 * 2 + 8 →
      let u : State := { s with sheaves.opened := s.sheaves.opened.filter (· ≠ p) }
      let x : Sheaf := { readSheaf (p.2 ++ words) with submitter := .mailbox }
      (formatOk (p.2 ++ words) true = true → u.sheafReason x false = none →
        exec (.sheafAppend tag id false words) s = .next ((u.acceptSheaf x).answer c (Reply.ok [(id.toNat : Int), 0x0B, 0]))) ∧
      (∀ r, formatOk (p.2 ++ words) true = true → u.sheafReason x false = some r →
        exec (.sheafAppend tag id false words) s = .next (u.answer c (Reply.ok [(id.toNat : Int), 0x0A, r]))) ∧
      (exec (.sheafAppend tag id true words) s =
        .next (({ u with sheaves.opened := u.sheaves.opened ++ [(p.1, p.2 ++ words)] } : State).answer c (Reply.ok [id.toNat])))) ∧
    (∀ id x, Waits s tag 0x0403 c → s.sheaf? (BitVec.toNat id) = some x →
      (x.phase = .staged ∨ x.pending = true ∧ s.pastCutoff x = false) →
      exec (.sheafCancel tag id) s = (s.failSheaf (BitVec.toNat id) 0x06 0).ok c) ∧
    (∀ arm prep, Waits s tag 0x0407 c → 20000 ≤ arm → arm ≤ 100000000 → 70000 ≤ prep → prep ≤ 10000000 →
      exec (.sheafSetTiming tag arm prep) s = { s with sheaves.armLead := arm, sheaves.prepLead := prep }.ok c)) ∧
  (∀ (s : State) (tag : Tag) (c : InFlight) (id : BitVec 16),
    (∀ name stop (members : List (List Word)) sig, Waits s tag 0x040C c → id ≠ 0 → members ≠ [] → members.length ≤ 256 →
      (∀ ws ∈ members, formatOk ws true = true) →
      let ms := byStep (members.map fun ws => { readSheaf ws with submitter := .stook id.toNat })
      let content := Config.payloadBytes 0x040C ([(id.toNat : Int), (name : BitVec 128).toNat, b2i stop] ++
        members.flatten.map fun w => (w.toNat : Int))
      (∀ x ∈ ms, x.rel = true ∧ x.stook = id.toNat) → stepsRise ms = true →
      (∀ k ∈ s.sheaves.stooks, k.id ≠ id.toNat) → s.sheaves.stooks.length < 64 →
      s.storeLoad.1 + ms.length ≤ 16384 → s.storeLoad.2 + (ms.map (·.changes.length)).sum ≤ 4194304 →
      s.axaroVerdict 1 content sig = .good →
      exec (.stookDefine tag id name stop members sig) s =
        { s with sheaves.stooks := s.sheaves.stooks ++ [({
            id := id.toNat, name := name, stop := stop, members := ms, sig := sig, content := content } : Stook)] }.ok c) ∧
    (∀ ts k t, Waits s tag 0x040D c → (s.sheaves.stooks.find? fun k => k.id = id.toNat) = some k → s.tb.stepped = true →
      s.stookRuns k.id = false → (s.sheaves.stooks.filter fun y => s.stookRuns y.id).length < 4 → s.axaroVerdict 1 k.content k.sig = .good →
      s.startMembers ts k.members = (t, none) →
      exec (.stookStart tag id ts) s =
        .next ({ t with sheaves.stooks := t.sheaves.stooks.map fun (y : Stook) =>
          if y.id = k.id then { y with running := true, ts := ts } else y }.answer c (Reply.ok [0x0B, 0, 0]))) ∧
    (∀ k ∈ s.sheaves.stooks, Waits s tag 0x040E c → k.id = id.toNat →
      exec (.stookStop tag id) s = (s.abandonStook id.toNat).ok c) ∧
    (∀ k, Waits s tag 0x0410 c → (s.sheaves.stooks.find? fun k => k.id = id.toNat) = some k → s.stookRuns k.id = false →
      exec (.stookDelete tag id) s =
        { s with sheaves.stooks := s.sheaves.stooks.filter (·.id ≠ k.id)
                 sheaves.store := s.sheaves.store.filter fun (x : Sheaf) => !(x.submitter = Submitter.stook k.id && x.phase = SheafPhase.done) }.ok c))

/-- SOLVE_CONNECT asks the route solver to add connections of idle fibres to the map at the instant, SOLVE_DISCONNECT to
release the outputs that it names and those that the inputs it names reach, SOLVE_PERMUTE to change every output that
differs from its target. A request that is dry, or whose answer is not OK, leaves the sheaf store and the element loops
as they were. The order of the firmware version among routes alike is a free value (log 10). -/
def Obligations.SolveCommandsAskTheSolver : Prop :=
  (∀ (s : State) (tag : Tag) (c : InFlight) (inst : Nat) (mv dry : Bool),
    let m := s.carriedAt inst
    (∀ pairs : List (Nat × Nat), Waits s tag 0x0408 c → 1 ≤ pairs.length → pairs.length ≤ 512 →
      hasDup (pairs.map (·.1)) = false → hasDup (pairs.map (·.2)) = false →
      (∀ p ∈ pairs, p.1 < 512 ∧ p.2 < 512 ∧ m.getD p.2 (none, none) = (none, none) ∧
        ∀ q ∈ m, q.1 ≠ some p.1 ∧ q.2 ≠ some p.1) →
      exec (.solveConnect tag inst mv dry pairs) s =
        let q := s.solveCommand { instant := inst, move := mv, adds := pairs } dry true
        .next (q.1.answer c q.2)) ∧
    (∀ ins outs : List Nat, Waits s tag 0x0409 c → ins.length + outs.length ≤ 512 → (∀ f ∈ ins ++ outs, f < 512) →
      ∃ release : List Nat,
        (∀ j, j ∈ release ↔ j < 512 ∧ (j ∈ outs ∨ ∃ i ∈ ins, (m.getD j (none, none)).1 = some i ∨ (m.getD j (none, none)).2 = some i)) ∧
        exec (.solveDisconnect tag inst mv dry ins outs) s =
          let q := s.solveCommand { instant := inst, move := mv, release := release } dry true
          .next (q.1.answer c q.2)) ∧
    (∀ target : List (Option Nat), Waits s tag 0x040A c → target.length = 512 →
      (∀ i, some i ∈ target → i < 512) → hasDup (target.filterMap id) = false →
      ∃ (adds : List (Nat × Nat)) (release : List Nat),
        (∀ i j, (i, j) ∈ adds ↔ target[j]? = some (some i) ∧ m.getD j (none, none) ≠ (some i, some i)) ∧
        (∀ j, j ∈ release ↔ target[j]? = some none ∧ m.getD j (none, none) ≠ (none, none)) ∧
        exec (.solvePermute tag inst mv dry target) s =
          let q := s.solveCommand { instant := inst, move := mv, adds := adds, release := release } dry true
          .next (q.1.answer c q.2))) ∧
  (∀ (s : State) (r : SolveReq) (dry : Bool),
    (dry = true ∨ (s.solveCommand r dry true).2.status ≠ .ok) →
      (s.solveCommand r dry true).1.sheaves.store = s.sheaves.store ∧
      (s.solveCommand r dry true).1.loops = s.loops) ∧
  (∀ (s : State) (r : SolveReq) (ok : Bool), s.inControl = false →
    ∀ dry, s.solveCommand r dry ok = (s, Reply.no .notPermitted))

/-- Arming takes a slot and computes the FF codes of the VOAs; the acknowledgement commits; a failed one is an event of
source 186; the cut-off ends a sheaf that is not committed as LATE; the instant of a committed sheaf outside HOLD whose
guard passes applies it; the slot is free 2 us after; the horizon ends it OK. A fabric command queue submits and cancels
as the mailbox does, with its completion. -/
def Obligations.SheafCourse : Prop :=
  (∀ (s : State) (id : BitVec 16) (x : Sheaf),
    (∀ j, s.nextToArm = some x → x.id = id.toNat → s.tb.stepped = true → (s.inControl = true ∨ x.mirrored = true) →
      x.instant ≤ s.now + s.sheaves.armLead → s.covered x = true → s.freeArmSlot = some j → s.listRoom x = true →
      exec (.sheafArmStart id) s =
        .next ({ s.modSheaf x.id (fun y => { y with
                   phase := .arming, slot := some j, changes := y.changes.map fun (k : Change) => { k with ff := s.voaFf k } }) with
                 sheaves.slots := s.sheaves.slots ++ [j] }.noticeFor x 1 0)) ∧
    (s.sheaf? id.toNat = some x → x.phase = .arming → s.pastCutoff x = false →
      exec (.sheafArmCommit id true) s = .next (s.modSheaf x.id fun y => { y with phase := .committed, armedAt := s.now })) ∧
    (s.sheaf? id.toNat = some x → x.phase = .arming → exec (.sheafArmCommit id false) s = .next (s.raise 186)) ∧
    (s.sheaf? id.toNat = some x → (x.phase = .staged ∨ x.phase = .arming) → s.tb.stepped = true → s.pastCutoff x = true →
      exec (.sheafCutoff id) s = .next (s.failSheaf x.id 0x02 0)) ∧
    (∀ faults, s.sheaf? id.toNat = some x → x.phase = .committed → s.reached x.instant = true → s.unit.mode ≠ .hold →
      (s.guardPasses x = true → exec (.sheafInstant id faults) s = .next ((s.launched x.instant).fire x faults)) ∧
      (s.guardPasses x = false → exec (.sheafInstant id faults) s = .next ((s.meets x).failSheaf x.id 0x04 0))) ∧
    (∀ slot u, (slot, u) ∈ s.sheaves.freeing → u < s.tb.run + s.tb.incr.toNat →
      exec (.armSlotFree slot) s =
        .next { s with
          sheaves.slots := s.sheaves.slots.filter (· ≠ slot)
          sheaves.freeing := s.sheaves.freeing.filter fun p => p.1 ≠ slot
          sheaves.store := s.sheaves.store.map fun (y : Sheaf) => if y.slot = some slot then { y with slot := none } else y }) ∧
    (∀ u, s.sheaf? id.toNat = some x → x.phase = .applied → x.firedAt = some u → x.excluded = [] →
      u + (10000 + x.dwell) * 2 ^ 32 < s.tb.run + s.tb.incr.toNat →
      exec (.sheafHorizon id) s = .next (s.outcome x.id 0x00 x.detail))) ∧
  (∀ (s : State) (q : Nat) (slot : Slot),
    (∀ words ack, s.fcqReady q 1 = some slot → slot.record = some words → ack = (byteAt slot.desc 13).getLsbD 0 →
      formatOk words true = true →
      let x : Sheaf := { readSheaf words with submitter := .fcq q slot.lastIdx.toNat }
      (s.sheafReason x false = none →
        exec (.fcqSubmit q ack words) s = .next ((s.acceptSheaf x).fcqRetire q slot
          (if ack then some (sheafCompletion x.id 0x0B 0 x.instant 0 0) else none))) ∧
      (∀ r, s.sheafReason x false = some r →
        exec (.fcqSubmit q ack words) s = .next (s.fcqRetire q slot (some (sheafCompletion x.id 0x0A r x.instant 0 0))))) ∧
    (∀ (id : BitVec 16) x, s.fcqReady q 2 = some slot → ofLe (slice slot.desc 14 2) = id.toNat →
      s.sheaf? id.toNat = some x → (x.phase = .staged ∨ x.pending = true ∧ s.pastCutoff x = false) →
      exec (.fcqCancel q id) s = .next ((s.failSheaf id.toNat 0x06 0).fcqRetire q slot
        (some (sheafCompletion id.toNat 0 0 0 0 0)))))

/-- In HOLD, from its entry on, the instant of an armed sheaf changes no element, gives its arm slot 2,000 ns more and ends
it with outcome 0x03 (HELD), whatever its guard window says. A sheaf that was applied before entry into HOLD completes at
its horizon as it does outside HOLD, and one whose instant lies before the entry is applied as outside HOLD. -/
def Obligations.HeldInstantChangesNoElement : Prop :=
  ∀ (s : State) (id : BitVec 16) (x : Sheaf), s.sheaf? id.toNat = some x → s.unit.mode = .hold →
    (∀ faults, x.phase = .committed → s.reached x.instant = true → s.power.holdFrame ≤ x.instant →
      ∃ t, exec (.sheafInstant id faults) s = .next t ∧ t.loops = s.loops ∧
        (∀ j, x.slot = some j → (j, s.runAt x.instant + 2000 * 2 ^ 32) ∈ t.sheaves.freeing) ∧
        ∃ y ∈ t.sheaves.store, y.id = x.id ∧ y.phase = .done ∧ y.outcome = 0x03 ∧ y.slot = x.slot ∧ y.changes = x.changes) ∧
    (∀ faults, x.phase = .committed → s.reached x.instant = true → x.instant < s.power.holdFrame → s.guardPasses x = true →
      exec (.sheafInstant id faults) s = .next ((s.launched x.instant).fire x faults)) ∧
    (∀ u, x.phase = .applied → x.firedAt = some u → x.excluded = [] →
      u + (10000 + x.dwell) * 2 ^ 32 < s.tb.run + s.tb.incr.toNat →
      exec (.sheafHorizon id) s = .next (s.outcome x.id 0x00 x.detail))

/-- CAL_SAVE starts a save; CAL_RECAL_ELEMENT visits each element of its range; CAL_SET_BACKGROUND and
CAL_SET_SPARE_POLICY store their settings; CAL_SUBSTITUTE starts the substitution of a loop cell or a block
where its spare is free; CAL_GET_ELEMENT and CAL_GET_SPARES answer OK and change nothing else. With stage code
NO_IMAGE each CAL command but CAL_GET_STATUS and CAL_GET_LOG is refused NOT_PERMITTED and changes nothing. -/
def Obligations.CalCommandsTakeEffect : Prop :=
  (∀ (s : State) (tag : Tag) (c : InFlight), s.noImage = false →
    (Asks s tag 0x0603 c → s.cal.saving = false → exec (.calSave tag) s = s.startSave.ok c) ∧
    (∀ first count, Waits s tag 0x0604 c → rangeOk first count 64 = true →
      (∀ x ∈ s.cal.subst, ∀ e ∈ List.range' first count, ¬(x.region = regionOf e ∧ x.block = blockOf e)) →
      exec (.calRecalElement tag first count) s =
        ((List.range' first count).foldl (fun t e => t.recalElement e) s).ok c) ∧
    (∀ en p, Waits s tag 0x0605 c → 1000 ≤ p → p ≤ 3600000 →
      exec (.calSetBackground tag en p) s = { s with cal.bgOn := en, cal.periodMs := p }.ok c) ∧
    (∀ p, Waits s tag 0x0606 c → SparePolicy.ok p = true →
      exec (.calSetSparePolicy tag p) s = { s with cal.policy := p }.ok c) ∧
    (∀ r b k, Waits s tag 0x0607 c → r ≤ 3 → b ≤ 15 → k ≤ 20 → s.cell21Used (s.location r b) = false →
      s.location r b ∉ s.cal.badCell21 →
      exec (.calSubstitute tag false r b k) s = (s.startSubst r b k false 4 0xFFFF 0).ok c) ∧
    (∀ r b k, Waits s tag 0x0607 c → r ≤ 3 → b ≤ 15 → k ≤ 20 → s.block16Used r = false → r ∉ s.cal.badBlock16 →
      exec (.calSubstitute tag true r b k) s = (s.startSubst r b 0 true 4 0xFFFF 0).ok c) ∧
    (∀ first count, Waits s tag 0x0602 c → rangeOk first count 64 = true → Reads (.calGetElement tag first count) s c) ∧
    (Asks s tag 0x0609 c → Reads (.calGetSpares tag) s c)) ∧
  (∀ (s : State) (tag : Tag) (c : InFlight), s.cal.stage = 0xF →
    (∀ f n, Waits s tag 0x0602 c → exec (.calGetElement tag f n) s = s.no c .notPermitted) ∧
    (Asks s tag 0x0603 c → exec (.calSave tag) s = s.no c .notPermitted) ∧
    (∀ f n, Waits s tag 0x0604 c → exec (.calRecalElement tag f n) s = s.no c .notPermitted) ∧
    (∀ en p, Waits s tag 0x0605 c → exec (.calSetBackground tag en p) s = s.no c .notPermitted) ∧
    (∀ p, Waits s tag 0x0606 c → exec (.calSetSparePolicy tag p) s = s.no c .notPermitted) ∧
    (∀ w r b k, Waits s tag 0x0607 c → exec (.calSubstitute tag w r b k) s = s.no c .notPermitted) ∧
    (Asks s tag 0x0609 c → exec (.calGetSpares tag) s = s.no c .notPermitted))

/-- The automatic save, the end of a save (the copies exchange their roles, or source 148 has an event), the stages
of start-up, the writes of the spare map and of the log, the thresholds and proofs of spares, the switches to a
spare cell or block, the row repair, the bandgap comparison, the temperature sample, the exchange of a delay
line and the background visit each have the effect that the manual gives. -/
def Obligations.CalibrationAndSpareEvents : Prop :=
  (∀ s : State,
    (s.cal.changed = true → s.cal.lastSave + 864000000000000 ≤ s.up → s.unit.mode ≠ .hold → s.cal.saving = false →
      exec .calAutoSave s = .next s.startSave) ∧
    (s.cal.saving = true → ∃ t, exec (.calSaveComplete true) s = .next t ∧ t.cal.saving = false ∧
      t.cal.inUse = !s.cal.inUse ∧ t.cal.copy.seq = s.cal.copy.seq + 1 ∧
      t.cal.copy.valid t.cal.copy.serial t.cal.copy.phoRev = true ∧
      t.cal.copy.els = (if s.cal.inUse then s.cal.copy0 else s.cal.copy1).els) ∧
    (s.cal.saving = true → exec (.calSaveComplete false) s = .next ({ s with cal.saving := false }.raise 148)) ∧
    (s.unit.mode = .calibrate → s.cal.stage = 1 → exec .calStageComplete s = .next s.calLoad) ∧
    (s.unit.mode = .calibrate → s.cal.stage = 4 → s.power.dark = true ∨ s.handedOver = true →
      exec .calStageComplete s = .next s.elementsStage) ∧
    (s.unit.mode = .calibrate → s.cal.stage = 5 → s.unit.waiting = none → s.handedOver = true →
      exec .calStageComplete s = .next s.roleDecision) ∧
    exec .spareMapWrite s = .next { s with cal.mapFlash := s.cal.map, cal.failedFlash := s.fabric.failed } ∧
    (∀ x rest, s.cal.logPend = x :: rest →
      exec .logEntryWrite s = .next { s with cal.log := (x :: s.cal.log).take 4096, cal.logPend := rest })) ∧
  (∀ s : State,
    (∀ r b k, r ≤ 3 → b ≤ 15 → k ≤ 20 → s.thresholdMet (.loopCell r b k) = true → s.cal.subst = [] → s.cal.lost = [] →
      exec (.spareThresholdMet (.loopCell r b k)) s = .next (s.wantCell r b k 1 (s.location r b)
        (s.partCount (.loopCell r b k) (s.cal.policy.cellWindowMin * 600000000000)))) ∧
    (∀ r b, r ≤ 3 → b ≤ 15 → s.cell21Used (blockSource r b) = false →
      exec (.spareProof r b true) s =
        .next { s with cal.badCell21 := s.cal.badCell21.filter (· ≠ blockSource r b) }) ∧
    (∀ r, r ≤ 3 → s.block16Used r = false →
      exec (.spareProof r 16 true) s = .next { s with cal.badBlock16 := s.cal.badBlock16.filter (· ≠ r) }) ∧
    (∀ r, r ≤ 3 → s.block16Used r = true → s.cell21Used (blockSource r 16) = false →
      exec (.spareProof r 16 true) s =
        .next { s with cal.badCell21 := s.cal.badCell21.filter (· ≠ blockSource r 16) }) ∧
    (∀ r b k x, (s.cal.subst.find? fun x =>
        x.region = r && x.block = b && x.cell = k && !x.whole && decide (x.switchAt ≤ s.now)) = some x →
      ∃ t, exec (.loopCellSwitch r b k true) s = .next t ∧ t.cal.subst = s.cal.subst.filter (· ≠ x) ∧
        t.cal.map = { s.cal.map with cellSub := mapSet 0 s.cal.map.cellSub (s.location r b) (k + 1) }) ∧
    (∀ r b x, (s.cal.subst.find? fun x =>
        x.region = r && x.block = b && x.whole && decide (x.switchAt ≤ s.now)) = some x →
      ∃ t, exec (.blockSwitch r b true) s = .next t ∧ t.cal.subst = s.cal.subst.filter (· ≠ x) ∧
        t.cal.map = { s.cal.map with blockSub := mapSet 0 s.cal.map.blockSub r (b + 1) }) ∧
    (∀ i r, s.thresholdMet (.row i r) = true → i < numMemories → (mapGet [] s.cal.map.rows i).length < 16 →
      ∃ t, exec (.rowRepair i r) s = .next t ∧
        t.cal.map = { s.cal.map with rows := mapSet [] s.cal.map.rows i (mapGet [] s.cal.map.rows i ++ [r]) }) ∧
    (∀ a b d, s.periodDue s.cal.bandgapAt 1000000000 = true → s.cal.bandgapLost = false → s.cal.map.bandgap = none →
      within a b = false → within b a = false → within b d = false → within d b = false → within a d = false → within d a = false →
      exec (.bandgapCheck a b d) s = .next ({ s with cal.bandgapAt := some s.up, cal.bandgapLost := true }.raise 147)) ∧
    (∀ j, j ≤ 1100 → s.periodDue s.cal.tempAt 100000000 = true →
      exec (.temperatureSample j []) s =
        .next ({ s with cal.junction := j, cal.diodes := [], cal.tempAt := some s.up } : State).smbUpdate) ∧
    (∀ line, line < numLines → s.periodDue (mapGet none s.cal.exchangedAt line) 100000000 = true →
      let s1 : State := { s with cal.exchangedAt := mapSet none s.cal.exchangedAt line (some s.up) }
      let serves := mapGet false s.cal.twin line
      (line ∉ s.cal.alone → (s.measured 26 line).natAbs % 2 = 0 → exec (.delayLineExchange line false) s =
        .next ({ s1.retable line (!serves) with cal.twin := mapSet false s.cal.twin line (!serves) } : State).drawn) ∧
      (line ∉ s.cal.alone → (s.measured 26 line).natAbs % 2 = 1 →
        exec (.delayLineExchange line false) s = .next (s1.lineFallback line).drawn) ∧
      (line ∈ s.cal.alone → exec (.delayLineExchange line false) s = .next (s1.retable line serves).drawn)) ∧
    (∀ r b, r ≤ 3 → b ≤ 15 → s.unit.mode = .active → s.cal.bgOn = true → s.cal.subst = [] → s.visitDue (r * 16 + b) = true →
      mapGet 0 s.cal.rotation (r * 16 + b) < 336 →
      let e := elementAt r b 0 0 + mapGet 0 s.cal.rotation (r * 16 + b)
      let s1 : State := { s with
        cal.rotation := mapSet 0 s.cal.rotation (r * 16 + b) (mapGet 0 s.cal.rotation (r * 16 + b) + 1)
        cal.visitAt := mapSet none s.cal.visitAt (r * 16 + b) (some s.up) }
      (s.visitBlocked e = true → s1.cal.rotated = false → exec (.backgroundVisit r b) s = .next s1) ∧
      (s.visitBlocked e = false → (s1.visit e).cal.rotated = false → exec (.backgroundVisit r b) s = .next (s1.visit e)) ∧
      (s.visitBlocked e = false → (s1.visit e).cal.rotated = true → exec (.backgroundVisit r b) s =
        .next { s1.visit e with
          cal.rotation := [], cal.globalCount := ((s1.visit e).cal.globalCount + 1) % 2 ^ 32
          cal.globalTime := (s1.visit e).steppedTime })))

/-- PORT_SET_MODE, PORT_SET_PAUSE, PORT_SET_FILTER, PORT_SET_LPI and PORT_SET_SPARES store what they carry where it
lies in range and there is headroom, PORT_GET_STATS returns the counters and clears them, PORT_SUBST_LANE starts
a lane substitution. -/
def Obligations.PortCommandsTakeEffect : Prop :=
  ∀ (s : State) (tag : Tag) (c : InFlight) (port : Nat), port ≤ 3 →
    (∀ cfg, Waits s tag 0x0702 c → lineOk cfg.mode cfg.fec cfg.clause37 = true → cfg.maxLen ≠ 3 → cfg.badq ≤ 63 →
      headroomOk cfg.mode cfg.maxLen (s.prt port).pauseNext = true → (s.prt port).subst = none →
      exec (.portSetMode tag port cfg) s =
        ((if ((s.prt port).cfg.mode ≠ cfg.mode ∨ (s.prt port).cfg.fec ≠ cfg.fec) ∧ (s.prt port).up = true then s.linkDown port false
          else s).modPort port fun x => { x with
            cfg := cfg, addressSet := true
            maxLenWas := if x.cfg.maxLen = cfg.maxLen then x.maxLenWas else some (s.up, x.cfg.maxLen) }).ok c) ∧
    (∀ cfg, Waits s tag 0x0704 c → PauseCfg.ok cfg = true →
      headroomOk (s.prt port).cfg.mode (s.prt port).cfg.maxLen cfg = true →
      ((([0, 1, 2, 3] : List Nat).filter (· ≠ port)).map fun p => (s.prt p).pauseNext.share).sum + cfg.share ≤ 10485760 →
      exec (.portSetPause tag port cfg) s =
        (let s1 := s.modPort port fun x => { x with
          pausePend := some cfg
          pause := if cfg.share < s.occupancy port then { x.pause with share := cfg.share } else x.pause }
        if (s.prt port).wire.isSome then s1 else s1.applyPortPend port).ok c) ∧
    (∀ first entries, Waits s tag 0x0705 c → 1 ≤ entries.length → entries.length ≤ 16 → first + entries.length ≤ 256 →
      (∀ e ∈ entries, filterOk e = true) →
      exec (.portSetFilter tag first entries) s =
        { s with ports.filters := mapSetList filterDflt s.ports.filters first (entries.map filterKept)
                 ports.hits := mapSetList 0 s.ports.hits first (entries.map fun _ => 0) }.ok c) ∧
    (∀ m idle, Waits s tag 0x0707 c → m ≤ 2 → (m = 0 ∨ (lpiTimes (s.prt port).cfg.mode (s.prt port).cfg.fec).isSome = true) →
      10000 ≤ idle → idle ≤ 100000000 →
      exec (.portSetLpi tag port m idle) s =
        (let s1 := s.modPort port fun x => { x with lpiPend := some (m, idle) }
        if (s.prt port).wire.isSome then s1 else s1.applyPortPend port).ok c) ∧
    (Waits s tag 0x0708 c →
      exec (.portGetStats tag (some port)) s =
        .next (((s.fecCounts port).modPort port fun x => { x with ctr := [] }).answer c
          (Reply.ok (counterFields ((s.fecCounts port).prt port).ctr ++ [(s.now : Int)])))) ∧
    (∀ m0 m1, Waits s tag 0x070A c → s.spareKept 1 m0 = true → s.spareKept 2 m1 = true →
      exec (.portSetSpares tag m0 m1) s = ({ s with ports.mask0 := m0, ports.mask1 := m1 } : State).checkDegraded.ok c) ∧
    (∀ k, Waits s tag 0x070B c → (s.prt port).subst = none → s.spareFor port = some k →
      exec (.portSubstLane tag port) s = (s.startLane port k 4 false).ok c)

/-- A frame received on a port that is up is stored or dropped by the rules of reception; an mPacket goes to
reassembly while preemption is enabled; a link comes up or goes down; the loss of lock of a lane is an event of
its link source and starts a substitution; the lane switches; the history moves on once a second. -/
def Obligations.LinkAndLaneEvents : Prop :=
  ∀ (s : State) (port : Nat), port ≤ 3 →
    (∀ frame ps, (s.prt port).up = true → exec (.frameReceived port frame ps) s =
      .next (s.receive port frame (s.ingressStamp port ps) ((s.prt port).maxLenAt (s.upPs + ps)))) ∧
    (∀ m, (s.prt port).up = true → (s.gate port).cfg.enable = true →
      exec (.mpacketReceived port m) s = .next (s.mpacket port m)) ∧
    ((s.prt port).up = false → (s.prt port).cfg.mode ≠ 0 → (s.prt port).lane ∉ (s.prt port).dead → (s.prt port).subst = none →
      s.power.sleep ≠ .shutdown →
      exec (.portLinkUp port) s = .next ((s.modPort port fun x => { x with
        up := true, localFault := false, remoteFault := false, idleSince := s.up }).modGate port (GatePort.unverified s.up)).checkDegraded) ∧
    (∀ remote, exec (.portLinkDown port remote) s = .next (s.linkDown port remote)) ∧
    (∀ k, (s.prt port).cfg.mode ≠ 0 → (s.prt port).subst = none → s.spareFor port = some k →
      ((s.prt port).up = true → exec (.laneLossOfLock port) s = .next ((s.linkDown port false).startLane port k 2 true)) ∧
      ((s.prt port).up = false →
        exec (.laneLossOfLock port) s = .next (((s.linkDown port false).raise (156 + port)).startLane port k 2 true))) ∧
    (∀ x, (s.prt port).subst = some x → x.switched = false → x.t2 = none → x.cause = 2 →
      ∃ t, exec (.laneSwitch port) s = .next t ∧
        t.cal.map.lanes = s.cal.map.lanes ++ [(port, x.lane)]) ∧
    (s.functionUp = true → s.periodDue (some (s.ports.historyAt.getD s.power.releasedAt)) 10000000000 = true →
      exec .statsHistoryTick s = .next (([0, 1, 2, 3] : List Nat).foldl (fun (t : State) p =>
        (t.fecCounts p).modPort p fun x => { x with history := (x.tick :: x.history).take 900, tick := [] })
        { s with ports.historyAt := some s.up }))

/-- PORT_SUBST_LANE is refused IN_USE when no spare lane is left. The spare lane that a substitution takes is one of
the two, its mask has the port, and no port uses it, has given it up as dead or is changing to it. -/
def Obligations.SpareLaneServesOnePort : Prop :=
  ∀ (s : State) (tag : Tag) (c : InFlight) (port : Nat), Waits s tag 0x070B c → port ≤ 3 →
    (s.prt port).subst = none →
    (s.spareFor port = none → exec (.portSubstLane tag port) s = s.no c .inUse) ∧
    (∀ k, s.spareFor port = some k → (k = 1 ∨ k = 2) ∧ (s.spareMask k).getLsbD port = true ∧
      ∀ p ∈ s.ports.port, p.2.lane ≠ k ∧ k ∉ p.2.dead ∧ ∀ x ∈ p.2.subst, x.lane ≠ k)

/-- A port that is down discards what is queued; one that is up and free selects its next frame; a frame that has
left is counted and completed, and then pending settings apply; a due gate entry applies; hold is asserted ahead
of a SET_HOLD; the verify timer sends a verify mPacket, up to three times, and then fails. -/
def Obligations.TransmitEvents : Prop :=
  ∀ (s : State) (port : Nat), port ≤ 3 →
    ((s.prt port).up = false → s.holdsFrames port = false →
      exec (.txSelect port) s = .next (s.discardQueued port 34 1)) ∧
    ((s.prt port).up = false → s.holdsFrames port = true → exec (.txSelect port) s = .next s) ∧
    ((s.prt port).up = true → (s.prt port).txAsleep = false → (s.prt port).wakeEnd = none → (s.prt port).wire = none →
      (s.prt port).freeAt ≤ s.upPs → (s.prt port).subst = none →
      exec (.txSelect port) s = .next (((s.applyPortPend port).dropTooLong port
        ((((s.applyPortPend port).prt port).classes.map (·.2.length)).sum)).choose port)) ∧
    (∀ w, (s.prt port).wire = some w → w.sent = 0 → w.frame.gptp = none →
      w.start + (8 + w.frame.bytes.length) * byteTime (s.prt port).cfg.mode ≤ s.upPs →
      ∃ t, exec (.txFrameDone port) s = .next t ∧
        t = ((((((s.modPort port fun x => { x with
            wire := none, idleSince := s.up
            freeAt := w.start + (8 + w.frame.bytes.length) * byteTime (s.prt port).cfg.mode + 12 * byteTime (s.prt port).cfg.mode }).emit
          (.frame port w.frame.tc w.frame.bytes)).countSent port w.frame.bytes).copyDone w.frame.owner port 0 (some w.stamp)).applyPortPend
            port).pauseChecks)) ∧
    (∀ o e, s.nextGateEvent port = some (o, e) → s.reached (s.tb.start + o) = true →
      exec (.gateEvent port) s =
        .next ((((s.launched (s.tb.start + o)).applyEntry port e).modGate port fun g => { g with done := g.done + 1 }).preempt port)) ∧
    (∀ q, s.preemptive port = true → (s.gate port).hold = false →
      ((s.gateTimeline port).find? fun q => q.2.op = 1) = some q → s.reached (q.1 - s.holdAdvance port) = true →
      exec (.gateHoldAssert port) s =
        .next (((s.modGate port fun g => { g with hold := true }).count port 53 1).preempt port)) ∧
    ((s.prt port).up = true → (s.gate port).cfg.enable = true → (s.gate port).cfg.verifyEn = true →
      (s.gate port).succeeded = false → (s.gate port).failed = false → (s.gate port).verifyAt ≤ s.up →
      (s.prt port).txAsleep = false → (s.prt port).wakeEnd = none →
      ((s.gate port).tries < 3 → exec (.verifyTimer port) s =
        .next (((s.modGate port fun g => { g with
          verifying := true, tries := g.tries + 1, verifyAt := s.up + g.cfg.verifyTimeMs * 10000000 }).emit (.mpacket port false)).count port 54 1)) ∧
      (3 ≤ (s.gate port).tries → exec (.verifyTimer port) s =
        .next ((s.modGate port fun g => { g with verifying := false, failed := true }).raise (160 + port))))

/-- A pause frame stops the port for its quanta; its end resumes transmission; the refresh repeats the device's own
pause; both watchdogs trip once, count and are events; the re-arm ends the trip. A port enters low-power idle
after its idle time or before a long closed window, wakes, and counts the peer's. -/
def Obligations.PauseAndLowPowerIdle : Prop :=
  (∀ (s : State) (port : Nat), port ≤ 3 →
    (∀ q, (s.prt port).up = true → exec (.rxPause port q) s = .next ((s.countGood64 port).rxPause port q.toNat)) ∧
    (∀ e, (s.prt port).rxPauseEnd = some e → e ≤ s.up → exec (.pauseExpiry port) s = .next (s.resumePause port)) ∧
    ((s.prt port).pause.generate = true → (s.prt port).ownPauseSince.isSome = true → (s.prt port).marks.2 ≤ s.occupancy port →
      (s.prt port).pauseDue = none →
      (s.prt port).lastPauseAt + (s.prt port).pause.pq / 2 * quantumPs (s.prt port).cfg.mode / 100 ≤ s.up →
      exec (.pauseRefresh port) s =
        .next (s.modPort port fun x => { x with pauseDue := some (s.prt port).pause.pq, lastPauseAt := s.up })) ∧
    ((s.prt port).rxPauseEnd.isSome = true → (s.prt port).rxpTripped = false →
      (s.prt port).rxPauseSince + (s.prt port).pause.rxpWdMs * 10000000 < s.up →
      exec (.rxpWatchdog port) s =
        .next ((((s.resumePause port).modPort port fun x => { x with rxpTripped := true }).count port 36 1).raise (160 + port))) ∧
    ((s.prt port).rxpTripped = true → (s.prt port).lastRxPauseAt + (s.prt port).pause.rearmMs * 10000000 ≤ s.up →
      exec (.rearmExpiry port) s = .next (s.modPort port fun x => { x with rxpTripped := false })) ∧
    (∀ t, (s.prt port).ownPauseSince = some t → t + (s.prt port).pause.txpWdMs * 10000000 < s.up →
      exec (.txpWatchdog port) s =
        .next (((s.modPort port fun x => { x with ownPauseSince := none, txpTripped := true, pauseDue := some 0 }).count port 37 1).raise
          (160 + port)))) ∧
  (∀ (s : State) (port : Nat), port ≤ 3 → (s.prt port).up = true →
    ((s.prt port).lpiMode = 1 → (lpiTimes (s.prt port).cfg.mode (s.prt port).cfg.fec).isSome = true →
      (s.prt port).txAsleep = false → (s.prt port).wakeEnd = none → s.pathIdle port = true → (s.prt port).classes = [] →
      (s.prt port).idleSince + (s.prt port).idleNs * 10 ≤ s.up →
      exec (.lpiIdleTimeout port) s = .next (s.sleepTx port)) ∧
    (∀ sl wk q rest, (s.prt port).lpiMode = 2 → (s.gate port).list = .running → (s.prt port).txAsleep = false →
      (s.prt port).wakeEnd = none → s.pathIdle port = true →
      (∀ k < 8, (s.gate port).gates.getLsbD k = true → (s.prt port).head k = none) →
      lpiTimes (s.prt port).cfg.mode (s.prt port).cfg.fec = some (sl, wk) → s.gateTimeline port = q :: rest →
      s.now + sl + wk + 2000 ≤ q.1 →
      exec (.lpiSleepEntry port) s = .next (s.sleepTx port)) ∧
    ((s.prt port).txAsleep = true → s.wantsWake port = true → (s.prt port).cfg.mode = 2 → (s.prt port).lpiMode = 1 →
      exec (.lpiWake port true) s =
        .next ((((((s.modPort port fun x => { x with txAsleep := false }).count port 39 ((s.up - (s.prt port).asleepSince) / 10000)).modPort
          port fun x => { x with wakeEnd := some (s.up + 165000) }).emit (.lpi port false)).count port 40 0))) ∧
    (∀ e b, (s.prt port).txAsleep = false → (s.prt port).wakeEnd = some e → e ≤ s.up → (s.gate port).respondDue = false →
      exec (.lpiWake port b) s = .next (s.modPort port fun x => { x with wakeEnd := none, idleSince := s.up })) ∧
    ((s.prt port).rxLpi = false →
      exec (.receivedLpi port true) s = .next ((s.modPort port fun x => { x with rxLpi := true }).count port 41 1)) ∧
    exec (.receivedLpi port false) s = .next (s.modPort port fun x => { x with rxLpi := false }))

/-- GATE_SET_CONFIG stores its settings, GATE_SET_ADMIN writes the admin bank, GATE_COMMIT and GATE_DISABLE take a
change time on a cycle boundary at least 1 ms ahead, GATE_CANCEL_COMMIT withdraws a pending commit up to 100 us
before it. -/
def Obligations.GateCommandsTakeEffect : Prop :=
  ∀ (s : State) (tag : Tag) (c : InFlight) (port : Nat), port ≤ 3 →
    (∀ cfg, Waits s tag 0x0802 c → GateCfg.offends cfg = none → exec (.gateSetConfig tag port cfg) s =
      (let s1 := s.modGate port fun g => { g with cfgPend := some cfg }
      if (s.prt port).wire.isSome then s1 else s1.applyPortPend port).ok c) ∧
    (∀ start n lct lt es, Waits s tag 0x0803 c → es.length ≤ 480 → start + es.length ≤ 1024 → (∀ q ∈ (s.gate port).pend, q.2 = true) →
      exec (.gateSetAdmin tag port start n lct lt es) s =
        (s.modGate port (GatePort.setAdmin (Bank.write start n lct lt es))).ok c) ∧
    (∀ ct sig, Waits s tag 0x0805 c → s.tb.stepped = true → s.changeOk (s.arrivalOf tag) ct = true →
      (s.gate port).admin.broken (s.cycleAt ct).2 (s.gate port).cfg.guardSafe = none →
      s.axaroVerdict 2 (gateContent port (s.gate port).admin) sig = .good →
      exec (.gateCommit tag port ct sig) s = (s.modGate port fun g => { g with pend := some (ct, false) }).ok c) ∧
    (∀ ct : Nat, Waits s tag 0x0806 c → (s.gate port).pend = some (ct, false) → (s.now : Int) + 100000 ≤ (ct : Int) + s.tb.shiftS →
      exec (.gateCancelCommit tag port) s = (s.modGate port fun g => { g with pend := none }).ok c) ∧
    (∀ ct, Waits s tag 0x0807 c → s.tb.stepped = true → s.changeOk (s.arrivalOf tag) ct = true →
      exec (.gateDisable tag port ct) s = (s.modGate port fun g => { g with pend := some (ct, true) }).ok c)

/-- Whatever its operands, GATE_COMMIT completes and leaves the oper list, the gate states and the list state of
every port as they were; GATE_CANCEL_COMMIT within 100 us of the change time is refused TOO_LATE. The premise is
the canonical form of the tables (CanonicalFormIsKept). -/
def Obligations.CommitLeavesOperList : Prop :=
  ∀ (s : State) (tag : Tag) (c : InFlight) (port : Nat), s.tidy →
    (∀ ct sig, Waits s tag 0x0805 c → ∃ t, exec (.gateCommit tag port ct sig) s = .next t ∧ ∀ p,
      (t.gate p).oper = (s.gate p).oper ∧ (t.gate p).gates = (s.gate p).gates ∧ (t.gate p).list = (s.gate p).list) ∧
    (∀ at_ : Nat, Waits s tag 0x0806 c → port ≤ 3 → (s.gate port).pend = some (at_, false) →
      (at_ : Int) + s.tb.shiftS < (s.now : Int) + 100000 → exec (.gateCancelCommit tag port) s = s.no c .tooLate)

/-- TIME_REANCHOR on a device that has stepped, with no step waiting for its tick, completes, and afterwards no port has a
pending commit or a pending disable. -/
def Obligations.ReanchorCancelsCommits : Prop :=
  ∀ (s : State) (tag : Tag) (c : InFlight) (time : BitVec 64) (frac : BitVec 32), Waits s tag 0x0203 c →
    s.tb.stepped = true → s.tb.load = none → s.tb.reanchorTag = none →
    ∃ t, exec (.timeReanchor tag time frac) s = .next t ∧ ∀ port, (t.gate port).pend = none

/-- STREAM_SET replaces entries whole, STREAM_GET_STATS returns and clears counters, STREAM_RESET_RECOVERY lets each
entry take any number again, STREAM_SET_COVER enables a cover set, PENDING before its window and OPEN in it, or
disables it, STREAM_CLEAR_LATENT clears LATENT. The reset timer acts on the tick after its expiry (log 22), the
latent-error test and the opening and closing of cover windows when due. -/
def Obligations.StreamCommandsAndTimers : Prop :=
  (∀ (s : State) (tag : Tag) (c : InFlight) (first count : Nat),
    (∀ entries, Waits s tag 0x0902 c → s.inControl = true → 1 ≤ entries.length → entries.length ≤ 16 →
      first + entries.length ≤ 1024 → (∀ e ∈ entries, s.entryOffends e = none) →
      exec (.streamSet tag first entries) s =
        (entries.zipIdx.foldl (fun (t : State) p => t.modStream (first + p.2) (Stream.replaced s.up p.1)) s).ok c) ∧
    (Waits s tag 0x0904 c → 1 ≤ count → count ≤ 16 → first + count ≤ 1024 →
      exec (.streamGetStats tag first count) s =
        .next ({ (List.range count).foldl (fun (t : State) i => t.modStream (first + i) fun x => { x with ctr := [] }) s with
            streams.noEntry := 0 }.answer c
          (Reply.ok ((mapRead Stream.dflt s.streams.table first count).flatMap streamCounters ++ [(s.streams.noEntry : Int), s.now])))) ∧
    (Waits s tag 0x0905 c → first + count ≤ 1024 →
      exec (.streamResetRecovery tag first count) s =
        ((List.range count).foldl (fun (t : State) i => t.modStream (first + i) Stream.takeAgain) s).ok c) ∧
    (∀ set w0 w1, Waits s tag 0x0906 c → s.inControl = true → 1 ≤ set → set ≤ 255 → s.coverUsed set = false →
      ((mapGet Cover.dflt s.streams.covers set).enable = false → w0 < w1 → w1 ≤ w0 + 100000000 → s.arrivalOf tag < w1 →
        (s.now < w0 → exec (.streamSetCover tag set true w0 w1) s =
          (s.putCover set { enable := true, wStart := w0, wEnd := w1, state := .pending }).ok c) ∧
        (w0 ≤ s.now → exec (.streamSetCover tag set true w0 w1) s =
          ((s.putCover set { enable := true, wStart := w0, wEnd := w1, state := .opened }).spoil set).ok c)) ∧
      ((mapGet Cover.dflt s.streams.covers set).enable = true → exec (.streamSetCover tag set false w0 w1) s =
        (s.putCover set { mapGet Cover.dflt s.streams.covers set with enable := false, state := .off }).ok c)) ∧
    (Waits s tag 0x0908 c → first + count ≤ 1024 →
      exec (.streamClearLatent tag first count) s =
        ((List.range count).foldl (fun (t : State) i => t.modStream (first + i) fun x => { x with latent := false }) s).ok c)) ∧
  (∀ (s : State) (n : Nat),
    (∀ t, (s.stream n).timer = some t → (s.stream n).valid = true → (s.stream n).rcvyEn = true →
      t + (s.stream n).resetMs * 10000000 + 64 ≤ s.up → s.coverOpen (s.stream n) s.now = false →
      exec (.recoveryResetTimer n) s = .next (s.modStream n fun x => x.takeAgain.count 6 1)) ∧
    ((s.stream n).valid = true → (s.stream n).ledPaths ≠ 0 → (s.stream n).ledStart + (s.stream n).ledPeriod * 10000000 ≤ s.up →
      (s.stream n).ledSpoilt = false → s.coverOverlaps (s.stream n) = false →
      (s.stream n).ledDiscarded + (s.stream n).ledDiff < (s.stream n).ledPassed * ((s.stream n).ledPaths - 1) →
      exec (.latentPeriod n) s = .next ((((s.modStream n fun x =>
          { x with ledStart := s.up, ledPassed := 0, ledDiscarded := 0, ledSpoilt := false }).modStream n fun x =>
          { x with latent := true }).countStream n 7 1).raise 164)) ∧
    (∀ k : Cover, mapGet Cover.dflt s.streams.covers n = k → k.enable = true → k.state = .pending → k.wStart ≤ s.now →
      exec (.coverWindowStart n) s =
        .next ({ s with streams.covers := mapSet Cover.dflt s.streams.covers n { k with state := .opened } }.spoil n)) ∧
    (∀ k : Cover, mapGet Cover.dflt s.streams.covers n = k → k.enable = true → (k.state = .opened ∨ k.state = .pending) →
      k.wEnd ≤ s.now →
      exec (.coverWindowEnd n) s =
        .next ((s.putCover n { k with state := .closed, hits := k.lost.length }).spoil n)))

/-- Each of the Thresher's instructions, on a thread that may execute, changes its registers, key, flags, marks,
window and program counter as the manual says, counts as one executed instruction, and leaves everything else. -/
def Obligations.ThresherInstructions : Prop :=
  (∀ (s : State) (n : Nat) (t : Thread) (w : Word) (bs : List Byte),
    let d := t.x.getD (fld w 25 23) 0
    let o := if bit w 19 then w.setWidth 16 else t.x.getD (fld w 22 20) 0
    (Runs s n 0x01 t w bs → exec (.thMov n) s = s.threadIs n (t.wrote w o)) ∧
    (Runs s n 0x02 t w bs → exec (.thAdd n) s = s.threadIs n (t.wrote w (d + o))) ∧
    (Runs s n 0x03 t w bs → exec (.thSub n) s = s.threadIs n (t.wrote w (d - o))) ∧
    (Runs s n 0x04 t w bs → exec (.thAnd n) s = s.threadIs n (t.wrote w (d &&& o))) ∧
    (Runs s n 0x05 t w bs → exec (.thOr n) s = s.threadIs n (t.wrote w (d ||| o))) ∧
    (Runs s n 0x06 t w bs → exec (.thShl n) s = s.threadIs n (t.wrote w (d <<< (o.toNat % 16)))) ∧
    (Runs s n 0x07 t w bs → exec (.thShr n) s = s.threadIs n (t.wrote w (d >>> (o.toNat % 16)))) ∧
    (Runs s n 0x08 t w bs → exec (.thCmp n) s = s.threadIs n
      { t with z := decide (d = o), lt := decide (d.toNat < o.toNat), executed := t.executed + 1, pc := (t.pc + 1) % 4096 })) ∧
  (∀ (s : State) (n : Nat) (t : Thread) (w : Word) (bs : List Byte),
    let off := t.cur + fld w 15 8
    (Runs s n 0x10 t w bs → off + 1 ≤ 256 → exec (.thLdb n) s = s.threadIs n
      ((t.short bs off 1).wrote w ((byteAt bs (t.wbase + off)).setWidth 16))) ∧
    (Runs s n 0x10 t w bs → 256 < off + 1 → exec (.thLdb n) s = .next (s.endPass n t .depth)) ∧
    (Runs s n 0x11 t w bs → off + 2 ≤ 256 → exec (.thLdh n) s = s.threadIs n
      ((t.short bs off 2).wrote w (byteAt bs (t.wbase + off) ++ byteAt bs (t.wbase + off + 1)))) ∧
    (Runs s n 0x12 t w bs → exec (.thLdm n) s = s.threadIs n (t.wrote w (t.item bs (fld w 7 0)))) ∧
    (Runs s n 0x18 t w bs → off + (fld w 19 16 + 1) ≤ 256 → exec (.thKld n) s = s.threadIs n
      (((t.short bs off (fld w 19 16 + 1)).setKey (fld w 25 20) (t.read bs off (fld w 19 16 + 1))).next)) ∧
    (Runs s n 0x19 t w bs → exec (.thKmov n) s = s.threadIs n
      ((t.setKey (fld w 25 20) (be16Bytes (t.reg (fld w 18 16)).toNat)).next)) ∧
    (Runs s n 0x20 t w bs → exec (.thBr n) s = s.threadIs n
      { t with executed := t.executed + 1, pc := if t.holds (fld w 25 23) then fld w 11 0 else (t.pc + 1) % 4096 }) ∧
    (∀ t', Runs s n 0x28 t w bs → t.hdr bs w = (t', none) → exec (.thHdr n) s = s.threadIs n t' ∧
      t'.headers = t.headers + 1 ∧ t'.stack = (fld w 25 20, t.wbase + t.cur) :: t.stack) ∧
    (Runs s n 0x30 t w bs → exec (.thProf n) s = s.threadIs n
      { t with executed := t.executed + 1, pc := (t.pc + 1) % 4096, profile := fld w 5 0 }) ∧
    (Runs s n 0x31 t w bs → bit w 0 = false → exec (.thMark n) s = s.threadIs n
      { t with executed := t.executed + 1, pc := (t.pc + 1) % 4096, l2 := some ⟨t.key, t.profile⟩ }) ∧
    (Runs s n 0x31 t w bs → bit w 0 = true → exec (.thMark n) s = s.threadIs n
      { t with executed := t.executed + 1, pc := (t.pc + 1) % 4096, outer := some ⟨t.key, t.profile⟩ }) ∧
    (Runs s n 0x32 t w bs → t.cur < 256 → t.pmDone = false → exec (.thPm n) s =
      .next ({ s with rules.threads := mapSet none s.rules.threads n (some { t with
        executed := t.executed + 1, pc := (t.pc + 1) % 4096, pmDone := true,
        pmWait := some (fld w 25 23, fld w 15 0) }) }.countRule 10)) ∧
    (Runs s n 0x33 t w bs → t.pass2 = false → exec (.thRecirc n) s = .next (s.endPass n t.next (.recirc (fld w 11 0)))) ∧
    (Runs s n 0x33 t w bs → t.pass2 = true → exec (.thRecirc n) s = .next (s.endPass n t .fault)) ∧
    (Runs s n 0x00 t w bs → exec (.thDone n) s = .next (s.endPass n t.next .done)) ∧
    (∀ d g p, mapGet none s.rules.threads n = some t → t.pmWait = some (d, g) → s.pkt? t.port t.pkt = some p →
      ∃ r, r = (s.rules.store t.gen).search g (noFcs p.bytes) (t.wbase + t.cur) ∧
        exec (.pmResult n) s = s.threadIs n { t.setReg d (BitVec.ofNat 16 r) with pmWait := none, pmHit := decide (r ≠ 0xFFFF) }))

/-- A thread that has executed 512 instructions and meets an ADD does not execute it: its pass ends as
DEPTH_EXCEEDED, and its packet is classified, with bit 1 of FLAGS set and its octets as they were. The premise
is the canonical form of the tables (CanonicalFormIsKept). -/
def Obligations.BudgetEndsThePass : Prop :=
  ∀ (s : State) (n : Nat) (t : Thread) (w : Word) (p : Pkt), s.tidy → mapGet none s.rules.threads n = some t → t.pmWait = none →
    mapGet 0 (s.rules.store t.gen).program t.pc = w → s.pkt? t.port t.pkt = some p → 512 ≤ t.executed → opOf w = 0x02 →
    exec (.thAdd n) s = .next (s.endPass n t .depth) ∧
    ∃ q v, (s.endPass n t .depth).pkt? t.port t.pkt = some q ∧ q.stage = .classified ∧ q.verdict = some v ∧
      v.flags.getLsbD 1 = true ∧ q.bytes = p.bytes

/-- Whatever instruction a thread executes, and whatever the payload matcher answers, every packet in flight
remains, with the octets and the time stamp that it had. The premise is the canonical form of the tables
(CanonicalFormIsKept). -/
def Obligations.ThreadNeverAltersFrame : Prop :=
  ∀ (s u : State) (n port id : Nat) (p : Pkt) (i : Instr),
    i ∈ [Instr.thDone n, .thMov n, .thAdd n, .thSub n, .thAnd n, .thOr n, .thShl n, .thShr n, .thCmp n, .thLdb n, .thLdh n, .thLdm n,
         .thKld n, .thKmov n, .thBr n, .thHdr n, .thProf n, .thMark n, .thPm n, .thRecirc n, .pmResult n] →
    s.tidy → exec i s = .next u → s.pkt? port id = some p →
    ∃ q, u.pkt? port id = some q ∧ q.bytes = p.bytes ∧ q.ts = p.ts

/-- A free thread takes the oldest packet that waits for its second pass, else the next packet of the port whose
turn it is, with the active generation's profile and entry (from AT on a scheduled swap has taken place before it); a
classified packet at the head of its port is released and counted, and its action drops it, sends it from a port or
hands it to a receive queue; a scheduled swap takes place at its time, and ends when no packet holds the old
generation. -/
def Obligations.ThresherEvents : Prop :=
  ∀ s : State,
    (∀ u n t rest, s.swapDue = u → n < 32 → mapGet none u.rules.threads n = none → u.rules.recirc = t :: rest →
      exec (.thresherDispatch n) s = .next ({ u with
        rules.recirc := rest, rules.threads := mapSet none u.rules.threads n (some t) }.modPkt t.port t.pkt fun p =>
          { p with stage := .thread })) ∧
    (∀ u n p x, s.swapDue = u → n < 32 → mapGet none u.rules.threads n = none → u.rules.recirc = [] → u.nextPort = some (p, x) →
      exec (.thresherDispatch n) s = .next (({ u with
        rules.rr := p
        rules.threads := mapSet none u.rules.threads n (some { port := p, pkt := x.id, gen := u.rules.active1, profile := mapGet 0 (u.rules.store u.rules.active1).profileDef p, pc := mapGet 0 (u.rules.store u.rules.active1).entry p }) }.modPkt p x.id fun y =>
            { y with stage := .thread, gen := u.rules.active1 }).countRule 0)) ∧
    (∀ port x rest v w0, mapGet [] s.rules.flight port = x :: rest → x.verdict = some v → v.action.getD 0 0 = w0 →
      bit w0 7 = false → fld w0 6 4 = 0 → bit w0 3 = false → v.source ≠ .fault →
      ∃ t, t = { s with rules.flight := mapSet [] s.rules.flight port rest }.countAction v.action x.bytes.length ∧
        (fld w0 31 29 = 0 → exec (.thresherRelease port) s = .next ((t.countRule 12).pauseChecks)) ∧
        (fld w0 31 29 = 1 → x.bytes.length ≤ (s.prt (fld w0 28 27)).maxLen → exec (.thresherRelease port) s =
          .next ((t.enqueue (fld w0 28 27) { bytes := x.bytes, tc := fld w0 26 24, ingress := some port }).pauseChecks)) ∧
        (fld w0 31 29 = 2 → exec (.thresherRelease port) s = .next ((t.toHost (fld w0 23 18)
          (t.rxCopy port x.bytes (some x.ts) 1 (fld (v.action.getD 2 0) 31 16) 0 0)).pauseChecks))) ∧
    (∀ t, s.rules.swap = .scheduled t → t ≤ s.now → exec .ruleSwapAt s = .next { s with
      rules.active1 := !s.rules.active1, rules.genNum := s.rules.genNum + 1, rules.swappedAt := t
      rules.swap := .draining t }) ∧
    (∀ t, s.rules.swap = .draining t → s.latched (!s.rules.active1) = false →
      exec .ruleSwapDrain s = .next { s with rules.swap := .none })

/-- With no swap between its command and its completion, the commands of the rule group write the shadow generation's program, profile, hashed
rules, ternary rules and patterns, clone the active generation, swap at once or schedule a swap at least 1 ms
ahead, set mirror sessions and the rate of mirrored copies, and return statistics, which clears the counters.
While a swap is scheduled, RULE_CANCEL_SWAP withdraws it more than 100 us ahead and is refused TOO_LATE after
that, and the commands that write the shadow or swap are refused BUSY. -/
def Obligations.RuleCommandsTakeEffect : Prop :=
  (∀ (s : State) (tag : Tag) (c : InFlight), s.swapBusy = false →
    (∀ start words, Waits s tag 0x0A02 c → words.length ≤ 960 → start + words.length ≤ 4096 → (∀ w ∈ words, wordOk w = true) →
      exec (.ruleLoadProgram tag start words) s =
        (s.modShadow fun g => { g with program := mapSetList 0 g.program start words }).ok c) ∧
    (∀ cfg, Waits s tag 0x0A03 c → ProfileCfg.ok cfg = true →
      exec (.ruleSetProfile tag cfg) s = (s.modShadow (Generation.profiled cfg)).ok c) ∧
    (∀ recs m, Waits s tag 0x0A04 c → 1 ≤ recs.length → recs.length ≤ 32 → (∀ r ∈ recs, hashedOk r = true) →
      addAll 0 (s.rules.store (!s.rules.active1)).hashed recs = .inr m →
      exec (.ruleAddHash tag recs) s = (s.modShadow fun g => { g with hashed := m }).ok c) ∧
    (∀ keys, Waits s tag 0x0A05 c → 1 ≤ keys.length → keys.length ≤ 32 →
      exec (.ruleDelHash tag keys) s = (s.modShadow fun g =>
        { g with hashed := keys.foldl (fun m q => delHashed m (lookKey q.1 q.2.1 q.2.2)) g.hashed }).ok c) ∧
    (∀ first recs, Waits s tag 0x0A06 c → 1 ≤ recs.length → recs.length ≤ 16 → first + recs.length ≤ 2048 →
      (∀ r ∈ recs, ternaryOffends r = none) →
      exec (.ruleSetTernary tag first recs) s =
        (s.modShadow fun g => { g with ternary := mapSetList [] g.ternary first (recs.map ternaryKept) }).ok c) ∧
    (∀ first recs, Waits s tag 0x0A07 c → 1 ≤ recs.length → recs.length ≤ 32 → first + recs.length ≤ 4096 →
      (∀ r ∈ recs, patternOffends r = none) →
      exec (.ruleSetPattern tag first recs) s =
        (s.modShadow fun g => { g with patterns := mapSetList [] g.patterns first recs }).ok c) ∧
    (Asks s tag 0x0A08 c → exec (.ruleClone tag) s = (s.modShadow fun _ => s.rules.store s.rules.active1).ok c) ∧
    (Waits s tag 0x0A09 c → exec (.ruleSwap tag 0) s = (s.swapNow s.now).ok c) ∧
    (∀ at_, Waits s tag 0x0A09 c → at_ ≠ 0 → s.tb.stepped = true → s.arrivalOf tag + 1000000 ≤ at_ →
      exec (.ruleSwap tag at_) s = ({ s with rules.swap := .scheduled at_ } : State).ok c) ∧
    (∀ k d n, Waits s tag 0x0A0D c → k ≤ 3 → MirrorDest.ok d = true → (n = 0 ∨ 64 ≤ n ∧ n ≤ 9216) →
      exec (.ruleSetMirror tag k d n) s =
        ({ s with rules.sessions := mapSet {} s.rules.sessions k { dest := d, trunc := n } } : State).ok c) ∧
    (∀ r, Waits s tag 0x0A0E c → 100 ≤ r → r ≤ 100000 →
      exec (.ruleSetMp tag r) s = ({ s with
        rules.mpTokens := min (256 * 10 ^ 10) (s.rules.mpTokens + (s.up - s.rules.mpAt) * s.rules.mpRate)
        rules.mpAt := s.up, rules.mpRate := r } : State).ok c) ∧
    (∀ first count, Waits s tag 0x0A0C c → count ≤ 240 → first + count ≤ 4096 →
      exec (.ruleGetStats tag first count) s = .next (({ s with
        rules.ctr := []
        rules.ruleCtr := (List.range count).foldl (fun m i => mapSet (0, 0) m (first + i) (0, 0)) s.rules.ruleCtr } : State).answer c
        (Reply.ok ((List.range 18).map (fun i => ((mapGet (0 : Nat) s.rules.ctr i : Nat) : Int)) ++
          (mapRead (0, 0) s.rules.ruleCtr first count).flatMap (fun q => [(q.1 : Int), q.2]) ++ [(s.now : Int)]))))) ∧
  (∀ (s : State) (tag : Tag) (c : InFlight) (at_ : Nat), s.rules.swap = .scheduled at_ →
    (Asks s tag 0x0A0A c → s.now + 100000 < at_ → exec (.ruleCancelSwap tag) s = ({ s with rules.swap := .none } : State).ok c) ∧
    (Asks s tag 0x0A0A c → at_ ≤ s.now + 100000 → exec (.ruleCancelSwap tag) s = s.no c .tooLate) ∧
    (∀ a ws, Waits s tag 0x0A02 c → exec (.ruleLoadProgram tag a ws) s = s.no c .busy) ∧
    (∀ rs, Waits s tag 0x0A04 c → exec (.ruleAddHash tag rs) s = s.no c .busy) ∧
    (Asks s tag 0x0A08 c → exec (.ruleClone tag) s = s.no c .busy) ∧
    (∀ x, Waits s tag 0x0A09 c → exec (.ruleSwap tag x) s = s.no c .busy))

/-- While BAR0 answers: a disabled queue with a legal configuration is enabled, and one with another stops in ERROR with
error code 9, an enabled one is disabled, its indices reset while it is disabled, a legal HQ_TAIL is taken, HQ_DROP is
returned and cleared but for the drops of the access's own tick, which count after it, and the enables,
the index reset and the head of a completion queue are written. A moderation timer that has run triggers its
vector, a pending vector that may be sent is sent, and D3hot and Bus Master Enable stop and resume the
function's requests. -/
def Obligations.QueueAndFunctionEvents : Prop :=
  (∀ (s : State) (q : QId), s.barOpen = true → q.ok = true →
    ((s.sub q.key).state = .disabled → s.configOk q.kind (s.sub q.key) = true →
      exec (.hqEnable q) s = .next (((s.modSub q.key fun x =>
        { x with enable := true, err := 0, errIndex := 0, fetch := (s.sub q.key).restartAt, partTail := none }).modSub q.key fun x =>
        { x with state := .running }).noteFailures q.key)) ∧
    ((s.sub q.key).state = .disabled → s.configOk q.kind (s.sub q.key) = false →
      exec (.hqEnable q) s = .next ((s.modSub q.key fun x =>
        { x with enable := true, err := 0, errIndex := 0, fetch := (s.sub q.key).restartAt, partTail := none }).queueError q.key 9
          (s.sub q.key).head)) ∧
    ((s.sub q.key).state ≠ .disabled →
      exec (.hqDisable q) s = .next (s.modSub q.key SubQ.disabled)) ∧
    ((s.sub q.key).state = .disabled →
      exec (.hqIdxReset q) s =
        .next (s.modSub q.key fun x => { x with head := 0, tail := 0, fetch := 0, merged := [] })) ∧
    (∀ v : Word, (v - (s.sub q.key).tail).toNat ≤ (s.sub q.key).size → (v - (s.sub q.key).head).toNat ≤ (s.sub q.key).size →
      exec (.hqTailWrite q v) s =
        .next ((s.modSub q.key fun x => { x with dropping := false }).modSub q.key fun x => { x with tail := v })) ∧
    (∀ n a b, n < 64 → min (s.sub (64 + n)).shareDrop (mapGet 0 s.cycle.shareDrops (64 + n)) = a →
      min (s.sub (64 + n)).delayDrop (mapGet 0 s.cycle.delayDrops (64 + n)) = b →
      exec (.hqDropRead n) s = .next ((s.modSub (64 + n) fun x => { x with shareDrop := a, delayDrop := b }).emit
        (.readData (BitVec.ofNat 32 (((s.sub (64 + n)).shareDrop - a) * 65536 + ((s.sub (64 + n)).delayDrop - b)))))) ∧
    (∀ n en irq, n < 64 → exec (.cqEnableWrite n en irq) s =
      .next (s.modCq n fun k => { k with enable := en, irqEn := irq })) ∧
    (∀ n, n < 64 → (s.cqn n).enable = false → ∃ t, exec (.cqIdxReset n) s = .next t ∧
      t.host.cq = (s.modCq n fun k => { k with head := 0, tail := 0, err := false, late := [] }).host.cq) ∧
    (∀ n (v : Word), n < 64 → (v - (s.cqn n).head).toNat ≤ ((s.cqn n).tail - (s.cqn n).head).toNat →
      exec (.cqHeadWrite n v) s = .next (s.modCq n fun k =>
        { k with head := v, err := k.err || decide ((k.tail - k.head).toNat < (v - k.head).toNat) }))) ∧
  (∀ s : State,
    (∀ v, v < 128 → (mapGet Vec.dflt s.host.vecs v).since.isSome = true →
      (mapGet Vec.dflt s.host.vecs v).modTime ≤ s.elapsedUs (mapGet Vec.dflt s.host.vecs v) →
      exec (.moderationTimer v) s = .next (s.trigger v)) ∧
    (∀ v, v < 128 → (mapGet Vec.dflt s.host.vecs v).pending = true → s.masked v = false → s.canMaster = true →
      exec (.pendingVectorDeliver v) s = .next ((s.putVec v { mapGet Vec.dflt s.host.vecs v with pending := false, d3Pend := false }).sendMsix v)) ∧
    (exec .d3hotEntry s = .next { s with host.d3hot := true }.away) ∧
    (s.host.d3hot = true → exec .d0Return s = .next { s with host.d3hot := false }.back) ∧
    (exec (.busMasterEnableWrite true) s = .next { s with host.busMaster := true }.back) ∧
    (exec (.busMasterEnableWrite false) s = .next { s with host.busMaster := false }.away))

/-- A write of HQ_TAIL that lies more than the ring's size ahead of the tail or of the head leaves HQ_TAIL as it
was; a queue that is running stops in ERROR with error code 8. The premise is the canonical form of the tables
(CanonicalFormIsKept). -/
def Obligations.InvalidTailStopsQueue : Prop :=
  ∀ (s t : State) (q : QId) (v : Word), s.tidy → s.barOpen = true → q.ok = true →
    (s.sub q.key).size < (v - (s.sub q.key).tail).toNat ∨ (s.sub q.key).size < (v - (s.sub q.key).head).toNat →
    exec (.hqTailWrite q v) s = .next t →
    (t.sub q.key).tail = (s.sub q.key).tail ∧
    ((s.sub q.key).state = .running → (t.sub q.key).state = .error ∧ (t.sub q.key).err = 8)

/-- A transmit or fabric command queue whose turn it is fetches its chain or entry; an answered buffer, sheaf record or descriptor fetch acts,
and a failed descriptor fetch stops its queue with error code 7; a frame that cannot be given buffers is dropped
after the drop delay; one that can is stored in them; a draining queue without requests is disabled. An entry
goes to a completion queue only while the queue has room, and the choice among source queues, which is free (log
7), takes one that has a completion ready. -/
def Obligations.QueueServiceEvents : Prop :=
  (∀ s : State,
    (∀ (q : QId) es bs t, q.ok = true → q.kind = .tx → (∀ d ∈ es, d.length = 32) → es.length ≤ (s.sub q.key).published →
      s.nextServed = some (t, q.idx) →
      exec (.txChainFetch q es bs) s = .next (t.fetchTx q.idx es bs)) ∧
    (∀ (q : QId) d bs t, q.ok = true → q.kind = .fcq → d.length = 32 → 1 ≤ (s.sub q.key).published →
      s.nextServed = some (t, 64 + q.idx) →
      exec (.txChainFetch q [d] bs) s = .next (t.fetchFcq (64 + q.idx) d)) ∧
    (∀ (q : QId) ok, q.ok = true → q.kind = .tx →
      exec (.memoryRequestAnswered (.buffer q ok)) s = .next (s.bufferAnswered q.key ok)) ∧
    (∀ (q : QId) ok ws, q.ok = true → q.kind = .fcq →
      exec (.memoryRequestAnswered (.sheafRecord q ok ws)) s = .next (s.recordAnswered q.key ok ws)) ∧
    (∀ q : QId, q.ok = true → (s.sub q.key).state = .running → 0 < (s.sub q.key).published →
      exec (.memoryRequestAnswered (.descriptors q false)) s = .next ((s.queueError q.key 7 (s.sub q.key).fetch).dmaEvent)) ∧
    (∀ n w rest t, n < 64 → (s.sub (64 + n)).waiting = w :: rest → w.firstFail = some t →
      s.reserving (s.sub (64 + n)) = true → (s.sub (64 + n)).reservable = false →
      t + min 10000 (s.sub (64 + n)).dropDelay * 10000 ≤ s.up →
      exec (.rxDropDelay n) s = .next ((({ s with
        cycle.delayDrops := mapMod 0 s.cycle.delayDrops (64 + n) (· + 1) } : State).modSub (64 + n) fun x =>
        { x with waiting := rest, delayDrop := min 65535 (x.delayDrop + 1), dropping := true }).pauseChecks)) ∧
    (∀ n w rest es, n < 64 → (s.sub (64 + n)).waiting = w :: rest → s.reserving (s.sub (64 + n)) = true →
      (s.sub (64 + n)).slots.length < 64 → es.length = (s.sub (64 + n)).needs w.len → es.length ≤ (s.sub (64 + n)).published →
      (∀ d ∈ es, d.length = 32) →
      (∀ p ∈ es.zipIdx, rxEntryError (s.sub (64 + n)).size ((s.sub (64 + n)).fetch + BitVec.ofNat 32 p.2) p.1 = 0) →
      exec (.rxReservation n es) s =
        .next ((((s.writeBuffers ((s.sub (64 + n)).bufUnits * 256) es w.bytes).modSub (64 + n) fun x => { x with
          waiting := rest, fetch := x.fetch + BitVec.ofNat 32 es.length
          slots := x.slots ++ [({
            firstIdx := (s.sub (64 + n)).fetch, ready := true, body := rxBody w
            lastIdx := (s.sub (64 + n)).fetch + BitVec.ofNat 32 es.length - 1 } : Slot)] }).noteFailures (64 + n)).pauseChecks)) ∧
    (∀ q : QId, q.ok = true → (s.sub q.key).state = .draining → (s.sub q.key).requests = 0 →
      exec (.queueDrainComplete q) s = .next (s.modSub q.key fun x => { x with state := .disabled }))) ∧
  (∀ (s : State) (q : Nat), s.cqTakes q = true → s.candidates q ≠ [] →
    ∃ n ∈ s.candidates q, exec (.completionWrite q) s = .next (s.drawn.writeCompl q n))

/-- A vector that triggers in D3hot, without Bus Master Enable or while masked becomes pending with its count
cleared, and no MSI-X message is among the outputs that the step adds. The premise is the canonical form of the
tables (CanonicalFormIsKept). -/
def Obligations.BlockedVectorPends : Prop :=
  ∀ (s t : State) (v : Nat), s.tidy → v < 128 → (mapGet Vec.dflt s.host.vecs v).since.isSome = true →
    (mapGet Vec.dflt s.host.vecs v).modTime ≤ s.elapsedUs (mapGet Vec.dflt s.host.vecs v) →
    (s.canMaster = false ∨ s.masked v = true) → exec (.moderationTimer v) s = .next t →
    (mapGet Vec.dflt t.host.vecs v).pending = true ∧ (mapGet Vec.dflt t.host.vecs v).pendN = 0 ∧
    ∀ x ∈ t.out, (∀ w a d, x ≠ .msix w a d) ∨ x ∈ s.out

/-- The answer to a command in flight that asks for one in its mailbox: words 4 and 5 of its header are written and
the others are as posted, the payload follows from byte 32, the mailbox is ANSWERED, the record joins the end of
the queue with its tag, the command is marked answered, and nothing else changes. A doorbell on a POSTED body
sets OVERRUN; one that the device takes puts the command in flight; one that it does not take is answered at
once in the body (FULL with 256 in flight, TAG_IN_USE with the tag in use). A write to a POSTED body is ignored
and flagged. MB_ANSWER gives the oldest record and ends its command; a held answer is written when host memory
can be. -/
def Obligations.AnswersAndMailboxes : Prop :=
  (∀ (s : State) (c : InFlight) (r : Reply), c.orphan = false → s.il.inflight.contains c = true → c.rhost = false →
    c.noint = true → s.il.resetAsked ≠ some c.tag → s.power.sleepAsked ≠ some c.tag →
    s.answer c r = { s with
      il.inflight := s.il.inflight.map fun x => if x = c then { x with answered := true } else x
      il.bar2 := mapSetList 0 (mapSetList 0 s.il.bar2 (4096 * c.mailbox) (wordsBytes (answerHeader c.hdr c.gen r
        ((r.payload.toBytes c.code).take 4064).length))) (4096 * c.mailbox + 32) ((r.payload.toBytes c.code).take 4064)
      il.mb := mapMod Mailbox.dflt s.il.mb c.mailbox fun m => { m with state := .answered }
      il.answers := s.il.answers ++ [{ rhost := false, mailbox := c.mailbox, tag := c.tag }] }) ∧
  (∀ (s : State) (m : Nat), m < 32 →
    (∀ v : Word, bit v 0 = true → s.ident.fwReady = true →
      ((mapGet Mailbox.dflt s.il.mb m).state = .posted → exec (.mbDoorbellRing m v) s =
        .next (s.modMb m fun x => { x with overrun := true })) ∧
      ((mapGet Mailbox.dflt s.il.mb m).state ≠ .posted → (readHeader m (s.bodyHeader m)).rhost = false →
        s.postRefused (readHeader m (s.bodyHeader m)) = none → exec (.mbDoorbellRing m v) s =
          .next { s.modMb m (Mailbox.posted (readHeader m (s.bodyHeader m))) with
            il.inflight := s.il.inflight ++ [{ readHeader m (s.bodyHeader m) with arrived := s.now }] })) ∧
    (∀ v : Word, bit v 0 = false → exec (.mbDoorbellRing m v) s = .next s) ∧
    (∀ off v, off < 4096 → off % 4 = 0 →
      ((mapGet Mailbox.dflt s.il.mb m).state = .posted → exec (.mailboxBodyWrite m off v) s =
        .next (s.modMb m fun x => { x with ignoredWrite := true })) ∧
      ((mapGet Mailbox.dflt s.il.mb m).state ≠ .posted → exec (.mailboxBodyWrite m off v) s =
        .next (s.writeBody m off (leBytes v)))) ∧
    (∀ v : Word, exec (.mbStateWrite m v) s = .next (s.modMb m fun x =>
      { x with ignoredWrite := x.ignoredWrite && !bit v 9, overrun := x.overrun && !bit v 8 })) ∧
    (s.il.answers = [] → exec .mbAnswerRead s = .next (s.emit (.readData 0))) ∧
    (∀ a rest, s.il.answers = a :: rest → exec .mbAnswerRead s = .next ({ s with
      il.answers := rest, il.inflight := s.il.inflight.filter fun x => !(x.tag = a.tag && x.answered) }.emit (.readData a.word))) ∧
    (∀ h rest, s.il.held = h :: rest → s.canMaster = true →
      exec .heldAnswerWrite s = .next ({ s with il.held := rest }.writeHostAnswer h)) ∧
    (exec .userConfigSaveComplete s = .next { s with il.saving := none })) ∧
  (∀ (s : State) (m : Nat) (v : Word), m < 32 → bit v 0 = true → s.ident.fwReady = true →
    (mapGet Mailbox.dflt s.il.mb m).state ≠ .posted →
    (∀ r, s.postRefused (readHeader m (s.bodyHeader m)) = some r → ∃ t, exec (.mbDoorbellRing m v) s = .next t ∧
      t.il.inflight = s.il.inflight ∧ t.il.answers = s.il.answers ∧ (mapGet Mailbox.dflt t.il.mb m).state = .answered) ∧
    (256 ≤ (s.il.inflight.filter fun d => !d.orphan).length → ∃ d, s.postRefused (readHeader m (s.bodyHeader m)) = some (Reply.no .full d)) ∧
    ((s.il.inflight.filter fun d => !d.orphan).length < 256 → (∃ d ∈ s.il.inflight, d.orphan = false ∧ d.tag = (readHeader m (s.bodyHeader m)).tag) →
      ∃ d, s.postRefused (readHeader m (s.bodyHeader m)) = some (Reply.no .tagInUse d)))

/-- A write to the body of a mailbox that is not POSTED stores the four bytes of the word at 4,096 x m + the offset,
least significant first; every other byte of BAR2 reads as before; nothing but the bodies changes; the canonical
form is kept. -/
def Obligations.BodyWriteFrame : Prop :=
  ∀ (s : State) (m off : Nat) (v : Word), mapWf 0 s.il.bar2 = true → m < 32 → off < 4096 → off % 4 = 0 →
    (mapGet Mailbox.dflt s.il.mb m).state ≠ .posted →
    ∃ b, exec (.mailboxBodyWrite m off v) s = .next { s with il.bar2 := b } ∧ mapWf 0 b = true ∧
      (∀ k, k < 4 → mapGet 0 b (4096 * m + off + k) = (v >>> (8 * k)).setWidth 8) ∧
      (∀ a, (a < 4096 * m + off ∨ 4096 * m + off + 4 ≤ a) → mapGet 0 b a = mapGet 0 s.il.bar2 a)

/-- Whatever the answer, every other command in flight stays in flight as it was. A TIME_SET in flight behind a
TIME_FOLD_SHIFT that is not answered is not carried out: the row changes nothing. -/
def Obligations.AnswersKeepTheOthers : Prop :=
  (∀ (s : State) (c : InFlight) (r : Reply), ∀ d ∈ s.il.inflight, d ≠ c → d ∈ (s.answer c r).il.inflight) ∧
  (∀ (s : State) (tag : Tag) (c d : InFlight) (l : List InFlight), s.il.inflight = d :: c :: l → d.answered = false →
    d.code = 0x0206 → c.code = 0x0202 → c.tag = tag → d.tag ≠ tag → s.tb.stepped = false →
    (∀ x ∈ l, x.tag ≠ tag) → ∀ time frac, exec (.timeSet tag time frac) s = .next s)

/-- DEVICE_GET_INFO, DEVICE_GET_COMMANDS and DEVICE_ECHO answer; the update session opens, takes data in order (the form
that names host memory is of Ilucy 2, and waits while host memory cannot be read), commits (an image that fails its
verification is refused with its stage, one below MIN_SVN with ROLLBACK), aborts and reports; DEVICE_RESET asks for the
class H reset or makes the class S one, and that of LOOP starts the self-test and calibration at whose end it is
answered. -/
def Obligations.DeviceCommandsTakeEffect : Prop :=
  ∀ (s : State) (tag : Tag) (c : InFlight),
    (Asks s tag 0x0101 c → exec (.deviceGetInfo tag) s = .next (s.answer c (Reply.bytes s.infoBytes))) ∧
    (∀ start, Waits s tag 0x0102 c → start < allCodes.length → Reads (.deviceGetCommands tag start) s c) ∧
    (∀ size, Waits s tag 0x0103 c → 1024 ≤ size → size ≤ 8388608 → s.il.fw.busy = false → s.unit.mode ≠ .boot →
      s.unit.mode ≠ .factoryTest → exec (.deviceFwBegin tag size) s = ({ s.writeSlot [] with
        ident.updateStaged := false, trust.staged := false
        il.fw := { phase := .erasing, open_ := true, size := size } } : State).ok c) ∧
    (∀ off bs, Waits s tag 0x0104 c → c.len = 4 + bs.length → s.il.fw.open_ = true → s.il.fw.phase ≠ .erasing → off = s.il.fw.bytes.length →
      off + bs.length ≤ s.il.fw.size → exec (.deviceFwData tag off (.direct bs)) s =
        { s.writeSlot (s.il.fw.bytes ++ bs) with il.fw.bytes := s.il.fw.bytes ++ bs }.ok c) ∧
    (∀ off bs a, s.canMaster = false → exec (.deviceFwData tag off (.host a bs)) s = .next s) ∧
    (∀ off bs a, Waits s tag 0x0104 c → s.isGen2 tag = true → s.canMaster = true → bs.length ≤ 1048576 → s.il.fw.open_ = true → s.il.fw.phase ≠ .erasing →
      off = s.il.fw.bytes.length → off + bs.length ≤ s.il.fw.size → exec (.deviceFwData tag off (.host a bs)) s =
        { s.writeSlot (s.il.fw.bytes ++ bs) with il.fw.bytes := s.il.fw.bytes ++ bs }.ok c) ∧
    (Asks s tag 0x0105 c → s.il.fw.open_ = true → s.il.fw.size ≤ s.il.fw.bytes.length →
      exec (.deviceFwCommit tag) s =
        if s.trust.failing s.il.fw.bytes = 0 then (s.stageImage s.il.fw.bytes).ok c
        else if s.trust.failing s.il.fw.bytes = 8 then { s with il.fw.phase := .verifying }.no c .rollback s.trust.minSvn
        else { s with il.fw.phase := .verifying }.no c .signature (s.trust.failing s.il.fw.bytes)) ∧
    (Asks s tag 0x0106 c → s.il.fw.open_ = true → exec (.deviceFwAbort tag) s = { s.writeSlot [] with il.fw := {} }.ok c) ∧
    (Asks s tag 0x0107 c → Measures (.deviceFwStatus tag) s c) ∧
    (∀ force : Bool, Waits s tag 0x0108 c → (s.inControl = false ∨ force = true) →
      exec (.deviceReset tag 0xFF 0 force) s = { s with il.resetAsked := some tag }.ok c) ∧
    (∀ k : Byte, Waits s tag 0x0108 c → 2 ≤ k.toNat → k.toNat ≤ 6 → exec (.deviceReset tag 0 k false) s = (s.classS k.toNat).ok c) ∧
    (Waits s tag 0x0108 c → exec (.deviceReset tag 0 1 false) s = .next { s.classS 1 with il.loopReset := some tag }) ∧
    (∀ bs, Waits s tag 0x0109 c → c.len = bs.length → exec (.deviceEcho tag bs) s = .next (s.answer c (Reply.bytes bs))) ∧
    (s.il.fw.phase = .erasing → exec .fwEraseComplete s = .next { s with il.fw.phase := .receiving })

/-- HEDGE_SET_CONFIG stores a legal configuration as pending and refuses another OUT_OF_RANGE; HEDGE_SAVE_CONFIG
saves it; HEDGE_RESTART applies it and starts again in LISTEN, refused to a unit in control without FORCE;
status, configuration, statistics (which clear), the notice policy and notices have their effect. UNIT_SET_PAIR
stores the pairing and is refused to a unit in control without FORCE; UNIT_DRILL starts a hand-back from a unit
in control whose partner is READY; UNIT_SAVE_STARTUP_MAP saves or erases the map; UNIT_RESYNC asks for a
baseline on a unit that is not in control; status and epochs are read. -/
def Obligations.HedgeAndUnitCommands : Prop :=
  (∀ (s : State) (tag : Tag) (c : InFlight),
    (Asks s tag 0x0B01 c → Reads (.hedgeGetStatus tag) s c) ∧
    (∀ cfg, Waits s tag 0x0B02 c → s.hedgeCfgOk cfg = true →
      exec (.hedgeSetConfig tag cfg) s = { s with hedge.pend := cfg }.ok c) ∧
    (∀ cfg, Waits s tag 0x0B02 c → s.hedgeCfgOk cfg = false → exec (.hedgeSetConfig tag cfg) s = s.no c .outOfRange) ∧
    (Asks s tag 0x0B03 c → Reads (.hedgeGetConfig tag) s c) ∧
    (Asks s tag 0x0B04 c → s.il.saving = none → exec (.hedgeSaveConfig tag) s =
      { s with hedge.saved := some s.hedge.pend, il.saving := some 0x0B }.ok c) ∧
    (∀ force, Waits s tag 0x0B05 c → (s.inControl = false ∨ force = true) → s.hedge.hstate ≠ .off → ∃ t : State,
      exec (.hedgeRestart tag force) s = t.ok c ∧ t.hedge.cfg = s.hedge.pend ∧ t.hedge.hstate = .listen ∧
      t.hedge.a.held = false ∧ t.hedge.b.held = false) ∧
    (∀ force, Waits s tag 0x0B05 c → (s.inControl = false ∨ force = true) → s.hedge.hstate = .off → ∃ t : State,
      exec (.hedgeRestart tag force) s = t.ok c ∧ t.hedge.cfg = s.hedge.pend ∧ t.hedge.hstate = .off ∧
      t.hedge.a.held = false ∧ t.hedge.b.held = false) ∧
    (Waits s tag 0x0B05 c → s.inControl = true → exec (.hedgeRestart tag false) s = s.no c .notPermitted) ∧
    (Asks s tag 0x0B06 c → exec (.hedgeGetStats tag) s = .next ({ s with hedge.ctr := [] }.answer c
      (Reply.ok ((s.now : Int) :: (mapRead 0 s.hedge.ctr 0 28).map fun (n : Nat) => (n : Int))))) ∧
    (∀ policy, Waits s tag 0x0B07 c → policy ≤ 3 →
      exec (.hedgeSetNotice tag policy) s = { s with hedge.policy := policy }.ok c) ∧
    (∀ seq, Waits s tag 0x0B08 c → seq ≤ s.hedge.nextNotice → Reads (.hedgeGetNotices tag seq) s c)) ∧
  (∀ (s : State) (tag : Tag) (c : InFlight),
    (Asks s tag 0x0C01 c → Reads (.unitGetStatus tag) s c) ∧
    (∀ cfg force, Waits s tag 0x0C02 c → cfg.partner ≤ 15 → 1000 ≤ cfg.roleWaitMs → cfg.roleWaitMs ≤ 60000 →
      1000 ≤ cfg.holdoffMs → cfg.holdoffMs ≤ 3600000 →
      ((s.inControl = false ∨ force = true) →
        exec (.unitSetPair tag cfg force) s = ({ s with unit := s.unit.paired cfg } : State).ok c ∧
        (s.unit.paired cfg).pair = cfg ∧ (s.unit.paired cfg).mode = s.unit.mode) ∧
      (s.inControl = true → exec (.unitSetPair tag cfg false) s = s.no c .notPermitted)) ∧
    (Asks s tag 0x0C03 c → s.inControl = true → s.unit.partnerReady = true → s.unit.handbackAt = none →
      exec (.unitDrill tag) s = .next (s.startHandback.answer c (Reply.ok [((s.startHandback.unit.handbackAt.getD 0 : Nat) : Int)]))) ∧
    (Asks s tag 0x0C03 c → s.inControl = false → exec (.unitDrill tag) s = s.no c .notPermitted) ∧
    (Waits s tag 0x0C04 c → s.inControl = true → s.il.saving = none →
      exec (.unitSaveStartupMap tag false) s =
        { s with unit.startupMap := some (connectionMap s.loops.elems s.fabric.failed), il.saving := some 0x0C }.ok c ∧
      exec (.unitSaveStartupMap tag true) s = { s with unit.startupMap := none, il.saving := some 0x0C }.ok c) ∧
    (Asks s tag 0x0C05 c → s.inControl = false →
      exec (.unitResync tag) s = ({ s with unit.wantBaseline := true }.emit (.mirror .baselineRequest)).ok c) ∧
    (Asks s tag 0x0C05 c → s.inControl = true → exec (.unitResync tag) s = s.no c .notPermitted) ∧
    (Asks s tag 0x0C06 c → Reads (.unitGetEpochs tag) s c))

/-- A node sends its heartbeat with up to two commit records in its key slot, up to four records or NULL in another
slot that it owns, each once a cycle, and a notice in a frame that it owns, on each channel whose minislot counter meets
the frame ID. An undecodable frame is counted; one that fails a check is counted by kind, one whose CRC over its octets
is not the CRC it ends with among them; one outside PW is a violation whose content is never used; one within PW is
accepted. A node in LISTEN integrates on a heartbeat with SYNC. -/
def Obligations.HedgerowTraffic : Prop :=
  (∀ (s : State) (slot : Nat),
    ((s.hedge.hstate = .coldstart ∨ s.hedge.hstate = .active) → s.hedge.cfg.ownsSlot s.hedge.node slot = true →
      slot < s.hedge.cfg.ns → s.inSlot slot = true → s.hedge.hasSent slot = false →
      (slot = s.hedge.node → exec (.hedgerowSlotSend slot) s =
        .next ((s.hedgeSend slot (.heartbeat (s.heartbeat (s.hedge.commits.take 2)))).takeCommits 2)) ∧
      (slot ≠ s.hedge.node → s.hedge.commits = [] → exec (.hedgerowSlotSend slot) s = .next (s.hedgeSend slot .null)) ∧
      (slot ≠ s.hedge.node → s.hedge.commits ≠ [] → exec (.hedgerowSlotSend slot) s =
        .next ((s.hedgeSend slot (.commit (s.hedge.commits.take 4))).takeCommits 4))) ∧
    (s.hedge.hstate = .listen ∨ s.hedge.hstate = .integrating ∨ s.hedge.hstate = .passive →
      exec (.hedgerowSlotSend slot) s = .next s) ∧
    (∀ id mini bs x y, s.hedge.hstate = .active → s.inControl = true → s.hedge.cfg.ownsFrame s.hedge.node id = true →
      1000 * ((4 * s.hedge.cfg.ns + mini - 1 : Nat) : Int) ≤ s.inCycleNs →
      s.inCycleNs < 1000 * ((4 * s.hedge.cfg.ns + mini - 1 : Nat) : Int) + 1000 →
      s.hedge.fitsMinislot false id mini bs.length = x → s.hedge.fitsMinislot true id mini bs.length = y → (x || y) = true →
      (∀ n rest, s.hedge.hasSent (31 + id) = false → s.hedge.queue = n :: rest → s.hedge.octets (31 + id) (.notice n) = bs →
        exec (.noticeSend id mini) s = .next ({ s with
          hedge.queue := rest
          hedge.a := if x then s.hedge.a.holds mini bs.length else s.hedge.a
          hedge.b := if y then s.hedge.b.holds mini bs.length else s.hedge.b }.sendOn x y (31 + id) bs)) ∧
      (∀ f, (s.hedge.sent.find? fun f => f.frameId = 31 + id) = some f → f.bytes = bs →
        exec (.noticeSend id mini) s = .next ({ s with
          hedge.a := if x then s.hedge.a.holds mini bs.length else s.hedge.a
          hedge.b := if y then s.hedge.b.holds mini bs.length else s.hedge.b }.sendOn x y (31 + id) bs)))) ∧
  (∀ (s : State) (chanB : Bool) (slot place : Nat) (e stamp : Int),
    (if chanB then s.hedge.cfg.chanB else s.hedge.cfg.chanA) = true → (s.captureAt e : Int) * 16 / 2 ^ 32 = stamp →
    s.placeOf chanB slot stamp = place → s.hedge.awaits chanB place = false →
    ((s.hedge.hstate = .active ∨ s.hedge.hstate = .passive) →
      exec (.hedgerowFrameReceived chanB slot .undecodable e) s = .next (s.countHedge 1 chanB)) ∧
    (∀ bs t, s.heldBy chanB slot bs.length stamp = t →
      (s.hedge.hstate = .active →
        (∀ i, s.hedge.frameFault true place bs = some i →
          exec (.hedgerowFrameReceived chanB slot (.frame bs) e) s = .next (t.countHedge i chanB)) ∧
        (s.hedge.frameFault true place bs = none → (readHead bs).sync = false →
          (16 * (s.hedge.cfg.pw : Int) < mag (s.frameDelta slot chanB stamp) →
            exec (.hedgerowFrameReceived chanB slot (.frame bs) e) s = .next (t.countHedge 5 chanB)) ∧
          (mag (s.frameDelta slot chanB stamp) ≤ 16 * (s.hedge.cfg.pw : Int) →
            exec (.hedgerowFrameReceived chanB slot (.frame bs) e) s =
              .next ((t.accepted chanB false).takeCopy chanB place (readHead bs).node (readHead bs).payload (readBody bs) stamp)))) ∧
      (∀ h, s.hedge.hstate = .listen → s.hedge.frameFault false place bs = none → (readHead bs).sync = true →
        readBody bs = .heartbeat h → exec (.hedgerowFrameReceived chanB slot (.frame bs) e) s =
          .next (((t.integrate h (readHead bs).cycle (s.hedge.cfg.delay chanB) stamp).accepted chanB true).takeCopy chanB place
            (readHead bs).node (readHead bs).payload (.heartbeat h) stamp)))) ∧
  (∀ (h : Hedge) (placed : Bool) (place : Nat) (bs : List Byte),
    (bs.length ≠ 12 + (byteAt bs 5).toNat ∨ 64 < (byteAt bs 5).toNat → h.frameFault placed place bs = some 3) ∧
    (bs.length = 12 + (byteAt bs 5).toNat → (byteAt bs 5).toNat ≤ 64 →
      bs.drop (bs.length - 4) ≠ leBytes (crc32c (bs.take (bs.length - 4))) → h.frameFault placed place bs = some 2))

/-- A coldstart node begins a cycle when its listening time has run; the midpoint of the cycle's values is taken
after the static segment; the correction acts 1 us after the start of the NIT; a node becomes ACTIVE at the end
of its third cycle alone. -/
def Obligations.HedgerowSynchronisation : Prop :=
  ∀ s : State,
    (s.hedge.hstate = .listen → s.hedge.coldNode = true → s.hedge.listenAt ≤ s.up → ∃ t, exec .listenTimeout s = .next t ∧
      t.hedge.hstate = .coldstart ∧ t.hedge.theta = 0 ∧ t.hedge.cycle = 0 ∧ t.hedge.shift = s.tb.shiftS ∧ t.tb = s.tb) ∧
    (s.hedge.cycling = true → s.hedge.midDone = false → s.pastInCycle (4 * s.hedge.cfg.ns) = true →
      s.hedge.syncNodes.length + (if s.hedge.isSync then 1 else 0) ≤ 8 → ∃ t, exec .hedgerowMidpoint s = .next t ∧
      t.hedge.mid = midpoint (s.hedge.counted.map (·.o)) ∧ t.hedge.midDone = true ∧
      t.hedge.lastN = s.hedge.counted.length ∧ t.hedge.lastK = discardsOf s.hedge.counted.length ∧ t.tb = s.tb) ∧
    (s.hedge.cycling = true → s.hedge.midDone = true → s.hedge.corrected = false →
      s.pastInCycle (4 * s.hedge.cfg.ns + s.hedge.cfg.nm + 1) = true →
      (s.hedge.mid = none → exec .hedgerowCorrection s = .next { s with hedge.corrected := true, hedge.shift := s.nitShift }) ∧
      (∀ o e t, s.hedge.mid = some o → o + s.thetaAt (s.hedge.start16 + 64000 * s.hedge.cfg.ns) = e →
        { s with hedge.corrected := true, hedge.shift := s.nitShift, hedge.theta := -o, hedge.thetaAt := s.now, hedge.eps := e } = t →
        (s.hedge.hstate ≠ .active ∨ mag e ≤ 24000 → exec .hedgerowCorrection s = .next (t.hedgeMeasure o s.hedge.rEst)) ∧
        (s.hedge.hstate = .active → 24000 < mag e → exec .hedgerowCorrection s = .next (t.goPassive.hedgeMeasure o s.hedge.rEst)))) ∧
    (s.hedge.hstate = .coldstart → 2 ≤ s.hedge.cycle → s.hedge.heard = [] → s.hedge.sent = [] → s.unit.pair.paired = false →
      s.tb.stepped = true → s.tb.cycleC ≠ 0 → 8 * ((s.hNs : Nat) : Int) ≤ s.cycleStartNow - s.hedge.start16 →
      ∃ t, exec .hedgerowCycleEnd s = .next t ∧ t.hedge.hstate = .active ∧ t.hedge.cycle = s.hedge.cycle + 1)

/-- After the last static slot the node takes the midpoint of that cycle's values. Of n values, 1 to 8, in ascending
order the k lowest and the k highest are discarded (k = 0 for n up to 3, 1 for n from 4 to 6, 2 for n of 7 or
8), and o is half the sum of the lowest and the highest that remain, rounded as floor(x + 1/2). No values give
no o. -/
def Obligations.MidpointDiscardsExtremes : Prop :=
  (∀ s : State, s.hedge.cycling = true → s.hedge.midDone = false → s.pastInCycle (4 * s.hedge.cfg.ns) = true →
    s.hedge.syncNodes.length + (if s.hedge.isSync then 1 else 0) ≤ 8 →
    ∃ t, exec .hedgerowMidpoint s = .next t ∧ t.hedge.mid = midpoint (s.hedge.counted.map (·.o))) ∧
  midpoint [] = none ∧
  ∀ l : List Int, l ≠ [] → l.length ≤ 8 →
    ∃ r : List Int, r.Perm l ∧ r.Pairwise (· ≤ ·) ∧ ∃ k : Nat,
      (k = if l.length ≤ 3 then 0 else if l.length ≤ 6 then 1 else 2) ∧
      midpoint l = some ((r.getD k 0 + r.getD (l.length - 1 - k) 0 + 1) / 2)

/-- Where no more values lie outside a range than are discarded at each end, the midpoint lies in the range,
whatever those values are; and the order in which values came does not change it. -/
def Obligations.MidpointToleratesFaults : Prop :=
  (∀ (l : List Int) (lo hi : Int), l ≠ [] → l.length ≤ 8 →
    (l.filter fun x => decide (x < lo) || decide (hi < x)).length ≤ discardsOf l.length →
    ∃ m, midpoint l = some m ∧ lo ≤ m ∧ m ≤ hi) ∧
  (∀ l l' : List Int, l.Perm l' → midpoint l = midpoint l')

/-- Keepalives are sent and heard only by a paired unit; ML is down 100 us after the last frame, and with three
cycles without heartbeat the Standby takes over; the loss of PARTNER_ALIVE takes over or is a wire fault;
fail-back is asked for once after its hold-off; the hand-back instant acts on both sides and not before;
UN_COUNTS clears as it is read and UN_EVENTS where written. -/
def Obligations.MirrorLinkAndPartner : Prop :=
  (∀ s : State,
    (s.unit.pair.paired = true → s.ident.fwReady = true →
      (s.power.sleep = .none ∨ s.power.sleep = .answered →
        exec .mlKeepaliveSend s = .next ({ s with unit.keepaliveAt := s.up }.emit
          (.mirror (.keepalive s.unit.mode s.inControl s.unit.ready Config.mirrorVer))) ∧
        ∀ f, exec (.mlFrameReceived f) s = .next (s.mlHeard.mlFrame f)) ∧
      s.mlHeard.unit.mlUp = true ∧ s.mlHeard.unit.mlAt = s.up) ∧
    (s.unit.pair.paired = false → ∀ f, exec (.mlFrameReceived f) s = .next s) ∧
    (s.unit.mlUp = true → s.unit.mlAt + 1000000 ≤ s.up →
      (s.unit.hbCycles < 3 → exec .mlDownTimeout s =
        .next ({ s with unit.mlUp := false, unit.partnerReady := false }.unSet 5)) ∧
      (3 ≤ s.unit.hbCycles → exec .mlDownTimeout s =
        .next ({ s with unit.mlUp := false, unit.partnerReady := false }.takeover))) ∧
    (s.up < s.unit.mlAt + 1000000 → exec .mlDownTimeout s = .next s)) ∧
  (∀ s : State,
    (s.unit.mode = .standby → s.unit.pair.paired = true → s.unit.aliveFault = false →
      s.unit.aliveAt.getD s.power.releasedAt + 30000000 ≤ s.up →
      (s.unit.ctlCycles < 3 → exec .partnerAliveTimeout s =
        .next (({ s with unit.aliveFault := true }.unSet 8).raise 169)) ∧
      (3 ≤ s.unit.ctlCycles → exec .partnerAliveTimeout s = .next s.takeover)) ∧
    (s.inControl = false →
      (s.aliveOk = true → exec .partnerAliveEdge s = .next { s with unit.aliveAt := some s.up, unit.aliveFault := false }) ∧
      (s.aliveOk = false → exec .partnerAliveEdge s = .next { s with
        unit.readySince := s.up, unit.failbackAsked := false, unit.aliveAt := some s.up, unit.aliveFault := false })) ∧
    (s.inControl = true → s.unit.pair.paired = true → s.unit.partnerSeen = true → s.unit.hbMode = .standby →
      3 ≤ s.unit.hbCycles → s.unit.mlUp = false → s.unit.frameAt + 25000000 < s.up → s.aliveOk = true →
      exec .partnerAliveEdge s = .next { s with unit.aliveAt := some s.up, unit.aliveFault := false }.demote) ∧
    (s.unit.mode = .standby → s.unit.pair.paired = true → s.unit.pair.failback = true → s.preferred = true →
      s.unit.ready = true → s.aliveOk = true → s.unit.failbackAsked = false →
      s.unit.readySince + 10000000 * s.unit.pair.holdoffMs ≤ s.up →
      exec .failbackHoldoff s = .next ({ s with unit.failbackAsked := true }.emit (.mirror .failbackRequest))) ∧
    (∀ t, s.unit.handbackAt = some t → t ≤ s.now →
      (s.inControl = true → exec .handbackInstant s = .next s.giveControl) ∧
      (s.inControl = false → s.unit.mode = .standby → exec .handbackInstant s = .next (s.takeHandback t))) ∧
    (∀ t, s.unit.handbackAt = some t → s.now < t → exec .handbackInstant s = .next s) ∧
    (∀ a b, min s.unit.takeovers s.cycle.takeovers = a → min s.unit.discards s.cycle.discards = b →
      exec .unCountsRead s = .next ({ s with unit.takeovers := a, unit.discards := b }.emit
        (.readData (BitVec.ofNat 32 ((s.unit.takeovers - a) * 65536 + (s.unit.discards - b)))))) ∧
    (∀ v, exec (.unEventsWrite v) s = .next { s with
      unit.events := (s.unit.events &&& ~~~ v.setWidth 10) ||| (s.unit.events &&& s.cycle.unBits) }))

/-- An epoch closes at its end and is sent where the unit mirrors; after a step of the timebase the epochs start anew with a
baseline; the record of the oldest closed epoch is created;
the Standby applies an epoch that is whole, in order and agrees with its record, and discards one whose digest
differs. -/
def Obligations.EpochEvents : Prop :=
  ∀ s : State,
    (∀ n, s.inControl = true → s.unit.epochOpen = true → (s.epochNow - s.unit.epoch).toNat = n → 1 ≤ n → n < 2 ^ 31 →
      (s.mirrors = false → exec .epochClose s = .next (s.openEpoch (s.unit.epoch + 1))) ∧
      (s.mirrors = true → exec .epochClose s =
        .next ((s.sendEpoch ((s.now / 250000 + 1 - n) * 250000)).openEpoch (s.unit.epoch + 1)))) ∧
    (s.inControl = true → s.unit.epochOpen = true → 2 ^ 31 ≤ (s.epochNow - s.unit.epoch).toNat →
      exec .epochClose s = .next { s.openEpoch s.epochNow with unit.sendBaseline := true }) ∧
    (∀ e rest, s.unit.closed = e :: rest → s.inControl = true → exec .commitRecordCreate s = .next ({ s with
      unit.closed := rest, unit.committed := e.epoch, hedge.commits := s.hedge.commits ++ [e.record] }.logEpoch
        ⟨e.epoch, e.data.length, e.record.digest, .sent⟩)) ∧
    (∀ e rest r, s.unit.held = e :: rest → s.unit.mode = .standby → (s.unit.recs.find? fun r => r.epoch = e.epoch) = some r →
      e.ended = true →
      (r.bytes = e.data.length % 2 ^ 24 → r.digest = digest8 e.data → (e.opens = true ∨ s.unit.applied = some (e.epoch - 1)) →
        exec .epochApply s = .next (s.applyEpoch e r.digest)) ∧
      (r.digest ≠ digest8 e.data →
        exec .epochApply s = .next ((s.discardEpoch e .badDigest r.digest).digestFail).checkReady))

/-- A unit in control whose hand-back instant has come leaves the control role and reports the hand-back done where
its partner is READY and ML is up; otherwise it keeps the role and reports that the hand-back failed. Either way
no hand-back is pending. -/
def Obligations.HandbackGivesControl : Prop :=
  ∀ (s : State) (t : Nat), s.unit.handbackAt = some t → t ≤ s.now → s.inControl = true →
    ∃ u, exec .handbackInstant s = .next u ∧ u.unit.handbackAt = none ∧
      (s.unit.partnerReady = true → s.unit.mlUp = true → u.inControl = false ∧ u.unit.handback = .done) ∧
      ((s.unit.partnerReady = false ∨ s.unit.mlUp = false) → u.inControl = true ∧ u.unit.handback = .failed)

/-- While the Gleaner runs: evaluations (each microsecond from the reset release has one, log 3), window expiries, deadlines, the end of a region's re-initialisation,
firmware clears, record writes, the watchdog, the comparator's self-test, the ALIVE edge and injected faults act
as the manual says. GL_CLEAR queues a clear for the next evaluation, a read of GL_STATUS0 latches all the words,
a write of GL_EVENTS clears the bits written as 1. FAULT_SET_SOURCE sets parameters, FAULT_CLEAR queues a clear,
FAULT_SAVE_CONFIG saves the parameters, FAULT_RAISE raises source 191, FAULT_INJECT in FACTORY_TEST starts an
injection or resets the shadow state. That WINDOW_EXPIRY, SOURCE_SEVERE and DEADLINE name an evaluation is the
model's reading (log 27). -/
def Obligations.GleanerAndFaultCommands : Prop :=
  (∀ s : State, s.gleanerRuns = true →
    (s.gl.tick < (s.up - s.power.releasedAt) / 10000 →
      exec (.gleanerEvaluation false) s = .next ({ s with gl.tick := s.gl.tick + 1 }.evaluationSteps).severeNotReady ∧
      exec (.gleanerEvaluation true) s = .next ({ s with gl.tick := s.gl.tick + 1 }.lockstepFailure).severeNotReady) ∧
    ((s.up - s.power.releasedAt) / 10000 ≤ s.gl.tick → ∀ m, exec (.gleanerEvaluation m) s = .next s) ∧
    (∀ n, (s.src n).severe = false → 0 < (s.src n).c → (s.src n).w ≤ s.gl.tick + 1 →
      exec (.gleanerWindowExpiry n) s = .next (s.evaluateGl false)) ∧
    (∀ n, (s.src n).severe = false → ((s.evaluateGl false).src n).severe = true →
      exec (.sourceSevere n) s = .next (s.evaluateGl false)) ∧
    (∀ n d, (s.src n).severe = true → (s.src n).deadline = some d → d ≤ s.gl.tick + 1 →
      exec (.gleanerDeadline n) s = .next (s.evaluateGl false)) ∧
    (∀ r, mapGet .none s.gl.regionPhase r = .reinit → (s.loops.frames.any fun p => p.2 = .region r) = false → s.ident.fwReady = false →
      exec (.regionReinitComplete r) s = .next { s.modElems (regionElements r) (fun _ x => x.reinit) with
        gl.regionPhase := mapSet .none s.gl.regionPhase r .reload }) ∧
    (∀ n r, s.gl.record = some r → s.ident.fwReady = true → n ≠ 144 → (s.src n).severe = true →
      ((s.src n).running n).fwClear = true →
      (∀ t, (s.src n).repaired = some t → t + 1000 < s.gl.tick ∨ (t + 1000 = s.gl.tick ∧ (s.src n).waiting = 0) →
        exec (.firmwareClear n) s = .next { s with gl.clears := s.gl.clears ++ [({
          source := some n, seqLo := r.seq.toNat % 65536, by_ := 1 } : Clear)] })) ∧
    (∀ r rest, s.gl.logPending = r :: rest → s.ident.fwReady = true →
      exec .recordFlashWrite s = .next { s with gl.log := (r :: s.gl.log).take 256, gl.logPending := rest }) ∧
    (s.gl.wdRun = true → s.gl.wdLast + 10000000 * s.gl.wdPeriodMs ≤ s.up →
      exec .watchdogExpiry s = .next ({ s with gl.wdLast := s.up }.raise 144)) ∧
    (s.gl.testTick / 10000 < s.gl.tick / 10000 →
      exec (.comparatorSelfTest true) s = .next { s with gl.testTick := s.gl.tick } ∧
      exec (.comparatorSelfTest false) s = .next (({ s with gl.testTick := s.gl.tick, gl.compFail := true }.glSet 5).raise 145)) ∧
    (s.alive = 0 → s.gl.tick % 500 = 0 → s.gl.edgeTick ≠ s.gl.tick →
      exec .aliveEdge s = .next { s.setAlive (s.gl.aliveResume || !s.gl.aliveHigh) with
        gl.aliveResume := false, gl.edgeTick := s.gl.tick }) ∧
    (∀ i, s.gl.inj = some i → i.nextTick ≤ s.gl.tick → 1 < i.left →
      exec .faultInjectEvent s = .next { s.injectOne i.source with
        gl.inj := some { i with left := i.left - 1, nextTick := i.nextTick + i.intervalUs } })) ∧
  (∀ s : State,
    (∀ v : Word, s.gleanerRuns = true → bit v 8 = false → fld v 7 0 < 192 →
      exec (.glClearSource v) s = .next { s with gl.clears := s.gl.clears ++ [({
        source := some (fld v 7 0), seqLo := fld v 31 16, by_ := 2 } : Clear)] }) ∧
    (∀ v : Word, s.gleanerRuns = true → ∃ k, exec (.glClearAll v) s = .next { s with gl.clears := s.gl.clears ++ [k] } ∧
      k.source = none ∧ k.seqLo = fld v 31 16 ∧ k.by_ = 2) ∧
    (exec .glStatus0Read s = .next { s with
      gl.latchStatus := s.glStatus, gl.latchShadow := s.glShadow, out := .readData (statusWord s.glStatus 0) :: s.out }) ∧
    (∀ v : Word, exec (.glEventsWrite v) s = .next { s with
      gl.events := (s.gl.events &&& ~~~ v.setWidth 6) ||| (s.gl.events &&& s.cycle.glBits) })) ∧
  (∀ (s : State) (tag : Tag) (c : InFlight),
    (∀ first ps, Waits s tag 0x0D03 c → sourcesOk first ps.length = true →
      (∀ q ∈ ps.zipIdx, s.paramsRefused (first + q.2) q.1 = none) →
      exec (.faultSetSource tag first ps) s =
        (ps.zipIdx.foldl (fun t q => t.modSrc (first + q.2) fun x => { x with params := some q.1 }) s).ok c) ∧
    (∀ r n, Waits s tag 0x0D04 c → s.gl.lockstep = false → n < 192 → s.gl.record = some r →
      exec (.faultClear tag (some n) r.seq) s = { s with gl.clears := s.gl.clears ++ [({
        source := some n, seqLo := r.seq.toNat % 65536, by_ := 3 } : Clear)] }.ok c) ∧
    (Asks s tag 0x0D06 c → s.il.saving = none →
      exec (.faultSaveConfig tag) s = { s with
        gl.saved := s.gl.srcs.filterMap fun (p : Nat × Src) => p.2.params.map fun x => (p.1, x), il.saving := some 0x0D }.ok c) ∧
    (Asks s tag 0x0D08 c → s.gl.lockstep = false → exec (.faultRaise tag) s = (s.raise 191).ok c) ∧
    (∀ n k us, Waits s tag 0x0D09 c → s.unit.mode = .factoryTest → s.gl.lockstep = false → n < 192 → n ≠ 146 →
      1 ≤ k → k ≤ 255 → 1 ≤ us → us ≤ 1000 → s.gl.inj = none →
      exec (.faultInject tag (.start n k us)) s =
        { s with gl.inj := some { source := n, left := k, intervalUs := us, nextTick := s.gl.tick } }.ok c) ∧
    (Waits s tag 0x0D09 c → s.unit.mode = .factoryTest → s.gl.lockstep = false →
      exec (.faultInject tag .resetShadow) s = { s with gl.shadow := [], gl.shRecord := none, gl.injMasked := 0 }.ok c))

/-- An evaluation, where one is due, whose comparison fails latches the lockstep HOLD cause, stops the watchdog and both copies, drops
the waiting clears; from then on no evaluation changes anything. -/
def Obligations.LockstepFailureStops : Prop :=
  ∀ s : State, s.gleanerRuns = true → s.gl.tick < (s.up - s.power.releasedAt) / 10000 →
    ∃ t, exec (.gleanerEvaluation true) s = .next t ∧
    t.gl.lockstep = true ∧ t.gl.wdRun = false ∧ t.gleanerRuns = false ∧ t.gl.clears = [] ∧
    t.power.ret.cause.getLsbD 6 = true ∧
    ∀ m, exec (.gleanerEvaluation m) t = .next t

/-- Power on and the rise of PWR_EN 2 ms after it, loss of VWAKE, brown-out, the reset pins, DEVICE_RESET's delay, the
release, which pulses FL_RST_N, the wipe, the boot ROM, FW_READY, which starts CALIBRATE or the FACTORY_TEST asked for, the confirmation of an image and the class F resets each act where the device stands in the phase that
they end. From the assertion of RESET_N or PERST# the device waits for release in BOOT, firmware is not ready,
no command is in flight and no answer waits, and the reset cause is the pin's. -/
def Obligations.PowerAndBootEvents : Prop :=
  (∀ s : State,
    (s.power.phase = .off → exec .powerOn s = .next { s with
      power.phase := .waitRelease, power.vwake := true, power.classP := true, power.dark := true, power.cause := 1
      power.ret := {}, power.tbRefAt := s.up, power.railsAt := s.up + 20000000 }) ∧
    (s.power.phase = .waitRelease → s.power.pwrEn = false → s.power.railsAt ≤ s.up →
      exec .pwrEnRise s = .next { s.setPwrEn true with power.railsAt := s.up }) ∧
    (s.power.phase ≠ .off → ∃ t, exec .vwakeLoss s = .next t ∧ t.power.phase = .off ∧ t.power.vwake = false ∧
      t.power.ret = { cause := 0, nextSeq := 1, record := none, lastResetTime := 0, resetCount := 0 }) ∧
    (s.powered = true → s.power.detectors = true → exec .brownOut s = .next ({ s with power.railsAt := s.up }.classReset true 1)) ∧
    (s.powered = true → exec .resetNAssert s = .next ({ s with power.resetN := false }.classReset false 3)) ∧
    (s.powered = true → exec .perstAssert s = .next ({ s with power.perstN := false }.classReset false 4)) ∧
    (∀ t, s.il.resetDue = some t → t ≤ s.up →
      exec .resetDeviceDelayExpiry s = .next ({ s with il.resetDue := none }.classReset false 7)) ∧
    (∀ x, s.power.phase = .waitRelease → s.power.tbRef = true → s.power.pwrEn = true → s.railsGood = true →
      s.power.tbRefAt + 10000000 ≤ s.up →
      exec (.resetRelease x) s = .next (({ s with
        power.phase := .wiping, power.resetN := true, power.perstN := true, power.detectors := true, power.releasedAt := s.up
        power.paceAt := s.up, tb.counter := 0, tb.incr := 0x666666666#36, tb.stepped := false
        gl.resetCause := s.power.ret.cause, gl.wdPeriodMs := 4000, gl.wdLast := s.up, gl.wdRun := true
        unit.unitIdStrap := x.unitId, unit.pref := x.pref, hedge.node := x.unitId.toNat, hedge.coldNode := x.coldstart }.emit
          (.pin .flRstN 0)).emit (.pin .flRstN 1))) ∧
    (s.power.phase = .wiping → exec .wipeComplete s = .next { s with power.phase := .bootRom }.bootRom) ∧
    (s.power.phase = .bootRom → s.trust.loaded = true → s.trust.factoryRequest = none → s.gl.regionPhase = [] →
      exec .fwReady s = .next ({ s.identify with
        power.phase := .running, trust.readyAt := s.up, trust.factoryRequest := none, gl.wdPeriodMs := 500, gl.wdLast := s.up }.loadParams.restoreLanes.startCalibrate)) ∧
    (s.power.phase = .bootRom → s.trust.loaded = true → s.trust.factoryRequest = some s.trust.lc → (s.trust.lc = 0 ∨ s.trust.lc = 3) →
      s.gl.regionPhase = [] → ∃ t, exec .fwReady s = .next t ∧ t.unit.mode = .factoryTest ∧ t.ident.fwReady = true ∧
      t.trust.factoryRequest = none) ∧
    (s.ident.fwReady = true → s.trust.confirmed = false → s.trust.readyAt + 600000000000 ≤ s.up →
      exec .fwConfirm s = .next { s with trust.confirmed := true, trust.boot.trial := s.trust.boot.trial && s.trust.staged }) ∧
    (s.functionUp = true → exec .pcieHotReset s = .next s.classF) ∧
    (s.functionUp = true → exec .functionLevelReset s = .next s.classF) ∧
    (exec .classFWipeComplete s = .next { s with power.classF := false })) ∧
  (∀ (s : State) (i : Instr), i = .resetNAssert ∨ i = .perstAssert → s.functionUp = true →
    ∃ t, exec i s = .next t ∧ t.power.phase = .waitRelease ∧ t.power.classP = false ∧ t.unit.mode = .boot ∧
      t.ident.fwReady = false ∧ t.il.inflight = [] ∧ t.il.answers = [] ∧
      t.power.cause = (if i = .resetNAssert then 3 else 4))

/-- HOLD_N enters HOLD and its release may end it; WAKE is recognised in SLEEP; the shut-down, the parking of every
element, the fall of PWR_EN and its rise on a wake follow each other; the loss and return of TB_REF, a rail
outside its range, the supply pace and the role wait have their effect. On a Standby unit POWER_HOLD enters HOLD
at the next loop frame start, its release ends the cause, and POWER_SLEEP asks for SLEEP. -/
def Obligations.SleepHoldAndPower : Prop :=
  (∀ s : State,
    (s.powered = true → exec .holdNAssert s = .next { s with power.holdN := false, power.pinHold := true }.holdEntry) ∧
    (s.powered = true → exec .holdNRelease s = .next { s with power.holdN := true, power.pinHold := false }.holdRelease) ∧
    (s.power.phase = .asleep ∨ s.power.sleep ≠ .none → exec .wakeRise s = .next { s with power.wakeRecognised := true }) ∧
    (s.power.sleep = .answered → s.power.sleepT0 + 10000000 ≤ s.up → ∃ t, exec .sleepShutdown s = .next t ∧
      t.power.sleep = .shutdown ∧ t.unit.mlUp = false ∧ t.gl.wdRun = false ∧ t.hedge.hstate = .off) ∧
    (s.power.sleep = .shutdown → s.power.sleepFrame ≤ s.now → (s.unit.mode = .standby ∨ s.unit.mode = .hold) →
      ∃ t, exec .sleepPark s = .next t ∧ t.power.sleep = .parked ∧ t.power.detectors = false ∧
      t.unit.mode = .sleep ∧ ∀ p ∈ t.loops.elems, p.2.mode = .pk) ∧
    (s.power.sleep = .parked → ∃ t, exec .pwrEnFall s = .next t ∧ t.power.phase = .asleep ∧ t.power.pwrEn = false ∧
      t.power.sleepT4 = s.up) ∧
    (s.power.phase = .asleep → s.power.wakeRecognised = true → s.power.sleepT4 + 100000000 ≤ s.up → ∃ t,
      exec .pwrEnRise s = .next t ∧ t.power.phase = .waitRelease ∧ t.power.pwrEn = true ∧ t.power.cause = 2 ∧ t.power.classP = true) ∧
    (s.powered = true → s.power.tbRef = true → exec .tbRefLoss s = .next ({ s with power.tbRef := false }.raise 152)) ∧
    (s.power.tbRef = false → exec .tbRefReturn s = .next { s with power.tbRef := true, power.tbRefAt := s.up }) ∧
    (∀ r v, r ≤ 7 → s.powered = true → v < (railRange r).1 ∨ (railRange r).2 < v → s.railIgnored r = false →
      exec (.railExcursion r v) s = .next ({ s with power.rails := mapSet none s.power.rails r (some v) }.raise (176 + r))) ∧
    (∀ r v, r ≤ 7 → s.powered = true → (railRange r).1 ≤ v → v ≤ (railRange r).2 →
      (∀ w, mapGet none s.power.rails r = some w → w < (railRange r).1 ∨ (railRange r).2 < w → exec (.railExcursion r v) s = .next { s with
        power.rails := mapSet none s.power.rails r (some v), power.railsAt := s.up })) ∧
    (∀ v : BitVec 16, (s.power.phase = .wiping ∨ s.functionUp = true) →
      (s.up < s.power.paceAt + 10000000 → exec (.paceUpdate v) s = .next s) ∧
      (s.power.paceAt + 10000000 ≤ s.up → 0x0A00 ≤ v.toNat → exec (.paceUpdate v) s = .next { s with
        ident.pace := v, power.paceAt := s.up - (s.up - s.power.releasedAt) % 10000000 })) ∧
    (s.unit.mode = .calibrate → s.unit.waiting.isSome = true → exec .roleWaitExpiry s = .next s.roleDecision)) ∧
  (∀ (s : State) (tag : Tag) (c : InFlight), s.unit.mode = .standby →
    (Waits s tag 0x0E02 c → exec (.powerHold tag true) s = (({ s with power.cmdHold := true } : State).atFrame .hold).ok c) ∧
    (Waits s tag 0x0E02 c → s.power.pinHold = false → s.gl.lockstep = false →
      exec (.powerHold tag false) s = (({ s with power.cmdHold := false } : State).holdRelease).ok c) ∧
    (Asks s tag 0x0E03 c → s.sleeping = false → exec (.powerSleep tag) s = ({ s with power.sleepAsked := some tag } : State).ok c))

/-- A TAP instruction changes nothing but the TAP; EXTEST, CLAMP and HIGHZ act where the device is open to them and
are BYPASS elsewhere. Writes of configuration registers act while their queue is disabled; memory errors, link
changes, losses of lock are events of their sources. -/
def Obligations.TapAndRegisterEvents : Prop :=
  (∀ s : State,
    (exec .tapBypass s = .next (s.tapSelect .bypass)) ∧
    (exec .tapIdcode s = .next (s.tapSelect .idcode)) ∧
    (∀ l, exec (.tapSamplePreload l) s = .next { s.tapSelect .samplePreload with tap.cells := l }) ∧
    (s.tapOpen = true → exec .tapExtest s = .next { s with tap := { s.tap with
        ir := .extest, driving := some s.tap.cells, highZ := false } } ∧
      exec .tapClamp s = .next { s with tap := { s.tap with ir := .clamp, driving := some s.tap.cells, highZ := false } } ∧
      exec .tapHighz s = .next { s with tap := { s.tap with ir := .highz, driving := none, highZ := true } }) ∧
    (s.tapOpen = false → ∀ i ∈ [Instr.tapExtest, .tapClamp, .tapHighz],
      exec i s = .next { s with tap := { s.tap with ir := .bypass, driving := none, highZ := false } })) ∧
  (∀ s : State,
    (∀ (q : QId) o v off, s.barOpen = true → off % 4 = 0 → off < 0x4000 ∨ 0x5000 ≤ off → off < 0xA000 ∨ 0xB000 ≤ off →
      queueAt off = some (q, o) → (s.sub q.key).state = .disabled →
      exec (.registerWrite off v) s = .next (s.modSub q.key (SubQ.configure q.kind o v))) ∧
    (∀ off v, s.barOpen = true → off % 4 = 0 → 0xA000 ≤ off → off < 0xB000 → (s.cqn ((off - 0xA000) / 64)).enable = false →
      exec (.registerWrite off v) s = .next (s.modCq ((off - 0xA000) / 64) (ComplQ.configure (off % 64) v))) ∧
    (∀ off v, s.barOpen = true → off % 4 = 0 → 0x4000 ≤ off → off < 0x5000 →
      exec (.registerWrite off v) s = .next (s.writeIc (off - 0x4000) v)) ∧
    (∀ e, MemErr.placed e = true → s.functionUp = true → exec (.memoryError e) s = .next (s.memoryError e)) ∧
    (∀ e, e < numElements → s.functionUp = true → exec (.memoryError (.blockUncorrectable e)) s =
      .next (((s.holdBlock [e]).raiseBlock e 1).partEvent (.block (regionOf e) (blockOf e)))) ∧
    ((s.power.phase = .wiping ∨ s.functionUp = true) →
      (s.periodDue s.power.retrainA 100000000 = true →
        exec (.granaryRetrain false true) s = .next { s with power.retrainA := some s.up } ∧
        exec (.granaryRetrain false false) s = .next ({ s with power.retrainA := some s.up }.raise 170)) ∧
      (s.periodDue s.power.retrainB 100000000 = true →
        exec (.granaryRetrain true true) s = .next { s with power.retrainB := some s.up } ∧
        exec (.granaryRetrain true false) s = .next ({ s with power.retrainB := some s.up }.raise 171))) ∧
    (∀ n v, s.functionUp = true → exec (.pcieLinkChange false n v) s = .next ({ s with host.linkUp := false }.raise 188)) ∧
    (s.functionUp = true → exec .mlLaneLossOfLock s = .next (s.raise 189)) ∧
    (s.functionUp = true → exec .pllLossOfLock s = .next (s.raise 190)))

/-- TRUST_GET_STATUS, TRUST_GET_IDENTITY and TRUST_GET_NONCE answer; TRUST_ATTEST waits for the
next loop frame start, where the attestation record is captured, signed and answered; TRUST_ADVANCE_SVN, TRUST_REVOKE_KEY, TRUST_SET_AXARO_KEY and TRUST_SET_POLICY blow the fuses that they name, or
are refused with the reason. That MIN_SVN ends at 127 is its width. -/
def Obligations.TrustCommandsTakeEffect : Prop :=
  ∀ (s : State) (tag : Tag) (c : InFlight),
    (Asks s tag 0x0F01 c → Reads (.trustGetStatus tag) s c) ∧
    (Asks s tag 0x0F02 c → exec (.trustGetIdentity tag) s = .next (s.answer c (Reply.bytes Config.certificates))) ∧
    (∀ nonce, Waits s tag 0x0F03 c → c.len = 32 → s.trust.lc ≠ 3 → s.unit.mode ≠ .boot → s.attesting tag = false →
      exec (.trustAttest tag nonce) s = .next (s.atFrame (.attest tag nonce))) ∧
    (∀ nonce, (s.il.inflight.find? fun x => x.tag = tag && !x.answered) = some c →
      (∀ x ∈ s.sheaves.store, x.phase = .committed → s.now / 1000 * 1000 < x.instant) → s.frameAct (.attest tag nonce) =
      s.answer c (Reply.bytes (s.attestation nonce ++ fitBytes 64 (Config.sign s.trust.idSeed (sha512 (s.attestation nonce)))))) ∧
    (Asks s tag 0x0F04 c → s.trust.confirmed = true → exec (.trustAdvanceSvn tag) s =
      { s with trust.minSvn := max s.trust.minSvn (min 127 (imageSvn s.runningImage)) }.ok c) ∧
    (Asks s tag 0x0F04 c → s.trust.confirmed = false → exec (.trustAdvanceSvn tag) s = s.no c .notPermitted) ∧
    (∀ k rec_, Waits s tag 0x0F05 c → k ≤ 3 → s.revocationOk true k rec_ = true → exec (.trustRevokeKey tag true k rec_) s =
      { s with trust.arevoke := s.trust.arevoke ||| BitVec.ofNat 4 (2 ^ k) }.ok c) ∧
    (∀ k rec_, Waits s tag 0x0F05 c → k ≤ 3 → exec (.trustRevokeKey tag false k rec_) s =
      if s.revocationOk false k rec_ = false then s.no c .signature 4
      else if s.signedImage k = true then s.no c .inUse
      else if (([0, 1, 2, 3] : List Nat).any fun j => j ≠ k && s.trust.claordOk j) then
        { s with trust.crevoke := s.trust.crevoke ||| BitVec.ofNat 4 (2 ^ k) }.ok c
      else s.no c .notPermitted) ∧
    (∀ k key, Waits s tag 0x0F06 c → k ≤ 3 → s.trust.lc ≤ 1 → mapGet 0 s.trust.akey k = 0 →
      exec (.trustSetAxaroKey tag k key) s = { s with trust.akey := mapSet 0 s.trust.akey k key }.ok c) ∧
    (∀ k key, Waits s tag 0x0F06 c → k ≤ 3 → s.trust.lc ≤ 1 → mapGet 0 s.trust.akey k ≠ 0 →
      exec (.trustSetAxaroKey tag k key) s = s.no c .inUse) ∧
    (Asks s tag 0x0F07 c → s.trust.lc ≤ 1 → exec (.trustSetPolicy tag) s = { s with trust.policySigned := true }.ok c) ∧
    (Asks s tag 0x0F07 c → 1 < s.trust.lc → exec (.trustSetPolicy tag) s = s.no c .notPermitted) ∧
    (Asks s tag 0x0F08 c → exec (.trustGetNonce tag) s = .next ({ s.drawn with trust.nonce := some (Config.random s.free) }.answer c
      (Reply.bytes (leNat 32 (Config.random s.free).toNat))))

/-- Refused NOT_PERMITTED while the running image is unconfirmed; no effect where MIN_SVN is at that value or
higher; otherwise MIN_SVN becomes the SVN of the running image (MIN_SVN holds 0 to 127). An image whose SVN is
below MIN_SVN fails its verification, by the rollback stage where every other stage passes, and the boot ROM
never runs it. -/
def Obligations.AdvanceSvnBlowsMinSvn : Prop :=
  ∀ (s : State) (tag : Tag) (c : InFlight), Asks s tag 0x0F04 c →
    (s.trust.confirmed = false → exec (.trustAdvanceSvn tag) s = s.no c .notPermitted) ∧
    (s.trust.confirmed = true → imageSvn s.runningImage ≤ s.trust.minSvn → exec (.trustAdvanceSvn tag) s = s.ok c) ∧
    (s.trust.confirmed = true → s.trust.minSvn < imageSvn s.runningImage → imageSvn s.runningImage ≤ 127 →
      exec (.trustAdvanceSvn tag) s = { s with trust.minSvn := imageSvn s.runningImage }.ok c) ∧
    (∀ img, imageSvn img < s.trust.minSvn → s.trust.failing img ≠ 0 ∧
      (s.trust.failing img = 8 ∨ ∃ p ∈ s.trust.stages img, p.1 ≠ 8 ∧ p.2 = false)) ∧
    (∀ t : State, ∀ slot, imageSvn (t.slotBytes slot) < t.trust.minSvn →
      ¬ (t.bootRom.trust.loaded = true ∧ t.bootRom.trust.runSlot = slot))

/-- TRUST_SET_LIFECYCLE where nothing refuses it raises LC_FUSE by one and wipes the saved configurations, with a
class H reset that ends every command; a target that is not the next state, a unit in control and state RETURNED
are refused NOT_PERMITTED. TRUST_FACTORY_TEST in FACTORY or RETURNED asks for FACTORY_TEST at the next boot. -/
def Obligations.LifecycleAdvances : Prop :=
  ∀ (s : State) (tag : Tag) (c : InFlight) (target : Nat) (rec_ : Option SignedRecord),
    (Waits s tag 0x0F09 c → s.inReset = false → s.lifecycleOpen target = true → s.il.fw.open_ = false → s.il.saving = none → s.cal.saving = false →
      (target = 3 → s.returnOk rec_ = true) → ∃ t : State, exec (.trustSetLifecycle tag target rec_) s = t.ok c ∧
        t.trust.lc = s.trust.lc + 1 ∧ t.hedge.saved = none ∧ t.gl.saved = [] ∧ t.unit.startupMap = none ∧
        t.il.inflight = [] ∧ (s.trust.lc = 2 → t.trust.idSeed = BitVec.allOnes 256)) ∧
    (Waits s tag 0x0F09 c → target ≠ s.trust.lc + 1 ∨ s.inControl = true ∨ 3 ≤ s.trust.lc →
      exec (.trustSetLifecycle tag target rec_) s = s.no c .notPermitted) ∧
    (Asks s tag 0x0F0A c → s.inControl = false → (s.trust.lc = 0 ∨ s.trust.lc = 3) →
      exec (.trustFactoryTest tag) s = ({ s with trust.factoryRequest := some s.trust.lc }.classReset false 7).ok c)

/-- For every command and state, a step with the command at the front of the queue is exec of it on the state with
the queue's rest. The queue of waiting commands is the model's own (log 1). -/
def Obligations.StepRunsFrontCommand : Prop :=
  ∀ (i : Instr) (rest : List Instr) (s : State),
    step { s with pending := i :: rest } = exec i { s with pending := rest }

/-- exec answers a next state for every command in every state: no command faults and none is refused by the model.
A step leaves the queue with its first command taken off and none added, and changes neither ID_REV nor
ID_SERIAL. The queue is the model's own (log 1). -/
def Obligations.EveryStepCompletes : Prop :=
  (∀ (i : Instr) (s : State), ∃ t, exec i s = .next t) ∧
  (∀ s t : State, step s = .next t → t.pending = s.pending.tail) ∧
  (∀ s t : State, step s = .next t → t.ident.rev = s.ident.rev ∧ t.ident.serial = s.ident.serial)

/-- Whatever command runs, LC_FUSE and MIN_SVN never fall, a revocation, POLICY_SIGNED and the destruction of
ID_SEED stay, and an Axaro key that is written stays as it is. The premise, the canonical form of the key slots,
is an invariant of the model (CanonicalFormIsKept). CKEY is fused before the model begins. -/
def Obligations.FusesAreOnlyBlown : Prop :=
  ∀ s t : State, mapWf 0 s.trust.akey = true → step s = .next t →
    s.trust.lc ≤ t.trust.lc ∧ s.trust.minSvn ≤ t.trust.minSvn ∧
    (∀ k, s.trust.crevoke.getLsbD k = true → t.trust.crevoke.getLsbD k = true) ∧
    (∀ k, s.trust.arevoke.getLsbD k = true → t.trust.arevoke.getLsbD k = true) ∧
    (∀ k, mapGet 0 s.trust.akey k ≠ 0 → mapGet 0 t.trust.akey k = mapGet 0 s.trust.akey k) ∧
    (s.trust.policySigned = true → t.trust.policySigned = true) ∧ (s.trust.idSeed = BitVec.allOnes 256 → t.trust.idSeed = BitVec.allOnes 256)

/-- If at most 256 commands are in flight and their tags differ, the same holds after every step, whatever command
runs. Commands that a class F reset has ended go on without an answer and do not count (log 32). -/
def Obligations.InFlightLimitIsKept : Prop :=
  ∀ s t : State, inFlightOk s.il.inflight → step s = .next t → inFlightOk t.il.inflight

/-- If the mailbox bodies, the key slots and the tables of elements, gates, frames in flight, host queues and
vectors are in canonical form (keys rise strictly, no entry equals what an unlisted one reads as), they are
after every step. The form is the model's own representation. -/
def Obligations.CanonicalFormIsKept : Prop :=
  ∀ s t : State, s.canonical → step s = .next t → t.canonical

/-- The state after reset has its tables in canonical form, with no command waiting or in flight. -/
def Obligations.ResetHasInvariants : Prop :=
  State.reset.canonical ∧ inFlightOk State.reset.il.inflight ∧ State.reset.pending = [] ∧ State.reset.il.inflight = []
end

