-- ==== Sys2Proof/Laws/Serve.lean ====
section
/-! SUPPORT. What carrying out a command does, said once: the command found, its body run, and the answer made
(13_ilucy R381, R384). -/
namespace Sys2Proof.Machine

/-- A command that waits may also be read ahead of its group. -/
theorem findServed_reads {l : List InFlight} {tag : Tag} {code : Nat} {c : InFlight}
    (h : findServed l tag code false = some c) : findServed l tag code true = some c := by
  unfold findServed at h ⊢
  cases hf : l.find? fun c => c.tag = tag && c.code.toNat = code && !c.answered with
  | none => simp [hf] at h
  | some d =>
    simp only [hf] at h ⊢
    split at h
    · simpa using h
    · cases h

/-- A command found has the tag and code, and is in flight and not answered. -/
theorem Waits.found {s : State} {tag : Tag} {code : Nat} {c : InFlight} (h : Waits s tag code c) :
    c ∈ s.il.inflight ∧ c.tag = tag ∧ c.code.toNat = code ∧ c.answered = false := by
  unfold Waits findServed at h
  cases hf : s.il.inflight.find? fun c => c.tag = tag && c.code.toNat = code && !c.answered with
  | none => simp [hf] at h
  | some d =>
    simp only [hf] at h
    split at h
    · cases h
      have hp := List.find?_some hf
      simp only [Bool.and_eq_true, decide_eq_true_eq, Bool.not_eq_eq_eq_not, Bool.not_true] at hp
      exact ⟨List.mem_of_find?_eq_some hf, hp.1.1, hp.1.2, hp.2⟩
    · cases h

/-- A command that waits, of a length that the manual leaves to its payload, is carried out and answered. -/
theorem serve_any {s : State} {tag : Tag} {code : Nat} {c : InFlight} (h : Waits s tag code c) (reads : Bool)
    (body : State → State × Reply) : s.serve tag code reads none body = (body s).1.answer c (body s).2 := by
  have hf : findServed s.il.inflight tag code reads = some c := by
    cases reads
    · exact h
    · exact findServed_reads h
  simp [State.serve, hf]

/-- A command that waits, with the payload length that the manual fixes, is carried out and answered. -/
theorem serve_len {s : State} {tag : Tag} {code : Nat} {c : InFlight} (h : Waits s tag code c) (reads : Bool)
    (body : State → State × Reply) : s.serve tag code reads (some c.len) body = (body s).1.answer c (body s).2 := by
  have hf : findServed s.il.inflight tag code reads = some c := by
    cases reads
    · exact h
    · exact findServed_reads h
  simp [State.serve, hf]

/-- A command that waits and has no payload is carried out and answered. -/
theorem serve_asks {s : State} {tag : Tag} {code : Nat} {c : InFlight} (h : Asks s tag code c) (reads : Bool)
    (body : State → State × Reply) : s.serve tag code reads (some 0) body = (body s).1.answer c (body s).2 := by
  have := serve_len h.1 reads body
  rwa [h.2] at this

/-- A command of another length than its own is refused with BAD_LENGTH, and its effect does not come about
(13_ilucy R386). -/
theorem serve_badLength {s : State} {tag : Tag} {code n : Nat} {c : InFlight} (h : Waits s tag code c) (hn : n ≠ c.len)
    (reads : Bool) (body : State → State × Reply) :
    s.serve tag code reads (some n) body = s.answer c (Reply.no .badLength n) := by
  have hf : findServed s.il.inflight tag code reads = some c := by
    cases reads
    · exact h
    · exact findServed_reads h
  simp [State.serve, hf, hn]

/-- With no such command in flight nothing is carried out. -/
theorem serve_none {s : State} {tag : Tag} {code : Nat} {reads : Bool} {len : Option Nat} {body : State → State × Reply}
    (h : findServed s.il.inflight tag code reads = none) : s.serve tag code reads len body = s := by
  simp [State.serve, h]

/-- A query that waits answers what it reads and changes nothing else. -/
theorem query_any {s : State} {tag : Tag} {code : Nat} {c : InFlight} (h : Waits s tag code c) (reply : State → Reply) :
    s.query tag code none reply = s.answer c (reply s) := serve_any h true _

theorem query_len {s : State} {tag : Tag} {code : Nat} {c : InFlight} (h : Waits s tag code c) (reply : State → Reply) :
    s.query tag code (some c.len) reply = s.answer c (reply s) := serve_len h true _

theorem query_asks {s : State} {tag : Tag} {code : Nat} {c : InFlight} (h : Asks s tag code c) (reply : State → Reply) :
    s.query tag code (some 0) reply = s.answer c (reply s) := serve_asks h true _

end Sys2Proof.Machine
end

