-- ==== Sys2Proof/Laws/Answer.lean ====
section
/-! SUPPORT. What an answer can change, said once (13_ilucy R381, R391, R392): the command block, the interrupt block,
the power block's record of a SLEEP that waits for its answer, and the outputs. -/
namespace Sys2Proof.Machine

/-- `t` is `s` but for what an answer may change. -/
def AnswerFrame (s t : State) : Prop :=
  ∃ il power host out, t = { s with il := il, power := power, host := host, out := out }

theorem AnswerFrame.refl (s : State) : AnswerFrame s s := ⟨s.il, s.power, s.host, s.out, rfl⟩

theorem AnswerFrame.trans {s t u : State} (h : AnswerFrame s t) (k : AnswerFrame t u) : AnswerFrame s u := by
  obtain ⟨_, _, _, _, rfl⟩ := h
  obtain ⟨_, _, _, _, rfl⟩ := k
  exact ⟨_, _, _, _, rfl⟩

theorem AnswerFrame.ite {b : Prop} [Decidable b] {s t u : State} (h : AnswerFrame s t) (k : AnswerFrame s u) :
    AnswerFrame s (if b then t else u) := by
  split
  · exact h
  · exact k

theorem emit_frame (x : Emit) (s : State) : AnswerFrame s (s.emit x) := ⟨_, _, _, _, rfl⟩

theorem trigger_frame (v : Nat) (s : State) : AnswerFrame s (s.trigger v) := by
  unfold State.trigger
  dsimp only
  repeat' split
  all_goals exact ⟨_, _, _, _, rfl⟩

theorem countEvent_frame (v : Nat) (s : State) : AnswerFrame s (s.countEvent v) := by
  unfold State.countEvent
  exact .ite (.trans ⟨_, _, _, _, rfl⟩ (trigger_frame _ _)) ⟨_, _, _, _, rfl⟩

theorem mbEvent_frame (s : State) : AnswerFrame s s.mbEvent := by
  unfold State.mbEvent
  split
  · exact countEvent_frame _ _
  · exact .refl s

theorem afterPush_frame (tag : Tag) (s : State) : AnswerFrame s (s.afterPush tag) := by
  unfold State.afterPush
  dsimp only
  repeat' split
  all_goals exact ⟨_, _, _, _, rfl⟩

theorem pushRecord_frame (c : InFlight) (s : State) : AnswerFrame s (s.pushRecord c) := by
  unfold State.pushRecord
  dsimp only
  split
  · exact .trans ⟨_, _, _, _, rfl⟩ (afterPush_frame _ _)
  · exact .trans (.trans ⟨_, _, _, _, rfl⟩ (mbEvent_frame _)) (afterPush_frame _ _)

theorem writeHostAnswer_frame (h : HeldAnswer) (s : State) : AnswerFrame s (s.writeHostAnswer h) := by
  unfold State.writeHostAnswer
  dsimp only
  split
  · exact .trans (emit_frame _ _) (pushRecord_frame _ _)
  · exact .trans (.trans (emit_frame _ _) (emit_frame _ _)) (pushRecord_frame _ _)

theorem markAnswered_frame (c : InFlight) (s : State) : AnswerFrame s (s.markAnswered c) := by
  unfold State.markAnswered
  split <;> exact ⟨_, _, _, _, rfl⟩

theorem unasked_frame (tag : Tag) (s : State) : AnswerFrame s (s.unasked tag) := ⟨_, _, _, _, rfl⟩

/-- All that an answer can do. -/
theorem answer_frame (c : InFlight) (r : Reply) (s : State) : AnswerFrame s (s.answer c r) := by
  unfold State.answer
  dsimp only
  split
  · exact .trans (markAnswered_frame _ _) (unasked_frame _ _)
  split
  · exact markAnswered_frame _ _
  · split
    · split
      · exact .trans (markAnswered_frame _ _) (writeHostAnswer_frame _ _)
      · exact .trans (markAnswered_frame _ _) ⟨_, _, _, _, rfl⟩
    · exact .trans (.trans (markAnswered_frame _ _) ⟨_, _, _, _, rfl⟩) (pushRecord_frame _ _)

/-! The parts of the state that no answer changes. -/
section
variable (c : InFlight) (r : Reply) (s : State)

@[simp] theorem answer_ident : (s.answer c r).ident = s.ident := by obtain ⟨_, _, _, _, h⟩ := answer_frame c r s; rw [h]
@[simp] theorem answer_gl : (s.answer c r).gl = s.gl := by obtain ⟨_, _, _, _, h⟩ := answer_frame c r s; rw [h]
@[simp] theorem answer_tb : (s.answer c r).tb = s.tb := by obtain ⟨_, _, _, _, h⟩ := answer_frame c r s; rw [h]
@[simp] theorem answer_loops : (s.answer c r).loops = s.loops := by obtain ⟨_, _, _, _, h⟩ := answer_frame c r s; rw [h]
@[simp] theorem answer_fabric : (s.answer c r).fabric = s.fabric := by obtain ⟨_, _, _, _, h⟩ := answer_frame c r s; rw [h]
@[simp] theorem answer_sheaves : (s.answer c r).sheaves = s.sheaves := by obtain ⟨_, _, _, _, h⟩ := answer_frame c r s; rw [h]
@[simp] theorem answer_cal : (s.answer c r).cal = s.cal := by obtain ⟨_, _, _, _, h⟩ := answer_frame c r s; rw [h]
@[simp] theorem answer_ports : (s.answer c r).ports = s.ports := by obtain ⟨_, _, _, _, h⟩ := answer_frame c r s; rw [h]
@[simp] theorem answer_gates : (s.answer c r).gates = s.gates := by obtain ⟨_, _, _, _, h⟩ := answer_frame c r s; rw [h]
@[simp] theorem answer_streams : (s.answer c r).streams = s.streams := by obtain ⟨_, _, _, _, h⟩ := answer_frame c r s; rw [h]
@[simp] theorem answer_rules : (s.answer c r).rules = s.rules := by obtain ⟨_, _, _, _, h⟩ := answer_frame c r s; rw [h]
@[simp] theorem answer_hedge : (s.answer c r).hedge = s.hedge := by obtain ⟨_, _, _, _, h⟩ := answer_frame c r s; rw [h]
@[simp] theorem answer_unit : (s.answer c r).unit = s.unit := by obtain ⟨_, _, _, _, h⟩ := answer_frame c r s; rw [h]
@[simp] theorem answer_trust : (s.answer c r).trust = s.trust := by obtain ⟨_, _, _, _, h⟩ := answer_frame c r s; rw [h]
@[simp] theorem answer_tap : (s.answer c r).tap = s.tap := by obtain ⟨_, _, _, _, h⟩ := answer_frame c r s; rw [h]
@[simp] theorem answer_pending : (s.answer c r).pending = s.pending := by obtain ⟨_, _, _, _, h⟩ := answer_frame c r s; rw [h]
@[simp] theorem answer_up : (s.answer c r).up = s.up := by obtain ⟨_, _, _, _, h⟩ := answer_frame c r s; rw [h]
@[simp] theorem answer_free : (s.answer c r).free = s.free := by obtain ⟨_, _, _, _, h⟩ := answer_frame c r s; rw [h]
@[simp] theorem answer_cycle : (s.answer c r).cycle = s.cycle := by obtain ⟨_, _, _, _, h⟩ := answer_frame c r s; rw [h]

end

end Sys2Proof.Machine
end

