-- ==== Sys2Proof/Laws/Repair.lean ====
section
/-! SUPPORT. What the route solver can do to the state, said once: it stages sheaves, in a solver command (06_sheaves
R183), in an automatic repair (03_fabric R100), and it sets elements where LOCK brings up the map (07 R203). -/
namespace Sys2Proof.Machine

/-- The cheapest entry of a list is an entry of it. -/
theorem cheapest_mem {α : Type} {l : List ((Nat × Nat × Nat) × α)} {p : (Nat × Nat × Nat) × α} (h : cheapest l = some p) :
    p ∈ l := by
  induction l generalizing p with
  | nil => cases h
  | cons x xs ih =>
    unfold cheapest at h
    split at h
    · cases h; exact List.mem_cons_self
    · rename_i y hy
      split at h <;> cases h
      · exact List.mem_cons_of_mem _ (ih hy)
      · exact List.mem_cons_self

/-- A repair at an instant stages sheaves. -/
theorem repairAt_stages {fix : List Nat} {s t : State} {instant : Nat} (h : s.repairAt fix instant = some t) :
    ∃ l, t = (s.stageAll l).1 := by
  unfold State.repairAt at h
  obtain ⟨p, hp, rfl⟩ := Option.map_eq_some_iff.mp h
  obtain ⟨sub, -, h'⟩ := List.mem_filterMap.mp (cheapest_mem hp)
  split at h'
  · cases h'
  · obtain ⟨x, -, h''⟩ := Option.bind_eq_some_iff.mp h'
    generalize hl : s.routeSheaves _ x = l at h''
    refine ⟨l, ?_⟩
    split at h'' <;> cases h''
    rename_i hs
    rw [hs]

/-- An automatic repair stages sheaves or does nothing. -/
theorem autoRepair_stages (fix : List Nat) (s : State) : s.autoRepair fix = s ∨ ∃ l, s.autoRepair fix = (s.stageAll l).1 := by
  unfold State.autoRepair
  split
  · generalize hf : List.findSome? _ _ = o
    cases o with
    | none => exact .inl rfl
    | some t =>
      obtain ⟨k, -, hk⟩ := List.exists_of_findSome?_eq_some hf
      exact .inr (repairAt_stages hk)
  · exact .inl rfl

/-- A solver command that is not refused makes a report and stages sheaves, none of them in a dry run. -/
theorem solveCommand_stages (r : SolveReq) (dry okReq : Bool) (s : State) :
    (s.solveCommand r dry okReq).1 = s ∨
      ∃ l rep, (s.solveCommand r dry okReq).1 = { (if dry then s else (s.stageAll l).1) with sheaves.report := rep } := by
  unfold State.solveCommand
  split
  · exact .inl rfl
  · split
    · exact .inl rfl
    · split
      · exact .inl rfl
      · split
        · exact .inl rfl
        · rename_i x _
          dsimp only
          generalize s.routeSheaves r x = l
          split
          · exact .inl rfl
          · split
            · exact .inl rfl
            · rename_i t hs
              exact .inr ⟨l, _, by rw [hs]⟩

/-- Changes of a map of elements are changes of single elements. -/
theorem withChanges_mods (P : SMap Elem → Prop) (hP : ∀ m k f, P m → P (mapMod Elem.park m k f)) (s : State) (at_ : Nat)
    (l : List Change) (m : SMap Elem) (h : P m) : P (s.withChanges at_ m l) := by
  unfold State.withChanges
  induction l generalizing m with
  | nil => exact h
  | cons c l ih =>
    refine ih _ ?_
    dsimp only
    split
    · exact hP _ _ _ (hP _ _ _ h)
    · exact hP _ _ _ h

/-- Bringing up the map changes single elements, and what the map follows from them. -/
theorem bringUp_mods (P : SMap Elem → Prop) (hP : ∀ m k f, P m → P (mapMod Elem.park m k f)) (s : State)
    (h : P s.loops.elems) : ∃ m, P m ∧ s.bringUp = { s with loops.elems := m }.refreshMap := by
  unfold State.bringUp
  have h0 : ∃ m, P m ∧ (if s.power.dark then { s with loops.elems := s.lit } else s) = { s with loops.elems := m } := by
    split
    · exact ⟨_, withChanges_mods P hP s _ _ _ h, rfl⟩
    · exact ⟨s.loops.elems, h, rfl⟩
  obtain ⟨m, hm, e⟩ := h0
  rw [e]
  dsimp only
  split
  · exact ⟨m, hm, rfl⟩
  · split
    · have k (u : State) (at_ : Nat) (l : List Change) (n : SMap Elem) (hn : P n) : P (l.foldl (u.applyTo at_) n) := by
        induction l generalizing n with
        | nil => exact hn
        | cons c l ih => exact ih _ (hP _ _ _ hn)
      exact ⟨_, k _ _ _ _ hm, rfl⟩
    · exact ⟨m, hm, rfl⟩

end Sys2Proof.Machine
end

