-- ==== Sys2Proof/Laws/Core.lean ====
section
/-! SUPPORT. The part of the state that no operation of the device changes, one lemma for each operation: the queue of
waiting commands, what is fused, and the mailbox bodies. Carrying out a command, the doorbell and resets, which write
or clear the bodies, are in Laws/Keeps.lean. -/
namespace Sys2Proof.Machine

/-- The queue, ID_REV, ID_SERIAL and the mailbox bodies. -/
def State.core (s : State) : List Instr × Word × BitVec 64 × SMap Byte × Nat × Nat × BitVec 4 × BitVec 4 ×
    SMap (BitVec 256) × Bool × BitVec 256 × List InFlight :=
  (s.pending, s.ident.rev, s.ident.serial, s.il.bar2, s.trust.lc, s.trust.minSvn, s.trust.crevoke, s.trust.arevoke, s.trust.akey,
    s.trust.policySigned, s.trust.idSeed, s.il.inflight)
/-- A record update changes the core only where it changes one of its parts. -/
@[simp] theorem core_mk (a b c d e f g h i j k l m n o p q r u v w x y) :
    (State.mk a b c d e f g h i j k l m n o p q r u v w x y).core = 
      (u, a.rev, a.serial, b.bar2, q.lc, q.minSvn, q.crevoke, q.arevoke, q.akey, q.policySigned, q.idSeed, b.inflight) := rfl
@[simp] theorem core_eta (s : State) : (s.pending, s.ident.rev, s.ident.serial, s.il.bar2,
    s.trust.lc, s.trust.minSvn, s.trust.crevoke, s.trust.arevoke, s.trust.akey,
    s.trust.policySigned, s.trust.idSeed, s.il.inflight) = s.core := rfl
@[simp] theorem core_ite {b : Prop} [Decidable b] (s t : State) : (if b then s else t).core = if b then s.core else t.core := by
  split <;> rfl
@[simp] theorem core_ite1 {α : Type} {b : Prop} [Decidable b] (s t : State × α) : (if b then s else t).1.core = if b then s.1.core else t.1.core := by
  split <;> rfl
@[simp] theorem core_foldl {α : Type} (f : State → α → State) (l : List α) (s : State) (h : ∀ t x, (f t x).core = t.core) :
    (l.foldl f s).core = s.core := by
  induction l generalizing s with
  | nil => rfl
  | cons x l ih => rw [List.foldl_cons, ih, h]

@[simp] theorem core_foldl1 {α β : Type} (f : State × β → α → State × β) (l : List α) (s : State × β) (h : ∀ t x, (f t x).1.core = t.1.core) :
    (l.foldl f s).1.core = s.1.core := by
  induction l generalizing s with
  | nil => rfl
  | cons x l ih => rw [List.foldl_cons, ih, h]

@[simp] theorem emit_core (x : Emit) (s : State) : (State.emit x s).core = s.core := by
  simp [State.emit]

@[simp] theorem drawn_core (s : State) : (State.drawn s).core = s.core := by
  simp [State.drawn]

@[simp] theorem raiseN_core (src k : Nat) (s : State) : (State.raiseN src k s).core = s.core := by
  simp [State.raiseN]

@[simp] theorem raise_core (src : Nat) (s : State) : (State.raise src s).core = s.core := by
  simp [State.raise]

@[simp] theorem raiseBlock_core (e k : Nat) (s : State) : (State.raiseBlock e k s).core = s.core := by
  simp [State.raiseBlock]

@[simp] theorem sendMsix_core (v : Nat) (s : State) : (State.sendMsix v s).core = s.core := by
  simp [State.sendMsix]

@[simp] theorem trigger_core (v : Nat) (s : State) : (State.trigger v s).core = s.core := by
  simp [State.trigger]

@[simp] theorem countEvent_core (v : Nat) (s : State) : (State.countEvent v s).core = s.core := by
  simp [State.countEvent]

@[simp] theorem mbEvent_core (s : State) : (State.mbEvent s).core = s.core := by
  simp [State.mbEvent]

@[simp] theorem glEvent_core (s : State) : (State.glEvent s).core = s.core := by
  simp [State.glEvent]

@[simp] theorem unEvent_core (s : State) : (State.unEvent s).core = s.core := by
  simp [State.unEvent]

@[simp] theorem glSet_core (i : Nat) (s : State) : (State.glSet i s).core = s.core := by
  simp [State.glSet]

@[simp] theorem unSet_core (i : Nat) (s : State) : (State.unSet i s).core = s.core := by
  simp [State.unSet]

@[simp] theorem modMb_core (m : Nat) (f : Mailbox → Mailbox) (s : State) : (State.modMb m f s).core = s.core := by
  simp [State.modMb]

@[simp] theorem afterPush_core (tag : Tag) (s : State) : (State.afterPush tag s).core = s.core := by
  simp [State.afterPush]

@[simp] theorem pushRecord_core (c : InFlight) (s : State) : (State.pushRecord c s).core = s.core := by
  simp [State.pushRecord]

@[simp] theorem writeHostAnswer_core (h : HeldAnswer) (s : State) : (State.writeHostAnswer h s).core = s.core := by
  simp [State.writeHostAnswer]


@[simp] theorem unasked_core (tag : Tag) (s : State) : (State.unasked tag s).core = s.core := by
  simp [State.unasked]

@[simp] theorem refuse_core (s : State) (st : Status) (detail : Nat) : (refuse s st detail).1.core = s.core := by
  simp [refuse]

@[simp] theorem failed_core (s : State) (code : Nat) : (failed s code).1.core = s.core := by
  simp [failed]

@[simp] theorem modMonitor_core (ch : Nat) (f : ChanCal → ChanCal) (s : State) : (State.modMonitor ch f s).core = s.core := by
  simp [State.modMonitor]

@[simp] theorem modLine_core (l : Nat) (f : LineCal → LineCal) (s : State) : (State.modLine l f s).core = s.core := by
  simp [State.modLine]

@[simp] theorem modElem_core (e : Nat) (f : Elem → Elem) (s : State) : (State.modElem e f s).core = s.core := by
  simp [State.modElem]

@[simp] theorem modElems_core (es : List Nat) (f : Nat → Elem → Elem) (s : State) : (State.modElems es f s).core = s.core := by
  simp [State.modElems]

@[simp] theorem launched_core (t : Nat) (s : State) : (State.launched t s).core = s.core := by
  simp [State.launched]

@[simp] theorem logSubstAt_core (time kind cause source logical frm dest outcome left events : Nat) (s : State) : (State.logSubstAt time kind cause source logical frm dest outcome left events s).core = s.core := by
  simp [State.logSubstAt]

@[simp] theorem logSubst_core (kind cause source logical frm dest outcome left events : Nat) (s : State) : (State.logSubst kind cause source logical frm dest outcome left events s).core = s.core := by
  simp [State.logSubst]

@[simp] theorem partEvent_core (p : Part) (s : State) : (State.partEvent p s).core = s.core := by
  simp [State.partEvent]

@[simp] theorem calibrated_core (e : Nat) (f : ImgEl → ImgEl) (s : State) : (State.calibrated e f s).core = s.core := by
  simp [State.calibrated]

@[simp] theorem repairDone_core (src : Nat) (s : State) : (State.repairDone src s).core = s.core := by
  simp [State.repairDone]

@[simp] theorem acceptSheaf_core (x : Sheaf) (s : State) : (State.acceptSheaf x s).core = s.core := by
  simp [State.acceptSheaf]

@[simp] theorem submit_core (ws : List Word) (by_ : Submitter) (s : State) : (State.submit ws by_ s).1.core = s.core := by
  (unfold State.submit; (try dsimp only); repeat' split) <;> simp [*]

@[simp] theorem modSheaf_core (id : Nat) (f : Sheaf → Sheaf) (s : State) : (State.modSheaf id f s).core = s.core := by
  simp [State.modSheaf]

@[simp] theorem freeSlot_core (j : Option Nat) (s : State) : (State.freeSlot j s).core = s.core := by
  (unfold State.freeSlot; (try dsimp only); repeat' split) <;> simp [*]

@[simp] theorem fcqComplete_core (q idx : Nat) (body : List Byte) (s : State) : (State.fcqComplete q idx body s).core = s.core := by
  simp [State.fcqComplete]

@[simp] theorem noticeFor_core (x : Sheaf) (kind outcome : Nat) (s : State) : (State.noticeFor x kind outcome s).core = s.core := by
  simp [State.noticeFor]

@[simp] theorem outcome_core (id code detail : Nat) (s : State) : (State.outcome id code detail s).core = s.core := by
  (unfold State.outcome; (try dsimp only); repeat' split) <;> simp [*]

@[simp] theorem reevaluateOne_core (f : Sheaf) (s : State) (g : Sheaf) : (State.reevaluateOne f s g).1.core = s.core := by
  (unfold State.reevaluateOne; repeat' split) <;> simp [*]

@[simp] theorem reevaluate_core (f : Sheaf) (s : State) : (s.reevaluate f).1.core = s.core := by
  unfold State.reevaluate
  exact core_foldl1 _ _ _ fun p g => reevaluateOne_core f p.1 g

@[simp] theorem stopStook_core (f : Sheaf) (s : State) : (State.stopStook f s).1.core = s.core := by
  (unfold State.stopStook; (try dsimp only); repeat' split) <;> simp [*]

@[simp] theorem settle_core (n : Nat) (ids : List Nat) (s : State) : (State.settle n ids s).core = s.core := by
  induction n generalizing ids s with
  | zero => rw [State.settle]
  | succ n ih =>
    cases ids with
    | nil => simp [State.settle]
    | cons i ids =>
      rw [State.settle]
      split
      · rw [ih]
      · dsimp only
        rw [ih]
        split <;> simp

@[simp] theorem failSheaf_core (id : Nat) (code : Nat) (detail : Nat) (s : State) : (State.failSheaf id code detail s).core = s.core := by
  simp [State.failSheaf]

@[simp] theorem failSheaves_core (ids : List Nat) (code : Nat) (s : State) : (State.failSheaves ids code s).core = s.core := by
  simp [State.failSheaves]

@[simp] theorem refreshMap_core (s : State) : (State.refreshMap s).core = s.core := by
  simp [State.refreshMap]

@[simp] theorem supersede_core (p : Nat → Bool) (s : State) : (State.supersede p s).core = s.core := by
  simp [State.supersede]

@[simp] theorem driveFailed_core (plane stage cell : Nat) (kind : FailKind) (s : State) : (State.driveFailed plane stage cell kind s).core = s.core := by
  simp [State.driveFailed]

@[simp] theorem withdrawFor_core (g : Nat) (s : State) : (State.withdrawFor g s).core = s.core := by
  unfold State.withdrawFor
  dsimp only
  rw [settle_core, failSheaves_core, core_foldl]
  simp

@[simp] theorem stageAll_core (l : List Sheaf) (s : State) : (State.stageAll l s).1.core = s.core := by
  induction l generalizing s with
  | nil => rfl
  | cons x xs ih =>
    unfold State.stageAll
    split
    · rfl
    · rw [ih]; simp [State.acceptSheaf]

@[simp] theorem autoRepair_core (fix : List Nat) (s : State) : (State.autoRepair fix s).core = s.core := by
  obtain h | ⟨l, h⟩ := autoRepair_stages fix s <;> rw [h]
  exact stageAll_core l s

@[simp] theorem declareFailed_core (plane stage cell : Nat) (kind : FailKind) (ev : Evidence) (s : State) :
    (State.declareFailed plane stage cell kind ev s).core = s.core := by
  unfold State.declareFailed
  dsimp only
  rw [core_ite, autoRepair_core, refreshMap_core, withdrawFor_core, driveFailed_core, logSubst_core]
  exact ite_self _

@[simp] theorem modPort_core (p : Nat) (f : Port → Port) (s : State) : (State.modPort p f s).core = s.core := by
  simp [State.modPort]

@[simp] theorem count_core (p i n : Nat) (s : State) : (State.count p i n s).core = s.core := by
  simp [State.count]

@[simp] theorem pauseCheck_core (stored : Bool) (p : Nat) (s : State) : (State.pauseCheck stored p s).core = s.core := by
  (unfold State.pauseCheck; (try dsimp only); repeat' split) <;> simp [*]

@[simp] theorem pauseChecks_core (s : State) : (State.pauseChecks s).core = s.core := by
  simp [State.pauseChecks]

@[simp] theorem modSub_core (k : Nat) (f : SubQ → SubQ) (s : State) : (State.modSub k f s).core = s.core := by
  simp [State.modSub]

@[simp] theorem toHost_core (q : Nat) (w : RxWait) (s : State) : (State.toHost q w s).core = s.core := by
  simp [State.toHost]

@[simp] theorem storeToHost_core (q : Nat) (w : RxWait) (s : State) : (State.storeToHost q w s).core = s.core := by
  simp [State.storeToHost]

@[simp] theorem enqueue_core (p : Nat) (f : TxFrame) (s : State) : (State.enqueue p f s).core = s.core := by
  simp [State.enqueue]

@[simp] theorem copyDone_core (owner : Option (Nat × Nat)) (port : Nat) (st : Nat) (stamp : Option Nat) (s : State) : (State.copyDone owner port st stamp s).core = s.core := by
  (unfold State.copyDone; repeat' split) <;> simp [*]

@[simp] theorem foldTheta_core (s : State) : (State.foldTheta s).core = s.core := by
  simp [State.foldTheta]

@[simp] theorem rebaseLoops_core (d : Int) (old : Nat) (s : State) : (State.rebaseLoops d old s).core = s.core := by
  simp [State.rebaseLoops]

@[simp] theorem timeStep_core (c : BitVec 96) (s : State) : (State.timeStep c s).core = s.core := by
  simp [State.timeStep]

@[simp] theorem servo_core (offset rEst : Int) (s : State) : (State.servo offset rEst s).core = s.core := by
  simp [State.servo]

@[simp] theorem enterHoldover_core (s : State) : (State.enterHoldover s).core = s.core := by
  simp [State.enterHoldover]

@[simp] theorem useSource_core (x : Source) (s : State) : (State.useSource x s).core = s.core := by
  simp [State.useSource]

@[simp] theorem sourceLost_core (x : Source) (s : State) : (State.sourceLost x s).core = s.core := by
  (unfold State.sourceLost; (try dsimp only); repeat' split) <;> simp [*]

@[simp] theorem measurement_core (x : Source) (offset rEst : Int) (src : BitVec 96) (s : State) : (State.measurement x offset rEst src s).core = s.core := by
  (unfold State.measurement; (try dsimp only); repeat' split) <;> simp [*]

@[simp] theorem applyPtp_core (s : State) : (State.applyPtp s).core = s.core := by
  simp [State.applyPtp]

@[simp] theorem closeWindow_core (t : Nat) (s : State) : (State.closeWindow t s).core = s.core := by
  (unfold State.closeWindow; (try dsimp only); repeat' split) <;> simp [*]

@[simp] theorem acceptEdge_core (e : Int) (ahead : Bool) (s : State) : (State.acceptEdge e ahead s).core = s.core := by
  simp [State.acceptEdge]

@[simp] theorem rejectEdge_core (s : State) : (State.rejectEdge s).core = s.core := by
  simp [State.rejectEdge]

@[simp] theorem setSyncOut_core (high : Bool) (s : State) : (State.setSyncOut high s).core = s.core := by
  simp [State.setSyncOut]

@[simp] theorem foldShift_core (s : State) : (State.foldShift s).core = s.core := by
  simp [State.foldShift]

@[simp] theorem applyAtCommon_core (s : State) : (State.applyAtCommon s).core = s.core := by
  simp [State.applyAtCommon]

@[simp] theorem settleCommon_core (s : State) : (State.settleCommon s).core = s.core := by
  simp [State.settleCommon]

@[simp] theorem boundary_core (s0 : State) : (State.boundary s0).core = s0.core := by
  (unfold State.boundary; (try dsimp only); repeat' split) <;> simp [*]

@[simp] theorem pulse_core (t : Nat) (id : Option Nat) (s : State) : (State.pulse t id s).core = s.core := by
  (unfold State.pulse; (try dsimp only); repeat' split) <;> simp [*]

@[simp] theorem modGate_core (p : Nat) (f : GatePort → GatePort) (s : State) : (State.modGate p f s).core = s.core := by
  simp [State.modGate]

@[simp] theorem preempt_core (p : Nat) (s : State) : (State.preempt p s).core = s.core := by
  (unfold State.preempt; (try dsimp only); repeat' split) <;> simp [*]

@[simp] theorem applyEntry_core (p : Nat) (e : GateEntry) (s : State) : (State.applyEntry p e s).core = s.core := by
  simp [State.applyEntry]

@[simp] theorem gateBoundary_core (c p : Nat) (s : State) : (State.gateBoundary c p s).core = s.core := by
  (unfold State.gateBoundary; (try dsimp only); repeat' split) <;> simp [*]

@[simp] theorem gatesAtBoundary_core (c : Nat) (s : State) : (State.gatesAtBoundary c s).core = s.core := by
  simp [State.gatesAtBoundary]

@[simp] theorem gatesReanchor_core (s : State) : (State.gatesReanchor s).core = s.core := by
  simp [State.gatesReanchor]

@[simp] theorem coversOff_core (s : State) : (State.coversOff s).core = s.core := by
  simp [State.coversOff]

@[simp] theorem withdrawSwap_core (s : State) : (State.withdrawSwap s).core = s.core := by
  (unfold State.withdrawSwap; (try dsimp only); repeat' split) <;> simp [*]

@[simp] theorem modStream_core (n : Nat) (f : Stream → Stream) (s : State) : (State.modStream n f s).core = s.core := by
  simp [State.modStream]

@[simp] theorem countStream_core (n i k : Nat) (s : State) : (State.countStream n i k s).core = s.core := by
  simp [State.countStream]

@[simp] theorem recoveryReset_core (n : Nat) (s : State) : (State.recoveryReset n s).core = s.core := by
  simp [State.recoveryReset]

@[simp] theorem recover_core (n q : Nat) (s0 : State) : (State.recover n q s0).1.core = s0.core := by
  (unfold State.recover; (try dsimp only); repeat' split) <;> simp [*]

@[simp] theorem generate_core (n : Nat) (tag host : Option Nat) (s : State) : (State.generate n tag host s).1.core = s.core := by
  (unfold State.generate; (try dsimp only); repeat' split) <;> simp [*]

@[simp] theorem portCopy_core (n p : Nat) (x : Stream) (i : StreamIn) (seq : Option Nat) (s : State) : (State.portCopy n p x i seq s).1.core = s.core := by
  simp [State.portCopy]

@[simp] theorem hostCopy_core (n : Nat) (x : Stream) (i : StreamIn) (seq : Option Nat) (s : State) : (State.hostCopy n x i seq s).core = s.core := by
  simp [State.hostCopy]

@[simp] theorem replicate_core (n : Nat) (x : Stream) (i : StreamIn) (seq : Option Nat) (s : State) :
    (State.replicate n x i seq s).1.core = s.core := by
  have key : ∀ (l : List Nat) (a : State × Nat), a.1.core = s.core → (l.foldl (fun (a : State × Nat) p =>
      ((a.1.portCopy n p x i seq).1, a.2 + (if (a.1.portCopy n p x i seq).2 then 1 else 0))) a).1.core = s.core := by
    intro l
    induction l with
    | nil => exact fun a h => h
    | cons y l ih => exact fun a h => ih _ (by simpa using h)
  unfold State.replicate
  dsimp only
  split
  · rw [hostCopy_core]
    exact key _ _ (by split <;> simp)
  · exact key _ _ (by split <;> simp)

@[simp] theorem enterStream_core (n : Nat) (i : StreamIn) (s : State) : (State.enterStream n i s).1.core = s.core := by
  unfold State.enterStream
  dsimp only
  repeat' split
  all_goals try (rename_i h; have k := congrArg Prod.fst h; dsimp only at k; rw [← k])
  all_goals simp

@[simp] theorem atFrame_core (a : FrameAct) (s : State) : (State.atFrame a s).core = s.core := by
  simp [State.atFrame]

@[simp] theorem holdRegion_core (r : Nat) (s : State) : (State.holdRegion r s).core = s.core := by
  simp [State.holdRegion]

@[simp] theorem releaseRegion_core (r : Nat) (s : State) : (State.releaseRegion r s).core = s.core := by
  simp [State.releaseRegion]

@[simp] theorem holdBlock_core (es : List Nat) (s : State) : (State.holdBlock es s).core = s.core := by
  simp [State.holdBlock]

@[simp] theorem holdDevice_core (s : State) : (State.holdDevice s).core = s.core := by
  simp [State.holdDevice]

@[simp] theorem handBackAll_core (s : State) : (State.handBackAll s).core = s.core := by
  simp [State.handBackAll]

@[simp] theorem setMode_core (m : Mode) (s : State) : (State.setMode m s).core = s.core := by
  simp [State.setMode]

@[simp] theorem checkDegraded_core (s : State) : (State.checkDegraded s).core = s.core := by
  simp [State.checkDegraded]

@[simp] theorem judgeCell_core (g : Nat) (ev : Evidence) (s : State) : (State.judgeCell g ev s).core = s.core := by
  (unfold State.judgeCell; (try dsimp only); repeat' split) <;> simp [*]

@[simp] theorem holdEntry_core (s : State) : (State.holdEntry s).core = s.core := by
  simp [State.holdEntry]

@[simp] theorem startEpochs_core (s : State) : (State.startEpochs s).core = s.core := by
  simp [State.startEpochs]

@[simp] theorem jumpCounters_core (s : State) : (State.jumpCounters s).core = s.core := by
  simp [State.jumpCounters]

@[simp] theorem adoptSheaves_core (taken : Bool) (s : State) : (State.adoptSheaves taken s).core = s.core := by
  unfold State.adoptSheaves
  dsimp only
  split
  · simp
  · rw [core_foldl _ _ _ fun t x => by split <;> simp]
    simp

@[simp] theorem promote_core (s : State) : (State.promote s).core = s.core := by
  simp [State.promote]

@[simp] theorem takeover_core (s : State) : (State.takeover s).core = s.core := by
  simp [State.takeover]

@[simp] theorem demote_core (s : State) : (State.demote s).core = s.core := by
  simp [State.demote]

@[simp] theorem dualCheck_core (s : State) : (State.dualCheck s).core = s.core := by
  simp [State.dualCheck]

@[simp] theorem claimed_core (s : State) : (State.claimed s).core = s.core := by
  simp [State.claimed]

@[simp] theorem bringUp_core (s : State) : (State.bringUp s).core = s.core := by
  obtain ⟨m, -, h⟩ := bringUp_mods (fun _ => True) (fun _ _ _ _ => trivial) s trivial
  rw [h]; simp

/-- The elements are no part of the core. -/
theorem elems_core (m : SMap Elem) (s : State) : ({ s with loops.elems := m } : State).core = s.core := rfl

@[simp] theorem blockOutputs_core (s : State) : (State.blockOutputs s).core = s.core := by
  exact elems_core _ s

@[simp] theorem startStage_core (n : Nat) (s : State) : (State.startStage n s).core = s.core := by
  simp [State.startStage]

@[simp] theorem calibrateDone_core (s : State) : (State.calibrateDone s).core = s.core := by
  simp [State.calibrateDone]

@[simp] theorem becomeStandby_core (s : State) : (State.becomeStandby s).core = s.core := by
  simp [State.becomeStandby]

@[simp] theorem takeControl_core (s : State) : (State.takeControl s).core = s.core := by
  simp [State.takeControl]

@[simp] theorem roleDecision_core (s : State) : (State.roleDecision s).core = s.core := by
  simp [State.roleDecision]

@[simp] theorem holdRelease_core (s : State) : (State.holdRelease s).core = s.core := by
  simp [State.holdRelease]

@[simp] theorem setGroup_core (group : Nat) (cfg : VoaGroupCfg) (s : State) : (State.setGroup group cfg s).core = s.core := by
  simp [State.setGroup]

@[simp] theorem groupValue_core (group x : Nat) (s : State) : (State.groupValue group x s).core = s.core := by
  simp [State.groupValue]

@[simp] theorem captureSample_core (e t : Nat) (s : State) : (State.captureSample e t s).core = s.core := by
  (unfold State.captureSample; (try dsimp only); repeat' split) <;> simp [*]

@[simp] theorem countRefusal_core (e : Nat) (s : State) : (State.countRefusal e s).core = s.core := by
  (unfold State.countRefusal; repeat' split) <;> simp [*]

@[simp] theorem sampleEvents_core (e : Nat) (was now : Elem) (s : State) : (State.sampleEvents e was now s).core = s.core := by
  simp [State.sampleEvents]

@[simp] theorem sampleElem_core (e : Nat) (m1 m2 : BitVec 12) (residue : Bool) (at_ : Nat × Nat) (s : State) : (State.sampleElem e m1 m2 residue at_ s).core = s.core := by
  simp [State.sampleElem]

@[simp] theorem selectChan_core (s : State) (ch : Nat) : (State.selectChan s ch).core = s.core := by
  simp [State.selectChan]

@[simp] theorem selections_core (s : State) : (State.selections s).core = s.core := by
  simp [State.selections]

@[simp] theorem endSleep_core (p : Nat) (s : State) : (State.endSleep p s).core = s.core := by
  simp [State.endSleep]

@[simp] theorem wakeTx_core (p : Nat) (s : State) : (State.wakeTx p s).core = s.core := by
  simp [State.wakeTx]

@[simp] theorem applyPortPend_core (p : Nat) (s : State) : (State.applyPortPend p s).core = s.core := by
  (unfold State.applyPortPend; (try dsimp only); repeat' split) <;> simp [*]

@[simp] theorem countSent_core (p : Nat) (bs : List Byte) (s : State) : (State.countSent p bs s).core = s.core := by
  simp [State.countSent]

@[simp] theorem discardQueued_core (p counter st : Nat) (s : State) : (State.discardQueued p counter st s).core = s.core := by
  simp [State.discardQueued]

@[simp] theorem sendPause_core (p q : Nat) (s : State) : (State.sendPause p q s).core = s.core := by
  simp [State.sendPause]

@[simp] theorem startFrame_core (p : Nat) (f : TxFrame) (s : State) : (State.startFrame p f s).core = s.core := by
  simp [State.startFrame]

@[simp] theorem choose_core (p : Nat) (s : State) : (State.choose p s).core = s.core := by
  (unfold State.choose; (try dsimp only); repeat' split) <;> simp [*]

@[simp] theorem resumePause_core (p : Nat) (s : State) : (State.resumePause p s).core = s.core := by
  simp [State.resumePause]

@[simp] theorem rxPause_core (p q : Nat) (s : State) : (State.rxPause p q s).core = s.core := by
  simp [State.rxPause]

@[simp] theorem countGood64_core (p : Nat) (s : State) : (State.countGood64 p s).core = s.core := by
  simp [State.countGood64]

@[simp] theorem sleepTx_core (p : Nat) (s : State) : (State.sleepTx p s).core = s.core := by
  simp [State.sleepTx]

@[simp] theorem awake_core (p : Nat) (s : State) : (State.awake p s).core = s.core := by
  simp [State.awake]

@[simp] theorem startLane_core (p k cause : Nat) (loss : Bool) (s : State) : (State.startLane p k cause loss s).core = s.core := by
  simp [State.startLane]

@[simp] theorem laneWorn_core (p : Nat) (s : State) : (State.laneWorn p s).core = s.core := by
  (unfold State.laneWorn; repeat' split) <;> simp [*]

@[simp] theorem setLsel_core (k v : Nat) (s : State) : (State.setLsel k v s).core = s.core := by
  simp [State.setLsel]

@[simp] theorem restoreLanes_core (s : State) : (State.restoreLanes s).core = s.core := by
  simp [State.restoreLanes]

@[simp] theorem clearLsel_core (s : State) : (State.clearLsel s).core = s.core := by
  simp [State.clearLsel]

@[simp] theorem cutFrame_core (p : Nat) (s : State) : (State.cutFrame p s).core = s.core := by
  unfold State.cutFrame
  dsimp only
  rw [count_core, core_foldl _ _ _ fun t x => copyDone_core _ _ _ _ t]
  simp

@[simp] theorem linkDown_core (p : Nat) (remote : Bool) (s : State) : (State.linkDown p remote s).core = s.core := by
  simp [State.linkDown]

@[simp] theorem modSrc_core (i : Nat) (f : Src → Src) (s : State) : (State.modSrc i f s).core = s.core := by
  simp [State.modSrc]

@[simp] theorem setAlive_core (high : Bool) (s : State) : (State.setAlive high s).core = s.core := by
  simp [State.setAlive]

@[simp] theorem aliveLevel_core (s : State) : (State.aliveLevel s).core = s.core := by
  simp [State.aliveLevel]

@[simp] theorem retain_core (s : State) : (State.retain s).core = s.core := by
  (unfold State.retain; (try dsimp only); repeat' split) <;> simp [*]

@[simp] theorem modRecord_core (f : Record → Record) (s : State) : (State.modRecord f s).core = s.core := by
  simp [State.modRecord]

@[simp] theorem join_core (src k : Nat) (s : State) : (State.join src k s).core = s.core := by
  (unfold State.join; (try dsimp only); repeat' split) <;> simp [*]

@[simp] theorem closeRecord_core (by_ : Nat) (s : State) : (State.closeRecord by_ s).core = s.core := by
  (unfold State.closeRecord; (try dsimp only); repeat' split) <;> simp [*]

@[simp] theorem clearMembers_core (l : List Nat) (by_ : Nat) (s : State) : (State.clearMembers l by_ s).core = s.core := by
  simp [State.clearMembers]

@[simp] theorem applyClear_core (x : Clear) (s : State) : (State.applyClear x s).core = s.core := by
  have key : ∀ m, (State.applyClear.go x s m).core = s.core := fun m => by
    unfold State.applyClear.go
    repeat' split
    all_goals simp
  unfold State.applyClear
  dsimp only
  repeat' split
  all_goals simp [key]

@[simp] theorem addEvents_core (s : State) (src : Nat) : (State.addEvents s src).core = s.core := by
  simp [State.addEvents]

@[simp] theorem startRegionReset_core (r : Nat) (s : State) : (State.startRegionReset r s).core = s.core := by
  simp [State.startRegionReset]

@[simp] theorem execute_core (action src : Nat) (s : State) : (State.execute action src s).core = s.core := by
  (unfold State.execute; (try dsimp only); repeat' split) <;> simp [*]

@[simp] theorem recordReset_core (s : State) : (State.recordReset s).core = s.core := by
  (unfold State.recordReset; (try dsimp only); repeat' split) <;> simp [*]

@[simp] theorem bootSlot_core (s : State) : (State.bootSlot s).core = s.core := by
  simp [State.bootSlot]

@[simp] theorem countHedge_core (i : Nat) (chanB : Bool) (s : State) : (State.countHedge i chanB s).core = s.core := by
  simp [State.countHedge]

@[simp] theorem modChan_core (chanB : Bool) (f : Chan → Chan) (s : State) : (State.modChan chanB f s).core = s.core := by
  simp [State.modChan]

@[simp] theorem checkIntegrated_core (was : Bool) (s : State) : (State.checkIntegrated was s).core = s.core := by
  simp [State.checkIntegrated]

@[simp] theorem listen_core (s : State) : (State.listen s).core = s.core := by
  simp [State.listen]

@[simp] theorem goPassive_core (s : State) : (State.goPassive s).core = s.core := by
  simp [State.goPassive]

@[simp] theorem syncLost_core (s : State) : (State.syncLost s).core = s.core := by
  simp [State.syncLost]

@[simp] theorem sendOn_core (a b : Bool) (frameId : Nat) (bytes : List Byte) (s : State) : (State.sendOn a b frameId bytes s).core = s.core := by
  simp [State.sendOn]

@[simp] theorem hedgeSend_core (frameId : Nat) (body : HedgeBody) (s : State) : (State.hedgeSend frameId body s).core = s.core := by
  simp [State.hedgeSend]

@[simp] theorem readBack_core (chanB ok : Bool) (s : State) : (State.readBack chanB ok s).core = s.core := by
  simp [State.readBack]

@[simp] theorem unread_core (s : State) : (State.unread s).core = s.core := by
  simp [State.unread]





@[simp] theorem resetLoop_core (s : State) : (State.resetLoop s).core = s.core := by
  simp [State.resetLoop]

@[simp] theorem resetPorts_core (s : State) : (State.resetPorts s).core = s.core := by
  simp [State.resetPorts]

@[simp] theorem resetGates_core (s : State) : (State.resetGates s).core = s.core := by
  simp [State.resetGates]

@[simp] theorem resetStreams_core (s : State) : (State.resetStreams s).core = s.core := by
  simp [State.resetStreams]

@[simp] theorem resetRules_core (s : State) : (State.resetRules s).core = s.core := by
  simp [State.resetRules]

@[simp] theorem resetHedge_core (s : State) : (State.resetHedge s).core = s.core := by
  simp [State.resetHedge]


@[simp] theorem stepClears_core (s : State) : (State.stepClears s).core = s.core := by
  simp [State.stepClears]

@[simp] theorem stepWindows_core (s : State) : (State.stepWindows s).core = s.core := by
  simp [State.stepWindows]

@[simp] theorem addInjected_core (real : List Nat) (s : State) (src : Nat) : (State.addInjected real s src).core = s.core := by
  simp [State.addInjected]

@[simp] theorem stepEvents_core (s : State) : (State.stepEvents s).core = s.core := by
  simp [State.stepEvents]

@[simp] theorem stepShadow_core (s : State) : (State.stepShadow s).core = s.core := by
  simp [State.stepShadow]


@[simp] theorem lockstepFailure_core (s : State) : (State.lockstepFailure s).core = s.core := by
  simp [State.lockstepFailure]


@[simp] theorem severeNotReady_core (s : State) : (State.severeNotReady s).core = s.core := by
  simp [State.severeNotReady]


@[simp] theorem restoreRegion_core (r : Nat) (s : State) : (State.restoreRegion r s).core = s.core := by
  simp [State.restoreRegion]


@[simp] theorem glClear_core (v : Word) (s : State) : (State.glClear v s).core = s.core := by
  simp [State.glClear]

@[simp] theorem injectOne_core (src : Nat) (s : State) : (State.injectOne src s).core = s.core := by
  simp [State.injectOne]

@[simp] theorem userSave_core (group : Nat) (f : State → State) (s : State) (hf : ∀ t, (f t).core = t.core) : (State.userSave group f s).1.core = s.core := by
  simp [State.userSave, hf]

@[simp] theorem spoil_core (set : Nat) (s : State) : (State.spoil set s).core = s.core := by
  simp [State.spoil]

@[simp] theorem sendItems_core (epoch : Word) (base : Bool) (items : List MirItem) (s : State) : (State.sendItems epoch base items s).core = s.core := by
  simp [State.sendItems]

@[simp] theorem wantsBaseline_core (s : State) : (State.wantsBaseline s).core = s.core := by
  simp [State.wantsBaseline]

@[simp] theorem sawPartner_core (m : Mode) (control : Bool) (s : State) : (State.sawPartner m control s).core = s.core := by
  simp [State.sawPartner]

@[simp] theorem sawPref_core (pref : Bool) (s : State) : (State.sawPref pref s).core = s.core := by
  simp [State.sawPref]

@[simp] theorem adoptMoved_core (s : State) : (State.adoptMoved s).core = s.core := by
  simp [State.adoptMoved]

@[simp] theorem genCheck_core (boundary : Nat) (s : State) : (State.genCheck boundary s).core = s.core := by
  simp [State.genCheck]

@[simp] theorem sawGen_core (g : Word) (t : Nat) (s : State) : (State.sawGen g t s).core = s.core := by
  (unfold State.sawGen; (try dsimp only); repeat' split) <;> simp [*]

@[simp] theorem partnerHeartbeat_core (h : Heartbeat) (s0 : State) : (State.partnerHeartbeat h s0).core = s0.core := by
  simp [State.partnerHeartbeat]

@[simp] theorem partnerFrame_core (recs : List CommitRec) (s : State) : (State.partnerFrame recs s).core = s.core := by
  simp [State.partnerFrame]

@[simp] theorem partnerCycle_core (heard : Bool) (s : State) : (State.partnerCycle heard s).core = s.core := by
  simp [State.partnerCycle]

@[simp] theorem sawVersion_core (v : BitVec 16) (s : State) : (State.sawVersion v s).core = s.core := by
  simp [State.sawVersion]

@[simp] theorem mlHeard_core (s : State) : (State.mlHeard s).core = s.core := by
  simp [State.mlHeard]

@[simp] theorem checkReady_core (s : State) : (State.checkReady s).core = s.core := by
  simp [State.checkReady]

@[simp] theorem logEpoch_core (x : EpochLog) (s : State) : (State.logEpoch x s).core = s.core := by
  simp [State.logEpoch]

@[simp] theorem dropEpoch_core (epoch : Word) (s : State) : (State.dropEpoch epoch s).core = s.core := by
  simp [State.dropEpoch]

@[simp] theorem discardEpoch_core (e : EpochIn) (fate : EpochFate) (digest : BitVec 64) (s : State) : (State.discardEpoch e fate digest s).core = s.core := by
  simp [State.discardEpoch]

@[simp] theorem askBaseline_core (s : State) : (State.askBaseline s).core = s.core := by
  simp [State.askBaseline]

@[simp] theorem openIn_core (epoch : Word) (base : Bool) (s : State) : (State.openIn epoch base s).core = s.core := by
  (unfold State.openIn; (try dsimp only); repeat' split) <;> simp [*]

@[simp] theorem pairHeader_core (close : Nat) (s : State) : (State.pairHeader close s).core = s.core := by
  simp [State.pairHeader]

@[simp] theorem itemArrived_core (epoch : Word) (base : Bool) (i : MirItem) (bs : List Byte) (s : State) : (State.itemArrived epoch base i bs s).core = s.core := by
  (unfold State.itemArrived; (try dsimp only); repeat' split) <;> simp [*]

@[simp] theorem followMirror_core (base : Bool) (e : Nat) (m : MirElem) (s : State) : (State.followMirror base e m s).core = s.core := by
  simp [State.followMirror]

@[simp] theorem takeElement_core (slice base : Bool) (e : Nat) (m : MirElem) (s : State) : (State.takeElement slice base e m s).core = s.core := by
  simp [State.takeElement]

@[simp] theorem takeArmed_core (fcq : Option (Nat × Nat)) (ws : List Word) (s : State) : (State.takeArmed fcq ws s).core = s.core := by
  simp [State.takeArmed]

@[simp] theorem takeEnd_core (id outcome detail : Nat) (s : State) : (State.takeEnd id outcome detail s).core = s.core := by
  simp [State.takeEnd]

@[simp] theorem takeFailed_core (plane stage cell : Nat) (entry : Option (FailKind × Evidence × Nat)) (s : State) : (State.takeFailed plane stage cell entry s).core = s.core := by
  (unfold State.takeFailed; (try dsimp only); repeat' split) <;> simp [*]

@[simp] theorem applyItem_core (slice base : Bool) (i : MirItem) (s : State) : (State.applyItem slice base i s).core = s.core := by
  (unfold State.applyItem; (try dsimp only); repeat' split) <;> simp [*]

@[simp] theorem clearMirror_core (l : List MirItem) (s : State) : (State.clearMirror l s).core = s.core := by
  simp [State.clearMirror]

@[simp] theorem applyItems_core (base slice : Bool) (l : List MirItem) (s : State) : (applyItems base slice l s).core = s.core := by
  induction l generalizing slice s with
  | nil => rfl
  | cons i l ih => simp [applyItems, ih]

@[simp] theorem applyEpoch_core (e : EpochIn) (digest : BitVec 64) (s : State) : (State.applyEpoch e digest s).core = s.core := by
  unfold State.applyEpoch
  dsimp only
  generalize he : (if e.opens then s.clearMirror e.items else s) = s0
  have h0 : s0.core = s.core := by rw [← he]; split <;> simp
  simp [h0]

@[simp] theorem startHandback_core (s : State) : (State.startHandback s).core = s.core := by
  (unfold State.startHandback; (try dsimp only); repeat' split) <;> simp [*]

@[simp] theorem reanchorSheaves_core (s : State) : (State.reanchorSheaves s).core = s.core := by
  unfold State.reanchorSheaves
  dsimp only
  rw [settle_core]
  simp

@[simp] theorem abortCaptures_core (s : State) : (State.abortCaptures s).core = s.core := by
  simp [State.abortCaptures]

@[simp] theorem clearCycle_core (s : State) : (State.clearCycle s).core = s.core := by
  simp [State.clearCycle]

@[simp] theorem reanchor_core (tag : Tag) (c : BitVec 96) (s : State) : (State.reanchor tag c s).core = s.core := by
  simp [State.reanchor]

@[simp] theorem selectSource_core (p f : Source) (s : State) : (State.selectSource p f s).core = s.core := by
  simp [State.selectSource]

@[simp] theorem takeCommits_core (n : Nat) (s : State) : (State.takeCommits n s).core = s.core := by
  simp [State.takeCommits]

@[simp] theorem measureSync_core (chanB : Bool) (node : Nat) (body : HedgeBody) (stamp : Int) (s : State) : (State.measureSync chanB node body stamp s).core = s.core := by
  (unfold State.measureSync; (try dsimp only); repeat' split) <;> simp [*]

@[simp] theorem ringNotice_core (node : Nat) (n : Notice) (stamp : Int) (s : State) : (State.ringNotice node n stamp s).core = s.core := by
  simp [State.ringNotice]

@[simp] theorem takeContent_core (node : Nat) (body : HedgeBody) (stamp : Int) (s : State) : (State.takeContent node body stamp s).core = s.core := by
  (unfold State.takeContent; (try dsimp only); repeat' split) <;> simp [*]

@[simp] theorem takeCopy_core (chanB : Bool) (slot node : Nat) (payload : List Byte) (body : HedgeBody) (stamp : Int) (s : State) : (State.takeCopy chanB slot node payload body stamp s).core = s.core := by
  (unfold State.takeCopy; (try dsimp only); repeat' split) <;> simp [*]

@[simp] theorem accepted_core (chanB sync : Bool) (s : State) : (State.accepted chanB sync s).core = s.core := by
  simp [State.accepted]

@[simp] theorem coldAbort_core (s : State) : (State.coldAbort s).core = s.core := by
  simp [State.coldAbort]

@[simp] theorem integrate_core (h : Heartbeat) (cycle d : Nat) (stamp : Int) (s : State) : (State.integrate h cycle d stamp s).core = s.core := by
  simp [State.integrate]

@[simp] theorem foundShelf_core (chanB : Bool) (slot : Nat) (x : HedgeHead) (body : HedgeBody) (stamp : Int) (s : State) : (State.foundShelf chanB slot x body stamp s).core = s.core := by
  (unfold State.foundShelf; (try dsimp only); repeat' split) <;> simp [*]

@[simp] theorem ownFrame_core (chanB ok sync : Bool) (frameId : Nat) (bytes : List Byte) (s : State) : (State.ownFrame chanB ok sync frameId bytes s).core = s.core := by
  simp [State.ownFrame]

@[simp] theorem heldBy_core (chanB : Bool) (slot n : Nat) (stamp : Int) (s : State) : (State.heldBy chanB slot n stamp s).core = s.core := by
  simp [State.heldBy]

@[simp] theorem hedgeFrame_core (chanB : Bool) (slot : Nat) (rx : HedgeRx) (stamp : Int) (s : State) : (State.hedgeFrame chanB slot rx stamp s).core = s.core := by
  (unfold State.hedgeFrame; (try dsimp only); repeat' split) <;> simp [*]

@[simp] theorem hedgeMeasure_core (o rEst : Int) (s : State) : (State.hedgeMeasure o rEst s).core = s.core := by
  simp [State.hedgeMeasure]

@[simp] theorem rateUpdate_core (s : State) : (State.rateUpdate s).core = s.core := by
  (unfold State.rateUpdate; (try dsimp only); repeat' split) <;> simp [*]

@[simp] theorem missedHeartbeats_core (s : State) : (State.missedHeartbeats s).core = s.core := by
  simp [State.missedHeartbeats]

@[simp] theorem enterActive_core (s : State) : (State.enterActive s).core = s.core := by
  simp [State.enterActive]

@[simp] theorem zeroStep_core (s : State) : (State.zeroStep s).core = s.core := by
  simp [State.zeroStep]

@[simp] theorem cycleState_core (s : State) : (State.cycleState s).core = s.core := by
  (unfold State.cycleState; (try dsimp only); repeat' split) <;> simp [*]

@[simp] theorem nextCycle_core (s : State) : (State.nextCycle s).core = s.core := by
  simp [State.nextCycle]

@[simp] theorem takeCounters_core (l : List (Nat × Nat)) (s : State) : (State.takeCounters l s).core = s.core := by
  simp [State.takeCounters]

@[simp] theorem caughtUp_core (id : Nat) (s : State) : (State.caughtUp id s).core = s.core := by
  simp [State.caughtUp]

@[simp] theorem mlFrame_core (f : MlFrame) (s : State) : (State.mlFrame f s).core = s.core := by
  (unfold State.mlFrame; (try dsimp only); repeat' split) <;> simp [*]

@[simp] theorem lagCheck_core (bytes : Nat) (s : State) : (State.lagCheck bytes s).core = s.core := by
  simp [State.lagCheck]

@[simp] theorem openEpoch_core (epoch : Word) (s : State) : (State.openEpoch epoch s).core = s.core := by
  simp [State.openEpoch]

@[simp] theorem sendEpoch_core (close : Nat) (s0 : State) : (State.sendEpoch close s0).core = s0.core := by
  simp [State.sendEpoch]

@[simp] theorem digestFail_core (s : State) : (State.digestFail s).core = s.core := by
  simp [State.digestFail]

@[simp] theorem giveControl_core (s : State) : (State.giveControl s).core = s.core := by
  simp [State.giveControl]

@[simp] theorem takeHandback_core (t : Nat) (s : State) : (State.takeHandback t s).core = s.core := by
  simp [State.takeHandback]



@[simp] theorem writeSlot_core (bs : List Byte) (s : State) : (State.writeSlot bs s).core = s.core := by
  simp [State.writeSlot]

@[simp] theorem fwData_core (offset : Nat) (bs : List Byte) (s : State) : (State.fwData offset bs s).1.core = s.core := by
  simp [State.fwData]

@[simp] theorem stageImage_core (img : List Byte) (s : State) : (State.stageImage img s).core = s.core := by
  simp [State.stageImage]



@[simp] theorem modShadow_core (f : Generation → Generation) (s : State) : (State.modShadow f s).core = s.core := by
  simp [State.modShadow]

@[simp] theorem countRule_core (i : Nat) (s : State) : (State.countRule i s).core = s.core := by
  simp [State.countRule]

@[simp] theorem swapNow_core (at_ : Nat) (s : State) : (State.swapNow at_ s).core = s.core := by
  simp [State.swapNow]

@[simp] theorem swapDue_core (s : State) : (State.swapDue s).core = s.core := by
  (unfold State.swapDue; repeat' split) <;> simp [*]

@[simp] theorem swapDrained_core (s : State) : (State.swapDrained s).core = s.core := by
  (unfold State.swapDrained; (try dsimp only); repeat' split) <;> simp [*]

@[simp] theorem countFound_core (x : RuleSource) (s : State) : (State.countFound x s).core = s.core := by
  (unfold State.countFound; repeat' split) <;> simp [*]

@[simp] theorem modPkt_core (p id : Nat) (f : Pkt → Pkt) (s : State) : (State.modPkt p id f s).core = s.core := by
  simp [State.modPkt]

@[simp] theorem classify_core (t : Thread) (e : PassEnd) (s : State) : (State.classify t e s).core = s.core := by
  unfold State.classify
  dsimp only
  rw [modPkt_core, core_ite, countRule_core, ite_self, core_ite, countRule_core, ite_self, core_ite, countRule_core, ite_self]
  cases e <;> simp only [countRule_core, countFound_core]

@[simp] theorem endPass_core (n : Nat) (t : Thread) (e : PassEnd) (s : State) : (State.endPass n t e s).core = s.core := by
  (unfold State.endPass; (try dsimp only); repeat' split) <;> simp [*]

@[simp] theorem runThread_core (n op : Nat) (f : List Byte → Word → Thread → Thread × Option PassEnd) (s : State) : (State.runThread n op f s).core = s.core := by
  (unfold State.runThread; (try dsimp only); repeat' split) <;> simp [*]

@[simp] theorem setPwrEn_core (high : Bool) (s : State) : (State.setPwrEn high s).core = s.core := by
  simp [State.setPwrEn]

@[simp] theorem loadParams_core (s : State) : (State.loadParams s).core = s.core := by
  simp [State.loadParams]

@[simp] theorem identify_core (s : State) : (State.identify s).core = s.core := by
  simp [State.identify]

@[simp] theorem startCalibrate_core (s : State) : (State.startCalibrate s).core = s.core := by
  simp [State.startCalibrate]

@[simp] theorem startFactoryTest_core (s : State) : (State.startFactoryTest s).core = s.core := by
  simp [State.startFactoryTest]

@[simp] theorem startSave_core (s : State) : (State.startSave s).core = s.core := by
  simp [State.startSave]

@[simp] theorem blockFallback_core (loc : Nat) (s : State) : (State.blockFallback loc s).core = s.core := by
  simp [State.blockFallback]

@[simp] theorem trimChan_core (ch cause part : Nat) (s : State) : (State.trimChan ch cause part s).core = s.core := by
  simp [State.trimChan]

@[simp] theorem visitChan_core (both : Bool) (s : State) (ch : Nat) : (State.visitChan both s ch).core = s.core := by
  simp [State.visitChan]

@[simp] theorem askSelect_core (before : List Nat) (s : State) : (State.askSelect before s).core = s.core := by
  simp [State.askSelect]

@[simp] theorem electrical_core (e : Nat) (s : State) : (State.electrical e s).core = s.core := by
  simp [State.electrical]

@[simp] theorem recalElement_core (e : Nat) (s : State) : (State.recalElement e s).core = s.core := by
  simp [State.recalElement]

@[simp] theorem startSubst_core (region block cell : Nat) (whole : Bool) (cause source events : Nat) (s : State) : (State.startSubst region block cell whole cause source events s).core = s.core := by
  simp [State.startSubst]

@[simp] theorem loseCell_core (region block cell : Nat) (s : State) : (State.loseCell region block cell s).core = s.core := by
  simp [State.loseCell]

@[simp] theorem loseBlock_core (region block : Nat) (s : State) : (State.loseBlock region block s).core = s.core := by
  simp [State.loseBlock]

@[simp] theorem wantBlock_core (region block cause source events : Nat) (s : State) : (State.wantBlock region block cause source events s).core = s.core := by
  simp [State.wantBlock]

@[simp] theorem wantCell_core (region block cell cause source events : Nat) (s : State) : (State.wantCell region block cell cause source events s).core = s.core := by
  simp [State.wantCell]

@[simp] theorem repairRow_core (inst row cause events : Nat) (s : State) : (State.repairRow inst row cause events s).core = s.core := by
  simp [State.repairRow]

@[simp] theorem replaceSegment_core (ch seg : Nat) (s : State) : (State.replaceSegment ch seg s).core = s.core := by
  simp [State.replaceSegment]

@[simp] theorem clearBlock_core (es : List Nat) (s : State) : (State.clearBlock es s).core = s.core := by
  simp [State.clearBlock]

@[simp] theorem abortFor_core (es : List Nat) (s : State) : (State.abortFor es s).core = s.core := by
  simp [State.abortFor]

@[simp] theorem bandgapCheck_core (a b c : Nat) (s : State) : (State.bandgapCheck a b c s).core = s.core := by
  (unfold State.bandgapCheck; (try dsimp only); repeat' split) <;> simp [*]

@[simp] theorem smbUpdate_core (s : State) : (State.smbUpdate s).core = s.core := by
  simp [State.smbUpdate]

@[simp] theorem temperatures_core (junction : Int) (diodes : List Int) (s : State) : (State.temperatures junction diodes s).core = s.core := by
  unfold State.temperatures
  dsimp only
  rw [core_foldl _ _ _ fun t x => by split <;> simp]
  simp

@[simp] theorem retable_core (line : Nat) (twin : Bool) (s : State) : (State.retable line twin s).core = s.core := by
  simp [State.retable]

@[simp] theorem lineFallback_core (line : Nat) (s : State) : (State.lineFallback line s).core = s.core := by
  simp [State.lineFallback]

@[simp] theorem visit_core (e : Nat) (s : State) : (State.visit e s).core = s.core := by
  simp [State.visit]

@[simp] theorem calLoad_core (s : State) : (State.calLoad s).core = s.core := by
  simp [State.calLoad]

@[simp] theorem referencesStage_core (s : State) : (State.referencesStage s).core = s.core := by
  simp [State.referencesStage]

@[simp] theorem timingStage_core (s : State) : (State.timingStage s).core = s.core := by
  simp [State.timingStage]

@[simp] theorem elementsStage_core (s : State) : (State.elementsStage s).core = s.core := by
  unfold State.elementsStage
  dsimp only
  rw [startStage_core]
  split
  · rw [core_foldl _ _ _ fun t x => by split <;> simp]
    simp
  · rfl

@[simp] theorem modCq_core (q : Nat) (f : ComplQ → ComplQ) (s : State) : (State.modCq q f s).core = s.core := by
  simp [State.modCq]

@[simp] theorem queueError_core (k code : Nat) (index : Word) (s : State) : (State.queueError k code index s).core = s.core := by
  simp [State.queueError]

@[simp] theorem noteFailures_core (k : Nat) (s : State) : (State.noteFailures k s).core = s.core := by
  simp [State.noteFailures]

@[simp] theorem endVisit_core (s : State) : (State.endVisit s).core = s.core := by
  simp [State.endVisit]

@[simp] theorem newRound_core (s : State) : (State.newRound s).core = s.core := by
  simp [State.newRound]

@[simp] theorem visited_core (place n : Nat) (s : State) : (State.visited place n s).core = s.core := by
  simp [State.visited]

@[simp] theorem fetchTx_core (place : Nat) (entries : List Descriptor) (bytes : List Byte) (s : State) : (State.fetchTx place entries bytes s).core = s.core := by
  (unfold State.fetchTx; (try dsimp only); repeat' split) <;> simp [*]

@[simp] theorem fetchFcq_core (place : Nat) (d : Descriptor) (s : State) : (State.fetchFcq place d s).core = s.core := by
  simp [State.fetchFcq]

@[simp] theorem launch_core (k : Nat) (x : Slot) (t : TxPend) (s : State) : (State.launch k x t s).core = s.core := by
  (unfold State.launch; (try dsimp only); repeat' split) <;> simp [*]

@[simp] theorem bufferError_core (k : Nat) (x : Slot) (s : State) : (State.bufferError k x s).core = s.core := by
  simp [State.bufferError]

@[simp] theorem dmaEvent_core (s : State) : (State.dmaEvent s).core = s.core := by
  simp [State.dmaEvent]

@[simp] theorem bufferAnswered_core (k : Nat) (ok : Bool) (s : State) : (State.bufferAnswered k ok s).core = s.core := by
  (unfold State.bufferAnswered; (try dsimp only); repeat' split) <;> simp [*]

@[simp] theorem recordAnswered_core (k : Nat) (ok : Bool) (words : List Word) (s : State) : (State.recordAnswered k ok words s).core = s.core := by
  (unfold State.recordAnswered; (try dsimp only); repeat' split) <;> simp [*]

@[simp] theorem writeEntry_core (q : Nat) (bytes : List Byte) (s : State) : (State.writeEntry q bytes s).core = s.core := by
  simp [State.writeEntry]

@[simp] theorem writeCompl_core (q : Nat) (n : NextCompl) (s : State) : (State.writeCompl q n s).core = s.core := by
  (unfold State.writeCompl; (try dsimp only); repeat' split) <;> simp [*]

@[simp] theorem completeOne_core (q : Nat) (s : State) : (State.completeOne q s).core = s.core := by
  (unfold State.completeOne; (try dsimp only); repeat' split) <;> simp [*]

@[simp] theorem deliver_core (v : Nat) (s : State) : (State.deliver v s).core = s.core := by
  simp [State.deliver]

@[simp] theorem completeAll_core (q n : Nat) (s : State) : (State.completeAll q n s).core = s.core := by
  induction n generalizing s with
  | zero => rfl
  | succ n ih => rw [State.completeAll, core_ite, ih, completeOne_core, ite_self]

@[simp] theorem resume_core (t : Nat) (s : State) : (State.resume t s).core = s.core := by
  simp [State.resume]

@[simp] theorem away_core (s : State) : (State.away s).core = s.core := by
  simp [State.away]

@[simp] theorem back_core (s : State) : (State.back s).core = s.core := by
  simp [State.back]

@[simp] theorem writeIc_core (o : Nat) (v : Word) (s : State) : (State.writeIc o v s).core = s.core := by
  simp [State.writeIc]

@[simp] theorem memoryError_core (e : MemErr) (s : State) : (State.memoryError e s).core = s.core := by
  (unfold State.memoryError; (try dsimp only); repeat' split) <;> simp [*]

@[simp] theorem tapSelect_core (i : TapIr) (s : State) : (State.tapSelect i s).core = s.core := by
  simp [State.tapSelect]

@[simp] theorem toFlight_core (p : Nat) (bs : List Byte) (ts : Nat) (s : State) : (State.toFlight p bs ts s).core = s.core := by
  simp [State.toFlight]

@[simp] theorem toThresher_core (p : Nat) (bs : List Byte) (ts : Nat) (s : State) : (State.toThresher p bs ts s).core = s.core := by
  simp [State.toThresher]

@[simp] theorem badFrame_core (p : Nat) (bs : List Byte) (flags : Byte) (ts : Nat) (s : State) : (State.badFrame p bs flags ts s).core = s.core := by
  simp [State.badFrame]

@[simp] theorem countGood_core (p : Nat) (bs : List Byte) (s : State) : (State.countGood p bs s).core = s.core := by
  simp [State.countGood]

@[simp] theorem filtered_core (p : Nat) (bs : List Byte) (ts n : Nat) (e : List Word) (gptp : Bool) (s : State) : (State.filtered p bs ts n e gptp s).core = s.core := by
  simp [State.filtered]

@[simp] theorem goodFrame_core (p : Nat) (bs : List Byte) (ts : Nat) (s : State) : (State.goodFrame p bs ts s).core = s.core := by
  (unfold State.goodFrame; (try dsimp only); repeat' split) <;> simp [*]

@[simp] theorem receive_core (p : Nat) (f : RxFrame) (ts maxLen : Nat) (s : State) : (State.receive p f ts maxLen s).core = s.core := by
  simp [State.receive]

@[simp] theorem assemblyError_core (p : Nat) (s : State) : (State.assemblyError p s).core = s.core := by
  (unfold State.assemblyError; (try dsimp only); repeat' split) <;> simp [*]

@[simp] theorem fragment_core (p frag : Nat) (bs : List Byte) (final crcOk : Bool) (r : Reassembly) (s : State) : (State.fragment p frag bs final crcOk r s).core = s.core := by
  simp [State.fragment]

@[simp] theorem mpacket_core (p : Nat) (m : MPacket) (s : State) : (State.mpacket p m s).core = s.core := by
  (unfold State.mpacket; (try dsimp only); repeat' split) <;> simp [*]

@[simp] theorem fecCounts_core (p : Nat) (s : State) : (State.fecCounts p s).core = s.core := by
  simp [State.fecCounts]

@[simp] theorem laneDone_core (port : Nat) (c : LaneSubst) (s : State) : (State.laneDone port c s).core = s.core := by
  simp [State.laneDone]

@[simp] theorem countAction_core (a : List Word) (octets : Nat) (s : State) : (State.countAction a octets s).core = s.core := by
  simp [State.countAction]

@[simp] theorem copyMp_core (p : Nat) (x : Pkt) (v : Verdict) (s : State) : (State.copyMp p x v s).core = s.core := by
  unfold State.copyMp
  dsimp only
  split
  · rw [countRule_core, core_mk, core_eta]
  · rw [countRule_core, core_mk, core_eta]

@[simp] theorem forward_core (ingress p tc : Nat) (b : List Byte) (s : State) : (State.forward ingress p tc b s).1.core = s.core := by
  simp [State.forward]

@[simp] theorem mirrorCopy_core (p k : Nat) (x : Pkt) (s : State) : (State.mirrorCopy p k x s).core = s.core := by
  (unfold State.mirrorCopy; (try dsimp only); repeat' split) <;> simp [*]

@[simp] theorem dispose_core (p : Nat) (x : Pkt) (v : Verdict) (s : State) : (State.dispose p x v s).core = s.core := by
  simp [State.dispose]

@[simp] theorem cancelSheaf_core (id : Nat) (s : State) : (State.cancelSheaf id s).1.core = s.core := by
  (unfold State.cancelSheaf; repeat' split) <;> simp [*]

@[simp] theorem solveCommand_core (r : SolveReq) (dry okReq : Bool) (s : State) : (State.solveCommand r dry okReq s).1.core = s.core := by
  obtain h | ⟨l, rep, h⟩ := solveCommand_stages r dry okReq s <;> rw [h]
  cases dry <;> simp

@[simp] theorem abandonStook_core (id : Nat) (s : State) : (State.abandonStook id s).core = s.core := by
  simp [State.abandonStook]

@[simp] theorem fcqRetire_core (q : Nat) (x : Slot) (body : Option (List Byte)) (s : State) : (State.fcqRetire q x body s).core = s.core := by
  simp [State.fcqRetire]

@[simp] theorem holdMixed_core (x : Sheaf) (s : State) : (State.holdMixed x s).core = s.core := by
  simp [State.holdMixed]

@[simp] theorem meets_core (x : Sheaf) (s : State) : (State.meets x s).core = s.core := by
  simp [State.meets]

@[simp] theorem timed_core (instant e : Nat) (s : State) : (State.timed instant e s).core = s.core := by
  simp [State.timed]

@[simp] theorem fire_core (x : Sheaf) (faults : List Nat) (s : State) : (State.fire x faults s).core = s.core := by
  simp [State.fire]

end Sys2Proof.Machine
end

