-- ==== Sys2Proof/Laws/Maps.lean ====
section
/-! SUPPORT. Sparse maps: a read after a write, and the canonical form that every operation keeps. Memory is the case of
bytes. -/
namespace Sys2Proof.Machine
variable {α : Type} [DecidableEq α] (d : α)

theorem mapWfAbove_mono (lo hi : Nat) (m : SMap α) (h : lo ≤ hi) (hm : mapWfAbove d hi m = true) : mapWfAbove d lo m = true := by
  cases m with
  | nil => rfl
  | cons p m =>
    simp only [mapWfAbove, Bool.and_eq_true, decide_eq_true_eq] at hm ⊢
    exact ⟨⟨by omega, hm.1.2⟩, hm.2⟩

/-- A key below a map reads as the default. -/
theorem mapGet_below (lo k : Nat) (m : SMap α) (hm : mapWfAbove d lo m = true) (h : k < lo) : mapGet d m k = d := by
  cases m with
  | nil => rfl
  | cons p m =>
    simp only [mapWfAbove, Bool.and_eq_true, decide_eq_true_eq] at hm
    unfold mapGet
    rw [if_neg (by omega), if_pos (by omega)]

theorem mapSet_wfAbove (lo : Nat) (m : SMap α) (k : Nat) (v : α) (hk : lo ≤ k)
    (h : mapWfAbove d lo m = true) : mapWfAbove d lo (mapSet d m k v) = true := by
  induction m generalizing lo with
  | nil => unfold mapSet; split <;> simp_all [mapWfAbove]
  | cons p m ih =>
    obtain ⟨a, x⟩ := p
    simp only [mapWfAbove, Bool.and_eq_true, decide_eq_true_eq] at h
    unfold mapSet
    split
    · subst k
      split
      · exact mapWfAbove_mono d _ _ m (by omega) h.2
      · simp_all [mapWfAbove]
    · split
      · split
        · simp_all [mapWfAbove]
        · simp only [mapWfAbove, Bool.and_eq_true, decide_eq_true_eq]
          exact ⟨⟨hk, by assumption⟩, ⟨by omega, h.1.2⟩, h.2⟩
      · simp only [mapWfAbove, Bool.and_eq_true, decide_eq_true_eq]
        exact ⟨h.1, ih _ (by omega) h.2⟩

/-- A write keeps the canonical form. -/
theorem mapSet_wf (m : SMap α) (k : Nat) (v : α) (h : mapWf d m = true) : mapWf d (mapSet d m k v) = true :=
  mapSet_wfAbove d 0 m k v (Nat.zero_le _) h

theorem mapMod_wf (m : SMap α) (k : Nat) (f : α → α) (h : mapWf d m = true) : mapWf d (mapMod d m k f) = true :=
  mapSet_wf d m k _ h

theorem mapSetList_wf (m : SMap α) (k : Nat) (vs : List α) (h : mapWf d m = true) : mapWf d (mapSetList d m k vs) = true := by
  induction vs generalizing m k with
  | nil => exact h
  | cons v vs ih => exact ih _ _ (mapSet_wf d m k v h)

theorem mapModAll_wf (f : Nat → α → α) (ks : List Nat) (m : SMap α) (h : mapWf d m = true) : mapWf d (mapModAll d f ks m) = true := by
  induction ks generalizing m with
  | nil => exact h
  | cons k ks ih => exact ih _ (mapMod_wf d m k _ h)

theorem mapGet_mapSetAbove (lo : Nat) (m : SMap α) (hm : mapWfAbove d lo m = true) (k : Nat) (v : α) (a : Nat) :
    mapGet d (mapSet d m k v) a = if a = k then v else mapGet d m a := by
  induction m generalizing lo with
  | nil =>
    unfold mapSet
    split <;> simp only [mapGet] <;> grind
  | cons p m ih =>
    obtain ⟨b, x⟩ := p
    simp only [mapWfAbove, Bool.and_eq_true, decide_eq_true_eq] at hm
    have hb := fun j => mapGet_below d (b + 1) j m hm.2
    unfold mapSet
    split
    · subst k
      split
      · simp only [mapGet]
        have := hb a
        grind
      · simp only [mapGet]
        grind
    · split
      · split
        · have := hb a
          simp only [mapGet]
          grind
        · simp only [mapGet]
          grind
      · simp only [mapGet, ih _ hm.2]
        grind

/-- A read after a write: the place written gives the value, and every other place reads as before. -/
theorem mapGet_mapSet (m : SMap α) (hm : mapWf d m = true) (k : Nat) (v : α) (a : Nat) :
    mapGet d (mapSet d m k v) a = if a = k then v else mapGet d m a := mapGet_mapSetAbove d 0 m hm k v a

theorem mapGet_mapMod (m : SMap α) (hm : mapWf d m = true) (k : Nat) (f : α → α) (a : Nat) :
    mapGet d (mapMod d m k f) a = if a = k then f (mapGet d m k) else mapGet d m a := mapGet_mapSet d m hm k _ a

/-- A read after the write of a list: the places written give its values, and every other place reads as before. -/
theorem mapGet_mapSetList (m : SMap α) (hm : mapWf d m = true) (k : Nat) (vs : List α) (a : Nat) :
    mapGet d (mapSetList d m k vs) a = if k ≤ a ∧ a < k + vs.length then vs.getD (a - k) d else mapGet d m a := by
  induction vs generalizing m k with
  | nil => simp only [mapSetList, List.length_nil]; rw [if_neg (by omega)]
  | cons v vs ih =>
    rw [mapSetList, ih _ (mapSet_wf d m k v hm), mapGet_mapSet d m hm]
    simp only [List.length_cons]
    by_cases h : a = k
    · subst h
      rw [if_neg (by omega), if_pos rfl, if_pos (by omega)]
      simp
    · by_cases h2 : k + 1 ≤ a ∧ a < k + 1 + vs.length
      · rw [if_pos h2, if_pos (by omega), show a - k = (a - (k + 1)) + 1 by omega]
        simp
      · rw [if_neg h2, if_neg h, if_neg (by omega)]

/-- What a list of keys is modified to, where no key is twice in the list. -/
theorem mapGet_mapModAll (f : Nat → α → α) (ks : List Nat) (hk : ks.Nodup) (m : SMap α) (hm : mapWf d m = true) (a : Nat) :
    mapGet d (mapModAll d f ks m) a = if a ∈ ks then f a (mapGet d m a) else mapGet d m a := by
  induction ks generalizing m with
  | nil => simp [mapModAll]
  | cons k ks ih =>
    have hn := List.nodup_cons.mp hk
    rw [mapModAll, ih hn.2 _ (mapMod_wf d m k _ hm), mapGet_mapMod d m hm]
    by_cases h : a = k
    · subst h
      simp [hn.1]
    · simp [h]

end Sys2Proof.Machine
end

