-- ==== Sys2Proof/Laws/Keeps.lean ====
section
/-! SUPPORT. What every command keeps: the queue behind it, the fused identity, and the canonical form of the mailbox
bodies. First the operations that write or clear the bodies, then one lemma for each meaning: it answers a next state,
and keeps these. -/
namespace Sys2Proof.Machine

/-- What a state `t` after a command keeps of `s`: the queue, the identity, the canonical form of the mailbox bodies, and
what fuses hold, which only rises. -/ 
structure State.Keeps (s t : State) : Prop where
  pending : t.pending = s.pending
  rev : t.ident.rev = s.ident.rev
  serial : t.ident.serial = s.ident.serial
  bodies : mapWf 0 s.il.bar2 = true → mapWf 0 t.il.bar2 = true
  lc : s.trust.lc ≤ t.trust.lc
  minSvn : s.trust.minSvn ≤ t.trust.minSvn
  crevoke : ∀ k, s.trust.crevoke.getLsbD k = true → t.trust.crevoke.getLsbD k = true
  arevoke : ∀ k, s.trust.arevoke.getLsbD k = true → t.trust.arevoke.getLsbD k = true
  keys : mapWf 0 s.trust.akey = true → mapWf 0 t.trust.akey = true ∧
    ∀ k, mapGet 0 s.trust.akey k ≠ 0 → mapGet 0 t.trust.akey k = mapGet 0 s.trust.akey k
  policy : s.trust.policySigned = true → t.trust.policySigned = true
  seed : s.trust.idSeed = BitVec.allOnes 256 → t.trust.idSeed = BitVec.allOnes 256
  inFlight : inFlightOk s.il.inflight → inFlightOk t.il.inflight

theorem State.Keeps.of_core {s t : State} (h : t.core = s.core) : s.Keeps t := by
  simp only [State.core, Prod.mk.injEq] at h
  obtain ⟨h1, h2, h3, h4, h5, h6, h7, h8, h9, h10, h11, h12⟩ := h
  exact ⟨h1, h2, h3, fun k => by rw [h4]; exact k, by omega, by omega, fun k => by rw [h7]; exact id, fun k => by rw [h8]; exact id,
    fun k => by rw [h9]; exact ⟨k, fun _ _ => rfl⟩,
    fun k => by rw [h10]; exact k, fun k => by rw [h11]; exact k, fun k => by rw [h12]; exact k⟩

theorem State.Keeps.trans {s t u : State} (h : s.Keeps t) (k : t.Keeps u) : s.Keeps u :=
  ⟨k.pending.trans h.pending, k.rev.trans h.rev, k.serial.trans h.serial, fun x => k.bodies (h.bodies x), h.lc.trans k.lc,
    h.minSvn.trans k.minSvn, fun i x => k.crevoke i (h.crevoke i x), fun i x => k.arevoke i (h.arevoke i x), fun w =>
      ⟨(k.keys (h.keys w).1).1, fun i x => by
        have e := (h.keys w).2 i x
        rw [← e]
        exact (k.keys (h.keys w).1).2 i (by rw [e]; exact x)⟩,
    fun x => k.policy (h.policy x), fun x => k.seed (h.seed x), fun x => k.inFlight (h.inFlight x)⟩

theorem State.Keeps.ite {b : Prop} [Decidable b] {s t u : State} (h : s.Keeps t) (k : s.Keeps u) : s.Keeps (if b then t else u) := by
  split
  · exact h
  · exact k

/-- A change of the commands in flight alone. -/
theorem State.Keeps.of_inFlight {s : State} {il : Il} (hb : il.bar2 = s.il.bar2) (h : inFlightOk s.il.inflight → inFlightOk il.inflight) :
    s.Keeps { s with il := il } :=
  ⟨rfl, rfl, rfl, fun k => by rw [← hb] at k; exact k, le_refl _, le_refl _, fun _ => id, fun _ => id, fun h => ⟨h, fun _ _ => rfl⟩, id, id, h⟩

/-- Commands taken out leave the rest as it was. -/
theorem inFlightOk_filter (p : InFlight → Bool) (l : List InFlight) (h : inFlightOk l) : inFlightOk (l.filter p) := by
  have sub : (liveCommands (l.filter p)).Sublist (liveCommands l) := by
    unfold liveCommands
    rw [List.filter_filter, List.filter_congr fun x _ => Bool.and_comm _ _, ← List.filter_filter]
    exact List.filter_sublist
  exact ⟨sub.length_le.trans h.1, h.2.sublist (sub.map _)⟩

/-- A command is marked answered: none comes or goes, and each keeps its tag. -/
theorem inFlightOk_mark (c : InFlight) (l : List InFlight) (h : inFlightOk l) :
    inFlightOk (l.map fun x => if x = c then { x with answered := true } else x) := by
  have e : (liveCommands (l.map fun x => if x = c then { x with answered := true } else x)).map (·.tag) = (liveCommands l).map (·.tag) := by
    unfold liveCommands
    induction l with
    | nil => rfl
    | cons x l ih =>
      have t : inFlightOk l := by
        unfold inFlightOk liveCommands at h ⊢
        cases hx : x.orphan <;> simp [hx] at h ⊢ <;> first | exact ⟨by omega, h.2.2⟩ | exact h
      have := ih t
      rw [List.map_cons]
      by_cases hc : x = c <;> cases hx : x.orphan <;> simp_all
  refine ⟨?_, by rw [e]; exact h.2⟩
  have := congrArg List.length e
  simp only [List.length_map] at this
  rw [this]
  exact h.1

/-- A command with a new tag joins fewer than 256. -/
theorem inFlightOk_push (c : InFlight) (l : List InFlight) (h : inFlightOk l) (hn : (liveCommands l).length < 256)
    (ht : ∀ d ∈ liveCommands l, d.tag ≠ c.tag) : inFlightOk (l ++ [c]) := by
  unfold inFlightOk liveCommands at *
  rw [List.filter_append]
  cases hc : c.orphan
  · simp only [List.filter_cons, hc, Bool.not_false, if_true, List.filter_nil, List.length_append, List.length_cons, List.length_nil,
      List.map_append, List.map_cons, List.map_nil]
    refine ⟨by omega, ?_⟩
    rw [List.nodup_append]
    refine ⟨h.2, by simp, fun a ha b hb => ?_⟩
    obtain ⟨d, hd, rfl⟩ := List.mem_map.mp ha
    rw [List.mem_singleton.mp hb]
    exact ht d hd
  · simpa [hc] using h

theorem markAnswered_keeps (c : InFlight) (s : State) : s.Keeps (s.markAnswered c) := by
  unfold State.markAnswered
  split
  · exact .of_inFlight rfl (inFlightOk_filter _ _)
  · exact .of_inFlight rfl (inFlightOk_mark _ _)

theorem classF_keeps (s : State) : s.Keeps s.classF := by
  unfold State.classF
  split
  · exact .of_core rfl
  · refine ⟨rfl, rfl, rfl, id, le_refl _, le_refl _, fun _ => id, fun _ => id, fun h => ⟨h, fun _ _ => rfl⟩, id, id, fun _ => ?_⟩
    have e : liveCommands ((s.il.inflight.filter fun c => !c.answered).map InFlight.orphaned) = [] := by
      unfold liveCommands
      simp only [List.filter_eq_nil_iff, List.mem_map]
      rintro _ ⟨x, _, rfl⟩
      simp [InFlight.orphaned]
    exact ⟨by rw [e]; simp, by rw [e]; simp⟩

theorem writeBody_keeps (m off : Nat) (bs : List Byte) (s : State) : s.Keeps (s.writeBody m off bs) :=
  ⟨rfl, rfl, rfl, fun h => mapSetList_wf _ _ _ _ h, le_refl _, le_refl _, fun _ => id, fun _ => id, fun h => ⟨h, fun _ _ => rfl⟩, id, id, id⟩

theorem answer_keeps (c : InFlight) (r : Reply) (s : State) : s.Keeps (s.answer c r) := by
  unfold State.answer
  dsimp only
  split
  · exact .trans (markAnswered_keeps c s) (.of_core (unasked_core _ _))
  split
  · exact markAnswered_keeps c s
  · split
    · exact .ite (.trans (markAnswered_keeps c s) (.of_core (by simp))) (.trans (markAnswered_keeps c s) (.of_core rfl))
    · exact .trans (.trans (.trans (.trans (markAnswered_keeps c s) (writeBody_keeps _ _ _ _)) (writeBody_keeps _ _ _ _))
        (.of_core (modMb_core _ _ _))) (.of_core (pushRecord_core _ _))

theorem answerTag_keeps (tag : Tag) (r : Reply) (s : State) : s.Keeps (s.answerTag tag r) := by
  unfold State.answerTag
  split
  · exact answer_keeps _ _ _
  · exact .of_core rfl

theorem serve_keeps (tag : Tag) (code : Nat) (reads : Bool) (len : Option Nat) (body : State → State × Reply) (s : State)
    (h : ∀ u, State.Keeps u (body u).1) : s.Keeps (s.serve tag code reads len body) := by
  unfold State.serve
  split
  · exact .of_core rfl
  · split
    · exact answer_keeps _ _ _
    · exact (h s).trans (answer_keeps _ _ _)

theorem query_keeps (tag : Tag) (code : Nat) (len : Option Nat) (reply : State → Reply) (s : State) :
    s.Keeps (s.query tag code len reply) := serve_keeps _ _ _ _ _ _ fun _ => .of_core rfl

theorem wiped_keeps (held : SMap Elem) (s : State) : s.Keeps (s.wiped held) :=
  ⟨rfl, rfl, rfl, fun _ => rfl, le_refl _, le_refl _, fun _ => id, fun _ => id, fun h => ⟨h, fun _ _ => rfl⟩, id, id,
    fun _ => ⟨by simp [State.wiped, State.reset, liveCommands], by simp [State.wiped, State.reset, liveCommands]⟩⟩

theorem classReset_keeps (p : Bool) (cause : Nat) (s : State) : s.Keeps (s.classReset p cause) := by
  unfold State.classReset
  dsimp only
  split
  · exact .ite (.of_core rfl) (.of_core rfl)
  · exact .trans (.of_core (by simp)) (wiped_keeps _ _)

theorem abortGroup_keeps (group : Nat) (s : State) : s.Keeps (s.abortGroup group) := by
  unfold State.abortGroup
  generalize s.il.inflight.filter _ = l
  induction l generalizing s with
  | nil => exact .of_core rfl
  | cons c l ih => exact .trans (answer_keeps _ _ _) (ih _)

theorem classS_keeps (k : Nat) (s : State) : s.Keeps (s.classS k) := by
  unfold State.classS
  split
  · exact .trans (abortGroup_keeps _ _) (.of_core (resetLoop_core _))
  · exact .trans (abortGroup_keeps _ _) (.of_core (resetPorts_core _))
  · exact .trans (abortGroup_keeps _ _) (.of_core (resetGates_core _))
  · exact .trans (abortGroup_keeps _ _) (.of_core (resetStreams_core _))
  · exact .trans (abortGroup_keeps _ _) (.of_core (resetRules_core _))
  · exact .trans (abortGroup_keeps _ _) (.of_core (resetHedge_core _))
  · exact .of_core rfl

theorem loopResetDone_keeps (s : State) : s.Keeps s.loopResetDone := by
  unfold State.loopResetDone
  split
  · exact .of_core rfl
  · split
    · exact .of_core rfl
    · split
      · refine .trans ?_ (answer_keeps _ _ _)
        exact .of_core rfl
      · exact .of_core rfl

theorem stepDeadlines_keeps (s : State) : s.Keeps s.stepDeadlines := by
  unfold State.stepDeadlines
  dsimp only
  split
  · exact .trans (.of_core (by simp)) (classReset_keeps _ _ _)
  · exact .of_core (by simp)

theorem evaluateGl_keeps (mismatch : Bool) (s : State) : s.Keeps (s.evaluateGl mismatch) := by
  have h : ∀ u : State, u.Keeps u.evaluationSteps := fun u => by
    refine .trans ?_ (.of_core (aliveLevel_core _))
    refine .trans ?_ (stepDeadlines_keeps _)
    exact .of_core (by simp)
  unfold State.evaluateGl
  refine .ite (.of_core rfl) (.ite (.of_core (by simp)) ?_)
  refine .trans ?_ (.of_core (severeNotReady_core _))
  refine .trans ?_ (h _)
  exact .of_core rfl

theorem ring_keeps (m : Nat) (s : State) : s.Keeps (s.ring m) := by
  unfold State.ring
  dsimp only
  refine .ite (.of_core rfl) (.ite (.of_core (by simp)) ?_)
  split
  · refine .trans ?_ (.of_core (modMb_core _ _ _))
    refine .trans ?_ (writeBody_keeps _ _ _ _)
    exact .of_core (modMb_core _ _ _)
  · next h =>
    have k : ∀ c, s.postRefused c = none → inFlightOk s.il.inflight → inFlightOk (s.il.inflight ++ [c]) := fun c hc ok => by
      unfold State.postRefused at hc
      dsimp only at hc
      split at hc
      · cases hc
      · split at hc
        · cases hc
        · next h1 h2 =>
          refine inFlightOk_push c _ ok (by unfold liveCommands; omega) fun d hd e => h2 ?_
          exact List.any_eq_true.mpr ⟨d, hd, by simpa using e⟩
    have q : s.Keeps ((s.modMb m (Mailbox.posted (readHeader m (s.bodyHeader m)))).takeCommand (readHeader m (s.bodyHeader m))) := by
      refine .trans (.of_core (modMb_core m (Mailbox.posted (readHeader m (s.bodyHeader m))) s)) ?_
      exact .of_inFlight rfl (k _ h)
    refine .ite (q.trans ?_) q
    exact .of_core (modMb_core _ _ _)

theorem loadStep_keeps (c : BitVec 96) (s : State) : s.Keeps (s.loadStep c) := by
  unfold State.loadStep
  dsimp only
  split
  · refine .trans ?_ (answerTag_keeps _ _ _)
    exact .of_core (by simp)
  · exact .of_core (by simp)

theorem edge_keeps (s : State) : s.Keeps s.edge := by
  unfold State.edge
  split
  · exact loadStep_keeps _ _
  · exact .of_core rfl
  · exact .of_core rfl

theorem attestAt_keeps (tag : Tag) (nonce : BitVec 256) (s : State) : s.Keeps (s.attestAt tag nonce) := by
  unfold State.attestAt
  split
  · exact .of_core (by simp)
  · exact answerTag_keeps _ _ _

theorem frameAct_keeps (a : FrameAct) (s : State) : s.Keeps (s.frameAct a) := by
  unfold State.frameAct
  split
  · exact .of_core (core_foldl _ _ _ fun t x => modElem_core _ _ _)
  · exact .of_core (by simp)
  · exact .of_core (by simp)
  · exact .of_core (by simp)
  · exact attestAt_keeps _ _ _
  · exact .of_core (by split <;> simp)

theorem State.Keeps.foldl {α : Type} (f : State → α → State) (l : List α) (s : State) (h : ∀ (t : State) (x : α), t.Keeps (f t x)) :
    s.Keeps (l.foldl f s) := by
  induction l generalizing s with
  | nil => exact .of_core rfl
  | cons x l ih => exact .trans (h s x) (ih _)

theorem loopFrames_keeps (s : State) : s.Keeps s.loopFrames := by
  unfold State.loopFrames
  dsimp only
  split
  · exact .of_core rfl
  · refine .trans ?_ (.foldl _ _ _ fun t x => frameAct_keeps _ _)
    exact .of_core rfl

theorem tbTick_keeps (s : State) : s.Keeps s.tbTick := by
  unfold State.tbTick
  dsimp only
  have h0 : s.Keeps { s with cycle := {} } := .of_core rfl
  refine .ite (h0.trans ((edge_keeps _).trans ?_)) h0
  refine .trans (.of_core (closeWindow_core _ _)) (.trans (loopFrames_keeps _) (.of_core (checkReady_core _)))

theorem seeded_keeps (s : State) : s.Keeps s.seeded := by
  unfold State.seeded
  split
  · next h =>
    refine ⟨rfl, rfl, rfl, id, le_refl _, le_refl _, fun _ => id, fun _ => id, fun h => ⟨h, fun _ _ => rfl⟩, id, fun e => ?_, id⟩
    rw [e] at h
    revert h
    simp
  · exact .of_core rfl

theorem bootRom_keeps (s : State) : s.Keeps s.bootRom :=
  (seeded_keeps s).trans (.of_core rfl)

theorem rounds_core (n k : Nat) (s : State) (p : State × Nat) (h : State.rounds n k s = some p) : p.1.core = s.core := by
  induction k generalizing s with
  | zero => cases h
  | succ k ih =>
    rw [State.rounds] at h
    split at h
    · rw [← Option.some.inj h, newRound_core]
    · rw [ih _ h, newRound_core]

theorem nextServed_core (s : State) (p : State × Nat) (h : s.nextServed = some p) : p.1.core = s.core := by
  unfold State.nextServed at h
  dsimp only at h
  split at h
  · rw [← Option.some.inj h]
  · split at h
    · rw [← Option.some.inj h, endVisit_core]
    · rw [rounds_core _ _ _ _ h, endVisit_core]

theorem dropTooLong_core (p n : Nat) (s : State) : (s.dropTooLong p n).core = s.core := by
  induction n generalizing s with
  | zero => rfl
  | succ n ih =>
    unfold State.dropTooLong
    split
    · rfl
    · simp [ih]

theorem startMembers_core (ts : Nat) (l : List Sheaf) (s : State) : (State.startMembers ts l s).1.core = s.core := by
  induction l generalizing s with
  | nil => rfl
  | cons m l ih =>
    unfold State.startMembers
    dsimp only
    split
    · rfl
    · simp [ih]

theorem writeBuffers_core (unit : Nat) (l : List Descriptor) (bs : List Byte) (s : State) : (State.writeBuffers unit l bs s).core = s.core := by
  induction l generalizing bs s with
  | nil => rfl
  | cons d l ih => simp [State.writeBuffers, ih]

theorem execTimeGetStatus_keeps (tag : Tag) (s : State) : ∃ t, execTimeGetStatus tag s = .next t ∧ s.Keeps t :=
  ⟨_, rfl, query_keeps _ _ _ _ _⟩

theorem execTimeSet_keeps (tag : Tag) (time : BitVec 64) (frac : BitVec 32) (s : State) : ∃ t, execTimeSet tag time frac s = .next t ∧ s.Keeps t :=
  ⟨_, rfl, serve_keeps _ _ _ _ _ _ fun u => .of_core (by simp)⟩

theorem execTimeReanchor_keeps (tag : Tag) (time : BitVec 64) (frac : BitVec 32) (s : State) : ∃ t, execTimeReanchor tag time frac s = .next t ∧ s.Keeps t := by
  refine ⟨_, rfl, .ite (.of_core rfl) (.ite ?_ (serve_keeps _ _ _ _ _ _ fun u => .of_core ?_))⟩
  · split
    · exact .of_core (by simp)
    · exact .of_core rfl
  · split <;> rfl

theorem execTimeSetSource_keeps (tag : Tag) (primary fallback : BitVec 2) (tauMs lockNs largeNs : Nat) (s : State) : ∃ t, execTimeSetSource tag primary fallback tauMs lockNs largeNs s = .next t ∧ s.Keeps t :=
  ⟨_, rfl, serve_keeps _ _ _ _ _ _ fun u => .of_core (by ((try dsimp only); (repeat' split) <;> simp [*]))⟩

theorem execTimeSetCycle_keeps (tag : Tag) (b : BitVec 64) (c : BitVec 32) (s : State) : ∃ t, execTimeSetCycle tag b c s = .next t ∧ s.Keeps t :=
  ⟨_, rfl, serve_keeps _ _ _ _ _ _ fun u => .of_core (by simp)⟩

theorem execTimeFoldShift_keeps (tag : Tag) (s : State) : ∃ t, execTimeFoldShift tag s = .next t ∧ s.Keeps t :=
  ⟨_, rfl, serve_keeps _ _ _ _ _ _ fun u => .of_core (by simp)⟩

theorem execTimeSetSyncin_keeps (tag : Tag) (enable : Bool) (wNs deadband : Nat) (s : State) : ∃ t, execTimeSetSyncin tag enable wNs deadband s = .next t ∧ s.Keeps t :=
  ⟨_, rfl, serve_keeps _ _ _ _ _ _ fun u => .of_core (by simp)⟩

theorem execTimeSetSyncout_keeps (tag : Tag) (mode : Nat) (p : Option Nat) (lNs : Nat) (s : State) : ∃ t, execTimeSetSyncout tag mode p lNs s = .next t ∧ s.Keeps t :=
  ⟨_, rfl, serve_keeps _ _ _ _ _ _ fun u => .of_core (by ((try dsimp only); (repeat' split) <;> simp [*]))⟩

theorem execTimeSetPtp_keeps (tag : Tag) (cfg : PtpCfg) (s : State) : ∃ t, execTimeSetPtp tag cfg s = .next t ∧ s.Keeps t :=
  ⟨_, rfl, serve_keeps _ _ _ _ _ _ fun u => .of_core (by simp)⟩

theorem execTimeSetPortLatency_keeps (tag : Tag) (port : Nat) (ingress egress : Int) (s : State) : ∃ t, execTimeSetPortLatency tag port ingress egress s = .next t ∧ s.Keeps t :=
  ⟨_, rfl, serve_keeps _ _ _ _ _ _ fun u => .of_core (by simp)⟩

theorem execTbTimeLoRead_keeps (s : State) : ∃ t, execTbTimeLoRead s = .next t ∧ s.Keeps t :=
  ⟨_, rfl, .of_core (by simp)⟩

theorem execTbCountsRead_keeps (s : State) : ∃ t, execTbCountsRead s = .next t ∧ s.Keeps t :=
  ⟨_, rfl, .of_core (by simp)⟩

theorem execSyncInEdge_keeps (elapsedPs : Nat) (s : State) : ∃ t, execSyncInEdge elapsedPs s = .next t ∧ s.Keeps t :=
  ⟨_, rfl, .of_core (by ((try dsimp only); (repeat' split) <;> simp [*]))⟩

theorem execSyncOutPulse_keeps (s : State) : ∃ t, execSyncOutPulse s = .next t ∧ s.Keeps t :=
  ⟨_, rfl, .of_core (by ((repeat' split) <;> simp [*]))⟩

theorem execSyncOutPulseEnd_keeps (s : State) : ∃ t, execSyncOutPulseEnd s = .next t ∧ s.Keeps t :=
  ⟨_, rfl, .of_core (by simp)⟩

theorem execScheduleBoundary_keeps (s : State) : ∃ t, execScheduleBoundary s = .next t ∧ s.Keeps t :=
  ⟨_, rfl, .of_core (by ((repeat' split) <;> simp [*]))⟩

theorem execGptpMessageReceived_keeps (port : Nat) (msg : GptpMsg) (s : State) : ∃ t, execGptpMessageReceived port msg s = .next t ∧ s.Keeps t :=
  ⟨_, rfl, .of_core (by ((try dsimp only); (repeat' split) <;> simp [*]))⟩

theorem execGptpMessageTransmit_keeps (port : Nat) (sync : Bool) (s : State) : ∃ t, execGptpMessageTransmit port sync s = .next t ∧ s.Keeps t :=
  ⟨_, rfl, .of_core (by simp)⟩

theorem execGptpSyncTimeout_keeps (s : State) : ∃ t, execGptpSyncTimeout s = .next t ∧ s.Keeps t :=
  ⟨_, rfl, .of_core (by simp)⟩

theorem execTxSelect_keeps (port : Nat) (s : State) : ∃ t, execTxSelect port s = .next t ∧ s.Keeps t := by
  refine ⟨_, rfl, .of_core ?_⟩
  dsimp only
  repeat' split
  all_goals simp [dropTooLong_core]

theorem execTxFrameDone_keeps (port : Nat) (s : State) : ∃ t, execTxFrameDone port s = .next t ∧ s.Keeps t :=
  ⟨_, rfl, .of_core (by ((try dsimp only); (repeat' split) <;> simp [*]))⟩

theorem execGateEvent_keeps (port : Nat) (s : State) : ∃ t, execGateEvent port s = .next t ∧ s.Keeps t :=
  ⟨_, rfl, .of_core (by ((repeat' split) <;> simp [*]))⟩

theorem execGateHoldAssert_keeps (port : Nat) (s : State) : ∃ t, execGateHoldAssert port s = .next t ∧ s.Keeps t :=
  ⟨_, rfl, .of_core (by ((repeat' split) <;> simp [*]))⟩

theorem execVerifyTimer_keeps (port : Nat) (s : State) : ∃ t, execVerifyTimer port s = .next t ∧ s.Keeps t :=
  ⟨_, rfl, .of_core (by simp)⟩

theorem execRxPause_keeps (port : Nat) (quanta : BitVec 16) (s : State) : ∃ t, execRxPause port quanta s = .next t ∧ s.Keeps t :=
  ⟨_, rfl, .of_core (by simp)⟩

theorem execPauseExpiry_keeps (port : Nat) (s : State) : ∃ t, execPauseExpiry port s = .next t ∧ s.Keeps t :=
  ⟨_, rfl, .of_core (by ((repeat' split) <;> simp [*]))⟩

theorem execPauseRefresh_keeps (port : Nat) (s : State) : ∃ t, execPauseRefresh port s = .next t ∧ s.Keeps t :=
  ⟨_, rfl, .of_core (by simp)⟩

theorem execRxpWatchdog_keeps (port : Nat) (s : State) : ∃ t, execRxpWatchdog port s = .next t ∧ s.Keeps t :=
  ⟨_, rfl, .of_core (by simp)⟩

theorem execRearmExpiry_keeps (port : Nat) (s : State) : ∃ t, execRearmExpiry port s = .next t ∧ s.Keeps t :=
  ⟨_, rfl, .of_core (by simp)⟩

theorem execTxpWatchdog_keeps (port : Nat) (s : State) : ∃ t, execTxpWatchdog port s = .next t ∧ s.Keeps t :=
  ⟨_, rfl, .of_core (by ((try dsimp only); (repeat' split) <;> simp [*]))⟩

theorem execLpiIdleTimeout_keeps (port : Nat) (s : State) : ∃ t, execLpiIdleTimeout port s = .next t ∧ s.Keeps t :=
  ⟨_, rfl, .of_core (by simp)⟩

theorem execLpiSleepEntry_keeps (port : Nat) (s : State) : ∃ t, execLpiSleepEntry port s = .next t ∧ s.Keeps t :=
  ⟨_, rfl, .of_core (by simp)⟩

theorem execLpiWake_keeps (port : Nat) (early : Bool) (s : State) : ∃ t, execLpiWake port early s = .next t ∧ s.Keeps t :=
  ⟨_, rfl, .of_core (by ((try dsimp only); (repeat' split) <;> simp [*]))⟩

theorem execReceivedLpi_keeps (port : Nat) (entering : Bool) (s : State) : ∃ t, execReceivedLpi port entering s = .next t ∧ s.Keeps t :=
  ⟨_, rfl, .of_core (by simp)⟩

theorem execFabricGetMap_keeps (tag : Tag) (s : State) : ∃ t, execFabricGetMap tag s = .next t ∧ s.Keeps t :=
  ⟨_, rfl, query_keeps _ _ _ _ _⟩

theorem execFabricGetPath_keeps (tag : Tag) (plane output : Nat) (s : State) : ∃ t, execFabricGetPath tag plane output s = .next t ∧ s.Keeps t :=
  ⟨_, rfl, query_keeps _ _ _ _ _⟩

theorem execFabricGetCells_keeps (tag : Tag) (plane first count : Nat) (s : State) : ∃ t, execFabricGetCells tag plane first count s = .next t ∧ s.Keeps t :=
  ⟨_, rfl, query_keeps _ _ _ _ _⟩

theorem execFabricGetFailed_keeps (tag : Tag) (plane : Nat) (s : State) : ∃ t, execFabricGetFailed tag plane s = .next t ∧ s.Keeps t :=
  ⟨_, rfl, query_keeps _ _ _ _ _⟩

theorem execFabricSetFailed_keeps (tag : Tag) (plane stage cell kind : Nat) (s : State) : ∃ t, execFabricSetFailed tag plane stage cell kind s = .next t ∧ s.Keeps t :=
  ⟨_, rfl, serve_keeps _ _ _ _ _ _ fun u => .of_core (by ((repeat' split) <;> simp [*]))⟩

theorem execFabricClearFailed_keeps (tag : Tag) (plane stage cell : Nat) (s : State) : ∃ t, execFabricClearFailed tag plane stage cell s = .next t ∧ s.Keeps t :=
  ⟨_, rfl, serve_keeps _ _ _ _ _ _ fun u => .of_core (by ((try dsimp only); (repeat' split) <;> simp [*]))⟩

theorem execFabricGetLevels_keeps (tag : Tag) (output : Bool) (first count : Nat) (s : State) : ∃ t, execFabricGetLevels tag output first count s = .next t ∧ s.Keeps t :=
  ⟨_, rfl, serve_keeps _ _ _ _ _ _ fun u => .of_core (by simp)⟩

theorem execFabricSetRepair_keeps (tag : Tag) (enable : Bool) (leadNs : Nat) (s : State) : ∃ t, execFabricSetRepair tag enable leadNs s = .next t ∧ s.Keeps t :=
  ⟨_, rfl, serve_keeps _ _ _ _ _ _ fun u => .of_core (by simp)⟩

theorem execFabricSetParking_keeps (tag : Tag) (enable : Bool) (delayNs : Nat) (s : State) : ∃ t, execFabricSetParking tag enable delayNs s = .next t ∧ s.Keeps t :=
  ⟨_, rfl, serve_keeps _ _ _ _ _ _ fun u => .of_core (by simp)⟩

theorem execIdleParkTimeout_keeps (plane stage cell : Nat) (s : State) : ∃ t, execIdleParkTimeout plane stage cell s = .next t ∧ s.Keeps t :=
  ⟨_, rfl, .of_core (by simp)⟩

theorem execLoopGetParams_keeps (tag : Tag) (first count : Nat) (s : State) : ∃ t, execLoopGetParams tag first count s = .next t ∧ s.Keeps t :=
  ⟨_, rfl, query_keeps _ _ _ _ _⟩

theorem execLoopSetParams_keeps (tag : Tag) (first : Nat) (recs : List ParamRec) (s : State) : ∃ t, execLoopSetParams tag first recs s = .next t ∧ s.Keeps t :=
  ⟨_, rfl, serve_keeps _ _ _ _ _ _ fun u => .of_core (by ((repeat' split) <;> simp [*]))⟩

theorem execLoopGetState_keeps (tag : Tag) (first count : Nat) (s : State) : ∃ t, execLoopGetState tag first count s = .next t ∧ s.Keeps t :=
  ⟨_, rfl, query_keeps _ _ _ _ _⟩

theorem execLoopGetFlags_keeps (tag : Tag) (first count : Nat) (s : State) : ∃ t, execLoopGetFlags tag first count s = .next t ∧ s.Keeps t :=
  ⟨_, rfl, query_keeps _ _ _ _ _⟩

theorem execLoopClearFlags_keeps (tag : Tag) (first count : Nat) (mask : BitVec 16) (s : State) : ∃ t, execLoopClearFlags tag first count mask s = .next t ∧ s.Keeps t :=
  ⟨_, rfl, serve_keeps _ _ _ _ _ _ fun u => .of_core (by simp)⟩

theorem execLoopCapture_keeps (tag : Tag) (element samples time : Nat) (s : State) : ∃ t, execLoopCapture tag element samples time s = .next t ∧ s.Keeps t :=
  ⟨_, rfl, serve_keeps _ _ _ _ _ _ fun u => .of_core (by simp)⟩

theorem execLoopGetCapture_keeps (tag : Tag) (element page : Nat) (s : State) : ∃ t, execLoopGetCapture tag element page s = .next t ∧ s.Keeps t :=
  ⟨_, rfl, query_keeps _ _ _ _ _⟩

theorem execLoopGetMode_keeps (tag : Tag) (first count : Nat) (s : State) : ∃ t, execLoopGetMode tag first count s = .next t ∧ s.Keeps t :=
  ⟨_, rfl, query_keeps _ _ _ _ _⟩

theorem execLoopSetHandover_keeps (tag : Tag) (voa : Bool) (dwellUs retryUs hoTol : Nat) (s : State) : ∃ t, execLoopSetHandover tag voa dwellUs retryUs hoTol s = .next t ∧ s.Keeps t :=
  ⟨_, rfl, serve_keeps _ _ _ _ _ _ fun u => .of_core (by simp)⟩

theorem execLoopRetryLock_keeps (tag : Tag) (first count : Nat) (s : State) : ∃ t, execLoopRetryLock tag first count s = .next t ∧ s.Keeps t :=
  ⟨_, rfl, serve_keeps _ _ _ _ _ _ fun u => .of_core (by simp)⟩

theorem execLoopHoldRegion_keeps (tag : Tag) (region : Nat) (hold : Bool) (s : State) : ∃ t, execLoopHoldRegion tag region hold s = .next t ∧ s.Keeps t :=
  ⟨_, rfl, serve_keeps _ _ _ _ _ _ fun u => .of_core (by simp)⟩

theorem execLoopSetVoaGroup_keeps (tag : Tag) (group : Nat) (cfg : VoaGroupCfg) (s : State) : ∃ t, execLoopSetVoaGroup tag group cfg s = .next t ∧ s.Keeps t :=
  ⟨_, rfl, serve_keeps _ _ _ _ _ _ fun u => .of_core (by simp)⟩

theorem execLoopGetVoaGroup_keeps (tag : Tag) (group : Nat) (s : State) : ∃ t, execLoopGetVoaGroup tag group s = .next t ∧ s.Keeps t :=
  ⟨_, rfl, query_keeps _ _ _ _ _⟩

theorem execTrimInSample_keeps (group microvolts : Nat) (s : State) : ∃ t, execTrimInSample group microvolts s = .next t ∧ s.Keeps t :=
  ⟨_, rfl, .of_core (by ((try dsimp only); (repeat' split) <;> simp [*]))⟩

theorem execTrimInPulseEdge_keeps (pin : Nat) (rising : Bool) (elapsedPs : Nat) (s : State) : ∃ t, execTrimInPulseEdge pin rising elapsedPs s = .next t ∧ s.Keeps t :=
  ⟨_, rfl, .of_core (by simp)⟩

theorem execVoaGroupLost_keeps (group : Nat) (s : State) : ∃ t, execVoaGroupLost group s = .next t ∧ s.Keeps t :=
  ⟨_, rfl, .of_core (by simp)⟩

theorem execLoopSample_keeps (element : Nat) (m1 m2 : BitVec 12) (residueFail : Bool) (s : State) : ∃ t, execLoopSample element m1 m2 residueFail s = .next t ∧ s.Keeps t :=
  ⟨_, rfl, .of_core (by ((repeat' split) <;> simp [*]))⟩

theorem execHandoverAttempt_keeps (element : Nat) (m1 m2 : BitVec 12) (s : State) : ∃ t, execHandoverAttempt element m1 m2 s = .next t ∧ s.Keeps t :=
  ⟨_, rfl, .of_core (by ((repeat' split) <;> simp [*]))⟩

theorem execHeaterPowerMeasure_keeps (element nanowatts : Nat) (s : State) : ∃ t, execHeaterPowerMeasure element nanowatts s = .next t ∧ s.Keeps t :=
  ⟨_, rfl, .of_core (by simp)⟩

theorem execSheafStage_keeps (tag : Tag) (more : Bool) (words : List Word) (s : State) : ∃ t, execSheafStage tag more words s = .next t ∧ s.Keeps t :=
  ⟨_, rfl, serve_keeps _ _ _ _ _ _ fun u => .of_core (by simp)⟩

theorem execSheafAppend_keeps (tag : Tag) (id : BitVec 16) (more : Bool) (words : List Word) (s : State) : ∃ t, execSheafAppend tag id more words s = .next t ∧ s.Keeps t :=
  ⟨_, rfl, serve_keeps _ _ _ _ _ _ fun u => .of_core (by ((try dsimp only); (repeat' split) <;> simp [*]))⟩

theorem execSheafCancel_keeps (tag : Tag) (id : BitVec 16) (s : State) : ∃ t, execSheafCancel tag id s = .next t ∧ s.Keeps t := by
  refine ⟨_, rfl, serve_keeps _ _ _ _ _ _ fun u => ?_⟩
  have k := cancelSheaf_core id.toNat u
  split <;> (next h => rw [h] at k; exact .of_core k)

theorem execSheafGetStatus_keeps (tag : Tag) (id : BitVec 16) (s : State) : ∃ t, execSheafGetStatus tag id s = .next t ∧ s.Keeps t :=
  ⟨_, rfl, query_keeps _ _ _ _ _⟩

theorem execSheafGetResult_keeps (tag : Tag) (id : BitVec 16) (page : Nat) (s : State) : ∃ t, execSheafGetResult tag id page s = .next t ∧ s.Keeps t :=
  ⟨_, rfl, query_keeps _ _ _ _ _⟩

theorem execSheafList_keeps (tag : Tag) (page : Nat) (s : State) : ∃ t, execSheafList tag page s = .next t ∧ s.Keeps t :=
  ⟨_, rfl, query_keeps _ _ _ _ _⟩

theorem execSheafSetTiming_keeps (tag : Tag) (armLead prepLead : Nat) (s : State) : ∃ t, execSheafSetTiming tag armLead prepLead s = .next t ∧ s.Keeps t :=
  ⟨_, rfl, serve_keeps _ _ _ _ _ _ fun u => .of_core (by simp)⟩

theorem execSolveConnect_keeps (tag : Tag) (instant : Nat) (move dryRun : Bool) (pairs : List (Nat × Nat)) (s : State) : ∃ t, execSolveConnect tag instant move dryRun pairs s = .next t ∧ s.Keeps t :=
  ⟨_, rfl, serve_keeps _ _ _ _ _ _ fun u => .of_core (by simp)⟩

theorem execSolveDisconnect_keeps (tag : Tag) (instant : Nat) (move dryRun : Bool) (inputs outputs : List Nat) (s : State) : ∃ t, execSolveDisconnect tag instant move dryRun inputs outputs s = .next t ∧ s.Keeps t :=
  ⟨_, rfl, serve_keeps _ _ _ _ _ _ fun u => .of_core (by simp)⟩

theorem execSolvePermute_keeps (tag : Tag) (instant : Nat) (move dryRun : Bool) (target : List (Option Nat)) (s : State) : ∃ t, execSolvePermute tag instant move dryRun target s = .next t ∧ s.Keeps t :=
  ⟨_, rfl, serve_keeps _ _ _ _ _ _ fun u => .of_core (by simp)⟩

theorem execSolveGetReport_keeps (tag : Tag) (page : Nat) (s : State) : ∃ t, execSolveGetReport tag page s = .next t ∧ s.Keeps t :=
  ⟨_, rfl, query_keeps _ _ _ _ _⟩

theorem execStookDefine_keeps (tag : Tag) (id : BitVec 16) (name : BitVec 128) (stop : Bool) (members : List (List Word)) (sig : Option AxaroBlock) (s : State) : ∃ t, execStookDefine tag id name stop members sig s = .next t ∧ s.Keeps t :=
  ⟨_, rfl, serve_keeps _ _ _ _ _ _ fun u => .of_core (by ((try dsimp only); (repeat' split) <;> simp [*]))⟩

theorem execStookStart_keeps (tag : Tag) (id : BitVec 16) (ts : Nat) (s : State) : ∃ t, execStookStart tag id ts s = .next t ∧ s.Keeps t := by
  refine ⟨_, rfl, serve_keeps _ _ _ _ _ _ fun u => .of_core ?_⟩
  dsimp only
  split
  · rfl
  · next k _ =>
    have h := startMembers_core ts k.members u
    repeat' split
    all_goals first
      | rfl
      | (next e => rw [e] at h; exact h)

theorem execStookStop_keeps (tag : Tag) (id : BitVec 16) (s : State) : ∃ t, execStookStop tag id s = .next t ∧ s.Keeps t :=
  ⟨_, rfl, serve_keeps _ _ _ _ _ _ fun u => .of_core (by simp)⟩

theorem execStookGetStatus_keeps (tag : Tag) (id : BitVec 16) (s : State) : ∃ t, execStookGetStatus tag id s = .next t ∧ s.Keeps t :=
  ⟨_, rfl, query_keeps _ _ _ _ _⟩

theorem execStookDelete_keeps (tag : Tag) (id : BitVec 16) (s : State) : ∃ t, execStookDelete tag id s = .next t ∧ s.Keeps t :=
  ⟨_, rfl, serve_keeps _ _ _ _ _ _ fun u => .of_core (by ((try dsimp only); (repeat' split) <;> simp [*]))⟩

theorem execFcqSubmit_keeps (q : Nat) (ack : Bool) (words : List Word) (s : State) : ∃ t, execFcqSubmit q ack words s = .next t ∧ s.Keeps t := by
  refine ⟨_, rfl, .of_core ?_⟩
  split
  · rfl
  · split
    · rfl
    · next slot _ _ =>
      have k := submit_core words (.fcq q slot.lastIdx.toNat) s
      dsimp only
      split <;> (next h => rw [h] at k; simpa using k)

theorem execFcqCancel_keeps (q : Nat) (id : BitVec 16) (s : State) : ∃ t, execFcqCancel q id s = .next t ∧ s.Keeps t := by
  refine ⟨_, rfl, .of_core ?_⟩
  have k := cancelSheaf_core id.toNat s
  split
  · rfl
  · split
    · rfl
    · split <;> (next h => rw [h] at k; simpa using k)

theorem execSheafArmStart_keeps (id : BitVec 16) (s : State) : ∃ t, execSheafArmStart id s = .next t ∧ s.Keeps t :=
  ⟨_, rfl, .of_core (by ((try dsimp only); (repeat' split) <;> simp [*]))⟩

theorem execSheafArmCommit_keeps (id : BitVec 16) (allAcks : Bool) (s : State) : ∃ t, execSheafArmCommit id allAcks s = .next t ∧ s.Keeps t :=
  ⟨_, rfl, .of_core (by ((repeat' split) <;> simp [*]))⟩

theorem execSheafCutoff_keeps (id : BitVec 16) (s : State) : ∃ t, execSheafCutoff id s = .next t ∧ s.Keeps t :=
  ⟨_, rfl, .of_core (by ((repeat' split) <;> simp [*]))⟩

theorem execSheafInstant_keeps (id : BitVec 16) (driveFaults : List Nat) (s : State) : ∃ t, execSheafInstant id driveFaults s = .next t ∧ s.Keeps t :=
  ⟨_, rfl, .of_core (by ((repeat' split) <;> simp [*]))⟩

theorem execArmSlotFree_keeps (slot : Nat) (s : State) : ∃ t, execArmSlotFree slot s = .next t ∧ s.Keeps t :=
  ⟨_, rfl, .of_core (by ((try dsimp only); (repeat' split) <;> simp [*]))⟩

theorem execSheafHorizon_keeps (id : BitVec 16) (s : State) : ∃ t, execSheafHorizon id s = .next t ∧ s.Keeps t :=
  ⟨_, rfl, .of_core (by ((try dsimp only); (repeat' split) <;> simp [*]))⟩

theorem execCalGetStatus_keeps (tag : Tag) (s : State) : ∃ t, execCalGetStatus tag s = .next t ∧ s.Keeps t :=
  ⟨_, rfl, query_keeps _ _ _ _ _⟩

theorem execCalGetElement_keeps (tag : Tag) (first count : Nat) (s : State) : ∃ t, execCalGetElement tag first count s = .next t ∧ s.Keeps t :=
  ⟨_, rfl, query_keeps _ _ _ _ _⟩

theorem execCalSave_keeps (tag : Tag) (s : State) : ∃ t, execCalSave tag s = .next t ∧ s.Keeps t :=
  ⟨_, rfl, serve_keeps _ _ _ _ _ _ fun u => .of_core (by simp)⟩

theorem execCalAutoSave_keeps (s : State) : ∃ t, execCalAutoSave s = .next t ∧ s.Keeps t :=
  ⟨_, rfl, .of_core (by simp)⟩

theorem execCalSaveComplete_keeps (ok : Bool) (s : State) : ∃ t, execCalSaveComplete ok s = .next t ∧ s.Keeps t :=
  ⟨_, rfl, .of_core (by simp)⟩

theorem execCalRecalElement_keeps (tag : Tag) (first count : Nat) (s : State) : ∃ t, execCalRecalElement tag first count s = .next t ∧ s.Keeps t :=
  ⟨_, rfl, serve_keeps _ _ _ _ _ _ fun u => .of_core (by simp)⟩

theorem execCalSetBackground_keeps (tag : Tag) (enable : Bool) (periodMs : Nat) (s : State) : ∃ t, execCalSetBackground tag enable periodMs s = .next t ∧ s.Keeps t :=
  ⟨_, rfl, serve_keeps _ _ _ _ _ _ fun u => .of_core (by simp)⟩

theorem execCalSetSparePolicy_keeps (tag : Tag) (policy : SparePolicy) (s : State) : ∃ t, execCalSetSparePolicy tag policy s = .next t ∧ s.Keeps t :=
  ⟨_, rfl, serve_keeps _ _ _ _ _ _ fun u => .of_core (by simp)⟩

theorem execCalSubstitute_keeps (tag : Tag) (wholeBlock : Bool) (region block cell : Nat) (s : State) : ∃ t, execCalSubstitute tag wholeBlock region block cell s = .next t ∧ s.Keeps t :=
  ⟨_, rfl, serve_keeps _ _ _ _ _ _ fun u => .of_core (by simp)⟩

theorem execCalGetLog_keeps (tag : Tag) (seq : Nat) (s : State) : ∃ t, execCalGetLog tag seq s = .next t ∧ s.Keeps t :=
  ⟨_, rfl, query_keeps _ _ _ _ _⟩

theorem execCalGetSpares_keeps (tag : Tag) (s : State) : ∃ t, execCalGetSpares tag s = .next t ∧ s.Keeps t :=
  ⟨_, rfl, query_keeps _ _ _ _ _⟩

theorem execSpareThresholdMet_keeps (part : Part) (s : State) : ∃ t, execSpareThresholdMet part s = .next t ∧ s.Keeps t :=
  ⟨_, rfl, .of_core (by ((repeat' split) <;> simp [*]))⟩

theorem execSpareProof_keeps (region block : Nat) (same : Bool) (s : State) : ∃ t, execSpareProof region block same s = .next t ∧ s.Keeps t :=
  ⟨_, rfl, .of_core (by simp)⟩

theorem execLoopCellSwitch_keeps (region block cell : Nat) (selfTest : Bool) (s : State) : ∃ t, execLoopCellSwitch region block cell selfTest s = .next t ∧ s.Keeps t :=
  ⟨_, rfl, .of_core (by ((try dsimp only); (repeat' split) <;> simp [*]))⟩

theorem execBlockSwitch_keeps (region block : Nat) (selfTest : Bool) (s : State) : ∃ t, execBlockSwitch region block selfTest s = .next t ∧ s.Keeps t :=
  ⟨_, rfl, .of_core (by ((try dsimp only); (repeat' split) <;> simp [*]))⟩

theorem execRowRepair_keeps (inst row : Nat) (s : State) : ∃ t, execRowRepair inst row s = .next t ∧ s.Keeps t :=
  ⟨_, rfl, .of_core (by simp)⟩

theorem execSpareMapWrite_keeps (s : State) : ∃ t, execSpareMapWrite s = .next t ∧ s.Keeps t :=
  ⟨_, rfl, .of_core (by simp)⟩

theorem execLogEntryWrite_keeps (s : State) : ∃ t, execLogEntryWrite s = .next t ∧ s.Keeps t :=
  ⟨_, rfl, .of_core (by ((try dsimp only); (repeat' split) <;> simp [*]))⟩

theorem execBandgapCheck_keeps (a b c : Nat) (s : State) : ∃ t, execBandgapCheck a b c s = .next t ∧ s.Keeps t :=
  ⟨_, rfl, .of_core (by ((try dsimp only); (repeat' split) <;> simp [*]))⟩

theorem execTemperatureSample_keeps (junction : Int) (diodes : List Int) (s : State) : ∃ t, execTemperatureSample junction diodes s = .next t ∧ s.Keeps t :=
  ⟨_, rfl, .ite (.of_core (by simp)) (.of_core rfl)⟩

theorem execDelayLineExchange_keeps (line : Nat) (busy : Bool) (s : State) : ∃ t, execDelayLineExchange line busy s = .next t ∧ s.Keeps t :=
  ⟨_, rfl, .of_core (by simp)⟩

theorem execBackgroundVisit_keeps (region block : Nat) (s : State) : ∃ t, execBackgroundVisit region block s = .next t ∧ s.Keeps t :=
  ⟨_, rfl, .of_core (by simp)⟩

theorem execCalStageComplete_keeps (s : State) : ∃ t, execCalStageComplete s = .next t ∧ s.Keeps t :=
  ⟨_, rfl, .of_core (by simp)⟩

theorem execPortGetStatus_keeps (tag : Tag) (port : Nat) (s : State) : ∃ t, execPortGetStatus tag port s = .next t ∧ s.Keeps t :=
  ⟨_, rfl, serve_keeps _ _ _ _ _ _ fun u => .of_core (by simp)⟩

theorem execPortSetMode_keeps (tag : Tag) (port : Nat) (cfg : PortModeCfg) (s : State) : ∃ t, execPortSetMode tag port cfg s = .next t ∧ s.Keeps t :=
  ⟨_, rfl, serve_keeps _ _ _ _ _ _ fun u => .of_core (by simp)⟩

theorem execPortGetConfig_keeps (tag : Tag) (port : Nat) (s : State) : ∃ t, execPortGetConfig tag port s = .next t ∧ s.Keeps t :=
  ⟨_, rfl, query_keeps _ _ _ _ _⟩

theorem execPortSetPause_keeps (tag : Tag) (port : Nat) (cfg : PauseCfg) (s : State) : ∃ t, execPortSetPause tag port cfg s = .next t ∧ s.Keeps t :=
  ⟨_, rfl, serve_keeps _ _ _ _ _ _ fun u => .of_core (by simp)⟩

theorem execPortSetFilter_keeps (tag : Tag) (first : Nat) (entries : List (List Word)) (s : State) : ∃ t, execPortSetFilter tag first entries s = .next t ∧ s.Keeps t :=
  ⟨_, rfl, serve_keeps _ _ _ _ _ _ fun u => .of_core (by ((try dsimp only); (repeat' split) <;> simp [*]))⟩

theorem execPortGetFilter_keeps (tag : Tag) (first count : Nat) (s : State) : ∃ t, execPortGetFilter tag first count s = .next t ∧ s.Keeps t :=
  ⟨_, rfl, query_keeps _ _ _ _ _⟩

theorem execPortSetLpi_keeps (tag : Tag) (port mode idleNs : Nat) (s : State) : ∃ t, execPortSetLpi tag port mode idleNs s = .next t ∧ s.Keeps t :=
  ⟨_, rfl, serve_keeps _ _ _ _ _ _ fun u => .of_core (by simp)⟩

theorem execPortGetStats_keeps (tag : Tag) (port : Option Nat) (s : State) : ∃ t, execPortGetStats tag port s = .next t ∧ s.Keeps t :=
  ⟨_, rfl, serve_keeps _ _ _ _ _ _ fun u => .of_core (by simp)⟩

theorem execPortGetHistory_keeps (tag : Tag) (port page : Nat) (s : State) : ∃ t, execPortGetHistory tag port page s = .next t ∧ s.Keeps t :=
  ⟨_, rfl, query_keeps _ _ _ _ _⟩

theorem execPortSetSpares_keeps (tag : Tag) (mask0 mask1 : BitVec 4) (s : State) : ∃ t, execPortSetSpares tag mask0 mask1 s = .next t ∧ s.Keeps t :=
  ⟨_, rfl, serve_keeps _ _ _ _ _ _ fun u => .of_core (by simp)⟩

theorem execPortSubstLane_keeps (tag : Tag) (port : Nat) (s : State) : ∃ t, execPortSubstLane tag port s = .next t ∧ s.Keeps t :=
  ⟨_, rfl, serve_keeps _ _ _ _ _ _ fun u => .of_core (by ((repeat' split) <;> simp [*]))⟩

theorem execFrameReceived_keeps (port : Nat) (frame : RxFrame) (elapsedPs : Int) (s : State) : ∃ t, execFrameReceived port frame elapsedPs s = .next t ∧ s.Keeps t :=
  ⟨_, rfl, .of_core (by simp)⟩

theorem execMpacketReceived_keeps (port : Nat) (packet : MPacket) (s : State) : ∃ t, execMpacketReceived port packet s = .next t ∧ s.Keeps t :=
  ⟨_, rfl, .of_core (by simp)⟩

theorem execPortLinkUp_keeps (port : Nat) (s : State) : ∃ t, execPortLinkUp port s = .next t ∧ s.Keeps t :=
  ⟨_, rfl, .of_core (by ((try dsimp only); (repeat' split) <;> simp [*]))⟩

theorem execPortLinkDown_keeps (port : Nat) (remote : Bool) (s : State) : ∃ t, execPortLinkDown port remote s = .next t ∧ s.Keeps t :=
  ⟨_, rfl, .of_core (by simp)⟩

theorem execLaneLossOfLock_keeps (port : Nat) (s : State) : ∃ t, execLaneLossOfLock port s = .next t ∧ s.Keeps t :=
  ⟨_, rfl, .of_core (by ((try dsimp only); (repeat' split) <;> simp [*]))⟩

theorem execLaneSwitch_keeps (port : Nat) (s : State) : ∃ t, execLaneSwitch port s = .next t ∧ s.Keeps t :=
  ⟨_, rfl, .of_core (by ((try dsimp only); (repeat' split) <;> simp [*]))⟩

theorem execStatsHistoryTick_keeps (s : State) : ∃ t, execStatsHistoryTick s = .next t ∧ s.Keeps t :=
  ⟨_, rfl, .of_core (by simp)⟩

theorem execGateGetStatus_keeps (tag : Tag) (port : Nat) (s : State) : ∃ t, execGateGetStatus tag port s = .next t ∧ s.Keeps t :=
  ⟨_, rfl, query_keeps _ _ _ _ _⟩

theorem execGateSetConfig_keeps (tag : Tag) (port : Nat) (cfg : GateCfg) (s : State) : ∃ t, execGateSetConfig tag port cfg s = .next t ∧ s.Keeps t :=
  ⟨_, rfl, serve_keeps _ _ _ _ _ _ fun u => .of_core (by ((try dsimp only); (repeat' split) <;> simp [*]))⟩

theorem execGateSetAdmin_keeps (tag : Tag) (port start n lct : Nat) (listTag : Word) (entries : List GateEntry) (s : State) : ∃ t, execGateSetAdmin tag port start n lct listTag entries s = .next t ∧ s.Keeps t :=
  ⟨_, rfl, serve_keeps _ _ _ _ _ _ fun u => .of_core (by simp)⟩

theorem execGateGetList_keeps (tag : Tag) (port : Nat) (oper : Bool) (first count : Nat) (s : State) : ∃ t, execGateGetList tag port oper first count s = .next t ∧ s.Keeps t :=
  ⟨_, rfl, query_keeps _ _ _ _ _⟩

theorem execGateCommit_keeps (tag : Tag) (port ct : Nat) (sig : Option AxaroBlock) (s : State) : ∃ t, execGateCommit tag port ct sig s = .next t ∧ s.Keeps t :=
  ⟨_, rfl, serve_keeps _ _ _ _ _ _ fun u => .of_core (by ((try dsimp only); (repeat' split) <;> simp [*]))⟩

theorem execGateCancelCommit_keeps (tag : Tag) (port : Nat) (s : State) : ∃ t, execGateCancelCommit tag port s = .next t ∧ s.Keeps t :=
  ⟨_, rfl, serve_keeps _ _ _ _ _ _ fun u => .of_core (by ((repeat' split) <;> simp [*]))⟩

theorem execGateDisable_keeps (tag : Tag) (port ct : Nat) (s : State) : ∃ t, execGateDisable tag port ct s = .next t ∧ s.Keeps t :=
  ⟨_, rfl, serve_keeps _ _ _ _ _ _ fun u => .of_core (by simp)⟩

theorem execGateGetWindows_keeps (tag : Tag) (port : Nat) (s : State) : ∃ t, execGateGetWindows tag port s = .next t ∧ s.Keeps t :=
  ⟨_, rfl, query_keeps _ _ _ _ _⟩

theorem execStreamGetStatus_keeps (tag : Tag) (s : State) : ∃ t, execStreamGetStatus tag s = .next t ∧ s.Keeps t :=
  ⟨_, rfl, query_keeps _ _ _ _ _⟩

theorem execStreamSet_keeps (tag : Tag) (first : Nat) (entries : List (List Word)) (s : State) : ∃ t, execStreamSet tag first entries s = .next t ∧ s.Keeps t :=
  ⟨_, rfl, serve_keeps _ _ _ _ _ _ fun u => .of_core (by ((repeat' split) <;> simp [*]))⟩

theorem execStreamGet_keeps (tag : Tag) (first count : Nat) (s : State) : ∃ t, execStreamGet tag first count s = .next t ∧ s.Keeps t :=
  ⟨_, rfl, query_keeps _ _ _ _ _⟩

theorem execStreamGetStats_keeps (tag : Tag) (first count : Nat) (s : State) : ∃ t, execStreamGetStats tag first count s = .next t ∧ s.Keeps t :=
  ⟨_, rfl, serve_keeps _ _ _ _ _ _ fun u => .of_core (by simp)⟩

theorem execStreamResetRecovery_keeps (tag : Tag) (first count : Nat) (s : State) : ∃ t, execStreamResetRecovery tag first count s = .next t ∧ s.Keeps t :=
  ⟨_, rfl, serve_keeps _ _ _ _ _ _ fun u => .of_core (by simp)⟩

theorem execStreamSetCover_keeps (tag : Tag) (set : Nat) (enable : Bool) (wStart wEnd : Nat) (s : State) : ∃ t, execStreamSetCover tag set enable wStart wEnd s = .next t ∧ s.Keeps t :=
  ⟨_, rfl, serve_keeps _ _ _ _ _ _ fun u => .of_core (by simp)⟩

theorem execStreamGetCover_keeps (tag : Tag) (set : Nat) (s : State) : ∃ t, execStreamGetCover tag set s = .next t ∧ s.Keeps t :=
  ⟨_, rfl, query_keeps _ _ _ _ _⟩

theorem execStreamClearLatent_keeps (tag : Tag) (first count : Nat) (s : State) : ∃ t, execStreamClearLatent tag first count s = .next t ∧ s.Keeps t :=
  ⟨_, rfl, serve_keeps _ _ _ _ _ _ fun u => .of_core (by simp)⟩

theorem execRecoveryResetTimer_keeps (stream : Nat) (s : State) : ∃ t, execRecoveryResetTimer stream s = .next t ∧ s.Keeps t :=
  ⟨_, rfl, .of_core (by (simp [*]))⟩

theorem execLatentPeriod_keeps (stream : Nat) (s : State) : ∃ t, execLatentPeriod stream s = .next t ∧ s.Keeps t :=
  ⟨_, rfl, .of_core (by simp)⟩

theorem execCoverWindowStart_keeps (set : Nat) (s : State) : ∃ t, execCoverWindowStart set s = .next t ∧ s.Keeps t :=
  ⟨_, rfl, .of_core (by simp)⟩

theorem execCoverWindowEnd_keeps (set : Nat) (s : State) : ∃ t, execCoverWindowEnd set s = .next t ∧ s.Keeps t :=
  ⟨_, rfl, .of_core (by simp)⟩

theorem execThresherDispatch_keeps (thread : Nat) (s : State) : ∃ t, execThresherDispatch thread s = .next t ∧ s.Keeps t :=
  ⟨_, rfl, .of_core (by ((try dsimp only); (repeat' split) <;> simp [*]))⟩

theorem execThDone_keeps (thread : Nat) (s : State) : ∃ t, execThDone thread s = .next t ∧ s.Keeps t :=
  ⟨_, rfl, .of_core (by simp)⟩

theorem execThMov_keeps (thread : Nat) (s : State) : ∃ t, execThMov thread s = .next t ∧ s.Keeps t :=
  ⟨_, rfl, .of_core (by simp)⟩

theorem execThAdd_keeps (thread : Nat) (s : State) : ∃ t, execThAdd thread s = .next t ∧ s.Keeps t :=
  ⟨_, rfl, .of_core (by simp)⟩

theorem execThSub_keeps (thread : Nat) (s : State) : ∃ t, execThSub thread s = .next t ∧ s.Keeps t :=
  ⟨_, rfl, .of_core (by simp)⟩

theorem execThAnd_keeps (thread : Nat) (s : State) : ∃ t, execThAnd thread s = .next t ∧ s.Keeps t :=
  ⟨_, rfl, .of_core (by simp)⟩

theorem execThOr_keeps (thread : Nat) (s : State) : ∃ t, execThOr thread s = .next t ∧ s.Keeps t :=
  ⟨_, rfl, .of_core (by simp)⟩

theorem execThShl_keeps (thread : Nat) (s : State) : ∃ t, execThShl thread s = .next t ∧ s.Keeps t :=
  ⟨_, rfl, .of_core (by simp)⟩

theorem execThShr_keeps (thread : Nat) (s : State) : ∃ t, execThShr thread s = .next t ∧ s.Keeps t :=
  ⟨_, rfl, .of_core (by simp)⟩

theorem execThCmp_keeps (thread : Nat) (s : State) : ∃ t, execThCmp thread s = .next t ∧ s.Keeps t :=
  ⟨_, rfl, .of_core (by simp)⟩

theorem execThLdb_keeps (thread : Nat) (s : State) : ∃ t, execThLdb thread s = .next t ∧ s.Keeps t :=
  ⟨_, rfl, .of_core (by simp)⟩

theorem execThLdh_keeps (thread : Nat) (s : State) : ∃ t, execThLdh thread s = .next t ∧ s.Keeps t :=
  ⟨_, rfl, .of_core (by simp)⟩

theorem execThLdm_keeps (thread : Nat) (s : State) : ∃ t, execThLdm thread s = .next t ∧ s.Keeps t :=
  ⟨_, rfl, .of_core (by simp)⟩

theorem execThKld_keeps (thread : Nat) (s : State) : ∃ t, execThKld thread s = .next t ∧ s.Keeps t :=
  ⟨_, rfl, .of_core (by simp)⟩

theorem execThKmov_keeps (thread : Nat) (s : State) : ∃ t, execThKmov thread s = .next t ∧ s.Keeps t :=
  ⟨_, rfl, .of_core (by simp)⟩

theorem execThBr_keeps (thread : Nat) (s : State) : ∃ t, execThBr thread s = .next t ∧ s.Keeps t :=
  ⟨_, rfl, .of_core (by simp)⟩

theorem execThHdr_keeps (thread : Nat) (s : State) : ∃ t, execThHdr thread s = .next t ∧ s.Keeps t :=
  ⟨_, rfl, .of_core (by simp)⟩

theorem execThProf_keeps (thread : Nat) (s : State) : ∃ t, execThProf thread s = .next t ∧ s.Keeps t :=
  ⟨_, rfl, .of_core (by simp)⟩

theorem execThMark_keeps (thread : Nat) (s : State) : ∃ t, execThMark thread s = .next t ∧ s.Keeps t :=
  ⟨_, rfl, .of_core (by simp)⟩

theorem execThRecirc_keeps (thread : Nat) (s : State) : ∃ t, execThRecirc thread s = .next t ∧ s.Keeps t :=
  ⟨_, rfl, .of_core (by simp)⟩

theorem execThPm_keeps (thread : Nat) (s : State) : ∃ t, execThPm thread s = .next t ∧ s.Keeps t :=
  ⟨_, rfl, .of_core (by simp)⟩

theorem execPmResult_keeps (thread : Nat) (s : State) : ∃ t, execPmResult thread s = .next t ∧ s.Keeps t :=
  ⟨_, rfl, .of_core (by ((try dsimp only); (repeat' split) <;> simp [*]))⟩

theorem execThresherRelease_keeps (port : Nat) (s : State) : ∃ t, execThresherRelease port s = .next t ∧ s.Keeps t :=
  ⟨_, rfl, .of_core (by ((try dsimp only); (repeat' split) <;> simp [*]))⟩

theorem execRuleSwapAt_keeps (s : State) : ∃ t, execRuleSwapAt s = .next t ∧ s.Keeps t :=
  ⟨_, rfl, .of_core (by (simp [*]))⟩

theorem execRuleSwapDrain_keeps (s : State) : ∃ t, execRuleSwapDrain s = .next t ∧ s.Keeps t :=
  ⟨_, rfl, .of_core (by (simp [*]))⟩

theorem execRuleGetStatus_keeps (tag : Tag) (s : State) : ∃ t, execRuleGetStatus tag s = .next t ∧ s.Keeps t :=
  ⟨_, rfl, query_keeps _ _ _ _ _⟩

theorem execRuleLoadProgram_keeps (tag : Tag) (start : Nat) (words : List Word) (s : State) : ∃ t, execRuleLoadProgram tag start words s = .next t ∧ s.Keeps t :=
  ⟨_, rfl, serve_keeps _ _ _ _ _ _ fun u => .of_core (by ((repeat' split) <;> simp [*]))⟩

theorem execRuleSetProfile_keeps (tag : Tag) (cfg : ProfileCfg) (s : State) : ∃ t, execRuleSetProfile tag cfg s = .next t ∧ s.Keeps t :=
  ⟨_, rfl, serve_keeps _ _ _ _ _ _ fun u => .of_core (by simp)⟩

theorem execRuleAddHash_keeps (tag : Tag) (recs : List (List Byte)) (s : State) : ∃ t, execRuleAddHash tag recs s = .next t ∧ s.Keeps t :=
  ⟨_, rfl, serve_keeps _ _ _ _ _ _ fun u => .of_core (by ((repeat' split) <;> simp [*]))⟩

theorem execRuleDelHash_keeps (tag : Tag) (keys : List (BitVec 6 × Byte × BitVec 320)) (s : State) : ∃ t, execRuleDelHash tag keys s = .next t ∧ s.Keeps t :=
  ⟨_, rfl, serve_keeps _ _ _ _ _ _ fun u => .of_core (by simp)⟩

theorem execRuleSetTernary_keeps (tag : Tag) (first : Nat) (recs : List (List Byte)) (s : State) : ∃ t, execRuleSetTernary tag first recs s = .next t ∧ s.Keeps t :=
  ⟨_, rfl, serve_keeps _ _ _ _ _ _ fun u => .of_core (by ((repeat' split) <;> simp [*]))⟩

theorem execRuleSetPattern_keeps (tag : Tag) (first : Nat) (recs : List (List Byte)) (s : State) : ∃ t, execRuleSetPattern tag first recs s = .next t ∧ s.Keeps t :=
  ⟨_, rfl, serve_keeps _ _ _ _ _ _ fun u => .of_core (by ((repeat' split) <;> simp [*]))⟩

theorem execRuleClone_keeps (tag : Tag) (s : State) : ∃ t, execRuleClone tag s = .next t ∧ s.Keeps t :=
  ⟨_, rfl, serve_keeps _ _ _ _ _ _ fun u => .of_core (by simp)⟩

theorem execRuleSwap_keeps (tag : Tag) (swapAt : Nat) (s : State) : ∃ t, execRuleSwap tag swapAt s = .next t ∧ s.Keeps t :=
  ⟨_, rfl, serve_keeps _ _ _ _ _ _ fun u => .of_core (by simp)⟩

theorem execRuleCancelSwap_keeps (tag : Tag) (s : State) : ∃ t, execRuleCancelSwap tag s = .next t ∧ s.Keeps t :=
  ⟨_, rfl, serve_keeps _ _ _ _ _ _ fun u => .of_core (by ((try dsimp only); (repeat' split) <;> simp [*]))⟩

theorem execRuleGet_keeps (tag : Tag) (query : RuleQuery) (s : State) : ∃ t, execRuleGet tag query s = .next t ∧ s.Keeps t :=
  ⟨_, rfl, query_keeps _ _ _ _ _⟩

theorem execRuleGetStats_keeps (tag : Tag) (first count : Nat) (s : State) : ∃ t, execRuleGetStats tag first count s = .next t ∧ s.Keeps t :=
  ⟨_, rfl, serve_keeps _ _ _ _ _ _ fun u => .of_core (by simp)⟩

theorem execRuleSetMirror_keeps (tag : Tag) (session : Nat) (dest : MirrorDest) (trunc : Nat) (s : State) : ∃ t, execRuleSetMirror tag session dest trunc s = .next t ∧ s.Keeps t :=
  ⟨_, rfl, serve_keeps _ _ _ _ _ _ fun u => .of_core (by simp)⟩

theorem execRuleSetMp_keeps (tag : Tag) (rate : Nat) (s : State) : ∃ t, execRuleSetMp tag rate s = .next t ∧ s.Keeps t :=
  ⟨_, rfl, serve_keeps _ _ _ _ _ _ fun u => .of_core (by simp)⟩

theorem execRuleGetCopies_keeps (tag : Tag) (count : Nat) (s : State) : ∃ t, execRuleGetCopies tag count s = .next t ∧ s.Keeps t :=
  ⟨_, rfl, query_keeps _ _ _ _ _⟩

theorem execHqEnable_keeps (q : QId) (s : State) : ∃ t, execHqEnable q s = .next t ∧ s.Keeps t :=
  ⟨_, rfl, .of_core (by simp)⟩

theorem execHqDisable_keeps (q : QId) (s : State) : ∃ t, execHqDisable q s = .next t ∧ s.Keeps t :=
  ⟨_, rfl, .of_core (by simp)⟩

theorem execQueueDrainComplete_keeps (q : QId) (s : State) : ∃ t, execQueueDrainComplete q s = .next t ∧ s.Keeps t :=
  ⟨_, rfl, .of_core (by simp)⟩

theorem execHqIdxReset_keeps (q : QId) (s : State) : ∃ t, execHqIdxReset q s = .next t ∧ s.Keeps t :=
  ⟨_, rfl, .of_core (by simp)⟩

theorem execHqTailWrite_keeps (q : QId) (value : Word) (s : State) : ∃ t, execHqTailWrite q value s = .next t ∧ s.Keeps t :=
  ⟨_, rfl, .of_core (by simp)⟩

theorem execHqDropRead_keeps (q : Nat) (s : State) : ∃ t, execHqDropRead q s = .next t ∧ s.Keeps t :=
  ⟨_, rfl, .of_core (by simp)⟩

theorem execCqEnableWrite_keeps (q : Nat) (enable irqEn : Bool) (s : State) : ∃ t, execCqEnableWrite q enable irqEn s = .next t ∧ s.Keeps t :=
  ⟨_, rfl, .of_core (by simp)⟩

theorem execCqIdxReset_keeps (q : Nat) (s : State) : ∃ t, execCqIdxReset q s = .next t ∧ s.Keeps t :=
  ⟨_, rfl, .of_core (by simp)⟩

theorem execCqHeadWrite_keeps (q : Nat) (value : Word) (s : State) : ∃ t, execCqHeadWrite q value s = .next t ∧ s.Keeps t :=
  ⟨_, rfl, .of_core (by simp)⟩

theorem execTxChainFetch_keeps (q : QId) (entries : List Descriptor) (buffers : List Byte) (s : State) : ∃ t, execTxChainFetch q entries buffers s = .next t ∧ s.Keeps t := by
  refine ⟨_, rfl, .of_core ?_⟩
  dsimp only
  split
  · rfl
  · split
    · rfl
    · next h =>
      have k := nextServed_core _ _ h
      repeat' split
      all_goals first
        | rfl
        | simpa using k

theorem execMemoryRequestAnswered_keeps (answer : MemAnswer) (s : State) : ∃ t, execMemoryRequestAnswered answer s = .next t ∧ s.Keeps t :=
  ⟨_, rfl, .of_core (by ((try dsimp only); (repeat' split) <;> simp [*]))⟩

theorem execRxReservation_keeps (q : Nat) (entries : List Descriptor) (s : State) : ∃ t, execRxReservation q entries s = .next t ∧ s.Keeps t := by
  refine ⟨_, rfl, .of_core ?_⟩
  dsimp only
  repeat' split
  all_goals simp [writeBuffers_core]

theorem execRxDropDelay_keeps (q : Nat) (s : State) : ∃ t, execRxDropDelay q s = .next t ∧ s.Keeps t :=
  ⟨_, rfl, .of_core (by ((try dsimp only); (repeat' split) <;> simp [*]))⟩

theorem execCompletionWrite_keeps (cq : Nat) (s : State) : ∃ t, execCompletionWrite cq s = .next t ∧ s.Keeps t :=
  ⟨_, rfl, .of_core (by simp)⟩

theorem execModerationTimer_keeps (vector : Nat) (s : State) : ∃ t, execModerationTimer vector s = .next t ∧ s.Keeps t :=
  ⟨_, rfl, .of_core (by simp)⟩

theorem execPendingVectorDeliver_keeps (vector : Nat) (s : State) : ∃ t, execPendingVectorDeliver vector s = .next t ∧ s.Keeps t :=
  ⟨_, rfl, .of_core (by simp)⟩

theorem execD3hotEntry_keeps (s : State) : ∃ t, execD3hotEntry s = .next t ∧ s.Keeps t :=
  ⟨_, rfl, .of_core (by simp)⟩

theorem execD0Return_keeps (s : State) : ∃ t, execD0Return s = .next t ∧ s.Keeps t :=
  ⟨_, rfl, .of_core (by simp)⟩

theorem execBusMasterEnableWrite_keeps (enable : Bool) (s : State) : ∃ t, execBusMasterEnableWrite enable s = .next t ∧ s.Keeps t :=
  ⟨_, rfl, .of_core (by simp)⟩

theorem execGleanerEvaluation_keeps (mismatch : Bool) (s : State) : ∃ t, execGleanerEvaluation mismatch s = .next t ∧ s.Keeps t := by
  exact ⟨_, rfl, evaluateGl_keeps _ _⟩

theorem execGleanerWindowExpiry_keeps (source : Nat) (s : State) : ∃ t, execGleanerWindowExpiry source s = .next t ∧ s.Keeps t := by
  exact ⟨_, rfl, .ite (evaluateGl_keeps _ _) (.of_core rfl)⟩

theorem execSourceSevere_keeps (source : Nat) (s : State) : ∃ t, execSourceSevere source s = .next t ∧ s.Keeps t := by
  exact ⟨_, rfl, .ite (evaluateGl_keeps _ _) (.of_core rfl)⟩

theorem execGleanerDeadline_keeps (source : Nat) (s : State) : ∃ t, execGleanerDeadline source s = .next t ∧ s.Keeps t := by
  exact ⟨_, rfl, .ite (evaluateGl_keeps _ _) (.of_core rfl)⟩

theorem execRegionReinitComplete_keeps (region : Nat) (s : State) : ∃ t, execRegionReinitComplete region s = .next t ∧ s.Keeps t := by
  refine ⟨_, rfl, ?_⟩
  dsimp only
  refine .ite (.of_core rfl) (.ite (.trans (.of_core ?_) (loopResetDone_keeps _)) (.of_core ?_))
  · rw [restoreRegion_core, core_mk, core_eta, modElems_core]
  · rw [core_mk, core_eta, modElems_core]

theorem execGlClearSource_keeps (value : Word) (s : State) : ∃ t, execGlClearSource value s = .next t ∧ s.Keeps t :=
  ⟨_, rfl, .of_core (by simp)⟩

theorem execGlClearAll_keeps (value : Word) (s : State) : ∃ t, execGlClearAll value s = .next t ∧ s.Keeps t :=
  ⟨_, rfl, .of_core (by simp)⟩

theorem execFirmwareClear_keeps (source : Nat) (s : State) : ∃ t, execFirmwareClear source s = .next t ∧ s.Keeps t :=
  ⟨_, rfl, .of_core (by ((try dsimp only); (repeat' split) <;> simp [*]))⟩

theorem execRecordFlashWrite_keeps (s : State) : ∃ t, execRecordFlashWrite s = .next t ∧ s.Keeps t :=
  ⟨_, rfl, .of_core (by ((try dsimp only); (repeat' split) <;> simp [*]))⟩

theorem execWatchdogExpiry_keeps (s : State) : ∃ t, execWatchdogExpiry s = .next t ∧ s.Keeps t :=
  ⟨_, rfl, .of_core (by simp)⟩

theorem execComparatorSelfTest_keeps (flagged : Bool) (s : State) : ∃ t, execComparatorSelfTest flagged s = .next t ∧ s.Keeps t :=
  ⟨_, rfl, .of_core (by simp)⟩

theorem execAliveEdge_keeps (s : State) : ∃ t, execAliveEdge s = .next t ∧ s.Keeps t :=
  ⟨_, rfl, .of_core (by simp)⟩

theorem execFaultInjectEvent_keeps (s : State) : ∃ t, execFaultInjectEvent s = .next t ∧ s.Keeps t :=
  ⟨_, rfl, .of_core (by ((try dsimp only); (repeat' split) <;> simp [*]))⟩

theorem execGlStatus0Read_keeps (s : State) : ∃ t, execGlStatus0Read s = .next t ∧ s.Keeps t :=
  ⟨_, rfl, .of_core (by simp)⟩

theorem execGlEventsWrite_keeps (value : Word) (s : State) : ∃ t, execGlEventsWrite value s = .next t ∧ s.Keeps t :=
  ⟨_, rfl, .of_core (by simp)⟩

theorem execFaultGetStatus_keeps (tag : Tag) (s : State) : ∃ t, execFaultGetStatus tag s = .next t ∧ s.Keeps t :=
  ⟨_, rfl, query_keeps _ _ _ _ _⟩

theorem execFaultGetSource_keeps (tag : Tag) (first count : Nat) (s : State) : ∃ t, execFaultGetSource tag first count s = .next t ∧ s.Keeps t :=
  ⟨_, rfl, query_keeps _ _ _ _ _⟩

theorem execFaultSetSource_keeps (tag : Tag) (first : Nat) (params : List SrcParams) (s : State) : ∃ t, execFaultSetSource tag first params s = .next t ∧ s.Keeps t :=
  ⟨_, rfl, serve_keeps _ _ _ _ _ _ fun u => .of_core (by ((try dsimp only); (repeat' split) <;> simp [*]))⟩

theorem execFaultClear_keeps (tag : Tag) (source : Option Nat) (seq : Word) (s : State) : ∃ t, execFaultClear tag source seq s = .next t ∧ s.Keeps t :=
  ⟨_, rfl, serve_keeps _ _ _ _ _ _ fun u => .of_core (by simp)⟩

theorem execFaultGetRecord_keeps (tag : Tag) (which : Nat) (s : State) : ∃ t, execFaultGetRecord tag which s = .next t ∧ s.Keeps t :=
  ⟨_, rfl, query_keeps _ _ _ _ _⟩

theorem execFaultSaveConfig_keeps (tag : Tag) (s : State) : ∃ t, execFaultSaveConfig tag s = .next t ∧ s.Keeps t := by
  refine ⟨_, rfl, serve_keeps _ _ _ _ _ _ fun u => ?_⟩
  exact .of_core (userSave_core _ _ _ fun _ => rfl)

theorem execFaultGetLog_keeps (tag : Tag) (seq : Nat) (s : State) : ∃ t, execFaultGetLog tag seq s = .next t ∧ s.Keeps t :=
  ⟨_, rfl, query_keeps _ _ _ _ _⟩

theorem execFaultRaise_keeps (tag : Tag) (s : State) : ∃ t, execFaultRaise tag s = .next t ∧ s.Keeps t :=
  ⟨_, rfl, serve_keeps _ _ _ _ _ _ fun u => .of_core (by simp)⟩

theorem execFaultInject_keeps (tag : Tag) (op : InjectOp) (s : State) : ∃ t, execFaultInject tag op s = .next t ∧ s.Keeps t :=
  ⟨_, rfl, serve_keeps _ _ _ _ _ _ fun u => .of_core (by ((try dsimp only); (repeat' split) <;> simp [*]))⟩

theorem execFaultGetInject_keeps (tag : Tag) (s : State) : ∃ t, execFaultGetInject tag s = .next t ∧ s.Keeps t :=
  ⟨_, rfl, query_keeps _ _ _ _ _⟩

theorem execPowerOn_keeps (s : State) : ∃ t, execPowerOn s = .next t ∧ s.Keeps t :=
  ⟨_, rfl, .of_core (by simp)⟩

theorem execVwakeLoss_keeps  (s : State) : ∃ t, execVwakeLoss s = .next t ∧ s.Keeps t := by
  refine ⟨_, rfl, .ite (.of_core rfl) ?_⟩
  refine State.Keeps.trans (t := (((s.setSyncOut false).setAlive false).setPwrEn false).wiped []) ?_ (.of_core rfl)
  refine .trans ?_ (wiped_keeps [] _)
  exact .of_core (by simp)

theorem execBrownOut_keeps  (s : State) : ∃ t, execBrownOut s = .next t ∧ s.Keeps t := by
  refine ⟨_, rfl, .ite (.trans ?_ (classReset_keeps _ _ _)) (.of_core rfl)⟩
  exact .of_core rfl

theorem execResetNAssert_keeps  (s : State) : ∃ t, execResetNAssert s = .next t ∧ s.Keeps t := by
  refine ⟨_, rfl, .ite (.trans ?_ (classReset_keeps _ _ _)) (.of_core rfl)⟩
  exact .of_core rfl

theorem execPerstAssert_keeps  (s : State) : ∃ t, execPerstAssert s = .next t ∧ s.Keeps t := by
  refine ⟨_, rfl, .ite (.trans ?_ (classReset_keeps _ _ _)) (.of_core rfl)⟩
  exact .of_core rfl

theorem execResetDeviceDelayExpiry_keeps  (s : State) : ∃ t, execResetDeviceDelayExpiry s = .next t ∧ s.Keeps t := by
  refine ⟨_, rfl, ?_⟩
  dsimp only
  split
  · refine .ite (.trans ?_ (classReset_keeps _ _ _)) (.of_core rfl)
    exact .of_core rfl
  · exact .of_core rfl

theorem execResetRelease_keeps (straps : Straps) (s : State) : ∃ t, execResetRelease straps s = .next t ∧ s.Keeps t :=
  ⟨_, rfl, .of_core (by simp)⟩

theorem execWipeComplete_keeps (s : State) : ∃ t, execWipeComplete s = .next t ∧ s.Keeps t := by
  refine ⟨_, rfl, ?_⟩
  dsimp only
  split
  · refine .trans ?_ (bootRom_keeps _)
    exact .of_core rfl
  · exact .of_core rfl

theorem execFwReady_keeps (s : State) : ∃ t, execFwReady s = .next t ∧ s.Keeps t :=
  ⟨_, rfl, .of_core (by simp)⟩

theorem execFwConfirm_keeps (s : State) : ∃ t, execFwConfirm s = .next t ∧ s.Keeps t :=
  ⟨_, rfl, .of_core (by simp)⟩

theorem execPcieHotReset_keeps  (s : State) : ∃ t, execPcieHotReset s = .next t ∧ s.Keeps t := by
  exact ⟨_, rfl, .ite (classF_keeps _) (.of_core rfl)⟩

theorem execFunctionLevelReset_keeps  (s : State) : ∃ t, execFunctionLevelReset s = .next t ∧ s.Keeps t := by
  exact ⟨_, rfl, .ite (classF_keeps _) (.of_core rfl)⟩

theorem execClassFWipeComplete_keeps (s : State) : ∃ t, execClassFWipeComplete s = .next t ∧ s.Keeps t :=
  ⟨_, rfl, .of_core (by simp)⟩

theorem execHoldNAssert_keeps (s : State) : ∃ t, execHoldNAssert s = .next t ∧ s.Keeps t :=
  ⟨_, rfl, .of_core (by simp)⟩

theorem execHoldNRelease_keeps (s : State) : ∃ t, execHoldNRelease s = .next t ∧ s.Keeps t :=
  ⟨_, rfl, .of_core (by simp)⟩

theorem execWakeRise_keeps (s : State) : ∃ t, execWakeRise s = .next t ∧ s.Keeps t :=
  ⟨_, rfl, .of_core (by simp)⟩

theorem execSleepShutdown_keeps (s : State) : ∃ t, execSleepShutdown s = .next t ∧ s.Keeps t :=
  ⟨_, rfl, .of_core (by simp)⟩

theorem execSleepPark_keeps (s : State) : ∃ t, execSleepPark s = .next t ∧ s.Keeps t :=
  ⟨_, rfl, .of_core (by simp)⟩

theorem execPwrEnFall_keeps  (s : State) : ∃ t, execPwrEnFall s = .next t ∧ s.Keeps t := by
  refine ⟨_, rfl, .ite (.of_core rfl) ?_⟩
  refine State.Keeps.trans (t := ((s.setSyncOut false).setPwrEn false).wiped []) ?_ (.of_core rfl)
  refine .trans ?_ (wiped_keeps [] _)
  exact .of_core (by simp)

theorem execPwrEnRise_keeps (s : State) : ∃ t, execPwrEnRise s = .next t ∧ s.Keeps t :=
  ⟨_, rfl, .of_core (by simp)⟩

theorem execTbRefLoss_keeps (s : State) : ∃ t, execTbRefLoss s = .next t ∧ s.Keeps t :=
  ⟨_, rfl, .of_core (by simp)⟩

theorem execTbRefReturn_keeps (s : State) : ∃ t, execTbRefReturn s = .next t ∧ s.Keeps t :=
  ⟨_, rfl, .of_core (by simp)⟩

theorem execRailExcursion_keeps (rail : Nat) (millivolts : Int) (s : State) : ∃ t, execRailExcursion rail millivolts s = .next t ∧ s.Keeps t :=
  ⟨_, rfl, .of_core (by simp)⟩

theorem execPaceUpdate_keeps (pace : BitVec 16) (s : State) : ∃ t, execPaceUpdate pace s = .next t ∧ s.Keeps t :=
  ⟨_, rfl, .of_core (by simp)⟩

theorem execRoleWaitExpiry_keeps (s : State) : ∃ t, execRoleWaitExpiry s = .next t ∧ s.Keeps t :=
  ⟨_, rfl, .of_core (by simp)⟩

theorem execPowerGetStatus_keeps (tag : Tag) (s : State) : ∃ t, execPowerGetStatus tag s = .next t ∧ s.Keeps t :=
  ⟨_, rfl, serve_keeps _ _ _ _ _ _ fun u => .of_core (by simp)⟩

theorem execPowerHold_keeps (tag : Tag) (hold : Bool) (s : State) : ∃ t, execPowerHold tag hold s = .next t ∧ s.Keeps t :=
  ⟨_, rfl, serve_keeps _ _ _ _ _ _ fun u => .of_core (by simp)⟩

theorem execPowerSleep_keeps (tag : Tag) (s : State) : ∃ t, execPowerSleep tag s = .next t ∧ s.Keeps t :=
  ⟨_, rfl, serve_keeps _ _ _ _ _ _ fun u => .of_core (by simp)⟩

theorem execHedgerowSlotSend_keeps (slot : Nat) (s : State) : ∃ t, execHedgerowSlotSend slot s = .next t ∧ s.Keeps t :=
  ⟨_, rfl, .of_core (by simp)⟩

theorem execNoticeSend_keeps (frameId minislot : Nat) (s : State) : ∃ t, execNoticeSend frameId minislot s = .next t ∧ s.Keeps t :=
  ⟨_, rfl, .of_core (by ((try dsimp only); (repeat' split) <;> simp [*]))⟩

theorem execHedgerowFrameReceived_keeps (chanB : Bool) (slot : Nat) (rx : HedgeRx) (stamp : Int) (s : State) : ∃ t, execHedgerowFrameReceived chanB slot rx stamp s = .next t ∧ s.Keeps t :=
  ⟨_, rfl, .of_core (by simp)⟩

theorem execListenTimeout_keeps (s : State) : ∃ t, execListenTimeout s = .next t ∧ s.Keeps t :=
  ⟨_, rfl, .of_core (by simp)⟩

theorem execHedgerowMidpoint_keeps (s : State) : ∃ t, execHedgerowMidpoint s = .next t ∧ s.Keeps t :=
  ⟨_, rfl, .of_core (by simp)⟩

theorem execHedgerowCorrection_keeps (s : State) : ∃ t, execHedgerowCorrection s = .next t ∧ s.Keeps t :=
  ⟨_, rfl, .of_core (by ((try dsimp only); (repeat' split) <;> simp [*]))⟩

theorem execHedgerowCycleEnd_keeps (s : State) : ∃ t, execHedgerowCycleEnd s = .next t ∧ s.Keeps t :=
  ⟨_, rfl, .of_core (by simp)⟩

theorem execHedgeGetStatus_keeps (tag : Tag) (s : State) : ∃ t, execHedgeGetStatus tag s = .next t ∧ s.Keeps t :=
  ⟨_, rfl, query_keeps _ _ _ _ _⟩

theorem execHedgeSetConfig_keeps (tag : Tag) (cfg : HedgeCfg) (s : State) : ∃ t, execHedgeSetConfig tag cfg s = .next t ∧ s.Keeps t :=
  ⟨_, rfl, serve_keeps _ _ _ _ _ _ fun u => .of_core (by simp)⟩

theorem execHedgeGetConfig_keeps (tag : Tag) (s : State) : ∃ t, execHedgeGetConfig tag s = .next t ∧ s.Keeps t :=
  ⟨_, rfl, query_keeps _ _ _ _ _⟩

theorem execHedgeSaveConfig_keeps (tag : Tag) (s : State) : ∃ t, execHedgeSaveConfig tag s = .next t ∧ s.Keeps t := by
  refine ⟨_, rfl, serve_keeps _ _ _ _ _ _ fun u => ?_⟩
  exact .of_core (userSave_core _ _ _ fun _ => rfl)

theorem execHedgeRestart_keeps (tag : Tag) (force : Bool) (s : State) : ∃ t, execHedgeRestart tag force s = .next t ∧ s.Keeps t :=
  ⟨_, rfl, serve_keeps _ _ _ _ _ _ fun u => .of_core (by simp)⟩

theorem execHedgeGetStats_keeps (tag : Tag) (s : State) : ∃ t, execHedgeGetStats tag s = .next t ∧ s.Keeps t :=
  ⟨_, rfl, serve_keeps _ _ _ _ _ _ fun u => .of_core (by simp)⟩

theorem execHedgeSetNotice_keeps (tag : Tag) (policy : Nat) (s : State) : ∃ t, execHedgeSetNotice tag policy s = .next t ∧ s.Keeps t :=
  ⟨_, rfl, serve_keeps _ _ _ _ _ _ fun u => .of_core (by simp)⟩

theorem execHedgeGetNotices_keeps (tag : Tag) (seq : Nat) (s : State) : ∃ t, execHedgeGetNotices tag seq s = .next t ∧ s.Keeps t :=
  ⟨_, rfl, query_keeps _ _ _ _ _⟩

theorem execMlKeepaliveSend_keeps (s : State) : ∃ t, execMlKeepaliveSend s = .next t ∧ s.Keeps t :=
  ⟨_, rfl, .of_core (by simp)⟩

theorem execMlFrameReceived_keeps (frame : MlFrame) (s : State) : ∃ t, execMlFrameReceived frame s = .next t ∧ s.Keeps t :=
  ⟨_, rfl, .of_core (by simp)⟩

theorem execMlDownTimeout_keeps (s : State) : ∃ t, execMlDownTimeout s = .next t ∧ s.Keeps t :=
  ⟨_, rfl, .of_core (by simp)⟩

theorem execEpochClose_keeps (s : State) : ∃ t, execEpochClose s = .next t ∧ s.Keeps t :=
  ⟨_, rfl, .of_core (by simp)⟩

theorem execCommitRecordCreate_keeps (s : State) : ∃ t, execCommitRecordCreate s = .next t ∧ s.Keeps t :=
  ⟨_, rfl, .of_core (by ((try dsimp only); (repeat' split) <;> simp [*]))⟩

theorem execEpochApply_keeps (s : State) : ∃ t, execEpochApply s = .next t ∧ s.Keeps t :=
  ⟨_, rfl, .of_core (by ((try dsimp only); (repeat' split) <;> simp [*]))⟩

theorem execPartnerAliveTimeout_keeps (s : State) : ∃ t, execPartnerAliveTimeout s = .next t ∧ s.Keeps t :=
  ⟨_, rfl, .of_core (by simp)⟩

theorem execPartnerAliveEdge_keeps (s : State) : ∃ t, execPartnerAliveEdge s = .next t ∧ s.Keeps t :=
  ⟨_, rfl, .of_core (by simp)⟩

theorem execFailbackHoldoff_keeps (s : State) : ∃ t, execFailbackHoldoff s = .next t ∧ s.Keeps t :=
  ⟨_, rfl, .of_core (by simp)⟩

theorem execHandbackInstant_keeps (s : State) : ∃ t, execHandbackInstant s = .next t ∧ s.Keeps t :=
  ⟨_, rfl, .of_core (by ((try dsimp only); (repeat' split) <;> simp [*]))⟩

theorem execUnEventsWrite_keeps (value : Word) (s : State) : ∃ t, execUnEventsWrite value s = .next t ∧ s.Keeps t :=
  ⟨_, rfl, .of_core (by simp)⟩

theorem execUnCountsRead_keeps (s : State) : ∃ t, execUnCountsRead s = .next t ∧ s.Keeps t :=
  ⟨_, rfl, .of_core (by simp)⟩

theorem execUnitGetStatus_keeps (tag : Tag) (s : State) : ∃ t, execUnitGetStatus tag s = .next t ∧ s.Keeps t :=
  ⟨_, rfl, query_keeps _ _ _ _ _⟩

theorem execUnitSetPair_keeps (tag : Tag) (cfg : PairCfg) (force : Bool) (s : State) : ∃ t, execUnitSetPair tag cfg force s = .next t ∧ s.Keeps t :=
  ⟨_, rfl, serve_keeps _ _ _ _ _ _ fun u => .of_core (by simp)⟩

theorem execUnitDrill_keeps (tag : Tag) (s : State) : ∃ t, execUnitDrill tag s = .next t ∧ s.Keeps t :=
  ⟨_, rfl, serve_keeps _ _ _ _ _ _ fun u => .of_core (by simp)⟩

theorem execUnitSaveStartupMap_keeps (tag : Tag) (clear : Bool) (s : State) : ∃ t, execUnitSaveStartupMap tag clear s = .next t ∧ s.Keeps t := by
  refine ⟨_, rfl, serve_keeps _ _ _ _ _ _ fun u => .of_core ?_⟩
  dsimp only
  split
  · rfl
  · exact userSave_core _ _ _ fun _ => rfl

theorem execUnitResync_keeps (tag : Tag) (s : State) : ∃ t, execUnitResync tag s = .next t ∧ s.Keeps t :=
  ⟨_, rfl, serve_keeps _ _ _ _ _ _ fun u => .of_core (by simp)⟩

theorem execUnitGetEpochs_keeps (tag : Tag) (s : State) : ∃ t, execUnitGetEpochs tag s = .next t ∧ s.Keeps t :=
  ⟨_, rfl, query_keeps _ _ _ _ _⟩

theorem execMbDoorbellRing_keeps (mailbox : Nat) (value : Word) (s : State) : ∃ t, execMbDoorbellRing mailbox value s = .next t ∧ s.Keeps t := by
  exact ⟨_, rfl, .ite (ring_keeps _ _) (.of_core rfl)⟩

theorem execMbAnswerRead_keeps  (s : State) : ∃ t, execMbAnswerRead s = .next t ∧ s.Keeps t := by
  refine ⟨_, rfl, ?_⟩
  split
  · exact .of_core rfl
  · refine .trans ?_ (.of_core (emit_core _ _))
    exact .of_inFlight rfl (inFlightOk_filter _ _)

theorem execMailboxBodyWrite_keeps (mailbox offset : Nat) (value : Word) (s : State) : ∃ t, execMailboxBodyWrite mailbox offset value s = .next t ∧ s.Keeps t := by
  exact ⟨_, rfl, .ite (.of_core rfl) (.ite (.of_core (by simp)) (writeBody_keeps _ _ _ _))⟩

theorem execHeldAnswerWrite_keeps (s : State) : ∃ t, execHeldAnswerWrite s = .next t ∧ s.Keeps t :=
  ⟨_, rfl, .of_core (by ((try dsimp only); (repeat' split) <;> simp [*]))⟩

theorem execMbStateWrite_keeps (mailbox : Nat) (value : Word) (s : State) : ∃ t, execMbStateWrite mailbox value s = .next t ∧ s.Keeps t :=
  ⟨_, rfl, .of_core (by simp)⟩

theorem execDeviceGetInfo_keeps (tag : Tag) (s : State) : ∃ t, execDeviceGetInfo tag s = .next t ∧ s.Keeps t :=
  ⟨_, rfl, query_keeps _ _ _ _ _⟩

theorem execDeviceGetCommands_keeps (tag : Tag) (start : Nat) (s : State) : ∃ t, execDeviceGetCommands tag start s = .next t ∧ s.Keeps t :=
  ⟨_, rfl, query_keeps _ _ _ _ _⟩

theorem execDeviceFwBegin_keeps (tag : Tag) (size : Nat) (s : State) : ∃ t, execDeviceFwBegin tag size s = .next t ∧ s.Keeps t :=
  ⟨_, rfl, serve_keeps _ _ _ _ _ _ fun u => .of_core (by ((try dsimp only); (repeat' split) <;> simp [*]))⟩

theorem execFwEraseComplete_keeps (s : State) : ∃ t, execFwEraseComplete s = .next t ∧ s.Keeps t :=
  ⟨_, rfl, .of_core (by simp)⟩

theorem execDeviceFwData_keeps (tag : Tag) (offset : Nat) (data : FwData) (s : State) : ∃ t, execDeviceFwData tag offset data s = .next t ∧ s.Keeps t := by
  have h : ∀ off bs (u : State), u.Keeps (u.fwData off bs).1 := fun off bs u => .of_core (fwData_core _ _ _)
  refine ⟨_, rfl, ?_⟩
  split
  · exact serve_keeps _ _ _ _ _ _ (h _ _)
  · refine .ite (serve_keeps _ _ _ _ _ _ fun u => ?_) (.of_core rfl)
    split
    · exact .of_core rfl
    · exact h _ _ u

theorem execDeviceFwCommit_keeps (tag : Tag) (s : State) : ∃ t, execDeviceFwCommit tag s = .next t ∧ s.Keeps t :=
  ⟨_, rfl, serve_keeps _ _ _ _ _ _ fun u => .of_core (by ((try dsimp only); (repeat' split) <;> simp [*]))⟩

theorem execDeviceFwAbort_keeps (tag : Tag) (s : State) : ∃ t, execDeviceFwAbort tag s = .next t ∧ s.Keeps t :=
  ⟨_, rfl, serve_keeps _ _ _ _ _ _ fun u => .of_core (by ((try dsimp only); (repeat' split) <;> simp [*]))⟩

theorem execDeviceFwStatus_keeps (tag : Tag) (s : State) : ∃ t, execDeviceFwStatus tag s = .next t ∧ s.Keeps t :=
  ⟨_, rfl, serve_keeps _ _ _ _ _ _ fun u => .of_core (by simp)⟩

theorem execDeviceReset_keeps (tag : Tag) (scope subsystem : Byte) (force : Bool) (s : State) : ∃ t, execDeviceReset tag scope subsystem force s = .next t ∧ s.Keeps t := by
  refine ⟨_, rfl, .ite ?_ (serve_keeps _ _ _ _ _ _ fun u => ?_)⟩
  · unfold State.startLoopReset
    split
    · exact .of_core rfl
    · exact .trans (classS_keeps _ _) (.of_core rfl)
  · dsimp only
    split
    · split <;> exact .of_core rfl
    · split
      · exact classS_keeps _ _
      · exact .of_core rfl

theorem execDeviceEcho_keeps (tag : Tag) (data : List Byte) (s : State) : ∃ t, execDeviceEcho tag data s = .next t ∧ s.Keeps t :=
  ⟨_, rfl, serve_keeps _ _ _ _ _ _ fun _ => .of_core rfl⟩

theorem execUserConfigSaveComplete_keeps (s : State) : ∃ t, execUserConfigSaveComplete s = .next t ∧ s.Keeps t :=
  ⟨_, rfl, .of_core (by simp)⟩

theorem execTrustGetStatus_keeps (tag : Tag) (s : State) : ∃ t, execTrustGetStatus tag s = .next t ∧ s.Keeps t :=
  ⟨_, rfl, query_keeps _ _ _ _ _⟩

theorem execTrustGetIdentity_keeps (tag : Tag) (s : State) : ∃ t, execTrustGetIdentity tag s = .next t ∧ s.Keeps t :=
  ⟨_, rfl, query_keeps _ _ _ _ _⟩

theorem execTrustAttest_keeps (tag : Tag) (nonce : BitVec 256) (s : State) : ∃ t, execTrustAttest tag nonce s = .next t ∧ s.Keeps t := by
  refine ⟨_, rfl, ?_⟩
  split
  · exact .of_core rfl
  · exact .ite (answer_keeps _ _ _) (.ite (answer_keeps _ _ _) (.ite (.of_core rfl) (.of_core (atFrame_core _ _))))

theorem execTrustAdvanceSvn_keeps (tag : Tag) (s : State) : ∃ t, execTrustAdvanceSvn tag s = .next t ∧ s.Keeps t := by
  refine ⟨_, rfl, serve_keeps _ _ _ _ _ _ fun u => ?_⟩
  dsimp only
  split
  · exact .of_core rfl
  · exact ⟨rfl, rfl, rfl, id, le_refl _, le_max_left _ _, fun _ => id, fun _ => id, fun h => ⟨h, fun _ _ => rfl⟩, id, id, id⟩

theorem execTrustRevokeKey_keeps (tag : Tag) (axaro : Bool) (slot : Nat) (rec_ : Option SignedRecord) (s : State) : ∃ t, execTrustRevokeKey tag axaro slot rec_ s = .next t ∧ s.Keeps t := by
  refine ⟨_, rfl, serve_keeps _ _ _ _ _ _ fun u => ?_⟩
  have bits : ∀ (x y : BitVec 4) k, x.getLsbD k = true → (x ||| y).getLsbD k = true := fun x y k h => by simp [h]
  repeat' split
  · exact .of_core rfl
  · exact .of_core rfl
  · exact ⟨rfl, rfl, rfl, id, le_refl _, le_refl _, fun _ => id, bits _ _, fun h => ⟨h, fun _ _ => rfl⟩, id, id, id⟩
  · exact .of_core rfl
  · exact .of_core rfl
  · exact ⟨rfl, rfl, rfl, id, le_refl _, le_refl _, bits _ _, fun _ => id, fun h => ⟨h, fun _ _ => rfl⟩, id, id, id⟩

theorem execTrustSetAxaroKey_keeps (tag : Tag) (slot : Nat) (key : BitVec 256) (s : State) : ∃ t, execTrustSetAxaroKey tag slot key s = .next t ∧ s.Keeps t := by
  refine ⟨_, rfl, serve_keeps _ _ _ _ _ _ fun u => ?_⟩
  dsimp only
  repeat' split
  · exact .of_core rfl
  · exact .of_core rfl
  · exact .of_core rfl
  · next h =>
    refine ⟨rfl, rfl, rfl, id, le_refl _, le_refl _, fun _ => id, fun _ => id, fun w => ⟨mapSet_wf _ _ _ _ w, fun k x => ?_⟩, id, id, id⟩
    rw [mapGet_mapSet _ _ w, if_neg]
    rintro rfl
    exact x (by simpa using h)

theorem execTrustSetPolicy_keeps (tag : Tag) (s : State) : ∃ t, execTrustSetPolicy tag s = .next t ∧ s.Keeps t := by
  refine ⟨_, rfl, serve_keeps _ _ _ _ _ _ fun u => ?_⟩
  dsimp only
  split
  · exact .of_core rfl
  · exact ⟨rfl, rfl, rfl, id, le_refl _, le_refl _, fun _ => id, fun _ => id, fun h => ⟨h, fun _ _ => rfl⟩, fun _ => rfl, id, id⟩

theorem execTrustGetNonce_keeps (tag : Tag) (s : State) : ∃ t, execTrustGetNonce tag s = .next t ∧ s.Keeps t :=
  ⟨_, rfl, serve_keeps _ _ _ _ _ _ fun u => .of_core (by simp)⟩

theorem execTrustSetLifecycle_keeps (tag : Tag) (target : Nat) (rec_ : Option SignedRecord) (s : State) : ∃ t, execTrustSetLifecycle tag target rec_ s = .next t ∧ s.Keeps t := by
  refine ⟨_, rfl, serve_keeps _ _ _ _ _ _ fun u => ?_⟩
  repeat' split
  · exact .of_core rfl
  · exact .of_core rfl
  · exact .of_core rfl
  · unfold State.advanceLifecycle
    refine .trans ?_ (.trans (classReset_keeps false 7 _) (.of_core rfl))
    exact ⟨rfl, rfl, rfl, id, Nat.le_succ _, le_refl _, fun _ => id, fun _ => id, fun h => ⟨h, fun _ _ => rfl⟩, id, fun h => by simp [h], id⟩

theorem execTrustFactoryTest_keeps (tag : Tag) (s : State) : ∃ t, execTrustFactoryTest tag s = .next t ∧ s.Keeps t := by
  refine ⟨_, rfl, serve_keeps _ _ _ _ _ _ fun u => ?_⟩
  dsimp only
  split
  · exact .of_core rfl
  · refine .trans ?_ (classReset_keeps _ _ _)
    exact .of_core rfl

theorem execRegisterWrite_keeps (offset : Nat) (value : Word) (s : State) : ∃ t, execRegisterWrite offset value s = .next t ∧ s.Keeps t :=
  ⟨_, rfl, .of_core (by ((try dsimp only); (repeat' split) <;> simp [*]))⟩

theorem execMemoryError_keeps (err : MemErr) (s : State) : ∃ t, execMemoryError err s = .next t ∧ s.Keeps t :=
  ⟨_, rfl, .of_core (by simp)⟩

theorem execGranaryRetrain_keeps (channelB ok : Bool) (s : State) : ∃ t, execGranaryRetrain channelB ok s = .next t ∧ s.Keeps t :=
  ⟨_, rfl, .of_core (by simp)⟩

theorem execPcieLinkChange_keeps (up : Bool) (lanes speed : Nat) (s : State) : ∃ t, execPcieLinkChange up lanes speed s = .next t ∧ s.Keeps t :=
  ⟨_, rfl, .of_core (by simp)⟩

theorem execMlLaneLossOfLock_keeps (s : State) : ∃ t, execMlLaneLossOfLock s = .next t ∧ s.Keeps t :=
  ⟨_, rfl, .of_core (by simp)⟩

theorem execPllLossOfLock_keeps (s : State) : ∃ t, execPllLossOfLock s = .next t ∧ s.Keeps t :=
  ⟨_, rfl, .of_core (by simp)⟩

theorem execTapBypass_keeps (s : State) : ∃ t, execTapBypass s = .next t ∧ s.Keeps t :=
  ⟨_, rfl, .of_core (by simp)⟩

theorem execTapIdcode_keeps (s : State) : ∃ t, execTapIdcode s = .next t ∧ s.Keeps t :=
  ⟨_, rfl, .of_core (by simp)⟩

theorem execTapSamplePreload_keeps (preload : List Bool) (s : State) : ∃ t, execTapSamplePreload preload s = .next t ∧ s.Keeps t :=
  ⟨_, rfl, .of_core (by simp)⟩

theorem execTapExtest_keeps (s : State) : ∃ t, execTapExtest s = .next t ∧ s.Keeps t :=
  ⟨_, rfl, .of_core (by simp)⟩

theorem execTapClamp_keeps (s : State) : ∃ t, execTapClamp s = .next t ∧ s.Keeps t :=
  ⟨_, rfl, .of_core (by simp)⟩

theorem execTapHighz_keeps (s : State) : ∃ t, execTapHighz s = .next t ∧ s.Keeps t :=
  ⟨_, rfl, .of_core (by simp)⟩

/-- Every command completes, and keeps these. -/
theorem exec_keeps (i : Instr) (s : State) : ∃ t, exec i s = .next t ∧ s.Keeps t :=
  match i with
  | .timeGetStatus tag => execTimeGetStatus_keeps tag s
  | .timeSet tag time frac => execTimeSet_keeps tag time frac s
  | .timeReanchor tag time frac => execTimeReanchor_keeps tag time frac s
  | .timeSetSource tag primary fallback tauMs lockNs largeNs => execTimeSetSource_keeps tag primary fallback tauMs lockNs largeNs s
  | .timeSetCycle tag b c => execTimeSetCycle_keeps tag b c s
  | .timeFoldShift tag => execTimeFoldShift_keeps tag s
  | .timeSetSyncin tag enable wNs deadband => execTimeSetSyncin_keeps tag enable wNs deadband s
  | .timeSetSyncout tag mode p lNs => execTimeSetSyncout_keeps tag mode p lNs s
  | .timeSetPtp tag cfg => execTimeSetPtp_keeps tag cfg s
  | .timeSetPortLatency tag port ingress egress => execTimeSetPortLatency_keeps tag port ingress egress s
  | .fabricGetMap tag => execFabricGetMap_keeps tag s
  | .fabricGetPath tag plane output => execFabricGetPath_keeps tag plane output s
  | .fabricGetCells tag plane first count => execFabricGetCells_keeps tag plane first count s
  | .fabricGetFailed tag plane => execFabricGetFailed_keeps tag plane s
  | .fabricSetFailed tag plane stage cell kind => execFabricSetFailed_keeps tag plane stage cell kind s
  | .fabricClearFailed tag plane stage cell => execFabricClearFailed_keeps tag plane stage cell s
  | .fabricGetLevels tag output first count => execFabricGetLevels_keeps tag output first count s
  | .fabricSetRepair tag enable leadNs => execFabricSetRepair_keeps tag enable leadNs s
  | .fabricSetParking tag enable delayNs => execFabricSetParking_keeps tag enable delayNs s
  | .sheafStage tag more words => execSheafStage_keeps tag more words s
  | .sheafAppend tag id more words => execSheafAppend_keeps tag id more words s
  | .sheafCancel tag id => execSheafCancel_keeps tag id s
  | .sheafGetStatus tag id => execSheafGetStatus_keeps tag id s
  | .sheafGetResult tag id page => execSheafGetResult_keeps tag id page s
  | .sheafList tag page => execSheafList_keeps tag page s
  | .sheafSetTiming tag armLead prepLead => execSheafSetTiming_keeps tag armLead prepLead s
  | .solveConnect tag instant move dryRun pairs => execSolveConnect_keeps tag instant move dryRun pairs s
  | .solveDisconnect tag instant move dryRun inputs outputs => execSolveDisconnect_keeps tag instant move dryRun inputs outputs s
  | .solvePermute tag instant move dryRun target => execSolvePermute_keeps tag instant move dryRun target s
  | .solveGetReport tag page => execSolveGetReport_keeps tag page s
  | .stookDefine tag id name stop members sig => execStookDefine_keeps tag id name stop members sig s
  | .stookStart tag id ts => execStookStart_keeps tag id ts s
  | .stookStop tag id => execStookStop_keeps tag id s
  | .stookGetStatus tag id => execStookGetStatus_keeps tag id s
  | .stookDelete tag id => execStookDelete_keeps tag id s
  | .loopGetParams tag first count => execLoopGetParams_keeps tag first count s
  | .loopSetParams tag first recs => execLoopSetParams_keeps tag first recs s
  | .loopGetState tag first count => execLoopGetState_keeps tag first count s
  | .loopGetFlags tag first count => execLoopGetFlags_keeps tag first count s
  | .loopClearFlags tag first count mask => execLoopClearFlags_keeps tag first count mask s
  | .loopCapture tag element samples time => execLoopCapture_keeps tag element samples time s
  | .loopGetCapture tag element page => execLoopGetCapture_keeps tag element page s
  | .loopGetMode tag first count => execLoopGetMode_keeps tag first count s
  | .loopSetHandover tag voa dwellUs retryUs hoTol => execLoopSetHandover_keeps tag voa dwellUs retryUs hoTol s
  | .loopRetryLock tag first count => execLoopRetryLock_keeps tag first count s
  | .loopHoldRegion tag region hold => execLoopHoldRegion_keeps tag region hold s
  | .loopSetVoaGroup tag group cfg => execLoopSetVoaGroup_keeps tag group cfg s
  | .loopGetVoaGroup tag group => execLoopGetVoaGroup_keeps tag group s
  | .calGetStatus tag => execCalGetStatus_keeps tag s
  | .calGetElement tag first count => execCalGetElement_keeps tag first count s
  | .calSave tag => execCalSave_keeps tag s
  | .calRecalElement tag first count => execCalRecalElement_keeps tag first count s
  | .calSetBackground tag enable periodMs => execCalSetBackground_keeps tag enable periodMs s
  | .calSetSparePolicy tag policy => execCalSetSparePolicy_keeps tag policy s
  | .calSubstitute tag wholeBlock region block cell => execCalSubstitute_keeps tag wholeBlock region block cell s
  | .calGetLog tag seq => execCalGetLog_keeps tag seq s
  | .calGetSpares tag => execCalGetSpares_keeps tag s
  | .portGetStatus tag port => execPortGetStatus_keeps tag port s
  | .portSetMode tag port cfg => execPortSetMode_keeps tag port cfg s
  | .portGetConfig tag port => execPortGetConfig_keeps tag port s
  | .portSetPause tag port cfg => execPortSetPause_keeps tag port cfg s
  | .portSetFilter tag first entries => execPortSetFilter_keeps tag first entries s
  | .portGetFilter tag first count => execPortGetFilter_keeps tag first count s
  | .portSetLpi tag port mode idleNs => execPortSetLpi_keeps tag port mode idleNs s
  | .portGetStats tag port => execPortGetStats_keeps tag port s
  | .portGetHistory tag port page => execPortGetHistory_keeps tag port page s
  | .portSetSpares tag mask0 mask1 => execPortSetSpares_keeps tag mask0 mask1 s
  | .portSubstLane tag port => execPortSubstLane_keeps tag port s
  | .gateGetStatus tag port => execGateGetStatus_keeps tag port s
  | .gateSetConfig tag port cfg => execGateSetConfig_keeps tag port cfg s
  | .gateSetAdmin tag port start n lct listTag entries => execGateSetAdmin_keeps tag port start n lct listTag entries s
  | .gateGetList tag port oper first count => execGateGetList_keeps tag port oper first count s
  | .gateCommit tag port ct sig => execGateCommit_keeps tag port ct sig s
  | .gateCancelCommit tag port => execGateCancelCommit_keeps tag port s
  | .gateDisable tag port ct => execGateDisable_keeps tag port ct s
  | .gateGetWindows tag port => execGateGetWindows_keeps tag port s
  | .streamGetStatus tag => execStreamGetStatus_keeps tag s
  | .streamSet tag first entries => execStreamSet_keeps tag first entries s
  | .streamGet tag first count => execStreamGet_keeps tag first count s
  | .streamGetStats tag first count => execStreamGetStats_keeps tag first count s
  | .streamResetRecovery tag first count => execStreamResetRecovery_keeps tag first count s
  | .streamSetCover tag set enable wStart wEnd => execStreamSetCover_keeps tag set enable wStart wEnd s
  | .streamGetCover tag set => execStreamGetCover_keeps tag set s
  | .streamClearLatent tag first count => execStreamClearLatent_keeps tag first count s
  | .ruleGetStatus tag => execRuleGetStatus_keeps tag s
  | .ruleLoadProgram tag start words => execRuleLoadProgram_keeps tag start words s
  | .ruleSetProfile tag cfg => execRuleSetProfile_keeps tag cfg s
  | .ruleAddHash tag recs => execRuleAddHash_keeps tag recs s
  | .ruleDelHash tag keys => execRuleDelHash_keeps tag keys s
  | .ruleSetTernary tag first recs => execRuleSetTernary_keeps tag first recs s
  | .ruleSetPattern tag first recs => execRuleSetPattern_keeps tag first recs s
  | .ruleClone tag => execRuleClone_keeps tag s
  | .ruleSwap tag swapAt => execRuleSwap_keeps tag swapAt s
  | .ruleCancelSwap tag => execRuleCancelSwap_keeps tag s
  | .ruleGet tag query => execRuleGet_keeps tag query s
  | .ruleGetStats tag first count => execRuleGetStats_keeps tag first count s
  | .ruleSetMirror tag session dest trunc => execRuleSetMirror_keeps tag session dest trunc s
  | .ruleSetMp tag rate => execRuleSetMp_keeps tag rate s
  | .ruleGetCopies tag count => execRuleGetCopies_keeps tag count s
  | .hedgeGetStatus tag => execHedgeGetStatus_keeps tag s
  | .hedgeSetConfig tag cfg => execHedgeSetConfig_keeps tag cfg s
  | .hedgeGetConfig tag => execHedgeGetConfig_keeps tag s
  | .hedgeSaveConfig tag => execHedgeSaveConfig_keeps tag s
  | .hedgeRestart tag force => execHedgeRestart_keeps tag force s
  | .hedgeGetStats tag => execHedgeGetStats_keeps tag s
  | .hedgeSetNotice tag policy => execHedgeSetNotice_keeps tag policy s
  | .hedgeGetNotices tag seq => execHedgeGetNotices_keeps tag seq s
  | .unitGetStatus tag => execUnitGetStatus_keeps tag s
  | .unitSetPair tag cfg force => execUnitSetPair_keeps tag cfg force s
  | .unitDrill tag => execUnitDrill_keeps tag s
  | .unitSaveStartupMap tag clear => execUnitSaveStartupMap_keeps tag clear s
  | .unitResync tag => execUnitResync_keeps tag s
  | .unitGetEpochs tag => execUnitGetEpochs_keeps tag s
  | .faultGetStatus tag => execFaultGetStatus_keeps tag s
  | .faultGetSource tag first count => execFaultGetSource_keeps tag first count s
  | .faultSetSource tag first params => execFaultSetSource_keeps tag first params s
  | .faultClear tag source seq => execFaultClear_keeps tag source seq s
  | .faultGetRecord tag which => execFaultGetRecord_keeps tag which s
  | .faultSaveConfig tag => execFaultSaveConfig_keeps tag s
  | .faultGetLog tag seq => execFaultGetLog_keeps tag seq s
  | .faultRaise tag => execFaultRaise_keeps tag s
  | .faultInject tag op => execFaultInject_keeps tag op s
  | .faultGetInject tag => execFaultGetInject_keeps tag s
  | .powerGetStatus tag => execPowerGetStatus_keeps tag s
  | .powerHold tag hold => execPowerHold_keeps tag hold s
  | .powerSleep tag => execPowerSleep_keeps tag s
  | .trustGetStatus tag => execTrustGetStatus_keeps tag s
  | .trustGetIdentity tag => execTrustGetIdentity_keeps tag s
  | .trustAttest tag nonce => execTrustAttest_keeps tag nonce s
  | .trustAdvanceSvn tag => execTrustAdvanceSvn_keeps tag s
  | .trustRevokeKey tag axaro slot rec_ => execTrustRevokeKey_keeps tag axaro slot rec_ s
  | .trustSetAxaroKey tag slot key => execTrustSetAxaroKey_keeps tag slot key s
  | .trustSetPolicy tag => execTrustSetPolicy_keeps tag s
  | .trustGetNonce tag => execTrustGetNonce_keeps tag s
  | .trustSetLifecycle tag target rec_ => execTrustSetLifecycle_keeps tag target rec_ s
  | .trustFactoryTest tag => execTrustFactoryTest_keeps tag s
  | .deviceGetInfo tag => execDeviceGetInfo_keeps tag s
  | .deviceGetCommands tag start => execDeviceGetCommands_keeps tag start s
  | .deviceFwBegin tag size => execDeviceFwBegin_keeps tag size s
  | .deviceFwData tag offset data => execDeviceFwData_keeps tag offset data s
  | .deviceFwCommit tag => execDeviceFwCommit_keeps tag s
  | .deviceFwAbort tag => execDeviceFwAbort_keeps tag s
  | .deviceFwStatus tag => execDeviceFwStatus_keeps tag s
  | .deviceReset tag scope subsystem force => execDeviceReset_keeps tag scope subsystem force s
  | .deviceEcho tag data => execDeviceEcho_keeps tag data s
  | .fcqSubmit q ack words => execFcqSubmit_keeps q ack words s
  | .fcqCancel q id => execFcqCancel_keeps q id s
  | .mbDoorbellRing mailbox value => execMbDoorbellRing_keeps mailbox value s
  | .mbAnswerRead => execMbAnswerRead_keeps s
  | .mailboxBodyWrite mailbox offset value => execMailboxBodyWrite_keeps mailbox offset value s
  | .heldAnswerWrite => execHeldAnswerWrite_keeps s
  | .tbTimeLoRead => execTbTimeLoRead_keeps s
  | .tbCountsRead => execTbCountsRead_keeps s
  | .glStatus0Read => execGlStatus0Read_keeps s
  | .glClearSource value => execGlClearSource_keeps value s
  | .glClearAll value => execGlClearAll_keeps value s
  | .glEventsWrite value => execGlEventsWrite_keeps value s
  | .unEventsWrite value => execUnEventsWrite_keeps value s
  | .unCountsRead => execUnCountsRead_keeps s
  | .mbStateWrite mailbox value => execMbStateWrite_keeps mailbox value s
  | .hqEnable q => execHqEnable_keeps q s
  | .hqDisable q => execHqDisable_keeps q s
  | .hqIdxReset q => execHqIdxReset_keeps q s
  | .hqTailWrite q value => execHqTailWrite_keeps q value s
  | .hqDropRead q => execHqDropRead_keeps q s
  | .cqEnableWrite q enable irqEn => execCqEnableWrite_keeps q enable irqEn s
  | .cqIdxReset q => execCqIdxReset_keeps q s
  | .cqHeadWrite q value => execCqHeadWrite_keeps q value s
  | .registerWrite offset value => execRegisterWrite_keeps offset value s
  | .d3hotEntry => execD3hotEntry_keeps s
  | .d0Return => execD0Return_keeps s
  | .busMasterEnableWrite enable => execBusMasterEnableWrite_keeps enable s
  | .powerOn => execPowerOn_keeps s
  | .brownOut => execBrownOut_keeps s
  | .resetNAssert => execResetNAssert_keeps s
  | .perstAssert => execPerstAssert_keeps s
  | .resetRelease straps => execResetRelease_keeps straps s
  | .wipeComplete => execWipeComplete_keeps s
  | .fwReady => execFwReady_keeps s
  | .fwConfirm => execFwConfirm_keeps s
  | .pcieHotReset => execPcieHotReset_keeps s
  | .functionLevelReset => execFunctionLevelReset_keeps s
  | .classFWipeComplete => execClassFWipeComplete_keeps s
  | .holdNAssert => execHoldNAssert_keeps s
  | .holdNRelease => execHoldNRelease_keeps s
  | .wakeRise => execWakeRise_keeps s
  | .pwrEnRise => execPwrEnRise_keeps s
  | .sleepShutdown => execSleepShutdown_keeps s
  | .sleepPark => execSleepPark_keeps s
  | .pwrEnFall => execPwrEnFall_keeps s
  | .tbRefLoss => execTbRefLoss_keeps s
  | .railExcursion rail millivolts => execRailExcursion_keeps rail millivolts s
  | .paceUpdate pace => execPaceUpdate_keeps pace s
  | .syncInEdge elapsedPs => execSyncInEdge_keeps elapsedPs s
  | .syncOutPulse => execSyncOutPulse_keeps s
  | .scheduleBoundary => execScheduleBoundary_keeps s
  | .gptpMessageReceived port msg => execGptpMessageReceived_keeps port msg s
  | .gptpMessageTransmit port sync => execGptpMessageTransmit_keeps port sync s
  | .gptpSyncTimeout => execGptpSyncTimeout_keeps s
  | .loopSample element m1 m2 residueFail => execLoopSample_keeps element m1 m2 residueFail s
  | .handoverAttempt element m1 m2 => execHandoverAttempt_keeps element m1 m2 s
  | .trimInSample group microvolts => execTrimInSample_keeps group microvolts s
  | .voaGroupLost group => execVoaGroupLost_keeps group s
  | .heaterPowerMeasure element nanowatts => execHeaterPowerMeasure_keeps element nanowatts s
  | .bandgapCheck a b c => execBandgapCheck_keeps a b c s
  | .temperatureSample junction diodes => execTemperatureSample_keeps junction diodes s
  | .delayLineExchange line busy => execDelayLineExchange_keeps line busy s
  | .backgroundVisit region block => execBackgroundVisit_keeps region block s
  | .spareProof region block same => execSpareProof_keeps region block same s
  | .spareThresholdMet part => execSpareThresholdMet_keeps part s
  | .loopCellSwitch region block cell selfTest => execLoopCellSwitch_keeps region block cell selfTest s
  | .blockSwitch region block selfTest => execBlockSwitch_keeps region block selfTest s
  | .rowRepair inst row => execRowRepair_keeps inst row s
  | .spareMapWrite => execSpareMapWrite_keeps s
  | .logEntryWrite => execLogEntryWrite_keeps s
  | .calAutoSave => execCalAutoSave_keeps s
  | .calSaveComplete ok => execCalSaveComplete_keeps ok s
  | .calStageComplete => execCalStageComplete_keeps s
  | .roleWaitExpiry => execRoleWaitExpiry_keeps s
  | .idleParkTimeout plane stage cell => execIdleParkTimeout_keeps plane stage cell s
  | .sheafArmStart id => execSheafArmStart_keeps id s
  | .sheafArmCommit id allAcks => execSheafArmCommit_keeps id allAcks s
  | .sheafCutoff id => execSheafCutoff_keeps id s
  | .sheafInstant id driveFaults => execSheafInstant_keeps id driveFaults s
  | .armSlotFree slot => execArmSlotFree_keeps slot s
  | .sheafHorizon id => execSheafHorizon_keeps id s
  | .frameReceived port frame elapsedPs => execFrameReceived_keeps port frame elapsedPs s
  | .rxPause port quanta => execRxPause_keeps port quanta s
  | .pauseExpiry port => execPauseExpiry_keeps port s
  | .pauseRefresh port => execPauseRefresh_keeps port s
  | .rxpWatchdog port => execRxpWatchdog_keeps port s
  | .rearmExpiry port => execRearmExpiry_keeps port s
  | .txpWatchdog port => execTxpWatchdog_keeps port s
  | .portLinkUp port => execPortLinkUp_keeps port s
  | .portLinkDown port remote => execPortLinkDown_keeps port remote s
  | .laneLossOfLock port => execLaneLossOfLock_keeps port s
  | .laneSwitch port => execLaneSwitch_keeps port s
  | .lpiIdleTimeout port => execLpiIdleTimeout_keeps port s
  | .lpiSleepEntry port => execLpiSleepEntry_keeps port s
  | .lpiWake port early => execLpiWake_keeps port early s
  | .verifyTimer port => execVerifyTimer_keeps port s
  | .mpacketReceived port packet => execMpacketReceived_keeps port packet s
  | .txSelect port => execTxSelect_keeps port s
  | .txFrameDone port => execTxFrameDone_keeps port s
  | .gateEvent port => execGateEvent_keeps port s
  | .gateHoldAssert port => execGateHoldAssert_keeps port s
  | .statsHistoryTick => execStatsHistoryTick_keeps s
  | .thresherDispatch thread => execThresherDispatch_keeps thread s
  | .thDone thread => execThDone_keeps thread s
  | .thMov thread => execThMov_keeps thread s
  | .thAdd thread => execThAdd_keeps thread s
  | .thSub thread => execThSub_keeps thread s
  | .thAnd thread => execThAnd_keeps thread s
  | .thOr thread => execThOr_keeps thread s
  | .thShl thread => execThShl_keeps thread s
  | .thShr thread => execThShr_keeps thread s
  | .thCmp thread => execThCmp_keeps thread s
  | .thLdb thread => execThLdb_keeps thread s
  | .thLdh thread => execThLdh_keeps thread s
  | .thLdm thread => execThLdm_keeps thread s
  | .thKld thread => execThKld_keeps thread s
  | .thKmov thread => execThKmov_keeps thread s
  | .thBr thread => execThBr_keeps thread s
  | .thHdr thread => execThHdr_keeps thread s
  | .thProf thread => execThProf_keeps thread s
  | .thMark thread => execThMark_keeps thread s
  | .thPm thread => execThPm_keeps thread s
  | .pmResult thread => execPmResult_keeps thread s
  | .thRecirc thread => execThRecirc_keeps thread s
  | .thresherRelease port => execThresherRelease_keeps port s
  | .ruleSwapAt => execRuleSwapAt_keeps s
  | .ruleSwapDrain => execRuleSwapDrain_keeps s
  | .recoveryResetTimer stream => execRecoveryResetTimer_keeps stream s
  | .latentPeriod stream => execLatentPeriod_keeps stream s
  | .coverWindowStart set => execCoverWindowStart_keeps set s
  | .coverWindowEnd set => execCoverWindowEnd_keeps set s
  | .txChainFetch q entries buffers => execTxChainFetch_keeps q entries buffers s
  | .rxReservation q entries => execRxReservation_keeps q entries s
  | .rxDropDelay q => execRxDropDelay_keeps q s
  | .completionWrite cq => execCompletionWrite_keeps cq s
  | .queueDrainComplete q => execQueueDrainComplete_keeps q s
  | .moderationTimer vector => execModerationTimer_keeps vector s
  | .pendingVectorDeliver vector => execPendingVectorDeliver_keeps vector s
  | .hedgerowSlotSend slot => execHedgerowSlotSend_keeps slot s
  | .noticeSend frameId minislot => execNoticeSend_keeps frameId minislot s
  | .hedgerowFrameReceived chanB slot rx stamp => execHedgerowFrameReceived_keeps chanB slot rx stamp s
  | .listenTimeout => execListenTimeout_keeps s
  | .hedgerowMidpoint => execHedgerowMidpoint_keeps s
  | .hedgerowCorrection => execHedgerowCorrection_keeps s
  | .hedgerowCycleEnd => execHedgerowCycleEnd_keeps s
  | .mlKeepaliveSend => execMlKeepaliveSend_keeps s
  | .mlFrameReceived frame => execMlFrameReceived_keeps frame s
  | .mlDownTimeout => execMlDownTimeout_keeps s
  | .epochClose => execEpochClose_keeps s
  | .commitRecordCreate => execCommitRecordCreate_keeps s
  | .epochApply => execEpochApply_keeps s
  | .partnerAliveTimeout => execPartnerAliveTimeout_keeps s
  | .partnerAliveEdge => execPartnerAliveEdge_keeps s
  | .failbackHoldoff => execFailbackHoldoff_keeps s
  | .handbackInstant => execHandbackInstant_keeps s
  | .gleanerEvaluation mismatch => execGleanerEvaluation_keeps mismatch s
  | .gleanerWindowExpiry source => execGleanerWindowExpiry_keeps source s
  | .sourceSevere source => execSourceSevere_keeps source s
  | .gleanerDeadline source => execGleanerDeadline_keeps source s
  | .regionReinitComplete region => execRegionReinitComplete_keeps region s
  | .firmwareClear source => execFirmwareClear_keeps source s
  | .recordFlashWrite => execRecordFlashWrite_keeps s
  | .watchdogExpiry => execWatchdogExpiry_keeps s
  | .comparatorSelfTest flagged => execComparatorSelfTest_keeps flagged s
  | .aliveEdge => execAliveEdge_keeps s
  | .faultInjectEvent => execFaultInjectEvent_keeps s
  | .fwEraseComplete => execFwEraseComplete_keeps s
  | .granaryRetrain channelB ok => execGranaryRetrain_keeps channelB ok s
  | .tapBypass => execTapBypass_keeps s
  | .tapIdcode => execTapIdcode_keeps s
  | .tapSamplePreload preload => execTapSamplePreload_keeps preload s
  | .tapExtest => execTapExtest_keeps s
  | .tapClamp => execTapClamp_keeps s
  | .tapHighz => execTapHighz_keeps s
  | .syncOutPulseEnd => execSyncOutPulseEnd_keeps s
  | .receivedLpi port entering => execReceivedLpi_keeps port entering s
  | .pcieLinkChange up lanes speed => execPcieLinkChange_keeps up lanes speed s
  | .mlLaneLossOfLock => execMlLaneLossOfLock_keeps s
  | .pllLossOfLock => execPllLossOfLock_keeps s
  | .memoryError err => execMemoryError_keeps err s
  | .memoryRequestAnswered answer => execMemoryRequestAnswered_keeps answer s
  | .userConfigSaveComplete => execUserConfigSaveComplete_keeps s
  | .resetDeviceDelayExpiry => execResetDeviceDelayExpiry_keeps s
  | .vwakeLoss => execVwakeLoss_keeps s
  | .tbRefReturn => execTbRefReturn_keeps s
  | .trimInPulseEdge pin rising elapsedPs => execTrimInPulseEdge_keeps pin rising elapsedPs s

end Sys2Proof.Machine
end

