-- ==== Sys2Proof/Laws/Tidy.lean ====
section
/-! SUPPORT. Every operation of the device keeps the tables of elements, gates, frames in flight, host queues and
vectors in canonical form, one lemma for each operation. -/
namespace Sys2Proof.Machine

@[simp] theorem tidy_mk (a b c d e f g h i j k l m n o p q r u v w x y) :
    (State.mk a b c d e f g h i j k l m n o p q r u v w x y).tidy ↔
      mapWf Elem.park g.elems = true ∧ mapWf GatePort.dflt l.port = true ∧ mapWf [] n.flight = true ∧
      mapWf SubQ.dflt e.subq = true ∧ mapWf Vec.dflt e.vecs = true := Iff.rfl
@[simp] theorem State.tidy.elems {s : State} (h : s.tidy) : mapWf Elem.park s.loops.elems = true := h.1
@[simp] theorem State.tidy.gates {s : State} (h : s.tidy) : mapWf GatePort.dflt s.gates.port = true := h.2.1
@[simp] theorem State.tidy.flight {s : State} (h : s.tidy) : mapWf [] s.rules.flight = true := h.2.2.1
@[simp] theorem State.tidy.subq {s : State} (h : s.tidy) : mapWf SubQ.dflt s.host.subq = true := h.2.2.2.1
@[simp] theorem State.tidy.vecs {s : State} (h : s.tidy) : mapWf Vec.dflt s.host.vecs = true := h.2.2.2.2
theorem mapListed_wfAbove {α : Type} [DecidableEq α] (d : α) (f : Nat → α → α) (lo : Nat) (m : SMap α) (h : mapWfAbove d lo m = true) :
    mapWfAbove d lo (mapListed d f m) = true := by
  induction m generalizing lo with
  | nil => rfl
  | cons p m ih =>
    simp only [mapWfAbove, Bool.and_eq_true, decide_eq_true_eq] at h
    have k := ih _ h.2
    unfold mapListed at k ⊢
    simp only [List.map_cons, List.filter_cons]
    split
    · simp only [mapWfAbove, Bool.and_eq_true, decide_eq_true_eq]
      simp_all
    · exact mapWfAbove_mono _ _ _ _ (by omega) k
@[simp] theorem mapSet_wf' {α : Type} [DecidableEq α] (d : α) (m : SMap α) (k : Nat) (v : α) (h : mapWf d m = true) :
    mapWf d (mapSet d m k v) = true := mapSet_wf d m k v h
@[simp] theorem mapMod_wf' {α : Type} [DecidableEq α] (d : α) (m : SMap α) (k : Nat) (f : α → α) (h : mapWf d m = true) :
    mapWf d (mapMod d m k f) = true := mapMod_wf d m k f h
@[simp] theorem mapModAll_wf' {α : Type} [DecidableEq α] (d : α) (f : Nat → α → α) (ks : List Nat) (m : SMap α) (h : mapWf d m = true) :
    mapWf d (mapModAll d f ks m) = true := mapModAll_wf d f ks m h
@[simp] theorem mapSetList_wf' {α : Type} [DecidableEq α] (d : α) (m : SMap α) (k : Nat) (vs : List α) (h : mapWf d m = true) :
    mapWf d (mapSetList d m k vs) = true := mapSetList_wf d m k vs h
/-! Operations on tables keep the form. -/

@[simp] theorem mapListed_wf {α : Type} [DecidableEq α] (d : α) (f : Nat → α → α) (m : SMap α) (h : mapWf d m = true) :
    mapWf d (mapListed d f m) = true := mapListed_wfAbove d f 0 m h
@[simp] theorem mapWf_nil {α : Type} [DecidableEq α] (d : α) : mapWf d ([] : SMap α) = true := rfl
@[simp] theorem tidy_ite {b : Prop} [Decidable b] (s t : State) : (if b then s else t).tidy ↔ if b then s.tidy else t.tidy := by
  split <;> rfl
@[simp] theorem tidy_ite1 {α : Type} {b : Prop} [Decidable b] (s t : State × α) : (if b then s else t).1.tidy ↔ if b then s.1.tidy else t.1.tidy := by
  split <;> rfl
@[simp] theorem tidy_foldl {α : Type} (f : State → α → State) (l : List α) (s : State) (h : ∀ t x, t.tidy → (f t x).tidy) (hs : s.tidy) :
    (l.foldl f s).tidy := by
  induction l generalizing s with
  | nil => exact hs
  | cons x l ih => exact ih _ (h _ _ hs)
@[simp] theorem tidy_foldl1 {α β : Type} (f : State × β → α → State × β) (l : List α) (s : State × β) (h : ∀ t x, t.1.tidy → (f t x).1.tidy) (hs : s.1.tidy) :
    (l.foldl f s).1.tidy := by
  induction l generalizing s with
  | nil => exact hs
  | cons x l ih => exact ih _ (h _ _ hs)

@[simp] theorem emit_tidy (x : Emit) (s : State) (is : s.tidy) : (State.emit x s).tidy := by
  simp (maxDischargeDepth := 30) [State.emit, *]

@[simp] theorem drawn_tidy (s : State) (is : s.tidy) : (State.drawn s).tidy := by
  simp (maxDischargeDepth := 30) [State.drawn, *]

@[simp] theorem raiseN_tidy (src k : Nat) (s : State) (is : s.tidy) : (State.raiseN src k s).tidy := by
  simp (maxDischargeDepth := 30) [State.raiseN, *]

@[simp] theorem raise_tidy (src : Nat) (s : State) (is : s.tidy) : (State.raise src s).tidy := by
  simp (maxDischargeDepth := 30) [State.raise, *]

@[simp] theorem raiseBlock_tidy (e k : Nat) (s : State) (is : s.tidy) : (State.raiseBlock e k s).tidy := by
  simp (maxDischargeDepth := 30) [State.raiseBlock, *]

@[simp] theorem sendMsix_tidy (v : Nat) (s : State) (is : s.tidy) : (State.sendMsix v s).tidy := by
  simp (maxDischargeDepth := 30) [State.sendMsix, *]

@[simp] theorem trigger_tidy (v : Nat) (s : State) (is : s.tidy) : (State.trigger v s).tidy := by
  simp (maxDischargeDepth := 30) [State.trigger, *]

@[simp] theorem countEvent_tidy (v : Nat) (s : State) (is : s.tidy) : (State.countEvent v s).tidy := by
  simp (maxDischargeDepth := 30) [State.countEvent, *]

@[simp] theorem mbEvent_tidy (s : State) (is : s.tidy) : (State.mbEvent s).tidy := by
  simp (maxDischargeDepth := 30) [State.mbEvent, *]

@[simp] theorem glEvent_tidy (s : State) (is : s.tidy) : (State.glEvent s).tidy := by
  simp (maxDischargeDepth := 30) [State.glEvent, *]

@[simp] theorem unEvent_tidy (s : State) (is : s.tidy) : (State.unEvent s).tidy := by
  simp (maxDischargeDepth := 30) [State.unEvent, *]

@[simp] theorem glSet_tidy (i : Nat) (s : State) (is : s.tidy) : (State.glSet i s).tidy := by
  simp (maxDischargeDepth := 30) [State.glSet, *]

@[simp] theorem unSet_tidy (i : Nat) (s : State) (is : s.tidy) : (State.unSet i s).tidy := by
  simp (maxDischargeDepth := 30) [State.unSet, *]

@[simp] theorem writeBody_tidy (m off : Nat) (bs : List Byte) (s : State) (is : s.tidy) : (State.writeBody m off bs s).tidy := by
  simp (maxDischargeDepth := 30) [State.writeBody, *]

@[simp] theorem modMb_tidy (m : Nat) (f : Mailbox → Mailbox) (s : State) (is : s.tidy) : (State.modMb m f s).tidy := by
  simp (maxDischargeDepth := 30) [State.modMb, *]

@[simp] theorem afterPush_tidy (tag : Tag) (s : State) (is : s.tidy) : (State.afterPush tag s).tidy := by
  simp (maxDischargeDepth := 30) [State.afterPush, *]

@[simp] theorem pushRecord_tidy (c : InFlight) (s : State) (is : s.tidy) : (State.pushRecord c s).tidy := by
  simp (maxDischargeDepth := 30) [State.pushRecord, *]

@[simp] theorem writeHostAnswer_tidy (h : HeldAnswer) (s : State) (is : s.tidy) : (State.writeHostAnswer h s).tidy := by
  simp (maxDischargeDepth := 30) [State.writeHostAnswer, *]

@[simp] theorem markAnswered_tidy (c : InFlight) (s : State) (is : s.tidy) : (State.markAnswered c s).tidy := by
  simp (maxDischargeDepth := 30) [State.markAnswered, *]

@[simp] theorem unasked_tidy (tag : Tag) (s : State) (is : s.tidy) : (State.unasked tag s).tidy := by
  simp (maxDischargeDepth := 30) (contextual := true) [State.unasked, *]

@[simp] theorem answer_tidy (c : InFlight) (r : Reply) (s : State) (is : s.tidy) : (State.answer c r s).tidy := by
  simp (maxDischargeDepth := 30) [State.answer, *]

@[simp] theorem serve_tidy (tag : Tag) (code : Nat) (reads : Bool) (len : Option Nat) (body : State → State × Reply) (s : State) (hbody : ∀ t : State, t.tidy → (body t).1.tidy) (is : s.tidy) : (State.serve tag code reads len body s).tidy := by
  (unfold State.serve; (try dsimp only); repeat' split) <;> simp (maxDischargeDepth := 30) [*]

@[simp] theorem answerTag_tidy (tag : Tag) (r : Reply) (s : State) (is : s.tidy) : (State.answerTag tag r s).tidy := by
  (unfold State.answerTag; repeat' split) <;> simp (maxDischargeDepth := 30) (contextual := true) [*]

@[simp] theorem query_tidy (tag : Tag) (code : Nat) (len : Option Nat) (reply : State → Reply) (s : State) (is : s.tidy) : (State.query tag code len reply s).tidy := by
  simp (maxDischargeDepth := 30) [State.query, *]

@[simp] theorem refuse_tidy (s : State) (st : Status) (detail : Nat) (is : s.tidy) : (refuse s st detail).1.tidy := by
  simp (maxDischargeDepth := 30) [refuse, *]

@[simp] theorem failed_tidy (s : State) (code : Nat) (is : s.tidy) : (failed s code).1.tidy := by
  simp (maxDischargeDepth := 30) [failed, *]

@[simp] theorem modMonitor_tidy (ch : Nat) (f : ChanCal → ChanCal) (s : State) (is : s.tidy) : (State.modMonitor ch f s).tidy := by
  simp (maxDischargeDepth := 30) (contextual := true) [State.modMonitor, *]

@[simp] theorem modLine_tidy (l : Nat) (f : LineCal → LineCal) (s : State) (is : s.tidy) : (State.modLine l f s).tidy := by
  simp (maxDischargeDepth := 30) (contextual := true) [State.modLine, *]

@[simp] theorem modElem_tidy (e : Nat) (f : Elem → Elem) (s : State) (is : s.tidy) : (State.modElem e f s).tidy := by
  simp (maxDischargeDepth := 30) [State.modElem, *]

@[simp] theorem modElems_tidy (es : List Nat) (f : Nat → Elem → Elem) (s : State) (is : s.tidy) : (State.modElems es f s).tidy := by
  simp (maxDischargeDepth := 30) [State.modElems, *]

@[simp] theorem launched_tidy (t : Nat) (s : State) (is : s.tidy) : (State.launched t s).tidy := by
  simp (maxDischargeDepth := 30) (contextual := true) [State.launched, *]

@[simp] theorem logSubstAt_tidy (time kind cause source logical frm dest outcome left events : Nat) (s : State) (is : s.tidy) : (State.logSubstAt time kind cause source logical frm dest outcome left events s).tidy := by
  simp (maxDischargeDepth := 30) (contextual := true) [State.logSubstAt, *]

@[simp] theorem logSubst_tidy (kind cause source logical frm dest outcome left events : Nat) (s : State) (is : s.tidy) : (State.logSubst kind cause source logical frm dest outcome left events s).tidy := by
  simp (maxDischargeDepth := 30) [State.logSubst, *]

@[simp] theorem partEvent_tidy (p : Part) (s : State) (is : s.tidy) : (State.partEvent p s).tidy := by
  simp (maxDischargeDepth := 30) [State.partEvent, *]

@[simp] theorem calibrated_tidy (e : Nat) (f : ImgEl → ImgEl) (s : State) (is : s.tidy) : (State.calibrated e f s).tidy := by
  simp (maxDischargeDepth := 30) [State.calibrated, *]

@[simp] theorem repairDone_tidy (src : Nat) (s : State) (is : s.tidy) : (State.repairDone src s).tidy := by
  simp (maxDischargeDepth := 30) [State.repairDone, *]

@[simp] theorem acceptSheaf_tidy (x : Sheaf) (s : State) (is : s.tidy) : (State.acceptSheaf x s).tidy := by
  simp (maxDischargeDepth := 30) [State.acceptSheaf, *]

@[simp] theorem submit_tidy (ws : List Word) (by_ : Submitter) (s : State) (is : s.tidy) : (State.submit ws by_ s).1.tidy := by
  (unfold State.submit; (try dsimp only); repeat' split) <;> simp (maxDischargeDepth := 30) [*]

@[simp] theorem modSheaf_tidy (id : Nat) (f : Sheaf → Sheaf) (s : State) (is : s.tidy) : (State.modSheaf id f s).tidy := by
  simp (maxDischargeDepth := 30) [State.modSheaf, *]

@[simp] theorem freeSlot_tidy (j : Option Nat) (s : State) (is : s.tidy) : (State.freeSlot j s).tidy := by
  (unfold State.freeSlot; (try dsimp only); repeat' split) <;> simp (maxDischargeDepth := 30) [*]

@[simp] theorem fcqComplete_tidy (q idx : Nat) (body : List Byte) (s : State) (is : s.tidy) : (State.fcqComplete q idx body s).tidy := by
  simp (maxDischargeDepth := 30) [State.fcqComplete, *]

@[simp] theorem noticeFor_tidy (x : Sheaf) (kind outcome : Nat) (s : State) (is : s.tidy) : (State.noticeFor x kind outcome s).tidy := by
  simp (maxDischargeDepth := 30) [State.noticeFor, *]

@[simp] theorem outcome_tidy (id code detail : Nat) (s : State) (is : s.tidy) : (State.outcome id code detail s).tidy := by
  (unfold State.outcome; (try dsimp only); repeat' split) <;> simp (maxDischargeDepth := 30) [*]

@[simp] theorem reevaluateOne_tidy (f : Sheaf) (s : State) (g : Sheaf) (is : s.tidy) : (State.reevaluateOne f s g).1.tidy := by
  (unfold State.reevaluateOne; repeat' split) <;> simp (maxDischargeDepth := 30) [*]

@[simp] theorem reevaluate_tidy (f : Sheaf) (s : State) (is : s.tidy) : (s.reevaluate f).1.tidy := by
  unfold State.reevaluate
  exact tidy_foldl1 _ _ _ (fun p g h => reevaluateOne_tidy f p.1 g h) is

@[simp] theorem stopStook_tidy (f : Sheaf) (s : State) (is : s.tidy) : (State.stopStook f s).1.tidy := by
  (unfold State.stopStook; (try dsimp only); repeat' split) <;> simp (maxDischargeDepth := 30) (contextual := true) [*]

@[simp] theorem settle_tidy (n : Nat) (ids : List Nat) (s : State) (is : s.tidy) : (State.settle n ids s).tidy := by
  induction n generalizing ids s with
  | zero => rw [State.settle]; exact is
  | succ n ih =>
    cases ids with
    | nil => exact is
    | cons i ids =>
      rw [State.settle]
      split
      · exact ih _ _ is
      · exact ih _ _ (by simp (maxDischargeDepth := 30) [*])

@[simp] theorem failSheaf_tidy (id : Nat) (code : Nat) (detail : Nat) (s : State) (is : s.tidy) : (State.failSheaf id code detail s).tidy :=
  settle_tidy _ _ _ (by simp [*])

@[simp] theorem failSheaves_tidy (ids : List Nat) (code : Nat) (s : State) (is : s.tidy) : (State.failSheaves ids code s).tidy := by
  unfold State.failSheaves
  exact settle_tidy _ _ _ (tidy_foldl _ _ _ (fun t x h => by simp [h]) is)

@[simp] theorem refreshMap_tidy (s : State) (is : s.tidy) : (State.refreshMap s).tidy := by
  simp (maxDischargeDepth := 30) [State.refreshMap, *]

@[simp] theorem supersede_tidy (p : Nat → Bool) (s : State) (is : s.tidy) : (State.supersede p s).tidy := by
  simp (maxDischargeDepth := 30) (contextual := true) [State.supersede, *]

theorem stageAll_tidy (l : List Sheaf) (s : State) (is : s.tidy) : (State.stageAll l s).1.tidy := by
  induction l generalizing s with
  | nil => exact is
  | cons x xs ih =>
    unfold State.stageAll
    split
    · exact is
    · exact ih _ ⟨is.elems, is.gates, is.flight, is.subq, is.vecs⟩

@[simp] theorem autoRepair_tidy (fix : List Nat) (s : State) (is : s.tidy) : (State.autoRepair fix s).tidy := by
  obtain h | ⟨l, h⟩ := autoRepair_stages fix s <;> rw [h]
  · exact is
  · exact stageAll_tidy l s is

@[simp] theorem driveFailed_tidy (plane stage cell : Nat) (kind : FailKind) (s : State) (is : s.tidy) : (State.driveFailed plane stage cell kind s).tidy := by
  simp (maxDischargeDepth := 30) [State.driveFailed, *]

@[simp] theorem withdrawFor_tidy (g : Nat) (s : State) (is : s.tidy) : (State.withdrawFor g s).tidy := by
  unfold State.withdrawFor
  refine settle_tidy _ _ _ (failSheaves_tidy _ _ _ (tidy_foldl _ _ _ (fun t x h => ?_) is))
  simp (maxDischargeDepth := 30) [*]

@[simp] theorem declareFailed_tidy (plane stage cell : Nat) (kind : FailKind) (ev : Evidence) (s : State) (is : s.tidy) :
    (State.declareFailed plane stage cell kind ev s).tidy := by
  unfold State.declareFailed
  dsimp only
  split
  · exact is
  · exact autoRepair_tidy _ _ (refreshMap_tidy _ (withdrawFor_tidy _ _ (driveFailed_tidy _ _ _ _ _ (logSubst_tidy _ _ _ _ _ _ _ _ _ _ is))))

@[simp] theorem modPort_tidy (p : Nat) (f : Port → Port) (s : State) (is : s.tidy) : (State.modPort p f s).tidy := by
  simp (maxDischargeDepth := 30) [State.modPort, *]

@[simp] theorem count_tidy (p i n : Nat) (s : State) (is : s.tidy) : (State.count p i n s).tidy := by
  simp (maxDischargeDepth := 30) [State.count, *]

@[simp] theorem pauseCheck_tidy (stored : Bool) (p : Nat) (s : State) (is : s.tidy) : (State.pauseCheck stored p s).tidy := by
  (unfold State.pauseCheck; (try dsimp only); repeat' split) <;> simp (maxDischargeDepth := 30) (contextual := true) [*]

@[simp] theorem pauseChecks_tidy (s : State) (is : s.tidy) : (State.pauseChecks s).tidy := by
  simp (maxDischargeDepth := 30) [State.pauseChecks, *]

@[simp] theorem modSub_tidy (k : Nat) (f : SubQ → SubQ) (s : State) (is : s.tidy) : (State.modSub k f s).tidy := by
  simp (maxDischargeDepth := 30) [State.modSub, *]

@[simp] theorem toHost_tidy (q : Nat) (w : RxWait) (s : State) (is : s.tidy) : (State.toHost q w s).tidy := by
  simp (maxDischargeDepth := 30) [State.toHost, *]

@[simp] theorem storeToHost_tidy (q : Nat) (w : RxWait) (s : State) (is : s.tidy) : (State.storeToHost q w s).tidy := by
  simp (maxDischargeDepth := 30) (contextual := true) [State.storeToHost, *]

@[simp] theorem enqueue_tidy (p : Nat) (f : TxFrame) (s : State) (is : s.tidy) : (State.enqueue p f s).tidy := by
  simp (maxDischargeDepth := 30) [State.enqueue, *]

@[simp] theorem copyDone_tidy (owner : Option (Nat × Nat)) (port : Nat) (st : Nat) (stamp : Option Nat) (s : State) (is : s.tidy) : (State.copyDone owner port st stamp s).tidy := by
  (unfold State.copyDone; repeat' split) <;> simp (maxDischargeDepth := 30) [*]

@[simp] theorem foldTheta_tidy (s : State) (is : s.tidy) : (State.foldTheta s).tidy := by
  simp (maxDischargeDepth := 30) [State.foldTheta, *]

@[simp] theorem rebaseLoops_tidy (d : Int) (old : Nat) (s : State) (is : s.tidy) : (State.rebaseLoops d old s).tidy := by
  simp (maxDischargeDepth := 30) (contextual := true) [State.rebaseLoops, *]

@[simp] theorem loadStep_tidy (c : BitVec 96) (s : State) (is : s.tidy) : (State.loadStep c s).tidy := by
  (unfold State.loadStep; (try dsimp only); repeat' split) <;> simp (maxDischargeDepth := 30) (contextual := true) [*]

@[simp] theorem timeStep_tidy (c : BitVec 96) (s : State) (is : s.tidy) : (State.timeStep c s).tidy := by
  simp (maxDischargeDepth := 30) [State.timeStep, *]

@[simp] theorem servo_tidy (offset rEst : Int) (s : State) (is : s.tidy) : (State.servo offset rEst s).tidy := by
  simp (maxDischargeDepth := 30) [State.servo, *]

@[simp] theorem enterHoldover_tidy (s : State) (is : s.tidy) : (State.enterHoldover s).tidy := by
  simp (maxDischargeDepth := 30) [State.enterHoldover, *]

@[simp] theorem useSource_tidy (x : Source) (s : State) (is : s.tidy) : (State.useSource x s).tidy := by
  simp (maxDischargeDepth := 30) [State.useSource, *]

@[simp] theorem sourceLost_tidy (x : Source) (s : State) (is : s.tidy) : (State.sourceLost x s).tidy := by
  (unfold State.sourceLost; (try dsimp only); repeat' split) <;> simp (maxDischargeDepth := 30) [*]

@[simp] theorem measurement_tidy (x : Source) (offset rEst : Int) (src : BitVec 96) (s : State) (is : s.tidy) : (State.measurement x offset rEst src s).tidy := by
  (unfold State.measurement; (try dsimp only); repeat' split) <;> simp (maxDischargeDepth := 30) [*]

@[simp] theorem applyPtp_tidy (s : State) (is : s.tidy) : (State.applyPtp s).tidy := by
  simp (maxDischargeDepth := 30) (contextual := true) [State.applyPtp, *]

@[simp] theorem closeWindow_tidy (t : Nat) (s : State) (is : s.tidy) : (State.closeWindow t s).tidy := by
  (unfold State.closeWindow; (try dsimp only); repeat' split) <;> simp (maxDischargeDepth := 30) [*]

@[simp] theorem acceptEdge_tidy (e : Int) (ahead : Bool) (s : State) (is : s.tidy) : (State.acceptEdge e ahead s).tidy := by
  simp (maxDischargeDepth := 30) [State.acceptEdge, *]

@[simp] theorem rejectEdge_tidy (s : State) (is : s.tidy) : (State.rejectEdge s).tidy := by
  simp (maxDischargeDepth := 30) [State.rejectEdge, *]

@[simp] theorem setSyncOut_tidy (high : Bool) (s : State) (is : s.tidy) : (State.setSyncOut high s).tidy := by
  simp (maxDischargeDepth := 30) [State.setSyncOut, *]

@[simp] theorem foldShift_tidy (s : State) (is : s.tidy) : (State.foldShift s).tidy := by
  simp (maxDischargeDepth := 30) (contextual := true) [State.foldShift, *]

@[simp] theorem applyAtCommon_tidy (s : State) (is : s.tidy) : (State.applyAtCommon s).tidy := by
  (unfold State.applyAtCommon; (try dsimp only); repeat' split) <;> simp (maxDischargeDepth := 30) [*]

@[simp] theorem settleCommon_tidy (s : State) (is : s.tidy) : (State.settleCommon s).tidy := by
  simp (maxDischargeDepth := 30) [State.settleCommon, *]

@[simp] theorem boundary_tidy (s0 : State) (is : s0.tidy) : (State.boundary s0).tidy := by
  (unfold State.boundary; (try dsimp only); repeat' split) <;> simp (maxDischargeDepth := 30) (contextual := true) [*]

@[simp] theorem pulse_tidy (t : Nat) (id : Option Nat) (s : State) (is : s.tidy) : (State.pulse t id s).tidy := by
  (unfold State.pulse; (try dsimp only); repeat' split) <;> simp (maxDischargeDepth := 30) (contextual := true) [*]

@[simp] theorem modGate_tidy (p : Nat) (f : GatePort → GatePort) (s : State) (is : s.tidy) : (State.modGate p f s).tidy := by
  simp (maxDischargeDepth := 30) [State.modGate, *]

@[simp] theorem preempt_tidy (p : Nat) (s : State) (is : s.tidy) : (State.preempt p s).tidy := by
  (unfold State.preempt; (try dsimp only); repeat' split) <;> simp (maxDischargeDepth := 30) [*]

@[simp] theorem applyEntry_tidy (p : Nat) (e : GateEntry) (s : State) (is : s.tidy) : (State.applyEntry p e s).tidy := by
  simp (maxDischargeDepth := 30) [State.applyEntry, *]

@[simp] theorem gateBoundary_tidy (c p : Nat) (s : State) (is : s.tidy) : (State.gateBoundary c p s).tidy := by
  (unfold State.gateBoundary; (try dsimp only); repeat' split) <;> simp (maxDischargeDepth := 30) (contextual := true) [*]

@[simp] theorem gatesAtBoundary_tidy (c : Nat) (s : State) (is : s.tidy) : (State.gatesAtBoundary c s).tidy := by
  simp (maxDischargeDepth := 30) [State.gatesAtBoundary, *]

@[simp] theorem gatesReanchor_tidy (s : State) (is : s.tidy) : (State.gatesReanchor s).tidy := by
  simp (maxDischargeDepth := 30) [State.gatesReanchor, *]

@[simp] theorem coversOff_tidy (s : State) (is : s.tidy) : (State.coversOff s).tidy := by
  simp (maxDischargeDepth := 30) [State.coversOff, *]

@[simp] theorem withdrawSwap_tidy (s : State) (is : s.tidy) : (State.withdrawSwap s).tidy := by
  (unfold State.withdrawSwap; (try dsimp only); repeat' split) <;> simp (maxDischargeDepth := 30) [*]

@[simp] theorem modStream_tidy (n : Nat) (f : Stream → Stream) (s : State) (is : s.tidy) : (State.modStream n f s).tidy := by
  simp (maxDischargeDepth := 30) [State.modStream, *]

@[simp] theorem countStream_tidy (n i k : Nat) (s : State) (is : s.tidy) : (State.countStream n i k s).tidy := by
  simp (maxDischargeDepth := 30) [State.countStream, *]

@[simp] theorem recoveryReset_tidy (n : Nat) (s : State) (is : s.tidy) : (State.recoveryReset n s).tidy := by
  simp (maxDischargeDepth := 30) (contextual := true) [State.recoveryReset, *]

@[simp] theorem recover_tidy (n q : Nat) (s0 : State) (is : s0.tidy) : (State.recover n q s0).1.tidy := by
  (unfold State.recover; (try dsimp only); repeat' split) <;> simp (maxDischargeDepth := 30) (contextual := true) [*]

@[simp] theorem generate_tidy (n : Nat) (tag host : Option Nat) (s : State) (is : s.tidy) : (State.generate n tag host s).1.tidy := by
  (unfold State.generate; (try dsimp only); repeat' split) <;> simp (maxDischargeDepth := 30) [*]

@[simp] theorem portCopy_tidy (n p : Nat) (x : Stream) (i : StreamIn) (seq : Option Nat) (s : State) (is : s.tidy) : (State.portCopy n p x i seq s).1.tidy := by
  simp (maxDischargeDepth := 30) [State.portCopy, *]

@[simp] theorem hostCopy_tidy (n : Nat) (x : Stream) (i : StreamIn) (seq : Option Nat) (s : State) (is : s.tidy) : (State.hostCopy n x i seq s).tidy := by
  simp (maxDischargeDepth := 30) [State.hostCopy, *]

@[simp] theorem replicate_tidy (n : Nat) (x : Stream) (i : StreamIn) (seq : Option Nat) (s : State) (is : s.tidy) : (State.replicate n x i seq s).1.tidy := by
  simp (maxDischargeDepth := 30) (contextual := true) [State.replicate, *]

@[simp] theorem enterStream_tidy (n : Nat) (i : StreamIn) (s : State) (is : s.tidy) : (State.enterStream n i s).1.tidy := by
  unfold State.enterStream
  dsimp only
  repeat' split
  all_goals first
    | exact is
    | exact countStream_tidy _ _ _ _ is
    | exact recover_tidy _ _ _ is
    | (next h =>
        have e := congrArg (fun p => p.1.tidy) h
        simp only at e
        have e2 := Eq.mp e (generate_tidy _ _ _ _ (by first | exact is | exact countStream_tidy _ _ _ _ is | exact recover_tidy _ _ _ is))
        first | exact e2 | exact replicate_tidy _ _ _ _ _ e2)

@[simp] theorem atFrame_tidy (a : FrameAct) (s : State) (is : s.tidy) : (State.atFrame a s).tidy := by
  simp (maxDischargeDepth := 30) [State.atFrame, *]

@[simp] theorem holdRegion_tidy (r : Nat) (s : State) (is : s.tidy) : (State.holdRegion r s).tidy := by
  simp (maxDischargeDepth := 30) [State.holdRegion, *]

@[simp] theorem releaseRegion_tidy (r : Nat) (s : State) (is : s.tidy) : (State.releaseRegion r s).tidy := by
  simp (maxDischargeDepth := 30) [State.releaseRegion, *]

@[simp] theorem holdBlock_tidy (es : List Nat) (s : State) (is : s.tidy) : (State.holdBlock es s).tidy := by
  simp (maxDischargeDepth := 30) [State.holdBlock, *]

@[simp] theorem holdDevice_tidy (s : State) (is : s.tidy) : (State.holdDevice s).tidy := by
  simp (maxDischargeDepth := 30) [State.holdDevice, *]

@[simp] theorem handBackAll_tidy (s : State) (is : s.tidy) : (State.handBackAll s).tidy := by
  simp (maxDischargeDepth := 30) [State.handBackAll, *]

@[simp] theorem setMode_tidy (m : Mode) (s : State) (is : s.tidy) : (State.setMode m s).tidy := by
  simp (maxDischargeDepth := 30) [State.setMode, *]

@[simp] theorem checkDegraded_tidy (s : State) (is : s.tidy) : (State.checkDegraded s).tidy := by
  simp (maxDischargeDepth := 30) [State.checkDegraded, *]

@[simp] theorem judgeCell_tidy (g : Nat) (ev : Evidence) (s : State) (is : s.tidy) : (State.judgeCell g ev s).tidy := by
  (unfold State.judgeCell; (try dsimp only); repeat' split) <;> simp (maxDischargeDepth := 30) [*]

@[simp] theorem holdEntry_tidy (s : State) (is : s.tidy) : (State.holdEntry s).tidy := by
  simp (maxDischargeDepth := 30) [State.holdEntry, *]

@[simp] theorem startEpochs_tidy (s : State) (is : s.tidy) : (State.startEpochs s).tidy := by
  simp (maxDischargeDepth := 30) [State.startEpochs, *]

@[simp] theorem jumpCounters_tidy (s : State) (is : s.tidy) : (State.jumpCounters s).tidy := by
  simp (maxDischargeDepth := 30) [State.jumpCounters, *]

@[simp] theorem adoptSheaves_tidy (taken : Bool) (s : State) (is : s.tidy) : (State.adoptSheaves taken s).tidy := by
  unfold State.adoptSheaves
  dsimp only
  split
  · exact is
  · refine tidy_foldl _ _ _ (fun t x h => ?_) is
    split <;> simp [h]

@[simp] theorem promote_tidy (s : State) (is : s.tidy) : (State.promote s).tidy := by
  simp (maxDischargeDepth := 30) [State.promote, *]

@[simp] theorem takeover_tidy (s : State) (is : s.tidy) : (State.takeover s).tidy := by
  simp (maxDischargeDepth := 30) [State.takeover, *]

@[simp] theorem demote_tidy (s : State) (is : s.tidy) : (State.demote s).tidy := by
  simp (maxDischargeDepth := 30) [State.demote, *]

@[simp] theorem dualCheck_tidy (s : State) (is : s.tidy) : (State.dualCheck s).tidy := by
  simp (maxDischargeDepth := 30) [State.dualCheck, *]

@[simp] theorem claimed_tidy (s : State) (is : s.tidy) : (State.claimed s).tidy := by
  simp (maxDischargeDepth := 30) [State.claimed, *]

theorem wf_foldl {α β : Type} [DecidableEq α] (d : α) (f : SMap α → β → SMap α) (l : List β) (m : SMap α)
    (h : ∀ m x, mapWf d m = true → mapWf d (f m x) = true) (hm : mapWf d m = true) : mapWf d (l.foldl f m) = true := by
  induction l generalizing m with
  | nil => exact hm
  | cons x l ih => exact ih _ (h _ _ hm)

theorem applyTo_wf (at_ : Nat) (s : State) (m : SMap Elem) (c : Change) (h : mapWf Elem.park m = true) :
    mapWf Elem.park (s.applyTo at_ m c) = true := by
  unfold State.applyTo
  simp [h]

theorem applyAll_wf (s : State) (m : SMap Elem) (x : Sheaf) (h : mapWf Elem.park m = true) :
    mapWf Elem.park (s.applyAll m x) = true := by
  unfold State.applyAll
  exact wf_foldl _ _ _ _ (fun m c => applyTo_wf _ _ m c) h

@[simp] theorem bringUp_tidy (s : State) (is : s.tidy) : (State.bringUp s).tidy := by
  obtain ⟨m, hm, h⟩ := bringUp_mods _ (fun m k f w => mapMod_wf Elem.park m k f w) s is.elems
  rw [h]
  exact refreshMap_tidy _ ⟨hm, is.gates, is.flight, is.subq, is.vecs⟩

/-- Elements in canonical form replace the table of elements. -/
theorem elems_tidy (m : SMap Elem) (s : State) (hm : mapWf Elem.park m = true) (is : s.tidy) :
    ({ s with loops.elems := m } : State).tidy := ⟨hm, is.gates, is.flight, is.subq, is.vecs⟩

theorem withChanges_wf (s : State) (at_ : Nat) (l : List Change) (is : s.tidy) :
    mapWf Elem.park (s.withChanges at_ s.loops.elems l) = true :=
  withChanges_mods _ (fun m k f w => mapMod_wf Elem.park m k f w) s at_ l _ is.elems

@[simp] theorem blockOutputs_tidy (s : State) (is : s.tidy) : (State.blockOutputs s).tidy :=
  elems_tidy _ s (withChanges_wf s _ _ is) is

@[simp] theorem startStage_tidy (n : Nat) (s : State) (is : s.tidy) : (State.startStage n s).tidy := by
  simp (maxDischargeDepth := 30) (contextual := true) [State.startStage, *]

@[simp] theorem calibrateDone_tidy (s : State) (is : s.tidy) : (State.calibrateDone s).tidy := by
  simp (maxDischargeDepth := 30) (contextual := true) [State.calibrateDone, *]

@[simp] theorem becomeStandby_tidy (s : State) (is : s.tidy) : (State.becomeStandby s).tidy := by
  simp (maxDischargeDepth := 30) [State.becomeStandby, *]

@[simp] theorem takeControl_tidy (s : State) (is : s.tidy) : (State.takeControl s).tidy := by
  simp (maxDischargeDepth := 30) [State.takeControl, *]

@[simp] theorem roleDecision_tidy (s : State) (is : s.tidy) : (State.roleDecision s).tidy := by
  simp (maxDischargeDepth := 30) [State.roleDecision, *]

@[simp] theorem holdRelease_tidy (s : State) (is : s.tidy) : (State.holdRelease s).tidy := by
  simp (maxDischargeDepth := 30) [State.holdRelease, *]

@[simp] theorem setGroup_tidy (group : Nat) (cfg : VoaGroupCfg) (s : State) (is : s.tidy) : (State.setGroup group cfg s).tidy := by
  simp (maxDischargeDepth := 30) [State.setGroup, *]

@[simp] theorem groupValue_tidy (group x : Nat) (s : State) (is : s.tidy) : (State.groupValue group x s).tidy := by
  simp (maxDischargeDepth := 30) [State.groupValue, *]

@[simp] theorem captureSample_tidy (e t : Nat) (s : State) (is : s.tidy) : (State.captureSample e t s).tidy := by
  (unfold State.captureSample; (try dsimp only); repeat' split) <;> simp (maxDischargeDepth := 30) (contextual := true) [*]

@[simp] theorem countRefusal_tidy (e : Nat) (s : State) (is : s.tidy) : (State.countRefusal e s).tidy := by
  (unfold State.countRefusal; repeat' split) <;> simp (maxDischargeDepth := 30) (contextual := true) [*]

@[simp] theorem sampleEvents_tidy (e : Nat) (was now : Elem) (s : State) (is : s.tidy) : (State.sampleEvents e was now s).tidy := by
  unfold State.sampleEvents
  dsimp only
  have h0 : (if now.last.getLsbD 10 = true then s.partEvent (.loopCell (regionOf e) (blockOf e) (loopCellOf e)) else s).tidy := by
    split <;> simp [is]
  generalize (if now.last.getLsbD 10 = true then s.partEvent (.loopCell (regionOf e) (blockOf e) (loopCellOf e)) else s) = s0 at h0 ⊢
  have j (b : Prop) [Decidable b] (t : State) (h : t.tidy) : (if b then t.judgeCell e .unlockable else t).tidy := by
    split <;> simp [h]
  have r (b : Prop) [Decidable b] (n : Nat) (t : State) (h : t.tidy) : (if b then t else t.raiseBlock e n).tidy := by
    split <;> simp [h]
  have c (b : Prop) [Decidable b] (t : State) (h : t.tidy) : (if b then t.countRefusal e else t).tidy := by
    split <;> simp [h]
  refine j _ _ (r _ _ _ (c _ _ ?_))
  split
  · exact ⟨h0.elems, h0.gates, h0.flight, h0.subq, h0.vecs⟩
  · exact h0

@[simp] theorem sampleElem_tidy (e : Nat) (m1 m2 : BitVec 12) (residue : Bool) (at_ : Nat × Nat) (s : State) (is : s.tidy) : (State.sampleElem e m1 m2 residue at_ s).tidy := by
  simp (maxDischargeDepth := 30) (contextual := true) [State.sampleElem, *]

@[simp] theorem selectChan_tidy (s : State) (ch : Nat) (is : s.tidy) : (State.selectChan s ch).tidy := by
  simp (maxDischargeDepth := 30) (contextual := true) [State.selectChan, *]

@[simp] theorem selections_tidy (s : State) (is : s.tidy) : (State.selections s).tidy := by
  simp (maxDischargeDepth := 30) (contextual := true) [State.selections, *]

@[simp] theorem endSleep_tidy (p : Nat) (s : State) (is : s.tidy) : (State.endSleep p s).tidy := by
  simp (maxDischargeDepth := 30) (contextual := true) [State.endSleep, *]

@[simp] theorem wakeTx_tidy (p : Nat) (s : State) (is : s.tidy) : (State.wakeTx p s).tidy := by
  simp (maxDischargeDepth := 30) (contextual := true) [State.wakeTx, *]

@[simp] theorem applyPortPend_tidy (p : Nat) (s : State) (is : s.tidy) : (State.applyPortPend p s).tidy := by
  (unfold State.applyPortPend; (try dsimp only); repeat' split) <;> simp (maxDischargeDepth := 30) (contextual := true) [*]

@[simp] theorem countSent_tidy (p : Nat) (bs : List Byte) (s : State) (is : s.tidy) : (State.countSent p bs s).tidy := by
  simp (maxDischargeDepth := 30) [State.countSent, *]

@[simp] theorem discardQueued_tidy (p counter st : Nat) (s : State) (is : s.tidy) : (State.discardQueued p counter st s).tidy := by
  simp (maxDischargeDepth := 30) (contextual := true) [State.discardQueued, *]

@[simp] theorem sendPause_tidy (p q : Nat) (s : State) (is : s.tidy) : (State.sendPause p q s).tidy := by
  simp (maxDischargeDepth := 30) [State.sendPause, *]

@[simp] theorem startFrame_tidy (p : Nat) (f : TxFrame) (s : State) (is : s.tidy) : (State.startFrame p f s).tidy := by
  simp (maxDischargeDepth := 30) [State.startFrame, *]

@[simp] theorem choose_tidy (p : Nat) (s : State) (is : s.tidy) : (State.choose p s).tidy := by
  (unfold State.choose; (try dsimp only); repeat' split) <;> simp (maxDischargeDepth := 30) [*]

@[simp] theorem resumePause_tidy (p : Nat) (s : State) (is : s.tidy) : (State.resumePause p s).tidy := by
  simp (maxDischargeDepth := 30) [State.resumePause, *]

@[simp] theorem rxPause_tidy (p q : Nat) (s : State) (is : s.tidy) : (State.rxPause p q s).tidy := by
  simp (maxDischargeDepth := 30) [State.rxPause, *]

@[simp] theorem countGood64_tidy (p : Nat) (s : State) (is : s.tidy) : (State.countGood64 p s).tidy := by
  simp (maxDischargeDepth := 30) (contextual := true) [State.countGood64, *]

@[simp] theorem sleepTx_tidy (p : Nat) (s : State) (is : s.tidy) : (State.sleepTx p s).tidy := by
  simp (maxDischargeDepth := 30) [State.sleepTx, *]

@[simp] theorem awake_tidy (p : Nat) (s : State) (is : s.tidy) : (State.awake p s).tidy := by
  simp (maxDischargeDepth := 30) (contextual := true) [State.awake, *]

@[simp] theorem startLane_tidy (p k cause : Nat) (loss : Bool) (s : State) (is : s.tidy) : (State.startLane p k cause loss s).tidy := by
  simp (maxDischargeDepth := 30) [State.startLane, *]

@[simp] theorem laneWorn_tidy (p : Nat) (s : State) (is : s.tidy) : (State.laneWorn p s).tidy := by
  (unfold State.laneWorn; repeat' split) <;> simp (maxDischargeDepth := 30) [*]

@[simp] theorem setLsel_tidy (k v : Nat) (s : State) (is : s.tidy) : (State.setLsel k v s).tidy := by
  simp (maxDischargeDepth := 30) [State.setLsel, *]

@[simp] theorem restoreLanes_tidy (s : State) (is : s.tidy) : (State.restoreLanes s).tidy := by
  simp (maxDischargeDepth := 30) (contextual := true) [State.restoreLanes, *]

@[simp] theorem clearLsel_tidy (s : State) (is : s.tidy) : (State.clearLsel s).tidy := by
  simp (maxDischargeDepth := 30) (contextual := true) [State.clearLsel, *]

@[simp] theorem cutFrame_tidy (p : Nat) (s : State) (is : s.tidy) : (State.cutFrame p s).tidy := by
  unfold State.cutFrame
  exact count_tidy _ _ _ _ (tidy_foldl _ _ _ (fun t w h => copyDone_tidy _ _ _ _ _ h) (modPort_tidy _ _ _ is))

@[simp] theorem linkDown_tidy (p : Nat) (remote : Bool) (s : State) (is : s.tidy) : (State.linkDown p remote s).tidy := by
  simp (maxDischargeDepth := 30) [State.linkDown, *]

@[simp] theorem modSrc_tidy (i : Nat) (f : Src → Src) (s : State) (is : s.tidy) : (State.modSrc i f s).tidy := by
  simp (maxDischargeDepth := 30) [State.modSrc, *]

@[simp] theorem setAlive_tidy (high : Bool) (s : State) (is : s.tidy) : (State.setAlive high s).tidy := by
  simp (maxDischargeDepth := 30) [State.setAlive, *]

@[simp] theorem aliveLevel_tidy (s : State) (is : s.tidy) : (State.aliveLevel s).tidy := by
  simp (maxDischargeDepth := 30) [State.aliveLevel, *]

@[simp] theorem retain_tidy (s : State) (is : s.tidy) : (State.retain s).tidy := by
  (unfold State.retain; (try dsimp only); repeat' split) <;> simp (maxDischargeDepth := 30) [*]

@[simp] theorem modRecord_tidy (f : Record → Record) (s : State) (is : s.tidy) : (State.modRecord f s).tidy := by
  simp (maxDischargeDepth := 30) [State.modRecord, *]

@[simp] theorem join_tidy (src k : Nat) (s : State) (is : s.tidy) : (State.join src k s).tidy := by
  (unfold State.join; (try dsimp only); repeat' split) <;> simp (maxDischargeDepth := 30) [*]

@[simp] theorem closeRecord_tidy (by_ : Nat) (s : State) (is : s.tidy) : (State.closeRecord by_ s).tidy := by
  have h (b : Prop) [Decidable b] (u : State) (i : u.tidy) : (if b then u.holdRelease else u).tidy := by
    split <;> simp [i]
  unfold State.closeRecord
  split
  · exact is
  · refine glSet_tidy _ _ (checkDegraded_tidy _ (h _ _ (tidy_foldl _ _ _ (fun t x i => atFrame_tidy _ _ i) (retain_tidy _ ?_))))
    simp [is]

@[simp] theorem clearMembers_tidy (l : List Nat) (by_ : Nat) (s : State) (is : s.tidy) : (State.clearMembers l by_ s).tidy := by
  simp (maxDischargeDepth := 30) (contextual := true) [State.clearMembers, *]

@[simp] theorem applyClear_tidy (x : Clear) (s : State) (is : s.tidy) : (State.applyClear x s).tidy := by
  have key : ∀ m, (State.applyClear.go x s m).tidy := fun m => by
    unfold State.applyClear.go
    repeat' split
    all_goals simp (maxDischargeDepth := 30) [is]
  unfold State.applyClear
  dsimp only
  repeat' split
  all_goals simp [key, is]

@[simp] theorem addEvents_tidy (s : State) (src : Nat) (is : s.tidy) : (State.addEvents s src).tidy := by
  simp (maxDischargeDepth := 30) [State.addEvents, *]

@[simp] theorem startRegionReset_tidy (r : Nat) (s : State) (is : s.tidy) : (State.startRegionReset r s).tidy := by
  simp (maxDischargeDepth := 30) [State.startRegionReset, *]

@[simp] theorem execute_tidy (action src : Nat) (s : State) (is : s.tidy) : (State.execute action src s).tidy := by
  (unfold State.execute; (try dsimp only); repeat' split) <;> simp (maxDischargeDepth := 30) [*]

@[simp] theorem recordReset_tidy (s : State) (is : s.tidy) : (State.recordReset s).tidy := by
  (unfold State.recordReset; (try dsimp only); repeat' split) <;> simp (maxDischargeDepth := 30) [*]

@[simp] theorem seeded_tidy (s : State) (is : s.tidy) : (State.seeded s).tidy := by
  simp (maxDischargeDepth := 30) (contextual := true) [State.seeded, *]

@[simp] theorem bootSlot_tidy (s : State) (is : s.tidy) : (State.bootSlot s).tidy := by
  simp (maxDischargeDepth := 30) (contextual := true) [State.bootSlot, *]

@[simp] theorem bootRom_tidy (s : State) (is : s.tidy) : (State.bootRom s).tidy := by
  simp (maxDischargeDepth := 30) [State.bootRom, *]

@[simp] theorem countHedge_tidy (i : Nat) (chanB : Bool) (s : State) (is : s.tidy) : (State.countHedge i chanB s).tidy := by
  simp (maxDischargeDepth := 30) [State.countHedge, *]

@[simp] theorem modChan_tidy (chanB : Bool) (f : Chan → Chan) (s : State) (is : s.tidy) : (State.modChan chanB f s).tidy := by
  simp (maxDischargeDepth := 30) [State.modChan, *]

@[simp] theorem checkIntegrated_tidy (was : Bool) (s : State) (is : s.tidy) : (State.checkIntegrated was s).tidy := by
  simp (maxDischargeDepth := 30) [State.checkIntegrated, *]

@[simp] theorem listen_tidy (s : State) (is : s.tidy) : (State.listen s).tidy := by
  simp (maxDischargeDepth := 30) [State.listen, *]

@[simp] theorem goPassive_tidy (s : State) (is : s.tidy) : (State.goPassive s).tidy := by
  simp (maxDischargeDepth := 30) [State.goPassive, *]

@[simp] theorem syncLost_tidy (s : State) (is : s.tidy) : (State.syncLost s).tidy := by
  simp (maxDischargeDepth := 30) [State.syncLost, *]

@[simp] theorem sendOn_tidy (a b : Bool) (frameId : Nat) (bytes : List Byte) (s : State) (is : s.tidy) : (State.sendOn a b frameId bytes s).tidy := by
  simp (maxDischargeDepth := 30) (contextual := true) [State.sendOn, *]

@[simp] theorem hedgeSend_tidy (frameId : Nat) (body : HedgeBody) (s : State) (is : s.tidy) : (State.hedgeSend frameId body s).tidy := by
  simp (maxDischargeDepth := 30) [State.hedgeSend, *]

@[simp] theorem readBack_tidy (chanB ok : Bool) (s : State) (is : s.tidy) : (State.readBack chanB ok s).tidy := by
  simp (maxDischargeDepth := 30) [State.readBack, *]

@[simp] theorem unread_tidy (s : State) (is : s.tidy) : (State.unread s).tidy := by
  simp (maxDischargeDepth := 30) (contextual := true) [State.unread, *]

theorem elementsAfter_wf (p : Bool) (s : State) (is : s.tidy) : mapWf Elem.park (s.elementsAfter p) = true := by
  unfold State.elementsAfter
  split
  · rfl
  · generalize List.range numElements = l
    exact mapModAll_wf _ _ _ _ is.elems

@[simp] theorem wiped_tidy (held : SMap Elem) (s : State) (is : mapWf Elem.park held = true) : (State.wiped held s).tidy :=
  ⟨is, rfl, rfl, rfl, rfl⟩

@[simp] theorem classReset_tidy (p : Bool) (cause : Nat) (s : State) (is : s.tidy) : (State.classReset p cause s).tidy := by
  unfold State.classReset
  dsimp only
  split
  · split <;> simp [is]
  · exact wiped_tidy _ _ (elementsAfter_wf _ _ is)

@[simp] theorem classF_tidy (s : State) (is : s.tidy) : (State.classF s).tidy := by
  simp (maxDischargeDepth := 30) [State.classF, *]

@[simp] theorem abortGroup_tidy (group : Nat) (s : State) (is : s.tidy) : (State.abortGroup group s).tidy := by
  simp (maxDischargeDepth := 30) (contextual := true) [State.abortGroup, *]

@[simp] theorem resetLoop_tidy (s : State) (is : s.tidy) : (State.resetLoop s).tidy := by
  simp (maxDischargeDepth := 30) [State.resetLoop, *]

@[simp] theorem resetPorts_tidy (s : State) (is : s.tidy) : (State.resetPorts s).tidy := by
  simp (maxDischargeDepth := 30) [State.resetPorts, *]

@[simp] theorem resetGates_tidy (s : State) (is : s.tidy) : (State.resetGates s).tidy := by
  simp (maxDischargeDepth := 30) [State.resetGates, *]

@[simp] theorem resetStreams_tidy (s : State) (is : s.tidy) : (State.resetStreams s).tidy := by
  simp (maxDischargeDepth := 30) [State.resetStreams, *]

theorem wfAbove_filterMap {α : Type} [DecidableEq α] (d : α) (f : α → α) (lo : Nat) (m : SMap α) (h : mapWfAbove d lo m = true) :
    mapWfAbove d lo ((m.map fun q => (q.1, f q.2)).filter fun q => q.2 ≠ d) = true := mapListed_wfAbove d (fun _ => f) lo m h

@[simp] theorem resetRules_tidy (s : State) (is : s.tidy) : (State.resetRules s).tidy :=
  ⟨is.elems, is.gates, wfAbove_filterMap _ _ _ _ is.flight, is.subq, is.vecs⟩

@[simp] theorem resetHedge_tidy (s : State) (is : s.tidy) : (State.resetHedge s).tidy := by
  simp (maxDischargeDepth := 30) [State.resetHedge, *]

@[simp] theorem classS_tidy (k : Nat) (s : State) (is : s.tidy) : (State.classS k s).tidy := by
  (unfold State.classS; repeat' split) <;> simp (maxDischargeDepth := 30) [*]

@[simp] theorem stepClears_tidy (s : State) (is : s.tidy) : (State.stepClears s).tidy := by
  simp (maxDischargeDepth := 30) (contextual := true) [State.stepClears, *]

@[simp] theorem stepWindows_tidy (s : State) (is : s.tidy) : (State.stepWindows s).tidy := by
  simp (maxDischargeDepth := 30) [State.stepWindows, *]

@[simp] theorem addInjected_tidy (real : List Nat) (s : State) (src : Nat) (is : s.tidy) : (State.addInjected real s src).tidy := by
  simp (maxDischargeDepth := 30) [State.addInjected, *]

@[simp] theorem stepEvents_tidy (s : State) (is : s.tidy) : (State.stepEvents s).tidy := by
  simp (maxDischargeDepth := 30) (contextual := true) [State.stepEvents, *]

@[simp] theorem stepShadow_tidy (s : State) (is : s.tidy) : (State.stepShadow s).tidy := by
  simp (maxDischargeDepth := 30) [State.stepShadow, *]

@[simp] theorem stepDeadlines_tidy (s : State) (is : s.tidy) : (State.stepDeadlines s).tidy := by
  (unfold State.stepDeadlines; (try dsimp only); repeat' split) <;> simp (maxDischargeDepth := 30) (contextual := true) [*]

@[simp] theorem lockstepFailure_tidy (s : State) (is : s.tidy) : (State.lockstepFailure s).tidy := by
  simp (maxDischargeDepth := 30) [State.lockstepFailure, *]

@[simp] theorem evaluationSteps_tidy (s : State) (is : s.tidy) : (State.evaluationSteps s).tidy := by
  simp (maxDischargeDepth := 30) [State.evaluationSteps, *]

@[simp] theorem severeNotReady_tidy (s : State) (is : s.tidy) : (State.severeNotReady s).tidy := by
  simp (maxDischargeDepth := 30) [State.severeNotReady, *]

@[simp] theorem evaluateGl_tidy (mismatch : Bool) (s : State) (is : s.tidy) : (State.evaluateGl mismatch s).tidy := by
  simp (maxDischargeDepth := 30) [State.evaluateGl, *]

@[simp] theorem restoreRegion_tidy (r : Nat) (s : State) (is : s.tidy) : (State.restoreRegion r s).tidy := by
  simp (maxDischargeDepth := 30) (contextual := true) [State.restoreRegion, *]

@[simp] theorem loopResetDone_tidy (s : State) (is : s.tidy) : (State.loopResetDone s).tidy := by
  (unfold State.loopResetDone; (try dsimp only); repeat' split) <;> simp (maxDischargeDepth := 30) [*]

@[simp] theorem glClear_tidy (v : Word) (s : State) (is : s.tidy) : (State.glClear v s).tidy := by
  simp (maxDischargeDepth := 30) [State.glClear, *]

@[simp] theorem injectOne_tidy (src : Nat) (s : State) (is : s.tidy) : (State.injectOne src s).tidy := by
  simp (maxDischargeDepth := 30) [State.injectOne, *]

@[simp] theorem userSave_tidy (group : Nat) (f : State → State) (s : State) (hf : ∀ t : State, t.tidy → (f t).tidy) (is : s.tidy) : (State.userSave group f s).1.tidy := by
  simp (maxDischargeDepth := 30) [State.userSave, *]

@[simp] theorem spoil_tidy (set : Nat) (s : State) (is : s.tidy) : (State.spoil set s).tidy := by
  simp (maxDischargeDepth := 30) [State.spoil, *]

@[simp] theorem sendItems_tidy (epoch : Word) (base : Bool) (items : List MirItem) (s : State) (is : s.tidy) : (State.sendItems epoch base items s).tidy := by
  simp (maxDischargeDepth := 30) (contextual := true) [State.sendItems, *]

@[simp] theorem wantsBaseline_tidy (s : State) (is : s.tidy) : (State.wantsBaseline s).tidy := by
  simp (maxDischargeDepth := 30) [State.wantsBaseline, *]

@[simp] theorem sawPartner_tidy (m : Mode) (control : Bool) (s : State) (is : s.tidy) : (State.sawPartner m control s).tidy := by
  simp (maxDischargeDepth := 30) [State.sawPartner, *]

@[simp] theorem sawPref_tidy (pref : Bool) (s : State) (is : s.tidy) : (State.sawPref pref s).tidy := by
  simp (maxDischargeDepth := 30) [State.sawPref, *]

@[simp] theorem adoptMoved_tidy (s : State) (is : s.tidy) : (State.adoptMoved s).tidy := by
  simp (maxDischargeDepth := 30) [State.adoptMoved, *]

@[simp] theorem genCheck_tidy (boundary : Nat) (s : State) (is : s.tidy) : (State.genCheck boundary s).tidy := by
  simp (maxDischargeDepth := 30) [State.genCheck, *]

@[simp] theorem sawGen_tidy (g : Word) (t : Nat) (s : State) (is : s.tidy) : (State.sawGen g t s).tidy := by
  (unfold State.sawGen; (try dsimp only); repeat' split) <;> simp (maxDischargeDepth := 30) (contextual := true) [*]

@[simp] theorem partnerHeartbeat_tidy (h : Heartbeat) (s0 : State) (is : s0.tidy) : (State.partnerHeartbeat h s0).tidy := by
  simp (maxDischargeDepth := 30) (contextual := true) [State.partnerHeartbeat, *]

@[simp] theorem partnerFrame_tidy (recs : List CommitRec) (s : State) (is : s.tidy) : (State.partnerFrame recs s).tidy := by
  simp (maxDischargeDepth := 30) [State.partnerFrame, *]

@[simp] theorem partnerCycle_tidy (heard : Bool) (s : State) (is : s.tidy) : (State.partnerCycle heard s).tidy := by
  simp (maxDischargeDepth := 30) [State.partnerCycle, *]

@[simp] theorem sawVersion_tidy (v : BitVec 16) (s : State) (is : s.tidy) : (State.sawVersion v s).tidy := by
  simp (maxDischargeDepth := 30) [State.sawVersion, *]

@[simp] theorem mlHeard_tidy (s : State) (is : s.tidy) : (State.mlHeard s).tidy := by
  simp (maxDischargeDepth := 30) [State.mlHeard, *]

@[simp] theorem checkReady_tidy (s : State) (is : s.tidy) : (State.checkReady s).tidy := by
  simp (maxDischargeDepth := 30) [State.checkReady, *]

@[simp] theorem logEpoch_tidy (x : EpochLog) (s : State) (is : s.tidy) : (State.logEpoch x s).tidy := by
  simp (maxDischargeDepth := 30) [State.logEpoch, *]

@[simp] theorem dropEpoch_tidy (epoch : Word) (s : State) (is : s.tidy) : (State.dropEpoch epoch s).tidy := by
  simp (maxDischargeDepth := 30) [State.dropEpoch, *]

@[simp] theorem discardEpoch_tidy (e : EpochIn) (fate : EpochFate) (digest : BitVec 64) (s : State) (is : s.tidy) : (State.discardEpoch e fate digest s).tidy := by
  simp (maxDischargeDepth := 30) [State.discardEpoch, *]

@[simp] theorem askBaseline_tidy (s : State) (is : s.tidy) : (State.askBaseline s).tidy := by
  simp (maxDischargeDepth := 30) [State.askBaseline, *]

@[simp] theorem openIn_tidy (epoch : Word) (base : Bool) (s : State) (is : s.tidy) : (State.openIn epoch base s).tidy := by
  (unfold State.openIn; (try dsimp only); repeat' split) <;> simp (maxDischargeDepth := 30) [*]

@[simp] theorem pairHeader_tidy (close : Nat) (s : State) (is : s.tidy) : (State.pairHeader close s).tidy := by
  simp (maxDischargeDepth := 30) [State.pairHeader, *]

@[simp] theorem itemArrived_tidy (epoch : Word) (base : Bool) (i : MirItem) (bs : List Byte) (s : State) (is : s.tidy) : (State.itemArrived epoch base i bs s).tidy := by
  (unfold State.itemArrived; (try dsimp only); repeat' split) <;> simp (maxDischargeDepth := 30) [*]

@[simp] theorem followMirror_tidy (base : Bool) (e : Nat) (m : MirElem) (s : State) (is : s.tidy) : (State.followMirror base e m s).tidy := by
  simp (maxDischargeDepth := 30) (contextual := true) [State.followMirror, *]

@[simp] theorem takeElement_tidy (slice base : Bool) (e : Nat) (m : MirElem) (s : State) (is : s.tidy) : (State.takeElement slice base e m s).tidy := by
  simp (maxDischargeDepth := 30) [State.takeElement, *]

@[simp] theorem takeArmed_tidy (fcq : Option (Nat × Nat)) (ws : List Word) (s : State) (is : s.tidy) : (State.takeArmed fcq ws s).tidy := by
  simp (maxDischargeDepth := 30) [State.takeArmed, *]

@[simp] theorem takeEnd_tidy (id outcome detail : Nat) (s : State) (is : s.tidy) : (State.takeEnd id outcome detail s).tidy := by
  simp (maxDischargeDepth := 30) [State.takeEnd, *]

@[simp] theorem takeFailed_tidy (plane stage cell : Nat) (entry : Option (FailKind × Evidence × Nat)) (s : State) (is : s.tidy) : (State.takeFailed plane stage cell entry s).tidy := by
  (unfold State.takeFailed; (try dsimp only); repeat' split) <;> simp (maxDischargeDepth := 30) (contextual := true) [*]

@[simp] theorem applyItem_tidy (slice base : Bool) (i : MirItem) (s : State) (is : s.tidy) : (State.applyItem slice base i s).tidy := by
  (unfold State.applyItem; (try dsimp only); repeat' split) <;> simp (maxDischargeDepth := 30) [*]

@[simp] theorem clearMirror_tidy (l : List MirItem) (s : State) (is : s.tidy) : (State.clearMirror l s).tidy := by
  simp (maxDischargeDepth := 30) [State.clearMirror, *]

@[simp] theorem applyItems_tidy (base slice : Bool) (l : List MirItem) (s : State) (is : s.tidy) : (applyItems base slice l s).tidy := by
  induction l generalizing slice s with
  | nil => exact is
  | cons i l ih => cases i <;> exact ih _ _ (applyItem_tidy _ _ _ _ is)

@[simp] theorem applyEpoch_tidy (e : EpochIn) (digest : BitVec 64) (s : State) (is : s.tidy) : (State.applyEpoch e digest s).tidy := by
  unfold State.applyEpoch
  dsimp only
  generalize he : (if e.opens then s.clearMirror e.items else s) = s0
  have h0 : s0.tidy := by rw [← he]; split <;> simp [is]
  refine checkReady_tidy _ (genCheck_tidy _ _ (logEpoch_tidy _ _ (refreshMap_tidy _ ?_)))
  rw [tidy_mk]
  exact dropEpoch_tidy _ _ (applyItems_tidy _ _ _ _ h0)

@[simp] theorem startHandback_tidy (s : State) (is : s.tidy) : (State.startHandback s).tidy := by
  (unfold State.startHandback; (try dsimp only); repeat' split) <;> simp (maxDischargeDepth := 30) [*]

@[simp] theorem reanchorSheaves_tidy (s : State) (is : s.tidy) : (State.reanchorSheaves s).tidy := by
  unfold State.reanchorSheaves
  exact settle_tidy _ _ _ (tidy_foldl _ _ _ (fun t x h => by simp [h]) (tidy_foldl _ _ _ (fun t x h => by simp [h]) is))

@[simp] theorem abortCaptures_tidy (s : State) (is : s.tidy) : (State.abortCaptures s).tidy := by
  simp (maxDischargeDepth := 30) [State.abortCaptures, *]

@[simp] theorem clearCycle_tidy (s : State) (is : s.tidy) : (State.clearCycle s).tidy := by
  simp (maxDischargeDepth := 30) [State.clearCycle, *]

@[simp] theorem reanchor_tidy (tag : Tag) (c : BitVec 96) (s : State) (is : s.tidy) : (State.reanchor tag c s).tidy := by
  simp (maxDischargeDepth := 30) (contextual := true) [State.reanchor, *]

@[simp] theorem selectSource_tidy (p f : Source) (s : State) (is : s.tidy) : (State.selectSource p f s).tidy := by
  simp (maxDischargeDepth := 30) [State.selectSource, *]

@[simp] theorem takeCommits_tidy (n : Nat) (s : State) (is : s.tidy) : (State.takeCommits n s).tidy := by
  simp (maxDischargeDepth := 30) [State.takeCommits, *]

@[simp] theorem measureSync_tidy (chanB : Bool) (node : Nat) (body : HedgeBody) (stamp : Int) (s : State) (is : s.tidy) : (State.measureSync chanB node body stamp s).tidy := by
  (unfold State.measureSync; (try dsimp only); repeat' split) <;> simp (maxDischargeDepth := 30) [*]

@[simp] theorem ringNotice_tidy (node : Nat) (n : Notice) (stamp : Int) (s : State) (is : s.tidy) : (State.ringNotice node n stamp s).tidy := by
  simp (maxDischargeDepth := 30) [State.ringNotice, *]

@[simp] theorem takeContent_tidy (node : Nat) (body : HedgeBody) (stamp : Int) (s : State) (is : s.tidy) : (State.takeContent node body stamp s).tidy := by
  (unfold State.takeContent; (try dsimp only); repeat' split) <;> simp (maxDischargeDepth := 30) [*]

@[simp] theorem takeCopy_tidy (chanB : Bool) (slot node : Nat) (payload : List Byte) (body : HedgeBody) (stamp : Int) (s : State) (is : s.tidy) : (State.takeCopy chanB slot node payload body stamp s).tidy := by
  (unfold State.takeCopy; (try dsimp only); repeat' split) <;> simp (maxDischargeDepth := 30) (contextual := true) [*]

@[simp] theorem accepted_tidy (chanB sync : Bool) (s : State) (is : s.tidy) : (State.accepted chanB sync s).tidy := by
  simp (maxDischargeDepth := 30) [State.accepted, *]

@[simp] theorem coldAbort_tidy (s : State) (is : s.tidy) : (State.coldAbort s).tidy := by
  simp (maxDischargeDepth := 30) [State.coldAbort, *]

@[simp] theorem integrate_tidy (h : Heartbeat) (cycle d : Nat) (stamp : Int) (s : State) (is : s.tidy) : (State.integrate h cycle d stamp s).tidy := by
  simp (maxDischargeDepth := 30) [State.integrate, *]

@[simp] theorem foundShelf_tidy (chanB : Bool) (slot : Nat) (x : HedgeHead) (body : HedgeBody) (stamp : Int) (s : State) (is : s.tidy) : (State.foundShelf chanB slot x body stamp s).tidy := by
  (unfold State.foundShelf; (try dsimp only); repeat' split) <;> simp (maxDischargeDepth := 30) (contextual := true) [*]

@[simp] theorem ownFrame_tidy (chanB ok sync : Bool) (frameId : Nat) (bytes : List Byte) (s : State) (is : s.tidy) : (State.ownFrame chanB ok sync frameId bytes s).tidy := by
  simp (maxDischargeDepth := 30) (contextual := true) [State.ownFrame, *]

@[simp] theorem heldBy_tidy (chanB : Bool) (slot n : Nat) (stamp : Int) (s : State) (is : s.tidy) : (State.heldBy chanB slot n stamp s).tidy := by
  simp (maxDischargeDepth := 30) (contextual := true) [State.heldBy, *]

@[simp] theorem hedgeFrame_tidy (chanB : Bool) (slot : Nat) (rx : HedgeRx) (stamp : Int) (s : State) (is : s.tidy) : (State.hedgeFrame chanB slot rx stamp s).tidy := by
  (unfold State.hedgeFrame; (try dsimp only); repeat' split) <;> simp (maxDischargeDepth := 30) [*]

@[simp] theorem hedgeMeasure_tidy (o rEst : Int) (s : State) (is : s.tidy) : (State.hedgeMeasure o rEst s).tidy := by
  simp (maxDischargeDepth := 30) (contextual := true) [State.hedgeMeasure, *]

@[simp] theorem rateUpdate_tidy (s : State) (is : s.tidy) : (State.rateUpdate s).tidy := by
  (unfold State.rateUpdate; (try dsimp only); repeat' split) <;> simp (maxDischargeDepth := 30) (contextual := true) [*]

@[simp] theorem missedHeartbeats_tidy (s : State) (is : s.tidy) : (State.missedHeartbeats s).tidy := by
  simp (maxDischargeDepth := 30) (contextual := true) [State.missedHeartbeats, *]

@[simp] theorem enterActive_tidy (s : State) (is : s.tidy) : (State.enterActive s).tidy := by
  simp (maxDischargeDepth := 30) [State.enterActive, *]

@[simp] theorem zeroStep_tidy (s : State) (is : s.tidy) : (State.zeroStep s).tidy := by
  simp (maxDischargeDepth := 30) [State.zeroStep, *]

@[simp] theorem cycleState_tidy (s : State) (is : s.tidy) : (State.cycleState s).tidy := by
  (unfold State.cycleState; (try dsimp only); repeat' split) <;> simp (maxDischargeDepth := 30) (contextual := true) [*]

@[simp] theorem nextCycle_tidy (s : State) (is : s.tidy) : (State.nextCycle s).tidy := by
  simp (maxDischargeDepth := 30) [State.nextCycle, *]

@[simp] theorem takeCounters_tidy (l : List (Nat × Nat)) (s : State) (is : s.tidy) : (State.takeCounters l s).tidy := by
  simp (maxDischargeDepth := 30) (contextual := true) [State.takeCounters, *]

@[simp] theorem caughtUp_tidy (id : Nat) (s : State) (is : s.tidy) : (State.caughtUp id s).tidy := by
  simp (maxDischargeDepth := 30) [State.caughtUp, *]

@[simp] theorem mlFrame_tidy (f : MlFrame) (s : State) (is : s.tidy) : (State.mlFrame f s).tidy := by
  (unfold State.mlFrame; (try dsimp only); repeat' split) <;> simp (maxDischargeDepth := 30) [*]

@[simp] theorem lagCheck_tidy (bytes : Nat) (s : State) (is : s.tidy) : (State.lagCheck bytes s).tidy := by
  simp (maxDischargeDepth := 30) [State.lagCheck, *]

@[simp] theorem openEpoch_tidy (epoch : Word) (s : State) (is : s.tidy) : (State.openEpoch epoch s).tidy := by
  simp (maxDischargeDepth := 30) [State.openEpoch, *]

@[simp] theorem sendEpoch_tidy (close : Nat) (s0 : State) (is : s0.tidy) : (State.sendEpoch close s0).tidy := by
  simp (maxDischargeDepth := 30) (contextual := true) [State.sendEpoch, *]

@[simp] theorem digestFail_tidy (s : State) (is : s.tidy) : (State.digestFail s).tidy := by
  simp (maxDischargeDepth := 30) [State.digestFail, *]

@[simp] theorem giveControl_tidy (s : State) (is : s.tidy) : (State.giveControl s).tidy := by
  simp (maxDischargeDepth := 30) [State.giveControl, *]

@[simp] theorem takeHandback_tidy (t : Nat) (s : State) (is : s.tidy) : (State.takeHandback t s).tidy := by
  simp (maxDischargeDepth := 30) [State.takeHandback, *]

@[simp] theorem takeCommand_tidy (c : InFlight) (s : State) (is : s.tidy) : (State.takeCommand c s).tidy := by
  simp (maxDischargeDepth := 30) [State.takeCommand, *]

@[simp] theorem ring_tidy (m : Nat) (s : State) (is : s.tidy) : (State.ring m s).tidy := by
  (unfold State.ring; (try dsimp only); repeat' split) <;> simp (maxDischargeDepth := 30) [*]

@[simp] theorem writeSlot_tidy (bs : List Byte) (s : State) (is : s.tidy) : (State.writeSlot bs s).tidy := by
  simp (maxDischargeDepth := 30) [State.writeSlot, *]

@[simp] theorem fwData_tidy (offset : Nat) (bs : List Byte) (s : State) (is : s.tidy) : (State.fwData offset bs s).1.tidy := by
  simp (maxDischargeDepth := 30) [State.fwData, *]

@[simp] theorem stageImage_tidy (img : List Byte) (s : State) (is : s.tidy) : (State.stageImage img s).tidy := by
  simp (maxDischargeDepth := 30) [State.stageImage, *]

@[simp] theorem startLoopReset_tidy (tag : Tag) (s : State) (is : s.tidy) : (State.startLoopReset tag s).tidy := by
  (unfold State.startLoopReset; (try dsimp only); repeat' split) <;> simp (maxDischargeDepth := 30) [*]

@[simp] theorem modShadow_tidy (f : Generation → Generation) (s : State) (is : s.tidy) : (State.modShadow f s).tidy := by
  simp (maxDischargeDepth := 30) [State.modShadow, *]

@[simp] theorem countRule_tidy (i : Nat) (s : State) (is : s.tidy) : (State.countRule i s).tidy := by
  simp (maxDischargeDepth := 30) [State.countRule, *]

@[simp] theorem swapNow_tidy (at_ : Nat) (s : State) (is : s.tidy) : (State.swapNow at_ s).tidy := by
  simp (maxDischargeDepth := 30) (contextual := true) [State.swapNow, *]

@[simp] theorem swapDue_tidy (s : State) (is : s.tidy) : (State.swapDue s).tidy := by
  (unfold State.swapDue; repeat' split) <;> simp (maxDischargeDepth := 30) (contextual := true) [*]

@[simp] theorem swapDrained_tidy (s : State) (is : s.tidy) : (State.swapDrained s).tidy := by
  (unfold State.swapDrained; (try dsimp only); repeat' split) <;> simp (maxDischargeDepth := 30) (contextual := true) [*]

@[simp] theorem countFound_tidy (x : RuleSource) (s : State) (is : s.tidy) : (State.countFound x s).tidy := by
  (unfold State.countFound; repeat' split) <;> simp (maxDischargeDepth := 30) [*]

@[simp] theorem modPkt_tidy (p id : Nat) (f : Pkt → Pkt) (s : State) (is : s.tidy) : (State.modPkt p id f s).tidy := by
  simp (maxDischargeDepth := 30) [State.modPkt, *]

@[simp] theorem classify_tidy (t : Thread) (e : PassEnd) (s : State) (is : s.tidy) : (State.classify t e s).tidy := by
  have c (b : Prop) [Decidable b] (n : Nat) (u : State) (h : u.tidy) : (if b then u.countRule n else u).tidy := by
    split <;> simp [h]
  unfold State.classify
  refine modPkt_tidy _ _ _ _ (c _ _ _ (c _ _ _ (c _ _ _ ?_)))
  cases e <;> simp [is]

@[simp] theorem endPass_tidy (n : Nat) (t : Thread) (e : PassEnd) (s : State) (is : s.tidy) : (State.endPass n t e s).tidy := by
  (unfold State.endPass; (try dsimp only); repeat' split) <;> simp (maxDischargeDepth := 30) [*]

@[simp] theorem runThread_tidy (n op : Nat) (f : List Byte → Word → Thread → Thread × Option PassEnd) (s : State) (is : s.tidy) : (State.runThread n op f s).tidy := by
  (unfold State.runThread; (try dsimp only); repeat' split) <;> simp (maxDischargeDepth := 30) [*]

@[simp] theorem attestAt_tidy (tag : Tag) (nonce : BitVec 256) (s : State) (is : s.tidy) : (State.attestAt tag nonce s).tidy := by
  simp (maxDischargeDepth := 30) (contextual := true) [State.attestAt, *]

@[simp] theorem advanceLifecycle_tidy (s : State) (is : s.tidy) : (State.advanceLifecycle s).tidy := by
  simp (maxDischargeDepth := 30) [State.advanceLifecycle, *]

@[simp] theorem edge_tidy (s : State) (is : s.tidy) : (State.edge s).tidy := by
  unfold State.edge
  split
  · exact loadStep_tidy _ _ is
  · exact ⟨is.elems, is.gates, is.flight, is.subq, is.vecs⟩
  · exact ⟨is.elems, is.gates, is.flight, is.subq, is.vecs⟩

@[simp] theorem frameAct_tidy (s : State) (a : FrameAct) (is : s.tidy) : (State.frameAct s a).tidy := by
  cases a <;> simp (maxDischargeDepth := 30) (contextual := true) [State.frameAct, *]

@[simp] theorem loopFrames_tidy (s : State) (is : s.tidy) : (State.loopFrames s).tidy := by
  simp (maxDischargeDepth := 30) (contextual := true) [State.loopFrames, *]

@[simp] theorem tbTick_tidy (s : State) (is : s.tidy) : (State.tbTick s).tidy := by
  simp (maxDischargeDepth := 30) [State.tbTick, *]

@[simp] theorem setPwrEn_tidy (high : Bool) (s : State) (is : s.tidy) : (State.setPwrEn high s).tidy := by
  simp (maxDischargeDepth := 30) [State.setPwrEn, *]

@[simp] theorem loadParams_tidy (s : State) (is : s.tidy) : (State.loadParams s).tidy := by
  simp (maxDischargeDepth := 30) (contextual := true) [State.loadParams, *]

@[simp] theorem identify_tidy (s : State) (is : s.tidy) : (State.identify s).tidy := by
  simp (maxDischargeDepth := 30) [State.identify, *]

@[simp] theorem startCalibrate_tidy (s : State) (is : s.tidy) : (State.startCalibrate s).tidy := by
  simp (maxDischargeDepth := 30) [State.startCalibrate, *]

@[simp] theorem startFactoryTest_tidy (s : State) (is : s.tidy) : (State.startFactoryTest s).tidy := by
  simp (maxDischargeDepth := 30) [State.startFactoryTest, *]

@[simp] theorem startSave_tidy (s : State) (is : s.tidy) : (State.startSave s).tidy := by
  simp (maxDischargeDepth := 30) [State.startSave, *]

@[simp] theorem blockFallback_tidy (loc : Nat) (s : State) (is : s.tidy) : (State.blockFallback loc s).tidy := by
  simp (maxDischargeDepth := 30) [State.blockFallback, *]

@[simp] theorem trimChan_tidy (ch cause part : Nat) (s : State) (is : s.tidy) : (State.trimChan ch cause part s).tidy := by
  simp (maxDischargeDepth := 30) (contextual := true) [State.trimChan, *]

@[simp] theorem visitChan_tidy (both : Bool) (s : State) (ch : Nat) (is : s.tidy) : (State.visitChan both s ch).tidy := by
  simp (maxDischargeDepth := 30) (contextual := true) [State.visitChan, *]

@[simp] theorem askSelect_tidy (before : List Nat) (s : State) (is : s.tidy) : (State.askSelect before s).tidy := by
  simp (maxDischargeDepth := 30) (contextual := true) [State.askSelect, *]

@[simp] theorem electrical_tidy (e : Nat) (s : State) (is : s.tidy) : (State.electrical e s).tidy := by
  unfold State.electrical
  dsimp only
  refine drawn_tidy _ (askSelect_tidy _ _ ?_)
  rw [tidy_mk]
  exact tidy_foldl _ _ _ (fun t x h => visitChan_tidy _ _ _ h) is

@[simp] theorem recalElement_tidy (e : Nat) (s : State) (is : s.tidy) : (State.recalElement e s).tidy := by
  simp (maxDischargeDepth := 30) [State.recalElement, *]

@[simp] theorem startSubst_tidy (region block cell : Nat) (whole : Bool) (cause source events : Nat) (s : State) (is : s.tidy) : (State.startSubst region block cell whole cause source events s).tidy := by
  simp (maxDischargeDepth := 30) [State.startSubst, *]

@[simp] theorem loseCell_tidy (region block cell : Nat) (s : State) (is : s.tidy) : (State.loseCell region block cell s).tidy := by
  simp (maxDischargeDepth := 30) [State.loseCell, *]

@[simp] theorem loseBlock_tidy (region block : Nat) (s : State) (is : s.tidy) : (State.loseBlock region block s).tidy := by
  simp (maxDischargeDepth := 30) [State.loseBlock, *]

@[simp] theorem wantBlock_tidy (region block cause source events : Nat) (s : State) (is : s.tidy) : (State.wantBlock region block cause source events s).tidy := by
  simp (maxDischargeDepth := 30) [State.wantBlock, *]

@[simp] theorem wantCell_tidy (region block cell cause source events : Nat) (s : State) (is : s.tidy) : (State.wantCell region block cell cause source events s).tidy := by
  simp (maxDischargeDepth := 30) [State.wantCell, *]

@[simp] theorem repairRow_tidy (inst row cause events : Nat) (s : State) (is : s.tidy) : (State.repairRow inst row cause events s).tidy := by
  simp (maxDischargeDepth := 30) [State.repairRow, *]

@[simp] theorem replaceSegment_tidy (ch seg : Nat) (s : State) (is : s.tidy) : (State.replaceSegment ch seg s).tidy := by
  simp (maxDischargeDepth := 30) [State.replaceSegment, *]

@[simp] theorem clearBlock_tidy (es : List Nat) (s : State) (is : s.tidy) : (State.clearBlock es s).tidy := by
  simp (maxDischargeDepth := 30) [State.clearBlock, *]

@[simp] theorem abortFor_tidy (es : List Nat) (s : State) (is : s.tidy) : (State.abortFor es s).tidy := by
  simp (maxDischargeDepth := 30) [State.abortFor, *]

@[simp] theorem bandgapCheck_tidy (a b c : Nat) (s : State) (is : s.tidy) : (State.bandgapCheck a b c s).tidy := by
  (unfold State.bandgapCheck; (try dsimp only); repeat' split) <;> simp (maxDischargeDepth := 30) (contextual := true) [*]

@[simp] theorem smbUpdate_tidy (s : State) (is : s.tidy) : (State.smbUpdate s).tidy := by
  simp (maxDischargeDepth := 30) (contextual := true) [State.smbUpdate, *]

@[simp] theorem temperatures_tidy (junction : Int) (diodes : List Int) (s : State) (is : s.tidy) : (State.temperatures junction diodes s).tidy := by
  unfold State.temperatures
  dsimp only
  refine tidy_foldl _ _ _ (fun t x h => ?_) ?_
  · split
    · exact h
    · split <;> simp [h]
  · split <;> simp [is]

@[simp] theorem retable_tidy (line : Nat) (twin : Bool) (s : State) (is : s.tidy) : (State.retable line twin s).tidy := by
  simp (maxDischargeDepth := 30) (contextual := true) [State.retable, *]

@[simp] theorem lineFallback_tidy (line : Nat) (s : State) (is : s.tidy) : (State.lineFallback line s).tidy := by
  simp (maxDischargeDepth := 30) [State.lineFallback, *]

@[simp] theorem visit_tidy (e : Nat) (s : State) (is : s.tidy) : (State.visit e s).tidy := by
  simp (maxDischargeDepth := 30) (contextual := true) [State.visit, *]

@[simp] theorem calLoad_tidy (s : State) (is : s.tidy) : (State.calLoad s).tidy := by
  unfold State.calLoad
  dsimp only
  split
  · refine raise_tidy _ _ ⟨?_, is.gates, is.flight, is.subq, is.vecs⟩
    dsimp only
    split <;> simp [is]
  · exact startStage_tidy _ _ (tidy_foldl _ _ _ (fun t f h => driveFailed_tidy _ _ _ _ _ h)
      ⟨is.elems, is.gates, is.flight, is.subq, is.vecs⟩)

@[simp] theorem referencesStage_tidy (s : State) (is : s.tidy) : (State.referencesStage s).tidy := by
  simp (maxDischargeDepth := 30) (contextual := true) [State.referencesStage, *]

@[simp] theorem timingStage_tidy (s : State) (is : s.tidy) : (State.timingStage s).tidy := by
  simp (maxDischargeDepth := 30) [State.timingStage, *]

@[simp] theorem elementsStage_tidy (s : State) (is : s.tidy) : (State.elementsStage s).tidy := by
  unfold State.elementsStage
  refine startStage_tidy _ _ ?_
  split
  · refine tidy_foldl _ _ _ (fun t g h => ?_) (drawn_tidy _ ⟨is.elems, is.gates, is.flight, is.subq, is.vecs⟩)
    split
    · exact declareFailed_tidy _ _ _ _ _ _ h
    · exact h
  · exact is

@[simp] theorem modCq_tidy (q : Nat) (f : ComplQ → ComplQ) (s : State) (is : s.tidy) : (State.modCq q f s).tidy := by
  simp (maxDischargeDepth := 30) [State.modCq, *]

@[simp] theorem queueError_tidy (k code : Nat) (index : Word) (s : State) (is : s.tidy) : (State.queueError k code index s).tidy := by
  simp (maxDischargeDepth := 30) [State.queueError, *]

@[simp] theorem noteFailures_tidy (k : Nat) (s : State) (is : s.tidy) : (State.noteFailures k s).tidy := by
  simp (maxDischargeDepth := 30) [State.noteFailures, *]

@[simp] theorem endVisit_tidy (s : State) (is : s.tidy) : (State.endVisit s).tidy := by
  simp (maxDischargeDepth := 30) [State.endVisit, *]

@[simp] theorem newRound_tidy (s : State) (is : s.tidy) : (State.newRound s).tidy := by
  simp (maxDischargeDepth := 30) [State.newRound, *]

@[simp] theorem visited_tidy (place n : Nat) (s : State) (is : s.tidy) : (State.visited place n s).tidy := by
  simp (maxDischargeDepth := 30) [State.visited, *]

@[simp] theorem fetchTx_tidy (place : Nat) (entries : List Descriptor) (bytes : List Byte) (s : State) (is : s.tidy) : (State.fetchTx place entries bytes s).tidy := by
  (unfold State.fetchTx; (try dsimp only); repeat' split) <;> simp (maxDischargeDepth := 30) [*]

@[simp] theorem fetchFcq_tidy (place : Nat) (d : Descriptor) (s : State) (is : s.tidy) : (State.fetchFcq place d s).tidy := by
  simp (maxDischargeDepth := 30) [State.fetchFcq, *]

@[simp] theorem launch_tidy (k : Nat) (x : Slot) (t : TxPend) (s : State) (is : s.tidy) : (State.launch k x t s).tidy := by
  (unfold State.launch; (try dsimp only); repeat' split) <;> simp (maxDischargeDepth := 30) [*]

@[simp] theorem bufferError_tidy (k : Nat) (x : Slot) (s : State) (is : s.tidy) : (State.bufferError k x s).tidy := by
  simp (maxDischargeDepth := 30) [State.bufferError, *]

@[simp] theorem dmaEvent_tidy (s : State) (is : s.tidy) : (State.dmaEvent s).tidy := by
  simp (maxDischargeDepth := 30) [State.dmaEvent, *]

@[simp] theorem bufferAnswered_tidy (k : Nat) (ok : Bool) (s : State) (is : s.tidy) : (State.bufferAnswered k ok s).tidy := by
  (unfold State.bufferAnswered; (try dsimp only); repeat' split) <;> simp (maxDischargeDepth := 30) [*]

@[simp] theorem recordAnswered_tidy (k : Nat) (ok : Bool) (words : List Word) (s : State) (is : s.tidy) : (State.recordAnswered k ok words s).tidy := by
  (unfold State.recordAnswered; (try dsimp only); repeat' split) <;> simp (maxDischargeDepth := 30) [*]

@[simp] theorem writeEntry_tidy (q : Nat) (bytes : List Byte) (s : State) (is : s.tidy) : (State.writeEntry q bytes s).tidy := by
  simp (maxDischargeDepth := 30) [State.writeEntry, *]

@[simp] theorem writeCompl_tidy (q : Nat) (n : NextCompl) (s : State) (is : s.tidy) : (State.writeCompl q n s).tidy := by
  (unfold State.writeCompl; (try dsimp only); repeat' split) <;> simp (maxDischargeDepth := 30) [*]

@[simp] theorem completeOne_tidy (q : Nat) (s : State) (is : s.tidy) : (State.completeOne q s).tidy := by
  (unfold State.completeOne; (try dsimp only); repeat' split) <;> simp (maxDischargeDepth := 30) [*]

@[simp] theorem deliver_tidy (v : Nat) (s : State) (is : s.tidy) : (State.deliver v s).tidy := by
  simp (maxDischargeDepth := 30) [State.deliver, *]

@[simp] theorem completeAll_tidy (q n : Nat) (s : State) (is : s.tidy) : (State.completeAll q n s).tidy := by
  induction n generalizing s with
  | zero => exact is
  | succ n ih =>
    rw [State.completeAll]
    split
    · exact is
    · exact ih _ (completeOne_tidy _ _ is)

@[simp] theorem resume_tidy (t : Nat) (s : State) (is : s.tidy) : (State.resume t s).tidy := by
  unfold State.resume
  dsimp only
  refine tidy_foldl _ _ _ (fun t x h => deliver_tidy _ _ h) (tidy_foldl _ _ _ (fun t x h => noteFailures_tidy _ _ h)
    (tidy_foldl _ _ _ (fun t x h => completeAll_tidy _ _ _ h) ?_))
  simp (maxDischargeDepth := 30) [is]

@[simp] theorem away_tidy (s : State) (is : s.tidy) : (State.away s).tidy := by
  simp (maxDischargeDepth := 30) [State.away, *]

@[simp] theorem back_tidy (s : State) (is : s.tidy) : (State.back s).tidy := by
  simp (maxDischargeDepth := 30) [State.back, *]

@[simp] theorem writeIc_tidy (o : Nat) (v : Word) (s : State) (is : s.tidy) : (State.writeIc o v s).tidy := by
  simp (maxDischargeDepth := 30) [State.writeIc, *]

@[simp] theorem memoryError_tidy (e : MemErr) (s : State) (is : s.tidy) : (State.memoryError e s).tidy := by
  (unfold State.memoryError; (try dsimp only); repeat' split) <;> simp (maxDischargeDepth := 30) [*]

@[simp] theorem tapSelect_tidy (i : TapIr) (s : State) (is : s.tidy) : (State.tapSelect i s).tidy := by
  simp (maxDischargeDepth := 30) [State.tapSelect, *]

@[simp] theorem toFlight_tidy (p : Nat) (bs : List Byte) (ts : Nat) (s : State) (is : s.tidy) : (State.toFlight p bs ts s).tidy := by
  simp (maxDischargeDepth := 30) (contextual := true) [State.toFlight, *]

@[simp] theorem toThresher_tidy (p : Nat) (bs : List Byte) (ts : Nat) (s : State) (is : s.tidy) : (State.toThresher p bs ts s).tidy := by
  simp (maxDischargeDepth := 30) [State.toThresher, *]

@[simp] theorem badFrame_tidy (p : Nat) (bs : List Byte) (flags : Byte) (ts : Nat) (s : State) (is : s.tidy) : (State.badFrame p bs flags ts s).tidy := by
  simp (maxDischargeDepth := 30) [State.badFrame, *]

@[simp] theorem countGood_tidy (p : Nat) (bs : List Byte) (s : State) (is : s.tidy) : (State.countGood p bs s).tidy := by
  simp (maxDischargeDepth := 30) [State.countGood, *]

@[simp] theorem filtered_tidy (p : Nat) (bs : List Byte) (ts n : Nat) (e : List Word) (gptp : Bool) (s : State) (is : s.tidy) : (State.filtered p bs ts n e gptp s).tidy := by
  simp (maxDischargeDepth := 30) [State.filtered, *]

@[simp] theorem goodFrame_tidy (p : Nat) (bs : List Byte) (ts : Nat) (s : State) (is : s.tidy) : (State.goodFrame p bs ts s).tidy := by
  (unfold State.goodFrame; (try dsimp only); repeat' split) <;> simp (maxDischargeDepth := 30) [*]

@[simp] theorem receive_tidy (p : Nat) (f : RxFrame) (ts maxLen : Nat) (s : State) (is : s.tidy) : (State.receive p f ts maxLen s).tidy := by
  simp (maxDischargeDepth := 30) (contextual := true) [State.receive, *]

@[simp] theorem assemblyError_tidy (p : Nat) (s : State) (is : s.tidy) : (State.assemblyError p s).tidy := by
  (unfold State.assemblyError; (try dsimp only); repeat' split) <;> simp (maxDischargeDepth := 30) [*]

@[simp] theorem fragment_tidy (p frag : Nat) (bs : List Byte) (final crcOk : Bool) (r : Reassembly) (s : State) (is : s.tidy) : (State.fragment p frag bs final crcOk r s).tidy := by
  simp (maxDischargeDepth := 30) (contextual := true) [State.fragment, *]

@[simp] theorem mpacket_tidy (p : Nat) (m : MPacket) (s : State) (is : s.tidy) : (State.mpacket p m s).tidy := by
  (unfold State.mpacket; (try dsimp only); repeat' split) <;> simp (maxDischargeDepth := 30) [*]

@[simp] theorem fecCounts_tidy (p : Nat) (s : State) (is : s.tidy) : (State.fecCounts p s).tidy := by
  simp (maxDischargeDepth := 30) (contextual := true) [State.fecCounts, *]

@[simp] theorem laneDone_tidy (port : Nat) (c : LaneSubst) (s : State) (is : s.tidy) : (State.laneDone port c s).tidy := by
  simp (maxDischargeDepth := 30) (contextual := true) [State.laneDone, *]

@[simp] theorem countAction_tidy (a : List Word) (octets : Nat) (s : State) (is : s.tidy) : (State.countAction a octets s).tidy := by
  simp (maxDischargeDepth := 30) [State.countAction, *]

@[simp] theorem copyMp_tidy (p : Nat) (x : Pkt) (v : Verdict) (s : State) (is : s.tidy) : (State.copyMp p x v s).tidy := by
  simp (maxDischargeDepth := 30) [State.copyMp, *]

@[simp] theorem forward_tidy (ingress p tc : Nat) (b : List Byte) (s : State) (is : s.tidy) : (State.forward ingress p tc b s).1.tidy := by
  simp (maxDischargeDepth := 30) [State.forward, *]

@[simp] theorem mirrorCopy_tidy (p k : Nat) (x : Pkt) (s : State) (is : s.tidy) : (State.mirrorCopy p k x s).tidy := by
  (unfold State.mirrorCopy; (try dsimp only); repeat' split) <;> simp (maxDischargeDepth := 30) [*]

@[simp] theorem dispose_tidy (p : Nat) (x : Pkt) (v : Verdict) (s : State) (is : s.tidy) : (State.dispose p x v s).tidy := by
  (unfold State.dispose; (try dsimp only); repeat' split) <;> simp (maxDischargeDepth := 30) [*]

@[simp] theorem cancelSheaf_tidy (id : Nat) (s : State) (is : s.tidy) : (State.cancelSheaf id s).1.tidy := by
  (unfold State.cancelSheaf; repeat' split) <;> simp (maxDischargeDepth := 30) [*]

@[simp] theorem solveCommand_tidy (r : SolveReq) (dry okReq : Bool) (s : State) (is : s.tidy) : (State.solveCommand r dry okReq s).1.tidy := by
  obtain h | ⟨l, rep, h⟩ := solveCommand_stages r dry okReq s <;> rw [h]
  · exact is
  · rw [tidy_mk]
    cases dry
    · exact stageAll_tidy l s is
    · exact is

@[simp] theorem abandonStook_tidy (id : Nat) (s : State) (is : s.tidy) : (State.abandonStook id s).tidy := by
  simp (maxDischargeDepth := 30) [State.abandonStook, *]

@[simp] theorem fcqRetire_tidy (q : Nat) (x : Slot) (body : Option (List Byte)) (s : State) (is : s.tidy) : (State.fcqRetire q x body s).tidy := by
  simp (maxDischargeDepth := 30) [State.fcqRetire, *]

@[simp] theorem holdMixed_tidy (x : Sheaf) (s : State) (is : s.tidy) : (State.holdMixed x s).tidy := by
  simp (maxDischargeDepth := 30) [State.holdMixed, *]

@[simp] theorem meets_tidy (x : Sheaf) (s : State) (is : s.tidy) : (State.meets x s).tidy := by
  simp (maxDischargeDepth := 30) (contextual := true) [State.meets, *]

@[simp] theorem timed_tidy (instant e : Nat) (s : State) (is : s.tidy) : (State.timed instant e s).tidy := by
  simp (maxDischargeDepth := 30) (contextual := true) [State.timed, *]

@[simp] theorem fire_tidy (x : Sheaf) (faults : List Nat) (s : State) (is : s.tidy) : (State.fire x faults s).tidy := by
  unfold State.fire
  dsimp only
  refine checkDegraded_tidy _ ?_
  have e (l : List Change) : State.tidy { s with loops.elems := l.foldl (s.takeChange x) s.loops.elems } :=
    ⟨wf_foldl _ _ _ _ (fun m c w => mapMod_wf _ _ _ _ w) is.elems, is.gates, is.flight, is.subq, is.vecs⟩
  have a (b : Prop) [Decidable b] (l : List Nat) (t : State) (h : t.tidy) : (if b then t.autoRepair l else t).tidy := by
    split <;> simp [h]
  have j (l : List Nat) (t : State) (h : t.tidy) : (l.foldl (fun t g => t.judgeCell g .driveFault) t).tidy :=
    tidy_foldl _ _ _ (fun t c h => judgeCell_tidy _ _ _ h) h
  have z (b : Prop) [Decidable b] (t : State) (n : Nat) (l : List Nat) (h : t.tidy) : (if b then t else t.settle n l).tidy := by
    split <;> simp [h]
  have m (b : Prop) [Decidable b] (t : State) (h : t.tidy) : (if b then t.holdMixed x else t).tidy := by
    split <;> simp [h]
  refine a _ _ _ (j _ _ (z _ _ _ _ (refreshMap_tidy _ (m _ _ ?_))))
  simp only [tidy_mk]
  refine modSheaf_tidy _ _ _ (meets_tidy _ _ (tidy_foldl _ _ _ (fun t c h => raiseBlock_tidy _ _ _ h) ?_))
  split
  · exact tidy_foldl _ _ _ (fun t c h => timed_tidy _ _ _ h) (drawn_tidy _ (e _))
  · exact e _

@[simp] theorem withFetchWord_tidy (s : State) (nbits w : Nat) (is : s.tidy) : (State.withFetchWord s nbits w).tidy := by
  (unfold State.withFetchWord; repeat' split) <;> simp (maxDischargeDepth := 30) [*]

end Sys2Proof.Machine
end

