-- ==== Sys2Proof/Laws/TidyExec.lean ====
section
/-! SUPPORT. Every meaning keeps the tables of elements, gates, frames in flight, host queues and vectors in canonical
form, one lemma for each, and exec does. -/
namespace Sys2Proof.Machine

theorem rounds_tidy (n k : Nat) (s : State) (p : State × Nat) (is : s.tidy) (h : State.rounds n k s = some p) : p.1.tidy := by
  induction k generalizing s with
  | zero => cases h
  | succ k ih =>
    rw [State.rounds] at h
    split at h
    · rw [← Option.some.inj h]; exact newRound_tidy _ is
    · exact ih _ (newRound_tidy _ is) h

theorem nextServed_tidy (s : State) (p : State × Nat) (is : s.tidy) (h : s.nextServed = some p) : p.1.tidy := by
  unfold State.nextServed at h
  dsimp only at h
  split at h
  · rw [← Option.some.inj h]; exact is
  · split at h
    · rw [← Option.some.inj h]; exact endVisit_tidy _ is
    · exact rounds_tidy _ _ _ _ (endVisit_tidy _ is) h

@[simp] theorem dropTooLong_tidy (p n : Nat) (s : State) (is : s.tidy) : (s.dropTooLong p n).tidy := by
  induction n generalizing s with
  | zero => exact is
  | succ n ih =>
    unfold State.dropTooLong
    split
    · exact is
    · exact ih _ (by simp (maxDischargeDepth := 30) [is])

theorem startMembers_tidy (ts : Nat) (l : List Sheaf) (s : State) (is : s.tidy) : (State.startMembers ts l s).1.tidy := by
  induction l generalizing s with
  | nil => exact is
  | cons m l ih =>
    unfold State.startMembers
    dsimp only
    split
    · exact is
    · simp [ih, is]

@[simp] theorem writeBuffers_tidy (unit : Nat) (l : List Descriptor) (bs : List Byte) (s : State) (is : s.tidy) :
    (State.writeBuffers unit l bs s).tidy := by
  induction l generalizing bs s with
  | nil => exact is
  | cons d l ih => simp [State.writeBuffers, ih, is]


theorem execTimeGetStatus_tidy (tag : Tag) (s : State) (is : s.tidy) : ∃ t, execTimeGetStatus tag s = .next t ∧ t.tidy := ⟨_, rfl, query_tidy _ _ _ _ _ is⟩

theorem execTimeSet_tidy (tag : Tag) (time : BitVec 64) (frac : BitVec 32) (s : State) (is : s.tidy) : ∃ t, execTimeSet tag time frac s = .next t ∧ t.tidy := ⟨_, rfl, serve_tidy _ _ _ _ _ _ (fun u is => by simp (maxDischargeDepth := 30) [*]) is⟩

theorem execTimeReanchor_tidy (tag : Tag) (time : BitVec 64) (frac : BitVec 32) (s : State) (is : s.tidy) : ∃ t, execTimeReanchor tag time frac s = .next t ∧ t.tidy := by
  refine ⟨_, rfl, ?_⟩
  have h (o : Option InFlight) : (match o with | some _ => s.reanchor tag (counterOf time frac) | none => s).tidy := by
    cases o <;> simp (maxDischargeDepth := 30) [is]
  simp only [tidy_ite]
  split
  · exact is
  · split
    · exact h _
    · exact serve_tidy _ _ _ _ _ _ (fun u i => by split <;> exact i) is

theorem execTimeSetSource_tidy (tag : Tag) (primary fallback : BitVec 2) (tauMs lockNs largeNs : Nat) (s : State) (is : s.tidy) : ∃ t, execTimeSetSource tag primary fallback tauMs lockNs largeNs s = .next t ∧ t.tidy := ⟨_, rfl, serve_tidy _ _ _ _ _ _ (fun u is => by ((try dsimp only); (repeat' split) <;> simp (maxDischargeDepth := 30) [*])) is⟩

theorem execTimeSetCycle_tidy (tag : Tag) (b : BitVec 64) (c : BitVec 32) (s : State) (is : s.tidy) : ∃ t, execTimeSetCycle tag b c s = .next t ∧ t.tidy := ⟨_, rfl, serve_tidy _ _ _ _ _ _ (fun u is => by simp (maxDischargeDepth := 30) [*]) is⟩

theorem execTimeFoldShift_tidy (tag : Tag) (s : State) (is : s.tidy) : ∃ t, execTimeFoldShift tag s = .next t ∧ t.tidy := ⟨_, rfl, serve_tidy _ _ _ _ _ _ (fun u is => by simp (maxDischargeDepth := 30) [*]) is⟩

theorem execTimeSetSyncin_tidy (tag : Tag) (enable : Bool) (wNs deadband : Nat) (s : State) (is : s.tidy) : ∃ t, execTimeSetSyncin tag enable wNs deadband s = .next t ∧ t.tidy := ⟨_, rfl, serve_tidy _ _ _ _ _ _ (fun u is => by simp (maxDischargeDepth := 30) [*]) is⟩

theorem execTimeSetSyncout_tidy (tag : Tag) (mode : Nat) (p : Option Nat) (lNs : Nat) (s : State) (is : s.tidy) : ∃ t, execTimeSetSyncout tag mode p lNs s = .next t ∧ t.tidy := ⟨_, rfl, serve_tidy _ _ _ _ _ _ (fun u is => by ((try dsimp only); (repeat' split) <;> simp (maxDischargeDepth := 30) [*])) is⟩

theorem execTimeSetPtp_tidy (tag : Tag) (cfg : PtpCfg) (s : State) (is : s.tidy) : ∃ t, execTimeSetPtp tag cfg s = .next t ∧ t.tidy := ⟨_, rfl, serve_tidy _ _ _ _ _ _ (fun u is => by simp (maxDischargeDepth := 30) [*]) is⟩

theorem execTimeSetPortLatency_tidy (tag : Tag) (port : Nat) (ingress egress : Int) (s : State) (is : s.tidy) : ∃ t, execTimeSetPortLatency tag port ingress egress s = .next t ∧ t.tidy := ⟨_, rfl, serve_tidy _ _ _ _ _ _ (fun u is => by simp (maxDischargeDepth := 30) [*]) is⟩

theorem execTbTimeLoRead_tidy (s : State) (is : s.tidy) : ∃ t, execTbTimeLoRead s = .next t ∧ t.tidy := ⟨_, rfl, (by simp (maxDischargeDepth := 30) [*])⟩

theorem execTbCountsRead_tidy (s : State) (is : s.tidy) : ∃ t, execTbCountsRead s = .next t ∧ t.tidy := ⟨_, rfl, (by simp (maxDischargeDepth := 30) [*])⟩

theorem execSyncInEdge_tidy (elapsedPs : Nat) (s : State) (is : s.tidy) : ∃ t, execSyncInEdge elapsedPs s = .next t ∧ t.tidy := ⟨_, rfl, (by ((try dsimp only); (repeat' split) <;> simp (maxDischargeDepth := 30) [*]))⟩

theorem execSyncOutPulse_tidy (s : State) (is : s.tidy) : ∃ t, execSyncOutPulse s = .next t ∧ t.tidy := ⟨_, rfl, (by ((repeat' split) <;> simp (maxDischargeDepth := 30) [*]))⟩

theorem execSyncOutPulseEnd_tidy (s : State) (is : s.tidy) : ∃ t, execSyncOutPulseEnd s = .next t ∧ t.tidy := ⟨_, rfl, (by simp (maxDischargeDepth := 30) [*])⟩

theorem execScheduleBoundary_tidy (s : State) (is : s.tidy) : ∃ t, execScheduleBoundary s = .next t ∧ t.tidy := ⟨_, rfl, (by ((repeat' split) <;> simp (maxDischargeDepth := 30) [*]))⟩

theorem execGptpMessageReceived_tidy (port : Nat) (msg : GptpMsg) (s : State) (is : s.tidy) : ∃ t, execGptpMessageReceived port msg s = .next t ∧ t.tidy := ⟨_, rfl, (by ((try dsimp only); (repeat' split) <;> simp (maxDischargeDepth := 30) [*]))⟩

theorem execGptpMessageTransmit_tidy (port : Nat) (sync : Bool) (s : State) (is : s.tidy) : ∃ t, execGptpMessageTransmit port sync s = .next t ∧ t.tidy := ⟨_, rfl, (by simp (maxDischargeDepth := 30) [*])⟩

theorem execGptpSyncTimeout_tidy (s : State) (is : s.tidy) : ∃ t, execGptpSyncTimeout s = .next t ∧ t.tidy := ⟨_, rfl, (by simp (maxDischargeDepth := 30) [*])⟩

theorem execTxSelect_tidy (port : Nat) (s : State) (is : s.tidy) : ∃ t, execTxSelect port s = .next t ∧ t.tidy := by
  refine ⟨_, rfl, ?_⟩
  dsimp only
  repeat' split
  all_goals first
    | exact is
    | exact choose_tidy _ _ (dropTooLong_tidy _ _ _ (applyPortPend_tidy _ _ is))
    | exact discardQueued_tidy _ _ _ _ is
    | simp (maxDischargeDepth := 30) [*]

theorem execTxFrameDone_tidy (port : Nat) (s : State) (is : s.tidy) : ∃ t, execTxFrameDone port s = .next t ∧ t.tidy := ⟨_, rfl, (by ((try dsimp only); (repeat' split) <;> simp (maxDischargeDepth := 30) [*]))⟩

theorem execGateEvent_tidy (port : Nat) (s : State) (is : s.tidy) : ∃ t, execGateEvent port s = .next t ∧ t.tidy := ⟨_, rfl, (by ((repeat' split) <;> simp (maxDischargeDepth := 30) [*]))⟩

theorem execGateHoldAssert_tidy (port : Nat) (s : State) (is : s.tidy) : ∃ t, execGateHoldAssert port s = .next t ∧ t.tidy := ⟨_, rfl, (by ((repeat' split) <;> simp (maxDischargeDepth := 30) [*]))⟩

theorem execVerifyTimer_tidy (port : Nat) (s : State) (is : s.tidy) : ∃ t, execVerifyTimer port s = .next t ∧ t.tidy := ⟨_, rfl, (by simp (maxDischargeDepth := 30) [*])⟩

theorem execRxPause_tidy (port : Nat) (quanta : BitVec 16) (s : State) (is : s.tidy) : ∃ t, execRxPause port quanta s = .next t ∧ t.tidy := ⟨_, rfl, (by simp (maxDischargeDepth := 30) [*])⟩

theorem execPauseExpiry_tidy (port : Nat) (s : State) (is : s.tidy) : ∃ t, execPauseExpiry port s = .next t ∧ t.tidy := ⟨_, rfl, (by ((repeat' split) <;> simp (maxDischargeDepth := 30) [*]))⟩

theorem execPauseRefresh_tidy (port : Nat) (s : State) (is : s.tidy) : ∃ t, execPauseRefresh port s = .next t ∧ t.tidy := ⟨_, rfl, (by simp (maxDischargeDepth := 30) [*])⟩

theorem execRxpWatchdog_tidy (port : Nat) (s : State) (is : s.tidy) : ∃ t, execRxpWatchdog port s = .next t ∧ t.tidy := ⟨_, rfl, (by simp (maxDischargeDepth := 30) [*])⟩

theorem execRearmExpiry_tidy (port : Nat) (s : State) (is : s.tidy) : ∃ t, execRearmExpiry port s = .next t ∧ t.tidy := ⟨_, rfl, (by simp (maxDischargeDepth := 30) [*])⟩

theorem execTxpWatchdog_tidy (port : Nat) (s : State) (is : s.tidy) : ∃ t, execTxpWatchdog port s = .next t ∧ t.tidy := ⟨_, rfl, (by ((try dsimp only); (repeat' split) <;> simp (maxDischargeDepth := 30) [*]))⟩

theorem execLpiIdleTimeout_tidy (port : Nat) (s : State) (is : s.tidy) : ∃ t, execLpiIdleTimeout port s = .next t ∧ t.tidy := ⟨_, rfl, (by simp (maxDischargeDepth := 30) [*])⟩

theorem execLpiSleepEntry_tidy (port : Nat) (s : State) (is : s.tidy) : ∃ t, execLpiSleepEntry port s = .next t ∧ t.tidy := ⟨_, rfl, (by simp (maxDischargeDepth := 30) [*])⟩

theorem execLpiWake_tidy (port : Nat) (early : Bool) (s : State) (is : s.tidy) : ∃ t, execLpiWake port early s = .next t ∧ t.tidy := ⟨_, rfl, (by ((try dsimp only); (repeat' split) <;> simp (maxDischargeDepth := 30) [*]))⟩

theorem execReceivedLpi_tidy (port : Nat) (entering : Bool) (s : State) (is : s.tidy) : ∃ t, execReceivedLpi port entering s = .next t ∧ t.tidy := ⟨_, rfl, (by simp (maxDischargeDepth := 30) [*])⟩

theorem execFabricGetMap_tidy (tag : Tag) (s : State) (is : s.tidy) : ∃ t, execFabricGetMap tag s = .next t ∧ t.tidy := ⟨_, rfl, query_tidy _ _ _ _ _ is⟩

theorem execFabricGetPath_tidy (tag : Tag) (plane output : Nat) (s : State) (is : s.tidy) : ∃ t, execFabricGetPath tag plane output s = .next t ∧ t.tidy := ⟨_, rfl, query_tidy _ _ _ _ _ is⟩

theorem execFabricGetCells_tidy (tag : Tag) (plane first count : Nat) (s : State) (is : s.tidy) : ∃ t, execFabricGetCells tag plane first count s = .next t ∧ t.tidy := ⟨_, rfl, query_tidy _ _ _ _ _ is⟩

theorem execFabricGetFailed_tidy (tag : Tag) (plane : Nat) (s : State) (is : s.tidy) : ∃ t, execFabricGetFailed tag plane s = .next t ∧ t.tidy := ⟨_, rfl, query_tidy _ _ _ _ _ is⟩

theorem execFabricSetFailed_tidy (tag : Tag) (plane stage cell kind : Nat) (s : State) (is : s.tidy) : ∃ t, execFabricSetFailed tag plane stage cell kind s = .next t ∧ t.tidy := ⟨_, rfl, serve_tidy _ _ _ _ _ _ (fun u is => by ((repeat' split) <;> simp (maxDischargeDepth := 30) [*])) is⟩

theorem execFabricClearFailed_tidy (tag : Tag) (plane stage cell : Nat) (s : State) (is : s.tidy) : ∃ t, execFabricClearFailed tag plane stage cell s = .next t ∧ t.tidy := ⟨_, rfl, serve_tidy _ _ _ _ _ _ (fun u is => by ((try dsimp only); (repeat' split) <;> simp (maxDischargeDepth := 30) [*])) is⟩

theorem execFabricGetLevels_tidy (tag : Tag) (output : Bool) (first count : Nat) (s : State) (is : s.tidy) : ∃ t, execFabricGetLevels tag output first count s = .next t ∧ t.tidy := ⟨_, rfl, serve_tidy _ _ _ _ _ _ (fun u is => by simp (maxDischargeDepth := 30) [*]) is⟩

theorem execFabricSetRepair_tidy (tag : Tag) (enable : Bool) (leadNs : Nat) (s : State) (is : s.tidy) : ∃ t, execFabricSetRepair tag enable leadNs s = .next t ∧ t.tidy := ⟨_, rfl, serve_tidy _ _ _ _ _ _ (fun u is => by simp (maxDischargeDepth := 30) [*]) is⟩

theorem execFabricSetParking_tidy (tag : Tag) (enable : Bool) (delayNs : Nat) (s : State) (is : s.tidy) : ∃ t, execFabricSetParking tag enable delayNs s = .next t ∧ t.tidy := ⟨_, rfl, serve_tidy _ _ _ _ _ _ (fun u is => by simp (maxDischargeDepth := 30) [*]) is⟩

theorem execIdleParkTimeout_tidy (plane stage cell : Nat) (s : State) (is : s.tidy) : ∃ t, execIdleParkTimeout plane stage cell s = .next t ∧ t.tidy := ⟨_, rfl, (by simp (maxDischargeDepth := 30) [*])⟩

theorem execLoopGetParams_tidy (tag : Tag) (first count : Nat) (s : State) (is : s.tidy) : ∃ t, execLoopGetParams tag first count s = .next t ∧ t.tidy := ⟨_, rfl, query_tidy _ _ _ _ _ is⟩

theorem execLoopSetParams_tidy (tag : Tag) (first : Nat) (recs : List ParamRec) (s : State) (is : s.tidy) : ∃ t, execLoopSetParams tag first recs s = .next t ∧ t.tidy := ⟨_, rfl, serve_tidy _ _ _ _ _ _ (fun u is => by ((repeat' split) <;> simp (maxDischargeDepth := 30) (contextual := true) [*])) is⟩

theorem execLoopGetState_tidy (tag : Tag) (first count : Nat) (s : State) (is : s.tidy) : ∃ t, execLoopGetState tag first count s = .next t ∧ t.tidy := ⟨_, rfl, query_tidy _ _ _ _ _ is⟩

theorem execLoopGetFlags_tidy (tag : Tag) (first count : Nat) (s : State) (is : s.tidy) : ∃ t, execLoopGetFlags tag first count s = .next t ∧ t.tidy := ⟨_, rfl, query_tidy _ _ _ _ _ is⟩

theorem execLoopClearFlags_tidy (tag : Tag) (first count : Nat) (mask : BitVec 16) (s : State) (is : s.tidy) : ∃ t, execLoopClearFlags tag first count mask s = .next t ∧ t.tidy := ⟨_, rfl, serve_tidy _ _ _ _ _ _ (fun u is => by simp (maxDischargeDepth := 30) [*]) is⟩

theorem execLoopCapture_tidy (tag : Tag) (element samples time : Nat) (s : State) (is : s.tidy) : ∃ t, execLoopCapture tag element samples time s = .next t ∧ t.tidy := ⟨_, rfl, serve_tidy _ _ _ _ _ _ (fun u is => by simp (maxDischargeDepth := 30) [*]) is⟩

theorem execLoopGetCapture_tidy (tag : Tag) (element page : Nat) (s : State) (is : s.tidy) : ∃ t, execLoopGetCapture tag element page s = .next t ∧ t.tidy := ⟨_, rfl, query_tidy _ _ _ _ _ is⟩

theorem execLoopGetMode_tidy (tag : Tag) (first count : Nat) (s : State) (is : s.tidy) : ∃ t, execLoopGetMode tag first count s = .next t ∧ t.tidy := ⟨_, rfl, query_tidy _ _ _ _ _ is⟩

theorem execLoopSetHandover_tidy (tag : Tag) (voa : Bool) (dwellUs retryUs hoTol : Nat) (s : State) (is : s.tidy) : ∃ t, execLoopSetHandover tag voa dwellUs retryUs hoTol s = .next t ∧ t.tidy := ⟨_, rfl, serve_tidy _ _ _ _ _ _ (fun u is => by simp (maxDischargeDepth := 30) [*]) is⟩

theorem execLoopRetryLock_tidy (tag : Tag) (first count : Nat) (s : State) (is : s.tidy) : ∃ t, execLoopRetryLock tag first count s = .next t ∧ t.tidy := ⟨_, rfl, serve_tidy _ _ _ _ _ _ (fun u is => by simp (maxDischargeDepth := 30) [*]) is⟩

theorem execLoopHoldRegion_tidy (tag : Tag) (region : Nat) (hold : Bool) (s : State) (is : s.tidy) : ∃ t, execLoopHoldRegion tag region hold s = .next t ∧ t.tidy := ⟨_, rfl, serve_tidy _ _ _ _ _ _ (fun u is => by simp (maxDischargeDepth := 30) [*]) is⟩

theorem execLoopSetVoaGroup_tidy (tag : Tag) (group : Nat) (cfg : VoaGroupCfg) (s : State) (is : s.tidy) : ∃ t, execLoopSetVoaGroup tag group cfg s = .next t ∧ t.tidy := ⟨_, rfl, serve_tidy _ _ _ _ _ _ (fun u is => by simp (maxDischargeDepth := 30) [*]) is⟩

theorem execLoopGetVoaGroup_tidy (tag : Tag) (group : Nat) (s : State) (is : s.tidy) : ∃ t, execLoopGetVoaGroup tag group s = .next t ∧ t.tidy := ⟨_, rfl, query_tidy _ _ _ _ _ is⟩

theorem execTrimInSample_tidy (group microvolts : Nat) (s : State) (is : s.tidy) : ∃ t, execTrimInSample group microvolts s = .next t ∧ t.tidy := ⟨_, rfl, (by ((try dsimp only); (repeat' split) <;> simp (maxDischargeDepth := 30) [*]))⟩

theorem execTrimInPulseEdge_tidy (pin : Nat) (rising : Bool) (elapsedPs : Nat) (s : State) (is : s.tidy) : ∃ t, execTrimInPulseEdge pin rising elapsedPs s = .next t ∧ t.tidy := ⟨_, rfl, (by simp (maxDischargeDepth := 30) [*])⟩

theorem execVoaGroupLost_tidy (group : Nat) (s : State) (is : s.tidy) : ∃ t, execVoaGroupLost group s = .next t ∧ t.tidy := ⟨_, rfl, (by simp (maxDischargeDepth := 30) [*])⟩

theorem execLoopSample_tidy (element : Nat) (m1 m2 : BitVec 12) (residueFail : Bool) (s : State) (is : s.tidy) : ∃ t, execLoopSample element m1 m2 residueFail s = .next t ∧ t.tidy := ⟨_, rfl, (by ((repeat' split) <;> simp (maxDischargeDepth := 30) [*]))⟩

theorem execHandoverAttempt_tidy (element : Nat) (m1 m2 : BitVec 12) (s : State) (is : s.tidy) : ∃ t, execHandoverAttempt element m1 m2 s = .next t ∧ t.tidy := ⟨_, rfl, (by ((repeat' split) <;> simp (maxDischargeDepth := 30) [*]))⟩

theorem execHeaterPowerMeasure_tidy (element nanowatts : Nat) (s : State) (is : s.tidy) : ∃ t, execHeaterPowerMeasure element nanowatts s = .next t ∧ t.tidy := ⟨_, rfl, (by simp (maxDischargeDepth := 30) [*])⟩

theorem execSheafStage_tidy (tag : Tag) (more : Bool) (words : List Word) (s : State) (is : s.tidy) : ∃ t, execSheafStage tag more words s = .next t ∧ t.tidy := ⟨_, rfl, serve_tidy _ _ _ _ _ _ (fun u is => by simp (maxDischargeDepth := 30) [*]) is⟩

theorem execSheafAppend_tidy (tag : Tag) (id : BitVec 16) (more : Bool) (words : List Word) (s : State) (is : s.tidy) : ∃ t, execSheafAppend tag id more words s = .next t ∧ t.tidy := ⟨_, rfl, serve_tidy _ _ _ _ _ _ (fun u is => by ((try dsimp only); (repeat' split) <;> simp (maxDischargeDepth := 30) [*])) is⟩

theorem execSheafCancel_tidy (tag : Tag) (id : BitVec 16) (s : State) (is : s.tidy) : ∃ t, execSheafCancel tag id s = .next t ∧ t.tidy := by
  refine ⟨_, rfl, serve_tidy _ _ _ _ _ _ (fun u is => ?_) is⟩
  have k := cancelSheaf_tidy id.toNat u is
  split <;> (next h => rw [h] at k; exact k)

theorem execSheafGetStatus_tidy (tag : Tag) (id : BitVec 16) (s : State) (is : s.tidy) : ∃ t, execSheafGetStatus tag id s = .next t ∧ t.tidy := ⟨_, rfl, query_tidy _ _ _ _ _ is⟩

theorem execSheafGetResult_tidy (tag : Tag) (id : BitVec 16) (page : Nat) (s : State) (is : s.tidy) : ∃ t, execSheafGetResult tag id page s = .next t ∧ t.tidy := ⟨_, rfl, query_tidy _ _ _ _ _ is⟩

theorem execSheafList_tidy (tag : Tag) (page : Nat) (s : State) (is : s.tidy) : ∃ t, execSheafList tag page s = .next t ∧ t.tidy := ⟨_, rfl, query_tidy _ _ _ _ _ is⟩

theorem execSheafSetTiming_tidy (tag : Tag) (armLead prepLead : Nat) (s : State) (is : s.tidy) : ∃ t, execSheafSetTiming tag armLead prepLead s = .next t ∧ t.tidy := ⟨_, rfl, serve_tidy _ _ _ _ _ _ (fun u is => by simp (maxDischargeDepth := 30) [*]) is⟩

theorem execSolveConnect_tidy (tag : Tag) (instant : Nat) (move dryRun : Bool) (pairs : List (Nat × Nat)) (s : State) (is : s.tidy) : ∃ t, execSolveConnect tag instant move dryRun pairs s = .next t ∧ t.tidy := ⟨_, rfl, serve_tidy _ _ _ _ _ _ (fun u is => by simp (maxDischargeDepth := 30) [*]) is⟩

theorem execSolveDisconnect_tidy (tag : Tag) (instant : Nat) (move dryRun : Bool) (inputs outputs : List Nat) (s : State) (is : s.tidy) : ∃ t, execSolveDisconnect tag instant move dryRun inputs outputs s = .next t ∧ t.tidy := ⟨_, rfl, serve_tidy _ _ _ _ _ _ (fun u is => by simp (maxDischargeDepth := 30) [*]) is⟩

theorem execSolvePermute_tidy (tag : Tag) (instant : Nat) (move dryRun : Bool) (target : List (Option Nat)) (s : State) (is : s.tidy) : ∃ t, execSolvePermute tag instant move dryRun target s = .next t ∧ t.tidy := ⟨_, rfl, serve_tidy _ _ _ _ _ _ (fun u is => by simp (maxDischargeDepth := 30) [*]) is⟩

theorem execSolveGetReport_tidy (tag : Tag) (page : Nat) (s : State) (is : s.tidy) : ∃ t, execSolveGetReport tag page s = .next t ∧ t.tidy := ⟨_, rfl, query_tidy _ _ _ _ _ is⟩

theorem execStookDefine_tidy (tag : Tag) (id : BitVec 16) (name : BitVec 128) (stop : Bool) (members : List (List Word)) (sig : Option AxaroBlock) (s : State) (is : s.tidy) : ∃ t, execStookDefine tag id name stop members sig s = .next t ∧ t.tidy := ⟨_, rfl, serve_tidy _ _ _ _ _ _ (fun u is => by ((try dsimp only); (repeat' split) <;> simp (maxDischargeDepth := 30) [*])) is⟩

theorem execStookStart_tidy (tag : Tag) (id : BitVec 16) (ts : Nat) (s : State) (is : s.tidy) : ∃ t, execStookStart tag id ts s = .next t ∧ t.tidy := by
  refine ⟨_, rfl, serve_tidy _ _ _ _ _ _ (fun u is => ?_) is⟩
  dsimp only
  split
  · exact is
  · next k _ =>
    have h := startMembers_tidy ts k.members u is
    repeat' split
    all_goals first
      | exact is
      | (next e => rw [e] at h; exact h)

theorem execStookStop_tidy (tag : Tag) (id : BitVec 16) (s : State) (is : s.tidy) : ∃ t, execStookStop tag id s = .next t ∧ t.tidy := ⟨_, rfl, serve_tidy _ _ _ _ _ _ (fun u is => by simp (maxDischargeDepth := 30) [*]) is⟩

theorem execStookGetStatus_tidy (tag : Tag) (id : BitVec 16) (s : State) (is : s.tidy) : ∃ t, execStookGetStatus tag id s = .next t ∧ t.tidy := ⟨_, rfl, query_tidy _ _ _ _ _ is⟩

theorem execStookDelete_tidy (tag : Tag) (id : BitVec 16) (s : State) (is : s.tidy) : ∃ t, execStookDelete tag id s = .next t ∧ t.tidy := ⟨_, rfl, serve_tidy _ _ _ _ _ _ (fun u is => by ((try dsimp only); (repeat' split) <;> simp (maxDischargeDepth := 30) [*])) is⟩

theorem execFcqSubmit_tidy (q : Nat) (ack : Bool) (words : List Word) (s : State) (is : s.tidy) : ∃ t, execFcqSubmit q ack words s = .next t ∧ t.tidy := by
  refine ⟨_, rfl, ?_⟩
  split
  · exact is
  · split
    · exact is
    · next slot _ _ =>
      have k := submit_tidy words (.fcq q slot.lastIdx.toNat) s is
      dsimp only
      split <;> (next h => rw [h] at k; exact fcqRetire_tidy _ _ _ _ k)

theorem execFcqCancel_tidy (q : Nat) (id : BitVec 16) (s : State) (is : s.tidy) : ∃ t, execFcqCancel q id s = .next t ∧ t.tidy := by
  refine ⟨_, rfl, ?_⟩
  have k := cancelSheaf_tidy id.toNat s is
  split
  · exact is
  · split
    · exact is
    · split <;> (next h => rw [h] at k; exact fcqRetire_tidy _ _ _ _ k)

theorem execSheafArmStart_tidy (id : BitVec 16) (s : State) (is : s.tidy) : ∃ t, execSheafArmStart id s = .next t ∧ t.tidy := ⟨_, rfl, (by ((try dsimp only); (repeat' split) <;> simp (maxDischargeDepth := 30) [*]))⟩

theorem execSheafArmCommit_tidy (id : BitVec 16) (allAcks : Bool) (s : State) (is : s.tidy) : ∃ t, execSheafArmCommit id allAcks s = .next t ∧ t.tidy := ⟨_, rfl, (by ((repeat' split) <;> simp (maxDischargeDepth := 30) [*]))⟩

theorem execSheafCutoff_tidy (id : BitVec 16) (s : State) (is : s.tidy) : ∃ t, execSheafCutoff id s = .next t ∧ t.tidy := ⟨_, rfl, (by ((repeat' split) <;> simp (maxDischargeDepth := 30) [*]))⟩

theorem execSheafInstant_tidy (id : BitVec 16) (driveFaults : List Nat) (s : State) (is : s.tidy) : ∃ t, execSheafInstant id driveFaults s = .next t ∧ t.tidy := ⟨_, rfl, (by ((repeat' split) <;> simp (maxDischargeDepth := 30) [*]))⟩

theorem execArmSlotFree_tidy (slot : Nat) (s : State) (is : s.tidy) : ∃ t, execArmSlotFree slot s = .next t ∧ t.tidy := ⟨_, rfl, (by ((try dsimp only); (repeat' split) <;> simp (maxDischargeDepth := 30) [*]))⟩

theorem execSheafHorizon_tidy (id : BitVec 16) (s : State) (is : s.tidy) : ∃ t, execSheafHorizon id s = .next t ∧ t.tidy := ⟨_, rfl, (by ((try dsimp only); (repeat' split) <;> simp (maxDischargeDepth := 30) [*]))⟩

theorem execCalGetStatus_tidy (tag : Tag) (s : State) (is : s.tidy) : ∃ t, execCalGetStatus tag s = .next t ∧ t.tidy := ⟨_, rfl, query_tidy _ _ _ _ _ is⟩

theorem execCalGetElement_tidy (tag : Tag) (first count : Nat) (s : State) (is : s.tidy) : ∃ t, execCalGetElement tag first count s = .next t ∧ t.tidy := ⟨_, rfl, query_tidy _ _ _ _ _ is⟩

theorem execCalSave_tidy (tag : Tag) (s : State) (is : s.tidy) : ∃ t, execCalSave tag s = .next t ∧ t.tidy := ⟨_, rfl, serve_tidy _ _ _ _ _ _ (fun u is => by simp (maxDischargeDepth := 30) [*]) is⟩

theorem execCalAutoSave_tidy (s : State) (is : s.tidy) : ∃ t, execCalAutoSave s = .next t ∧ t.tidy := ⟨_, rfl, (by simp (maxDischargeDepth := 30) [*])⟩

theorem execCalSaveComplete_tidy (ok : Bool) (s : State) (is : s.tidy) : ∃ t, execCalSaveComplete ok s = .next t ∧ t.tidy := ⟨_, rfl, (by simp (maxDischargeDepth := 30) [*])⟩

theorem execCalRecalElement_tidy (tag : Tag) (first count : Nat) (s : State) (is : s.tidy) : ∃ t, execCalRecalElement tag first count s = .next t ∧ t.tidy := ⟨_, rfl, serve_tidy _ _ _ _ _ _ (fun u is => by simp (maxDischargeDepth := 30) (contextual := true) [*]) is⟩

theorem execCalSetBackground_tidy (tag : Tag) (enable : Bool) (periodMs : Nat) (s : State) (is : s.tidy) : ∃ t, execCalSetBackground tag enable periodMs s = .next t ∧ t.tidy := ⟨_, rfl, serve_tidy _ _ _ _ _ _ (fun u is => by simp (maxDischargeDepth := 30) [*]) is⟩

theorem execCalSetSparePolicy_tidy (tag : Tag) (policy : SparePolicy) (s : State) (is : s.tidy) : ∃ t, execCalSetSparePolicy tag policy s = .next t ∧ t.tidy := ⟨_, rfl, serve_tidy _ _ _ _ _ _ (fun u is => by simp (maxDischargeDepth := 30) [*]) is⟩

theorem execCalSubstitute_tidy (tag : Tag) (wholeBlock : Bool) (region block cell : Nat) (s : State) (is : s.tidy) : ∃ t, execCalSubstitute tag wholeBlock region block cell s = .next t ∧ t.tidy := ⟨_, rfl, serve_tidy _ _ _ _ _ _ (fun u is => by simp (maxDischargeDepth := 30) [*]) is⟩

theorem execCalGetLog_tidy (tag : Tag) (seq : Nat) (s : State) (is : s.tidy) : ∃ t, execCalGetLog tag seq s = .next t ∧ t.tidy := ⟨_, rfl, query_tidy _ _ _ _ _ is⟩

theorem execCalGetSpares_tidy (tag : Tag) (s : State) (is : s.tidy) : ∃ t, execCalGetSpares tag s = .next t ∧ t.tidy := ⟨_, rfl, query_tidy _ _ _ _ _ is⟩

theorem execSpareThresholdMet_tidy (part : Part) (s : State) (is : s.tidy) : ∃ t, execSpareThresholdMet part s = .next t ∧ t.tidy := ⟨_, rfl, (by ((repeat' split) <;> simp (maxDischargeDepth := 30) [*]))⟩

theorem execSpareProof_tidy (region block : Nat) (same : Bool) (s : State) (is : s.tidy) : ∃ t, execSpareProof region block same s = .next t ∧ t.tidy := ⟨_, rfl, (by simp (maxDischargeDepth := 30) [*])⟩

theorem execLoopCellSwitch_tidy (region block cell : Nat) (selfTest : Bool) (s : State) (is : s.tidy) : ∃ t, execLoopCellSwitch region block cell selfTest s = .next t ∧ t.tidy := ⟨_, rfl, (by ((try dsimp only); (repeat' split) <;> simp (maxDischargeDepth := 30) [*]))⟩

theorem execBlockSwitch_tidy (region block : Nat) (selfTest : Bool) (s : State) (is : s.tidy) : ∃ t, execBlockSwitch region block selfTest s = .next t ∧ t.tidy := ⟨_, rfl, (by ((try dsimp only); (repeat' split) <;> simp (maxDischargeDepth := 30) [*]))⟩

theorem execRowRepair_tidy (inst row : Nat) (s : State) (is : s.tidy) : ∃ t, execRowRepair inst row s = .next t ∧ t.tidy := ⟨_, rfl, (by simp (maxDischargeDepth := 30) [*])⟩

theorem execSpareMapWrite_tidy (s : State) (is : s.tidy) : ∃ t, execSpareMapWrite s = .next t ∧ t.tidy := ⟨_, rfl, (by simp (maxDischargeDepth := 30) [*])⟩

theorem execLogEntryWrite_tidy (s : State) (is : s.tidy) : ∃ t, execLogEntryWrite s = .next t ∧ t.tidy := ⟨_, rfl, (by ((try dsimp only); (repeat' split) <;> simp (maxDischargeDepth := 30) [*]))⟩

theorem execBandgapCheck_tidy (a b c : Nat) (s : State) (is : s.tidy) : ∃ t, execBandgapCheck a b c s = .next t ∧ t.tidy := ⟨_, rfl, (by ((try dsimp only); (repeat' split) <;> simp (maxDischargeDepth := 30) [*]))⟩

theorem execTemperatureSample_tidy (junction : Int) (diodes : List Int) (s : State) (is : s.tidy) : ∃ t, execTemperatureSample junction diodes s = .next t ∧ t.tidy := ⟨_, rfl, (by simp (maxDischargeDepth := 30) [*])⟩

theorem execDelayLineExchange_tidy (line : Nat) (busy : Bool) (s : State) (is : s.tidy) : ∃ t, execDelayLineExchange line busy s = .next t ∧ t.tidy := ⟨_, rfl, (by simp (maxDischargeDepth := 30) [*])⟩

theorem execBackgroundVisit_tidy (region block : Nat) (s : State) (is : s.tidy) : ∃ t, execBackgroundVisit region block s = .next t ∧ t.tidy := ⟨_, rfl, (by simp (maxDischargeDepth := 30) [*])⟩

theorem execCalStageComplete_tidy (s : State) (is : s.tidy) : ∃ t, execCalStageComplete s = .next t ∧ t.tidy := ⟨_, rfl, (by simp (maxDischargeDepth := 30) [*])⟩

theorem execPortGetStatus_tidy (tag : Tag) (port : Nat) (s : State) (is : s.tidy) : ∃ t, execPortGetStatus tag port s = .next t ∧ t.tidy := ⟨_, rfl, serve_tidy _ _ _ _ _ _ (fun u is => by simp (maxDischargeDepth := 30) [*]) is⟩

theorem execPortSetMode_tidy (tag : Tag) (port : Nat) (cfg : PortModeCfg) (s : State) (is : s.tidy) : ∃ t, execPortSetMode tag port cfg s = .next t ∧ t.tidy := ⟨_, rfl, serve_tidy _ _ _ _ _ _ (fun u is => by simp (maxDischargeDepth := 30) [*]) is⟩

theorem execPortGetConfig_tidy (tag : Tag) (port : Nat) (s : State) (is : s.tidy) : ∃ t, execPortGetConfig tag port s = .next t ∧ t.tidy := ⟨_, rfl, query_tidy _ _ _ _ _ is⟩

theorem execPortSetPause_tidy (tag : Tag) (port : Nat) (cfg : PauseCfg) (s : State) (is : s.tidy) : ∃ t, execPortSetPause tag port cfg s = .next t ∧ t.tidy := ⟨_, rfl, serve_tidy _ _ _ _ _ _ (fun u is => by simp (maxDischargeDepth := 30) [*]) is⟩

theorem execPortSetFilter_tidy (tag : Tag) (first : Nat) (entries : List (List Word)) (s : State) (is : s.tidy) : ∃ t, execPortSetFilter tag first entries s = .next t ∧ t.tidy := ⟨_, rfl, serve_tidy _ _ _ _ _ _ (fun u is => by ((try dsimp only); (repeat' split) <;> simp (maxDischargeDepth := 30) [*])) is⟩

theorem execPortGetFilter_tidy (tag : Tag) (first count : Nat) (s : State) (is : s.tidy) : ∃ t, execPortGetFilter tag first count s = .next t ∧ t.tidy := ⟨_, rfl, query_tidy _ _ _ _ _ is⟩

theorem execPortSetLpi_tidy (tag : Tag) (port mode idleNs : Nat) (s : State) (is : s.tidy) : ∃ t, execPortSetLpi tag port mode idleNs s = .next t ∧ t.tidy := ⟨_, rfl, serve_tidy _ _ _ _ _ _ (fun u is => by simp (maxDischargeDepth := 30) [*]) is⟩

theorem execPortGetStats_tidy (tag : Tag) (port : Option Nat) (s : State) (is : s.tidy) : ∃ t, execPortGetStats tag port s = .next t ∧ t.tidy := ⟨_, rfl, serve_tidy _ _ _ _ _ _ (fun u is => by ((try dsimp only); (repeat' split) <;> simp (maxDischargeDepth := 30) [*])) is⟩

theorem execPortGetHistory_tidy (tag : Tag) (port page : Nat) (s : State) (is : s.tidy) : ∃ t, execPortGetHistory tag port page s = .next t ∧ t.tidy := ⟨_, rfl, query_tidy _ _ _ _ _ is⟩

theorem execPortSetSpares_tidy (tag : Tag) (mask0 mask1 : BitVec 4) (s : State) (is : s.tidy) : ∃ t, execPortSetSpares tag mask0 mask1 s = .next t ∧ t.tidy := ⟨_, rfl, serve_tidy _ _ _ _ _ _ (fun u is => by simp (maxDischargeDepth := 30) [*]) is⟩

theorem execPortSubstLane_tidy (tag : Tag) (port : Nat) (s : State) (is : s.tidy) : ∃ t, execPortSubstLane tag port s = .next t ∧ t.tidy := ⟨_, rfl, serve_tidy _ _ _ _ _ _ (fun u is => by ((repeat' split) <;> simp (maxDischargeDepth := 30) [*])) is⟩

theorem execFrameReceived_tidy (port : Nat) (frame : RxFrame) (elapsedPs : Int) (s : State) (is : s.tidy) : ∃ t, execFrameReceived port frame elapsedPs s = .next t ∧ t.tidy := ⟨_, rfl, (by simp (maxDischargeDepth := 30) [*])⟩

theorem execMpacketReceived_tidy (port : Nat) (packet : MPacket) (s : State) (is : s.tidy) : ∃ t, execMpacketReceived port packet s = .next t ∧ t.tidy := ⟨_, rfl, (by simp (maxDischargeDepth := 30) [*])⟩

theorem execPortLinkUp_tidy (port : Nat) (s : State) (is : s.tidy) : ∃ t, execPortLinkUp port s = .next t ∧ t.tidy := ⟨_, rfl, (by ((try dsimp only); (repeat' split) <;> simp (maxDischargeDepth := 30) [*]))⟩

theorem execPortLinkDown_tidy (port : Nat) (remote : Bool) (s : State) (is : s.tidy) : ∃ t, execPortLinkDown port remote s = .next t ∧ t.tidy := ⟨_, rfl, (by simp (maxDischargeDepth := 30) [*])⟩

theorem execLaneLossOfLock_tidy (port : Nat) (s : State) (is : s.tidy) : ∃ t, execLaneLossOfLock port s = .next t ∧ t.tidy := ⟨_, rfl, (by ((try dsimp only); (repeat' split) <;> simp (maxDischargeDepth := 30) [*]))⟩

theorem execLaneSwitch_tidy (port : Nat) (s : State) (is : s.tidy) : ∃ t, execLaneSwitch port s = .next t ∧ t.tidy := ⟨_, rfl, (by ((try dsimp only); (repeat' split) <;> simp (maxDischargeDepth := 30) [*]))⟩

theorem execStatsHistoryTick_tidy (s : State) (is : s.tidy) : ∃ t, execStatsHistoryTick s = .next t ∧ t.tidy := ⟨_, rfl, (by simp (maxDischargeDepth := 30) [*])⟩

theorem execGateGetStatus_tidy (tag : Tag) (port : Nat) (s : State) (is : s.tidy) : ∃ t, execGateGetStatus tag port s = .next t ∧ t.tidy := ⟨_, rfl, query_tidy _ _ _ _ _ is⟩

theorem execGateSetConfig_tidy (tag : Tag) (port : Nat) (cfg : GateCfg) (s : State) (is : s.tidy) : ∃ t, execGateSetConfig tag port cfg s = .next t ∧ t.tidy := ⟨_, rfl, serve_tidy _ _ _ _ _ _ (fun u is => by ((try dsimp only); (repeat' split) <;> simp (maxDischargeDepth := 30) [*])) is⟩

theorem execGateSetAdmin_tidy (tag : Tag) (port start n lct : Nat) (listTag : Word) (entries : List GateEntry) (s : State) (is : s.tidy) : ∃ t, execGateSetAdmin tag port start n lct listTag entries s = .next t ∧ t.tidy := ⟨_, rfl, serve_tidy _ _ _ _ _ _ (fun u is => by simp (maxDischargeDepth := 30) [*]) is⟩

theorem execGateGetList_tidy (tag : Tag) (port : Nat) (oper : Bool) (first count : Nat) (s : State) (is : s.tidy) : ∃ t, execGateGetList tag port oper first count s = .next t ∧ t.tidy := ⟨_, rfl, query_tidy _ _ _ _ _ is⟩

theorem execGateCommit_tidy (tag : Tag) (port ct : Nat) (sig : Option AxaroBlock) (s : State) (is : s.tidy) : ∃ t, execGateCommit tag port ct sig s = .next t ∧ t.tidy := ⟨_, rfl, serve_tidy _ _ _ _ _ _ (fun u is => by ((try dsimp only); (repeat' split) <;> simp (maxDischargeDepth := 30) [*])) is⟩

theorem execGateCancelCommit_tidy (tag : Tag) (port : Nat) (s : State) (is : s.tidy) : ∃ t, execGateCancelCommit tag port s = .next t ∧ t.tidy := ⟨_, rfl, serve_tidy _ _ _ _ _ _ (fun u is => by ((repeat' split) <;> simp (maxDischargeDepth := 30) [*])) is⟩

theorem execGateDisable_tidy (tag : Tag) (port ct : Nat) (s : State) (is : s.tidy) : ∃ t, execGateDisable tag port ct s = .next t ∧ t.tidy := ⟨_, rfl, serve_tidy _ _ _ _ _ _ (fun u is => by simp (maxDischargeDepth := 30) [*]) is⟩

theorem execGateGetWindows_tidy (tag : Tag) (port : Nat) (s : State) (is : s.tidy) : ∃ t, execGateGetWindows tag port s = .next t ∧ t.tidy := ⟨_, rfl, query_tidy _ _ _ _ _ is⟩

theorem execStreamGetStatus_tidy (tag : Tag) (s : State) (is : s.tidy) : ∃ t, execStreamGetStatus tag s = .next t ∧ t.tidy := ⟨_, rfl, query_tidy _ _ _ _ _ is⟩

theorem execStreamSet_tidy (tag : Tag) (first : Nat) (entries : List (List Word)) (s : State) (is : s.tidy) : ∃ t, execStreamSet tag first entries s = .next t ∧ t.tidy := ⟨_, rfl, serve_tidy _ _ _ _ _ _ (fun u is => by ((repeat' split) <;> simp (maxDischargeDepth := 30) (contextual := true) [*])) is⟩

theorem execStreamGet_tidy (tag : Tag) (first count : Nat) (s : State) (is : s.tidy) : ∃ t, execStreamGet tag first count s = .next t ∧ t.tidy := ⟨_, rfl, query_tidy _ _ _ _ _ is⟩

theorem execStreamGetStats_tidy (tag : Tag) (first count : Nat) (s : State) (is : s.tidy) : ∃ t, execStreamGetStats tag first count s = .next t ∧ t.tidy := ⟨_, rfl, serve_tidy _ _ _ _ _ _ (fun u is => by simp (maxDischargeDepth := 30) (contextual := true) [*]) is⟩

theorem execStreamResetRecovery_tidy (tag : Tag) (first count : Nat) (s : State) (is : s.tidy) : ∃ t, execStreamResetRecovery tag first count s = .next t ∧ t.tidy := ⟨_, rfl, serve_tidy _ _ _ _ _ _ (fun u is => by simp (maxDischargeDepth := 30) (contextual := true) [*]) is⟩

theorem execStreamSetCover_tidy (tag : Tag) (set : Nat) (enable : Bool) (wStart wEnd : Nat) (s : State) (is : s.tidy) : ∃ t, execStreamSetCover tag set enable wStart wEnd s = .next t ∧ t.tidy := ⟨_, rfl, serve_tidy _ _ _ _ _ _ (fun u is => by simp (maxDischargeDepth := 30) [*]) is⟩

theorem execStreamGetCover_tidy (tag : Tag) (set : Nat) (s : State) (is : s.tidy) : ∃ t, execStreamGetCover tag set s = .next t ∧ t.tidy := ⟨_, rfl, query_tidy _ _ _ _ _ is⟩

theorem execStreamClearLatent_tidy (tag : Tag) (first count : Nat) (s : State) (is : s.tidy) : ∃ t, execStreamClearLatent tag first count s = .next t ∧ t.tidy := ⟨_, rfl, serve_tidy _ _ _ _ _ _ (fun u is => by simp (maxDischargeDepth := 30) (contextual := true) [*]) is⟩

theorem execRecoveryResetTimer_tidy (stream : Nat) (s : State) (is : s.tidy) : ∃ t, execRecoveryResetTimer stream s = .next t ∧ t.tidy := ⟨_, rfl, (by (simp (maxDischargeDepth := 30) [*]))⟩

theorem execLatentPeriod_tidy (stream : Nat) (s : State) (is : s.tidy) : ∃ t, execLatentPeriod stream s = .next t ∧ t.tidy := ⟨_, rfl, (by simp (maxDischargeDepth := 30) [*])⟩

theorem execCoverWindowStart_tidy (set : Nat) (s : State) (is : s.tidy) : ∃ t, execCoverWindowStart set s = .next t ∧ t.tidy := ⟨_, rfl, (by simp (maxDischargeDepth := 30) [*])⟩

theorem execCoverWindowEnd_tidy (set : Nat) (s : State) (is : s.tidy) : ∃ t, execCoverWindowEnd set s = .next t ∧ t.tidy := ⟨_, rfl, (by simp (maxDischargeDepth := 30) [*])⟩

theorem execThresherDispatch_tidy (thread : Nat) (s : State) (is : s.tidy) : ∃ t, execThresherDispatch thread s = .next t ∧ t.tidy := ⟨_, rfl, (by ((try dsimp only); (repeat' split) <;> simp (maxDischargeDepth := 30) [*]))⟩

theorem execThDone_tidy (thread : Nat) (s : State) (is : s.tidy) : ∃ t, execThDone thread s = .next t ∧ t.tidy := ⟨_, rfl, (by simp (maxDischargeDepth := 30) [*])⟩

theorem execThMov_tidy (thread : Nat) (s : State) (is : s.tidy) : ∃ t, execThMov thread s = .next t ∧ t.tidy := ⟨_, rfl, (by simp (maxDischargeDepth := 30) [*])⟩

theorem execThAdd_tidy (thread : Nat) (s : State) (is : s.tidy) : ∃ t, execThAdd thread s = .next t ∧ t.tidy := ⟨_, rfl, (by simp (maxDischargeDepth := 30) [*])⟩

theorem execThSub_tidy (thread : Nat) (s : State) (is : s.tidy) : ∃ t, execThSub thread s = .next t ∧ t.tidy := ⟨_, rfl, (by simp (maxDischargeDepth := 30) [*])⟩

theorem execThAnd_tidy (thread : Nat) (s : State) (is : s.tidy) : ∃ t, execThAnd thread s = .next t ∧ t.tidy := ⟨_, rfl, (by simp (maxDischargeDepth := 30) [*])⟩

theorem execThOr_tidy (thread : Nat) (s : State) (is : s.tidy) : ∃ t, execThOr thread s = .next t ∧ t.tidy := ⟨_, rfl, (by simp (maxDischargeDepth := 30) [*])⟩

theorem execThShl_tidy (thread : Nat) (s : State) (is : s.tidy) : ∃ t, execThShl thread s = .next t ∧ t.tidy := ⟨_, rfl, (by simp (maxDischargeDepth := 30) [*])⟩

theorem execThShr_tidy (thread : Nat) (s : State) (is : s.tidy) : ∃ t, execThShr thread s = .next t ∧ t.tidy := ⟨_, rfl, (by simp (maxDischargeDepth := 30) [*])⟩

theorem execThCmp_tidy (thread : Nat) (s : State) (is : s.tidy) : ∃ t, execThCmp thread s = .next t ∧ t.tidy := ⟨_, rfl, (by simp (maxDischargeDepth := 30) [*])⟩

theorem execThLdb_tidy (thread : Nat) (s : State) (is : s.tidy) : ∃ t, execThLdb thread s = .next t ∧ t.tidy := ⟨_, rfl, (by simp (maxDischargeDepth := 30) [*])⟩

theorem execThLdh_tidy (thread : Nat) (s : State) (is : s.tidy) : ∃ t, execThLdh thread s = .next t ∧ t.tidy := ⟨_, rfl, (by simp (maxDischargeDepth := 30) [*])⟩

theorem execThLdm_tidy (thread : Nat) (s : State) (is : s.tidy) : ∃ t, execThLdm thread s = .next t ∧ t.tidy := ⟨_, rfl, (by simp (maxDischargeDepth := 30) [*])⟩

theorem execThKld_tidy (thread : Nat) (s : State) (is : s.tidy) : ∃ t, execThKld thread s = .next t ∧ t.tidy := ⟨_, rfl, (by simp (maxDischargeDepth := 30) [*])⟩

theorem execThKmov_tidy (thread : Nat) (s : State) (is : s.tidy) : ∃ t, execThKmov thread s = .next t ∧ t.tidy := ⟨_, rfl, (by simp (maxDischargeDepth := 30) [*])⟩

theorem execThBr_tidy (thread : Nat) (s : State) (is : s.tidy) : ∃ t, execThBr thread s = .next t ∧ t.tidy := ⟨_, rfl, (by simp (maxDischargeDepth := 30) [*])⟩

theorem execThHdr_tidy (thread : Nat) (s : State) (is : s.tidy) : ∃ t, execThHdr thread s = .next t ∧ t.tidy := ⟨_, rfl, (by simp (maxDischargeDepth := 30) [*])⟩

theorem execThProf_tidy (thread : Nat) (s : State) (is : s.tidy) : ∃ t, execThProf thread s = .next t ∧ t.tidy := ⟨_, rfl, (by simp (maxDischargeDepth := 30) [*])⟩

theorem execThMark_tidy (thread : Nat) (s : State) (is : s.tidy) : ∃ t, execThMark thread s = .next t ∧ t.tidy := ⟨_, rfl, (by simp (maxDischargeDepth := 30) [*])⟩

theorem execThRecirc_tidy (thread : Nat) (s : State) (is : s.tidy) : ∃ t, execThRecirc thread s = .next t ∧ t.tidy := ⟨_, rfl, (by simp (maxDischargeDepth := 30) [*])⟩

theorem execThPm_tidy (thread : Nat) (s : State) (is : s.tidy) : ∃ t, execThPm thread s = .next t ∧ t.tidy := ⟨_, rfl, (by simp (maxDischargeDepth := 30) [*])⟩

theorem execPmResult_tidy (thread : Nat) (s : State) (is : s.tidy) : ∃ t, execPmResult thread s = .next t ∧ t.tidy := ⟨_, rfl, (by ((try dsimp only); (repeat' split) <;> simp (maxDischargeDepth := 30) [*]))⟩

theorem execThresherRelease_tidy (port : Nat) (s : State) (is : s.tidy) : ∃ t, execThresherRelease port s = .next t ∧ t.tidy := ⟨_, rfl, (by ((try dsimp only); (repeat' split) <;> simp (maxDischargeDepth := 30) [*]))⟩

theorem execRuleSwapAt_tidy (s : State) (is : s.tidy) : ∃ t, execRuleSwapAt s = .next t ∧ t.tidy := ⟨_, rfl, (by (simp (maxDischargeDepth := 30) [*]))⟩

theorem execRuleSwapDrain_tidy (s : State) (is : s.tidy) : ∃ t, execRuleSwapDrain s = .next t ∧ t.tidy := ⟨_, rfl, (by (simp (maxDischargeDepth := 30) [*]))⟩

theorem execRuleGetStatus_tidy (tag : Tag) (s : State) (is : s.tidy) : ∃ t, execRuleGetStatus tag s = .next t ∧ t.tidy := ⟨_, rfl, query_tidy _ _ _ _ _ is⟩

theorem execRuleLoadProgram_tidy (tag : Tag) (start : Nat) (words : List Word) (s : State) (is : s.tidy) : ∃ t, execRuleLoadProgram tag start words s = .next t ∧ t.tidy := ⟨_, rfl, serve_tidy _ _ _ _ _ _ (fun u is => by ((repeat' split) <;> simp (maxDischargeDepth := 30) [*])) is⟩

theorem execRuleSetProfile_tidy (tag : Tag) (cfg : ProfileCfg) (s : State) (is : s.tidy) : ∃ t, execRuleSetProfile tag cfg s = .next t ∧ t.tidy := ⟨_, rfl, serve_tidy _ _ _ _ _ _ (fun u is => by simp (maxDischargeDepth := 30) [*]) is⟩

theorem execRuleAddHash_tidy (tag : Tag) (recs : List (List Byte)) (s : State) (is : s.tidy) : ∃ t, execRuleAddHash tag recs s = .next t ∧ t.tidy := ⟨_, rfl, serve_tidy _ _ _ _ _ _ (fun u is => by ((repeat' split) <;> simp (maxDischargeDepth := 30) [*])) is⟩

theorem execRuleDelHash_tidy (tag : Tag) (keys : List (BitVec 6 × Byte × BitVec 320)) (s : State) (is : s.tidy) : ∃ t, execRuleDelHash tag keys s = .next t ∧ t.tidy := ⟨_, rfl, serve_tidy _ _ _ _ _ _ (fun u is => by simp (maxDischargeDepth := 30) [*]) is⟩

theorem execRuleSetTernary_tidy (tag : Tag) (first : Nat) (recs : List (List Byte)) (s : State) (is : s.tidy) : ∃ t, execRuleSetTernary tag first recs s = .next t ∧ t.tidy := ⟨_, rfl, serve_tidy _ _ _ _ _ _ (fun u is => by ((repeat' split) <;> simp (maxDischargeDepth := 30) [*])) is⟩

theorem execRuleSetPattern_tidy (tag : Tag) (first : Nat) (recs : List (List Byte)) (s : State) (is : s.tidy) : ∃ t, execRuleSetPattern tag first recs s = .next t ∧ t.tidy := ⟨_, rfl, serve_tidy _ _ _ _ _ _ (fun u is => by ((repeat' split) <;> simp (maxDischargeDepth := 30) [*])) is⟩

theorem execRuleClone_tidy (tag : Tag) (s : State) (is : s.tidy) : ∃ t, execRuleClone tag s = .next t ∧ t.tidy := ⟨_, rfl, serve_tidy _ _ _ _ _ _ (fun u is => by simp (maxDischargeDepth := 30) [*]) is⟩

theorem execRuleSwap_tidy (tag : Tag) (swapAt : Nat) (s : State) (is : s.tidy) : ∃ t, execRuleSwap tag swapAt s = .next t ∧ t.tidy := ⟨_, rfl, serve_tidy _ _ _ _ _ _ (fun u is => by simp (maxDischargeDepth := 30) [*]) is⟩

theorem execRuleCancelSwap_tidy (tag : Tag) (s : State) (is : s.tidy) : ∃ t, execRuleCancelSwap tag s = .next t ∧ t.tidy := ⟨_, rfl, serve_tidy _ _ _ _ _ _ (fun u is => by ((try dsimp only); (repeat' split) <;> simp (maxDischargeDepth := 30) [*])) is⟩

theorem execRuleGet_tidy (tag : Tag) (query : RuleQuery) (s : State) (is : s.tidy) : ∃ t, execRuleGet tag query s = .next t ∧ t.tidy := ⟨_, rfl, query_tidy _ _ _ _ _ is⟩

theorem execRuleGetStats_tidy (tag : Tag) (first count : Nat) (s : State) (is : s.tidy) : ∃ t, execRuleGetStats tag first count s = .next t ∧ t.tidy := ⟨_, rfl, serve_tidy _ _ _ _ _ _ (fun u is => by simp (maxDischargeDepth := 30) [*]) is⟩

theorem execRuleSetMirror_tidy (tag : Tag) (session : Nat) (dest : MirrorDest) (trunc : Nat) (s : State) (is : s.tidy) : ∃ t, execRuleSetMirror tag session dest trunc s = .next t ∧ t.tidy := ⟨_, rfl, serve_tidy _ _ _ _ _ _ (fun u is => by simp (maxDischargeDepth := 30) [*]) is⟩

theorem execRuleSetMp_tidy (tag : Tag) (rate : Nat) (s : State) (is : s.tidy) : ∃ t, execRuleSetMp tag rate s = .next t ∧ t.tidy := ⟨_, rfl, serve_tidy _ _ _ _ _ _ (fun u is => by simp (maxDischargeDepth := 30) [*]) is⟩

theorem execRuleGetCopies_tidy (tag : Tag) (count : Nat) (s : State) (is : s.tidy) : ∃ t, execRuleGetCopies tag count s = .next t ∧ t.tidy := ⟨_, rfl, query_tidy _ _ _ _ _ is⟩

theorem execHqEnable_tidy (q : QId) (s : State) (is : s.tidy) : ∃ t, execHqEnable q s = .next t ∧ t.tidy := ⟨_, rfl, (by simp (maxDischargeDepth := 30) [*])⟩

theorem execHqDisable_tidy (q : QId) (s : State) (is : s.tidy) : ∃ t, execHqDisable q s = .next t ∧ t.tidy := ⟨_, rfl, (by simp (maxDischargeDepth := 30) [*])⟩

theorem execQueueDrainComplete_tidy (q : QId) (s : State) (is : s.tidy) : ∃ t, execQueueDrainComplete q s = .next t ∧ t.tidy := ⟨_, rfl, (by simp (maxDischargeDepth := 30) [*])⟩

theorem execHqIdxReset_tidy (q : QId) (s : State) (is : s.tidy) : ∃ t, execHqIdxReset q s = .next t ∧ t.tidy := ⟨_, rfl, (by simp (maxDischargeDepth := 30) [*])⟩

theorem execHqTailWrite_tidy (q : QId) (value : Word) (s : State) (is : s.tidy) : ∃ t, execHqTailWrite q value s = .next t ∧ t.tidy := ⟨_, rfl, (by simp (maxDischargeDepth := 30) [*])⟩

theorem execHqDropRead_tidy (q : Nat) (s : State) (is : s.tidy) : ∃ t, execHqDropRead q s = .next t ∧ t.tidy := ⟨_, rfl, (by simp (maxDischargeDepth := 30) [*])⟩

theorem execCqEnableWrite_tidy (q : Nat) (enable irqEn : Bool) (s : State) (is : s.tidy) : ∃ t, execCqEnableWrite q enable irqEn s = .next t ∧ t.tidy := ⟨_, rfl, (by simp (maxDischargeDepth := 30) [*])⟩

theorem execCqIdxReset_tidy (q : Nat) (s : State) (is : s.tidy) : ∃ t, execCqIdxReset q s = .next t ∧ t.tidy := ⟨_, rfl, (by simp (maxDischargeDepth := 30) [*])⟩

theorem execCqHeadWrite_tidy (q : Nat) (value : Word) (s : State) (is : s.tidy) : ∃ t, execCqHeadWrite q value s = .next t ∧ t.tidy := ⟨_, rfl, (by simp (maxDischargeDepth := 30) [*])⟩

theorem execTxChainFetch_tidy (q : QId) (entries : List Descriptor) (buffers : List Byte) (s : State) (is : s.tidy) : ∃ t, execTxChainFetch q entries buffers s = .next t ∧ t.tidy := by
  refine ⟨_, rfl, ?_⟩
  dsimp only
  split
  · exact is
  · split
    · exact is
    · next h =>
      have k := nextServed_tidy _ _ is h
      repeat' split
      all_goals first
        | exact is
        | exact fetchTx_tidy _ _ _ _ k
        | exact fetchFcq_tidy _ _ _ k

theorem execMemoryRequestAnswered_tidy (answer : MemAnswer) (s : State) (is : s.tidy) : ∃ t, execMemoryRequestAnswered answer s = .next t ∧ t.tidy := ⟨_, rfl, (by ((try dsimp only); (repeat' split) <;> simp (maxDischargeDepth := 30) [*]))⟩

theorem execRxReservation_tidy (q : Nat) (entries : List Descriptor) (s : State) (is : s.tidy) : ∃ t, execRxReservation q entries s = .next t ∧ t.tidy := by
  refine ⟨_, rfl, ?_⟩
  dsimp only
  split
  · exact is
  · split
    · exact is
    · split
      · exact queueError_tidy _ _ _ _ is
      · exact pauseChecks_tidy _ (noteFailures_tidy _ _ (modSub_tidy _ _ _ (writeBuffers_tidy _ _ _ _ is)))

theorem execRxDropDelay_tidy (q : Nat) (s : State) (is : s.tidy) : ∃ t, execRxDropDelay q s = .next t ∧ t.tidy := ⟨_, rfl, (by ((try dsimp only); (repeat' split) <;> simp (maxDischargeDepth := 30) [*]))⟩

theorem execCompletionWrite_tidy (cq : Nat) (s : State) (is : s.tidy) : ∃ t, execCompletionWrite cq s = .next t ∧ t.tidy := ⟨_, rfl, (by simp (maxDischargeDepth := 30) [*])⟩

theorem execModerationTimer_tidy (vector : Nat) (s : State) (is : s.tidy) : ∃ t, execModerationTimer vector s = .next t ∧ t.tidy := ⟨_, rfl, (by simp (maxDischargeDepth := 30) [*])⟩

theorem execPendingVectorDeliver_tidy (vector : Nat) (s : State) (is : s.tidy) : ∃ t, execPendingVectorDeliver vector s = .next t ∧ t.tidy := ⟨_, rfl, (by simp (maxDischargeDepth := 30) [*])⟩

theorem execD3hotEntry_tidy (s : State) (is : s.tidy) : ∃ t, execD3hotEntry s = .next t ∧ t.tidy := ⟨_, rfl, (by simp (maxDischargeDepth := 30) [*])⟩

theorem execD0Return_tidy (s : State) (is : s.tidy) : ∃ t, execD0Return s = .next t ∧ t.tidy := ⟨_, rfl, (by simp (maxDischargeDepth := 30) [*])⟩

theorem execBusMasterEnableWrite_tidy (enable : Bool) (s : State) (is : s.tidy) : ∃ t, execBusMasterEnableWrite enable s = .next t ∧ t.tidy := ⟨_, rfl, (by simp (maxDischargeDepth := 30) [*])⟩

theorem execGleanerEvaluation_tidy (mismatch : Bool) (s : State) (is : s.tidy) : ∃ t, execGleanerEvaluation mismatch s = .next t ∧ t.tidy := ⟨_, rfl, (by simp (maxDischargeDepth := 30) [*])⟩

theorem execGleanerWindowExpiry_tidy (source : Nat) (s : State) (is : s.tidy) : ∃ t, execGleanerWindowExpiry source s = .next t ∧ t.tidy := ⟨_, rfl, (by simp (maxDischargeDepth := 30) [*])⟩

theorem execSourceSevere_tidy (source : Nat) (s : State) (is : s.tidy) : ∃ t, execSourceSevere source s = .next t ∧ t.tidy := ⟨_, rfl, (by simp (maxDischargeDepth := 30) [*])⟩

theorem execGleanerDeadline_tidy (source : Nat) (s : State) (is : s.tidy) : ∃ t, execGleanerDeadline source s = .next t ∧ t.tidy := ⟨_, rfl, (by simp (maxDischargeDepth := 30) [*])⟩

theorem execRegionReinitComplete_tidy (region : Nat) (s : State) (is : s.tidy) : ∃ t, execRegionReinitComplete region s = .next t ∧ t.tidy := ⟨_, rfl, (by simp (maxDischargeDepth := 30) [*])⟩

theorem execGlClearSource_tidy (value : Word) (s : State) (is : s.tidy) : ∃ t, execGlClearSource value s = .next t ∧ t.tidy := ⟨_, rfl, (by simp (maxDischargeDepth := 30) [*])⟩

theorem execGlClearAll_tidy (value : Word) (s : State) (is : s.tidy) : ∃ t, execGlClearAll value s = .next t ∧ t.tidy := ⟨_, rfl, (by simp (maxDischargeDepth := 30) [*])⟩

theorem execFirmwareClear_tidy (source : Nat) (s : State) (is : s.tidy) : ∃ t, execFirmwareClear source s = .next t ∧ t.tidy := ⟨_, rfl, (by ((try dsimp only); (repeat' split) <;> simp (maxDischargeDepth := 30) [*]))⟩

theorem execRecordFlashWrite_tidy (s : State) (is : s.tidy) : ∃ t, execRecordFlashWrite s = .next t ∧ t.tidy := ⟨_, rfl, (by ((try dsimp only); (repeat' split) <;> simp (maxDischargeDepth := 30) [*]))⟩

theorem execWatchdogExpiry_tidy (s : State) (is : s.tidy) : ∃ t, execWatchdogExpiry s = .next t ∧ t.tidy := ⟨_, rfl, (by simp (maxDischargeDepth := 30) [*])⟩

theorem execComparatorSelfTest_tidy (flagged : Bool) (s : State) (is : s.tidy) : ∃ t, execComparatorSelfTest flagged s = .next t ∧ t.tidy := ⟨_, rfl, (by simp (maxDischargeDepth := 30) [*])⟩

theorem execAliveEdge_tidy (s : State) (is : s.tidy) : ∃ t, execAliveEdge s = .next t ∧ t.tidy := ⟨_, rfl, (by simp (maxDischargeDepth := 30) [*])⟩

theorem execFaultInjectEvent_tidy (s : State) (is : s.tidy) : ∃ t, execFaultInjectEvent s = .next t ∧ t.tidy := ⟨_, rfl, (by ((try dsimp only); (repeat' split) <;> simp (maxDischargeDepth := 30) [*]))⟩

theorem execGlStatus0Read_tidy (s : State) (is : s.tidy) : ∃ t, execGlStatus0Read s = .next t ∧ t.tidy := ⟨_, rfl, (by simp (maxDischargeDepth := 30) [*])⟩

theorem execGlEventsWrite_tidy (value : Word) (s : State) (is : s.tidy) : ∃ t, execGlEventsWrite value s = .next t ∧ t.tidy := ⟨_, rfl, (by simp (maxDischargeDepth := 30) [*])⟩

theorem execFaultGetStatus_tidy (tag : Tag) (s : State) (is : s.tidy) : ∃ t, execFaultGetStatus tag s = .next t ∧ t.tidy := ⟨_, rfl, query_tidy _ _ _ _ _ is⟩

theorem execFaultGetSource_tidy (tag : Tag) (first count : Nat) (s : State) (is : s.tidy) : ∃ t, execFaultGetSource tag first count s = .next t ∧ t.tidy := ⟨_, rfl, query_tidy _ _ _ _ _ is⟩

theorem execFaultSetSource_tidy (tag : Tag) (first : Nat) (params : List SrcParams) (s : State) (is : s.tidy) : ∃ t, execFaultSetSource tag first params s = .next t ∧ t.tidy := ⟨_, rfl, serve_tidy _ _ _ _ _ _ (fun u is => by ((try dsimp only); (repeat' split) <;> simp (maxDischargeDepth := 30) (contextual := true) [*])) is⟩

theorem execFaultClear_tidy (tag : Tag) (source : Option Nat) (seq : Word) (s : State) (is : s.tidy) : ∃ t, execFaultClear tag source seq s = .next t ∧ t.tidy := ⟨_, rfl, serve_tidy _ _ _ _ _ _ (fun u is => by simp (maxDischargeDepth := 30) [*]) is⟩

theorem execFaultGetRecord_tidy (tag : Tag) (which : Nat) (s : State) (is : s.tidy) : ∃ t, execFaultGetRecord tag which s = .next t ∧ t.tidy := ⟨_, rfl, query_tidy _ _ _ _ _ is⟩

theorem execFaultSaveConfig_tidy (tag : Tag) (s : State) (is : s.tidy) : ∃ t, execFaultSaveConfig tag s = .next t ∧ t.tidy := ⟨_, rfl, serve_tidy _ _ _ _ _ _ (fun u is => by simp (maxDischargeDepth := 30) (contextual := true) [*]) is⟩

theorem execFaultGetLog_tidy (tag : Tag) (seq : Nat) (s : State) (is : s.tidy) : ∃ t, execFaultGetLog tag seq s = .next t ∧ t.tidy := ⟨_, rfl, query_tidy _ _ _ _ _ is⟩

theorem execFaultRaise_tidy (tag : Tag) (s : State) (is : s.tidy) : ∃ t, execFaultRaise tag s = .next t ∧ t.tidy := ⟨_, rfl, serve_tidy _ _ _ _ _ _ (fun u is => by simp (maxDischargeDepth := 30) [*]) is⟩

theorem execFaultInject_tidy (tag : Tag) (op : InjectOp) (s : State) (is : s.tidy) : ∃ t, execFaultInject tag op s = .next t ∧ t.tidy := ⟨_, rfl, serve_tidy _ _ _ _ _ _ (fun u is => by ((try dsimp only); (repeat' split) <;> simp (maxDischargeDepth := 30) [*])) is⟩

theorem execFaultGetInject_tidy (tag : Tag) (s : State) (is : s.tidy) : ∃ t, execFaultGetInject tag s = .next t ∧ t.tidy := ⟨_, rfl, query_tidy _ _ _ _ _ is⟩

theorem execPowerOn_tidy (s : State) (is : s.tidy) : ∃ t, execPowerOn s = .next t ∧ t.tidy := ⟨_, rfl, (by simp (maxDischargeDepth := 30) [*])⟩

theorem execVwakeLoss_tidy  (s : State) (is : s.tidy) : ∃ t, execVwakeLoss s = .next t ∧ t.tidy := by
  refine ⟨_, rfl, ?_⟩
  split
  · exact is
  · exact (wiped_tidy [] _ rfl : State.tidy (State.wiped [] ((s.setSyncOut false).setAlive false |>.setPwrEn false)))

theorem execBrownOut_tidy (s : State) (is : s.tidy) : ∃ t, execBrownOut s = .next t ∧ t.tidy := ⟨_, rfl, (by simp (maxDischargeDepth := 30) [*])⟩

theorem execResetNAssert_tidy (s : State) (is : s.tidy) : ∃ t, execResetNAssert s = .next t ∧ t.tidy := ⟨_, rfl, (by simp (maxDischargeDepth := 30) [*])⟩

theorem execPerstAssert_tidy (s : State) (is : s.tidy) : ∃ t, execPerstAssert s = .next t ∧ t.tidy := ⟨_, rfl, (by simp (maxDischargeDepth := 30) [*])⟩

theorem execResetDeviceDelayExpiry_tidy (s : State) (is : s.tidy) : ∃ t, execResetDeviceDelayExpiry s = .next t ∧ t.tidy := ⟨_, rfl, (by ((try dsimp only); (repeat' split) <;> simp (maxDischargeDepth := 30) [*]))⟩

theorem execResetRelease_tidy (straps : Straps) (s : State) (is : s.tidy) : ∃ t, execResetRelease straps s = .next t ∧ t.tidy := ⟨_, rfl, (by simp (maxDischargeDepth := 30) [*])⟩

theorem execWipeComplete_tidy (s : State) (is : s.tidy) : ∃ t, execWipeComplete s = .next t ∧ t.tidy := ⟨_, rfl, (by simp (maxDischargeDepth := 30) [*])⟩

theorem execFwReady_tidy (s : State) (is : s.tidy) : ∃ t, execFwReady s = .next t ∧ t.tidy := ⟨_, rfl, (by simp (maxDischargeDepth := 30) (contextual := true) [*])⟩

theorem execFwConfirm_tidy (s : State) (is : s.tidy) : ∃ t, execFwConfirm s = .next t ∧ t.tidy := ⟨_, rfl, (by simp (maxDischargeDepth := 30) [*])⟩

theorem execPcieHotReset_tidy (s : State) (is : s.tidy) : ∃ t, execPcieHotReset s = .next t ∧ t.tidy := ⟨_, rfl, (by simp (maxDischargeDepth := 30) [*])⟩

theorem execFunctionLevelReset_tidy (s : State) (is : s.tidy) : ∃ t, execFunctionLevelReset s = .next t ∧ t.tidy := ⟨_, rfl, (by simp (maxDischargeDepth := 30) [*])⟩

theorem execClassFWipeComplete_tidy (s : State) (is : s.tidy) : ∃ t, execClassFWipeComplete s = .next t ∧ t.tidy := ⟨_, rfl, (by simp (maxDischargeDepth := 30) [*])⟩

theorem execHoldNAssert_tidy (s : State) (is : s.tidy) : ∃ t, execHoldNAssert s = .next t ∧ t.tidy := ⟨_, rfl, (by simp (maxDischargeDepth := 30) [*])⟩

theorem execHoldNRelease_tidy (s : State) (is : s.tidy) : ∃ t, execHoldNRelease s = .next t ∧ t.tidy := ⟨_, rfl, (by simp (maxDischargeDepth := 30) [*])⟩

theorem execWakeRise_tidy (s : State) (is : s.tidy) : ∃ t, execWakeRise s = .next t ∧ t.tidy := ⟨_, rfl, (by simp (maxDischargeDepth := 30) [*])⟩

theorem execSleepShutdown_tidy (s : State) (is : s.tidy) : ∃ t, execSleepShutdown s = .next t ∧ t.tidy := ⟨_, rfl, (by simp (maxDischargeDepth := 30) [*])⟩

theorem execSleepPark_tidy (s : State) (is : s.tidy) : ∃ t, execSleepPark s = .next t ∧ t.tidy := ⟨_, rfl, (by simp (maxDischargeDepth := 30) [*])⟩

theorem execPwrEnFall_tidy  (s : State) (is : s.tidy) : ∃ t, execPwrEnFall s = .next t ∧ t.tidy := by
  refine ⟨_, rfl, ?_⟩
  split
  · exact is
  · exact (wiped_tidy [] _ rfl : State.tidy (State.wiped [] ((s.setSyncOut false).setPwrEn false)))

theorem execPwrEnRise_tidy (s : State) (is : s.tidy) : ∃ t, execPwrEnRise s = .next t ∧ t.tidy := ⟨_, rfl, (by simp (maxDischargeDepth := 30) [*])⟩

theorem execTbRefLoss_tidy (s : State) (is : s.tidy) : ∃ t, execTbRefLoss s = .next t ∧ t.tidy := ⟨_, rfl, (by simp (maxDischargeDepth := 30) [*])⟩

theorem execTbRefReturn_tidy (s : State) (is : s.tidy) : ∃ t, execTbRefReturn s = .next t ∧ t.tidy := ⟨_, rfl, (by simp (maxDischargeDepth := 30) [*])⟩

theorem execRailExcursion_tidy (rail : Nat) (millivolts : Int) (s : State) (is : s.tidy) : ∃ t, execRailExcursion rail millivolts s = .next t ∧ t.tidy := ⟨_, rfl, (by simp (maxDischargeDepth := 30) [*])⟩

theorem execPaceUpdate_tidy (pace : BitVec 16) (s : State) (is : s.tidy) : ∃ t, execPaceUpdate pace s = .next t ∧ t.tidy := ⟨_, rfl, (by simp (maxDischargeDepth := 30) [*])⟩

theorem execRoleWaitExpiry_tidy (s : State) (is : s.tidy) : ∃ t, execRoleWaitExpiry s = .next t ∧ t.tidy := ⟨_, rfl, (by simp (maxDischargeDepth := 30) [*])⟩

theorem execPowerGetStatus_tidy (tag : Tag) (s : State) (is : s.tidy) : ∃ t, execPowerGetStatus tag s = .next t ∧ t.tidy := ⟨_, rfl, serve_tidy _ _ _ _ _ _ (fun u is => by simp (maxDischargeDepth := 30) [*]) is⟩

theorem execPowerHold_tidy (tag : Tag) (hold : Bool) (s : State) (is : s.tidy) : ∃ t, execPowerHold tag hold s = .next t ∧ t.tidy := ⟨_, rfl, serve_tidy _ _ _ _ _ _ (fun u is => by simp (maxDischargeDepth := 30) [*]) is⟩

theorem execPowerSleep_tidy (tag : Tag) (s : State) (is : s.tidy) : ∃ t, execPowerSleep tag s = .next t ∧ t.tidy := ⟨_, rfl, serve_tidy _ _ _ _ _ _ (fun u is => by simp (maxDischargeDepth := 30) [*]) is⟩

theorem execHedgerowSlotSend_tidy (slot : Nat) (s : State) (is : s.tidy) : ∃ t, execHedgerowSlotSend slot s = .next t ∧ t.tidy := ⟨_, rfl, (by simp (maxDischargeDepth := 30) [*])⟩

theorem execNoticeSend_tidy (frameId minislot : Nat) (s : State) (is : s.tidy) : ∃ t, execNoticeSend frameId minislot s = .next t ∧ t.tidy := ⟨_, rfl, (by ((try dsimp only); (repeat' split) <;> simp (maxDischargeDepth := 30) [*]))⟩

theorem execHedgerowFrameReceived_tidy (chanB : Bool) (slot : Nat) (rx : HedgeRx) (stamp : Int) (s : State) (is : s.tidy) : ∃ t, execHedgerowFrameReceived chanB slot rx stamp s = .next t ∧ t.tidy := ⟨_, rfl, (by simp (maxDischargeDepth := 30) [*])⟩

theorem execListenTimeout_tidy (s : State) (is : s.tidy) : ∃ t, execListenTimeout s = .next t ∧ t.tidy := ⟨_, rfl, (by simp (maxDischargeDepth := 30) [*])⟩

theorem execHedgerowMidpoint_tidy (s : State) (is : s.tidy) : ∃ t, execHedgerowMidpoint s = .next t ∧ t.tidy := ⟨_, rfl, (by simp (maxDischargeDepth := 30) [*])⟩

theorem execHedgerowCorrection_tidy (s : State) (is : s.tidy) : ∃ t, execHedgerowCorrection s = .next t ∧ t.tidy := ⟨_, rfl, (by ((try dsimp only); (repeat' split) <;> simp (maxDischargeDepth := 30) [*]))⟩

theorem execHedgerowCycleEnd_tidy (s : State) (is : s.tidy) : ∃ t, execHedgerowCycleEnd s = .next t ∧ t.tidy := ⟨_, rfl, (by simp (maxDischargeDepth := 30) [*])⟩

theorem execHedgeGetStatus_tidy (tag : Tag) (s : State) (is : s.tidy) : ∃ t, execHedgeGetStatus tag s = .next t ∧ t.tidy := ⟨_, rfl, query_tidy _ _ _ _ _ is⟩

theorem execHedgeSetConfig_tidy (tag : Tag) (cfg : HedgeCfg) (s : State) (is : s.tidy) : ∃ t, execHedgeSetConfig tag cfg s = .next t ∧ t.tidy := ⟨_, rfl, serve_tidy _ _ _ _ _ _ (fun u is => by simp (maxDischargeDepth := 30) [*]) is⟩

theorem execHedgeGetConfig_tidy (tag : Tag) (s : State) (is : s.tidy) : ∃ t, execHedgeGetConfig tag s = .next t ∧ t.tidy := ⟨_, rfl, query_tidy _ _ _ _ _ is⟩

theorem execHedgeSaveConfig_tidy (tag : Tag) (s : State) (is : s.tidy) : ∃ t, execHedgeSaveConfig tag s = .next t ∧ t.tidy := ⟨_, rfl, serve_tidy _ _ _ _ _ _ (fun u is => by simp (maxDischargeDepth := 30) (contextual := true) [*]) is⟩

theorem execHedgeRestart_tidy (tag : Tag) (force : Bool) (s : State) (is : s.tidy) : ∃ t, execHedgeRestart tag force s = .next t ∧ t.tidy := ⟨_, rfl, serve_tidy _ _ _ _ _ _ (fun u is => by simp (maxDischargeDepth := 30) [*]) is⟩

theorem execHedgeGetStats_tidy (tag : Tag) (s : State) (is : s.tidy) : ∃ t, execHedgeGetStats tag s = .next t ∧ t.tidy := ⟨_, rfl, serve_tidy _ _ _ _ _ _ (fun u is => by simp (maxDischargeDepth := 30) [*]) is⟩

theorem execHedgeSetNotice_tidy (tag : Tag) (policy : Nat) (s : State) (is : s.tidy) : ∃ t, execHedgeSetNotice tag policy s = .next t ∧ t.tidy := ⟨_, rfl, serve_tidy _ _ _ _ _ _ (fun u is => by simp (maxDischargeDepth := 30) [*]) is⟩

theorem execHedgeGetNotices_tidy (tag : Tag) (seq : Nat) (s : State) (is : s.tidy) : ∃ t, execHedgeGetNotices tag seq s = .next t ∧ t.tidy := ⟨_, rfl, query_tidy _ _ _ _ _ is⟩

theorem execMlKeepaliveSend_tidy (s : State) (is : s.tidy) : ∃ t, execMlKeepaliveSend s = .next t ∧ t.tidy := ⟨_, rfl, (by simp (maxDischargeDepth := 30) [*])⟩

theorem execMlFrameReceived_tidy (frame : MlFrame) (s : State) (is : s.tidy) : ∃ t, execMlFrameReceived frame s = .next t ∧ t.tidy := ⟨_, rfl, (by simp (maxDischargeDepth := 30) [*])⟩

theorem execMlDownTimeout_tidy (s : State) (is : s.tidy) : ∃ t, execMlDownTimeout s = .next t ∧ t.tidy := ⟨_, rfl, (by simp (maxDischargeDepth := 30) [*])⟩

theorem execEpochClose_tidy (s : State) (is : s.tidy) : ∃ t, execEpochClose s = .next t ∧ t.tidy := ⟨_, rfl, (by simp (maxDischargeDepth := 30) [*])⟩

theorem execCommitRecordCreate_tidy (s : State) (is : s.tidy) : ∃ t, execCommitRecordCreate s = .next t ∧ t.tidy := ⟨_, rfl, (by ((try dsimp only); (repeat' split) <;> simp (maxDischargeDepth := 30) [*]))⟩

theorem execEpochApply_tidy (s : State) (is : s.tidy) : ∃ t, execEpochApply s = .next t ∧ t.tidy := ⟨_, rfl, (by ((try dsimp only); (repeat' split) <;> simp (maxDischargeDepth := 30) [*]))⟩

theorem execPartnerAliveTimeout_tidy (s : State) (is : s.tidy) : ∃ t, execPartnerAliveTimeout s = .next t ∧ t.tidy := ⟨_, rfl, (by simp (maxDischargeDepth := 30) [*])⟩

theorem execPartnerAliveEdge_tidy (s : State) (is : s.tidy) : ∃ t, execPartnerAliveEdge s = .next t ∧ t.tidy := ⟨_, rfl, (by simp (maxDischargeDepth := 30) [*])⟩

theorem execFailbackHoldoff_tidy (s : State) (is : s.tidy) : ∃ t, execFailbackHoldoff s = .next t ∧ t.tidy := ⟨_, rfl, (by simp (maxDischargeDepth := 30) [*])⟩

theorem execHandbackInstant_tidy (s : State) (is : s.tidy) : ∃ t, execHandbackInstant s = .next t ∧ t.tidy := ⟨_, rfl, (by ((try dsimp only); (repeat' split) <;> simp (maxDischargeDepth := 30) [*]))⟩

theorem execUnEventsWrite_tidy (value : Word) (s : State) (is : s.tidy) : ∃ t, execUnEventsWrite value s = .next t ∧ t.tidy := ⟨_, rfl, (by simp (maxDischargeDepth := 30) [*])⟩

theorem execUnCountsRead_tidy (s : State) (is : s.tidy) : ∃ t, execUnCountsRead s = .next t ∧ t.tidy := ⟨_, rfl, (by simp (maxDischargeDepth := 30) [*])⟩

theorem execUnitGetStatus_tidy (tag : Tag) (s : State) (is : s.tidy) : ∃ t, execUnitGetStatus tag s = .next t ∧ t.tidy := ⟨_, rfl, query_tidy _ _ _ _ _ is⟩

theorem execUnitSetPair_tidy (tag : Tag) (cfg : PairCfg) (force : Bool) (s : State) (is : s.tidy) : ∃ t, execUnitSetPair tag cfg force s = .next t ∧ t.tidy := ⟨_, rfl, serve_tidy _ _ _ _ _ _ (fun u is => by simp (maxDischargeDepth := 30) [*]) is⟩

theorem execUnitDrill_tidy (tag : Tag) (s : State) (is : s.tidy) : ∃ t, execUnitDrill tag s = .next t ∧ t.tidy := ⟨_, rfl, serve_tidy _ _ _ _ _ _ (fun u is => by simp (maxDischargeDepth := 30) [*]) is⟩

theorem execUnitSaveStartupMap_tidy (tag : Tag) (clear : Bool) (s : State) (is : s.tidy) : ∃ t, execUnitSaveStartupMap tag clear s = .next t ∧ t.tidy := ⟨_, rfl, serve_tidy _ _ _ _ _ _ (fun u is => by simp (maxDischargeDepth := 30) (contextual := true) [*]) is⟩

theorem execUnitResync_tidy (tag : Tag) (s : State) (is : s.tidy) : ∃ t, execUnitResync tag s = .next t ∧ t.tidy := ⟨_, rfl, serve_tidy _ _ _ _ _ _ (fun u is => by simp (maxDischargeDepth := 30) [*]) is⟩

theorem execUnitGetEpochs_tidy (tag : Tag) (s : State) (is : s.tidy) : ∃ t, execUnitGetEpochs tag s = .next t ∧ t.tidy := ⟨_, rfl, query_tidy _ _ _ _ _ is⟩

theorem execMbDoorbellRing_tidy (mailbox : Nat) (value : Word) (s : State) (is : s.tidy) : ∃ t, execMbDoorbellRing mailbox value s = .next t ∧ t.tidy := ⟨_, rfl, (by simp (maxDischargeDepth := 30) [*])⟩

theorem execMbAnswerRead_tidy (s : State) (is : s.tidy) : ∃ t, execMbAnswerRead s = .next t ∧ t.tidy := ⟨_, rfl, (by ((try dsimp only); (repeat' split) <;> simp (maxDischargeDepth := 30) [*]))⟩

theorem execMailboxBodyWrite_tidy (mailbox offset : Nat) (value : Word) (s : State) (is : s.tidy) : ∃ t, execMailboxBodyWrite mailbox offset value s = .next t ∧ t.tidy := ⟨_, rfl, (by simp (maxDischargeDepth := 30) [*])⟩

theorem execHeldAnswerWrite_tidy (s : State) (is : s.tidy) : ∃ t, execHeldAnswerWrite s = .next t ∧ t.tidy := ⟨_, rfl, (by ((try dsimp only); (repeat' split) <;> simp (maxDischargeDepth := 30) [*]))⟩

theorem execMbStateWrite_tidy (mailbox : Nat) (value : Word) (s : State) (is : s.tidy) : ∃ t, execMbStateWrite mailbox value s = .next t ∧ t.tidy := ⟨_, rfl, (by simp (maxDischargeDepth := 30) [*])⟩

theorem execDeviceGetInfo_tidy (tag : Tag) (s : State) (is : s.tidy) : ∃ t, execDeviceGetInfo tag s = .next t ∧ t.tidy := ⟨_, rfl, query_tidy _ _ _ _ _ is⟩

theorem execDeviceGetCommands_tidy (tag : Tag) (start : Nat) (s : State) (is : s.tidy) : ∃ t, execDeviceGetCommands tag start s = .next t ∧ t.tidy := ⟨_, rfl, query_tidy _ _ _ _ _ is⟩

theorem execDeviceFwBegin_tidy (tag : Tag) (size : Nat) (s : State) (is : s.tidy) : ∃ t, execDeviceFwBegin tag size s = .next t ∧ t.tidy := ⟨_, rfl, serve_tidy _ _ _ _ _ _ (fun u is => by simp (maxDischargeDepth := 30) [*]) is⟩

theorem execFwEraseComplete_tidy (s : State) (is : s.tidy) : ∃ t, execFwEraseComplete s = .next t ∧ t.tidy := ⟨_, rfl, (by simp (maxDischargeDepth := 30) [*])⟩

theorem execDeviceFwData_tidy (tag : Tag) (offset : Nat) (data : FwData) (s : State) (is : s.tidy) : ∃ t, execDeviceFwData tag offset data s = .next t ∧ t.tidy := by
  have h : ∀ off bs (u : State), u.tidy → (u.fwData off bs).1.tidy := fun off bs u i => fwData_tidy _ _ _ i
  refine ⟨_, rfl, ?_⟩
  split
  · exact serve_tidy _ _ _ _ _ _ (h _ _) is
  · simp only [tidy_ite]
    split
    · refine serve_tidy _ _ _ _ _ _ (fun u i => ?_) is
      split
      · exact i
      · exact h _ _ u i
    · exact is

theorem execDeviceFwCommit_tidy (tag : Tag) (s : State) (is : s.tidy) : ∃ t, execDeviceFwCommit tag s = .next t ∧ t.tidy := ⟨_, rfl, serve_tidy _ _ _ _ _ _ (fun u is => by ((try dsimp only); (repeat' split) <;> simp (maxDischargeDepth := 30) [*])) is⟩

theorem execDeviceFwAbort_tidy (tag : Tag) (s : State) (is : s.tidy) : ∃ t, execDeviceFwAbort tag s = .next t ∧ t.tidy := ⟨_, rfl, serve_tidy _ _ _ _ _ _ (fun u is => by simp (maxDischargeDepth := 30) [*]) is⟩

theorem execDeviceFwStatus_tidy (tag : Tag) (s : State) (is : s.tidy) : ∃ t, execDeviceFwStatus tag s = .next t ∧ t.tidy := ⟨_, rfl, serve_tidy _ _ _ _ _ _ (fun u is => by simp (maxDischargeDepth := 30) [*]) is⟩

theorem execDeviceReset_tidy (tag : Tag) (scope subsystem : Byte) (force : Bool) (s : State) (is : s.tidy) : ∃ t, execDeviceReset tag scope subsystem force s = .next t ∧ t.tidy := by
  refine ⟨_, rfl, ?_⟩
  split
  · exact startLoopReset_tidy _ _ is
  · refine serve_tidy _ _ _ _ _ _ (fun u is => ?_) is
    repeat' split
    all_goals first
      | exact is
      | simp (maxDischargeDepth := 30) [*]

theorem execDeviceEcho_tidy (tag : Tag) (data : List Byte) (s : State) (is : s.tidy) : ∃ t, execDeviceEcho tag data s = .next t ∧ t.tidy := ⟨_, rfl, serve_tidy _ _ _ _ _ _ (fun _ is => is) is⟩

theorem execUserConfigSaveComplete_tidy (s : State) (is : s.tidy) : ∃ t, execUserConfigSaveComplete s = .next t ∧ t.tidy := ⟨_, rfl, (by simp (maxDischargeDepth := 30) [*])⟩

theorem execTrustGetStatus_tidy (tag : Tag) (s : State) (is : s.tidy) : ∃ t, execTrustGetStatus tag s = .next t ∧ t.tidy := ⟨_, rfl, query_tidy _ _ _ _ _ is⟩

theorem execTrustGetIdentity_tidy (tag : Tag) (s : State) (is : s.tidy) : ∃ t, execTrustGetIdentity tag s = .next t ∧ t.tidy := ⟨_, rfl, query_tidy _ _ _ _ _ is⟩

theorem execTrustAttest_tidy (tag : Tag) (nonce : BitVec 256) (s : State) (is : s.tidy) : ∃ t, execTrustAttest tag nonce s = .next t ∧ t.tidy := ⟨_, rfl, (by ((repeat' split) <;> simp (maxDischargeDepth := 30) [*]))⟩

theorem execTrustAdvanceSvn_tidy (tag : Tag) (s : State) (is : s.tidy) : ∃ t, execTrustAdvanceSvn tag s = .next t ∧ t.tidy := ⟨_, rfl, serve_tidy _ _ _ _ _ _ (fun u is => by simp (maxDischargeDepth := 30) [*]) is⟩

theorem execTrustRevokeKey_tidy (tag : Tag) (axaro : Bool) (slot : Nat) (rec_ : Option SignedRecord) (s : State) (is : s.tidy) : ∃ t, execTrustRevokeKey tag axaro slot rec_ s = .next t ∧ t.tidy := ⟨_, rfl, serve_tidy _ _ _ _ _ _ (fun u is => by simp (maxDischargeDepth := 30) [*]) is⟩

theorem execTrustSetAxaroKey_tidy (tag : Tag) (slot : Nat) (key : BitVec 256) (s : State) (is : s.tidy) : ∃ t, execTrustSetAxaroKey tag slot key s = .next t ∧ t.tidy := ⟨_, rfl, serve_tidy _ _ _ _ _ _ (fun u is => by simp (maxDischargeDepth := 30) [*]) is⟩

theorem execTrustSetPolicy_tidy (tag : Tag) (s : State) (is : s.tidy) : ∃ t, execTrustSetPolicy tag s = .next t ∧ t.tidy := ⟨_, rfl, serve_tidy _ _ _ _ _ _ (fun u is => by simp (maxDischargeDepth := 30) [*]) is⟩

theorem execTrustGetNonce_tidy (tag : Tag) (s : State) (is : s.tidy) : ∃ t, execTrustGetNonce tag s = .next t ∧ t.tidy := ⟨_, rfl, serve_tidy _ _ _ _ _ _ (fun u is => by simp (maxDischargeDepth := 30) [*]) is⟩

theorem execTrustSetLifecycle_tidy (tag : Tag) (target : Nat) (rec_ : Option SignedRecord) (s : State) (is : s.tidy) : ∃ t, execTrustSetLifecycle tag target rec_ s = .next t ∧ t.tidy := ⟨_, rfl, serve_tidy _ _ _ _ _ _ (fun u is => by simp (maxDischargeDepth := 30) [*]) is⟩

theorem execTrustFactoryTest_tidy (tag : Tag) (s : State) (is : s.tidy) : ∃ t, execTrustFactoryTest tag s = .next t ∧ t.tidy := ⟨_, rfl, serve_tidy _ _ _ _ _ _ (fun u is => by simp (maxDischargeDepth := 30) [*]) is⟩

theorem execRegisterWrite_tidy (offset : Nat) (value : Word) (s : State) (is : s.tidy) : ∃ t, execRegisterWrite offset value s = .next t ∧ t.tidy := ⟨_, rfl, (by ((try dsimp only); (repeat' split) <;> simp (maxDischargeDepth := 30) [*]))⟩

theorem execMemoryError_tidy (err : MemErr) (s : State) (is : s.tidy) : ∃ t, execMemoryError err s = .next t ∧ t.tidy := ⟨_, rfl, (by simp (maxDischargeDepth := 30) [*])⟩

theorem execGranaryRetrain_tidy (channelB ok : Bool) (s : State) (is : s.tidy) : ∃ t, execGranaryRetrain channelB ok s = .next t ∧ t.tidy := ⟨_, rfl, (by simp (maxDischargeDepth := 30) [*])⟩

theorem execPcieLinkChange_tidy (up : Bool) (lanes speed : Nat) (s : State) (is : s.tidy) : ∃ t, execPcieLinkChange up lanes speed s = .next t ∧ t.tidy := ⟨_, rfl, (by simp (maxDischargeDepth := 30) [*])⟩

theorem execMlLaneLossOfLock_tidy (s : State) (is : s.tidy) : ∃ t, execMlLaneLossOfLock s = .next t ∧ t.tidy := ⟨_, rfl, (by simp (maxDischargeDepth := 30) [*])⟩

theorem execPllLossOfLock_tidy (s : State) (is : s.tidy) : ∃ t, execPllLossOfLock s = .next t ∧ t.tidy := ⟨_, rfl, (by simp (maxDischargeDepth := 30) [*])⟩

theorem execTapBypass_tidy (s : State) (is : s.tidy) : ∃ t, execTapBypass s = .next t ∧ t.tidy := ⟨_, rfl, (by simp (maxDischargeDepth := 30) [*])⟩

theorem execTapIdcode_tidy (s : State) (is : s.tidy) : ∃ t, execTapIdcode s = .next t ∧ t.tidy := ⟨_, rfl, (by simp (maxDischargeDepth := 30) [*])⟩

theorem execTapSamplePreload_tidy (preload : List Bool) (s : State) (is : s.tidy) : ∃ t, execTapSamplePreload preload s = .next t ∧ t.tidy := ⟨_, rfl, (by simp (maxDischargeDepth := 30) [*])⟩

theorem execTapExtest_tidy (s : State) (is : s.tidy) : ∃ t, execTapExtest s = .next t ∧ t.tidy := ⟨_, rfl, (by simp (maxDischargeDepth := 30) [*])⟩

theorem execTapClamp_tidy (s : State) (is : s.tidy) : ∃ t, execTapClamp s = .next t ∧ t.tidy := ⟨_, rfl, (by simp (maxDischargeDepth := 30) [*])⟩

theorem execTapHighz_tidy (s : State) (is : s.tidy) : ∃ t, execTapHighz s = .next t ∧ t.tidy := ⟨_, rfl, (by simp (maxDischargeDepth := 30) [*])⟩

/-- Every command completes, and keeps the tables in canonical form. -/
theorem exec_tidy (i : Instr) (s : State) (h : s.tidy) : ∃ t, exec i s = .next t ∧ t.tidy :=
  match i with
  | .timeGetStatus tag => execTimeGetStatus_tidy tag s h
  | .timeSet tag time frac => execTimeSet_tidy tag time frac s h
  | .timeReanchor tag time frac => execTimeReanchor_tidy tag time frac s h
  | .timeSetSource tag primary fallback tauMs lockNs largeNs => execTimeSetSource_tidy tag primary fallback tauMs lockNs largeNs s h
  | .timeSetCycle tag b c => execTimeSetCycle_tidy tag b c s h
  | .timeFoldShift tag => execTimeFoldShift_tidy tag s h
  | .timeSetSyncin tag enable wNs deadband => execTimeSetSyncin_tidy tag enable wNs deadband s h
  | .timeSetSyncout tag mode p lNs => execTimeSetSyncout_tidy tag mode p lNs s h
  | .timeSetPtp tag cfg => execTimeSetPtp_tidy tag cfg s h
  | .timeSetPortLatency tag port ingress egress => execTimeSetPortLatency_tidy tag port ingress egress s h
  | .fabricGetMap tag => execFabricGetMap_tidy tag s h
  | .fabricGetPath tag plane output => execFabricGetPath_tidy tag plane output s h
  | .fabricGetCells tag plane first count => execFabricGetCells_tidy tag plane first count s h
  | .fabricGetFailed tag plane => execFabricGetFailed_tidy tag plane s h
  | .fabricSetFailed tag plane stage cell kind => execFabricSetFailed_tidy tag plane stage cell kind s h
  | .fabricClearFailed tag plane stage cell => execFabricClearFailed_tidy tag plane stage cell s h
  | .fabricGetLevels tag output first count => execFabricGetLevels_tidy tag output first count s h
  | .fabricSetRepair tag enable leadNs => execFabricSetRepair_tidy tag enable leadNs s h
  | .fabricSetParking tag enable delayNs => execFabricSetParking_tidy tag enable delayNs s h
  | .sheafStage tag more words => execSheafStage_tidy tag more words s h
  | .sheafAppend tag id more words => execSheafAppend_tidy tag id more words s h
  | .sheafCancel tag id => execSheafCancel_tidy tag id s h
  | .sheafGetStatus tag id => execSheafGetStatus_tidy tag id s h
  | .sheafGetResult tag id page => execSheafGetResult_tidy tag id page s h
  | .sheafList tag page => execSheafList_tidy tag page s h
  | .sheafSetTiming tag armLead prepLead => execSheafSetTiming_tidy tag armLead prepLead s h
  | .solveConnect tag instant move dryRun pairs => execSolveConnect_tidy tag instant move dryRun pairs s h
  | .solveDisconnect tag instant move dryRun inputs outputs => execSolveDisconnect_tidy tag instant move dryRun inputs outputs s h
  | .solvePermute tag instant move dryRun target => execSolvePermute_tidy tag instant move dryRun target s h
  | .solveGetReport tag page => execSolveGetReport_tidy tag page s h
  | .stookDefine tag id name stop members sig => execStookDefine_tidy tag id name stop members sig s h
  | .stookStart tag id ts => execStookStart_tidy tag id ts s h
  | .stookStop tag id => execStookStop_tidy tag id s h
  | .stookGetStatus tag id => execStookGetStatus_tidy tag id s h
  | .stookDelete tag id => execStookDelete_tidy tag id s h
  | .loopGetParams tag first count => execLoopGetParams_tidy tag first count s h
  | .loopSetParams tag first recs => execLoopSetParams_tidy tag first recs s h
  | .loopGetState tag first count => execLoopGetState_tidy tag first count s h
  | .loopGetFlags tag first count => execLoopGetFlags_tidy tag first count s h
  | .loopClearFlags tag first count mask => execLoopClearFlags_tidy tag first count mask s h
  | .loopCapture tag element samples time => execLoopCapture_tidy tag element samples time s h
  | .loopGetCapture tag element page => execLoopGetCapture_tidy tag element page s h
  | .loopGetMode tag first count => execLoopGetMode_tidy tag first count s h
  | .loopSetHandover tag voa dwellUs retryUs hoTol => execLoopSetHandover_tidy tag voa dwellUs retryUs hoTol s h
  | .loopRetryLock tag first count => execLoopRetryLock_tidy tag first count s h
  | .loopHoldRegion tag region hold => execLoopHoldRegion_tidy tag region hold s h
  | .loopSetVoaGroup tag group cfg => execLoopSetVoaGroup_tidy tag group cfg s h
  | .loopGetVoaGroup tag group => execLoopGetVoaGroup_tidy tag group s h
  | .calGetStatus tag => execCalGetStatus_tidy tag s h
  | .calGetElement tag first count => execCalGetElement_tidy tag first count s h
  | .calSave tag => execCalSave_tidy tag s h
  | .calRecalElement tag first count => execCalRecalElement_tidy tag first count s h
  | .calSetBackground tag enable periodMs => execCalSetBackground_tidy tag enable periodMs s h
  | .calSetSparePolicy tag policy => execCalSetSparePolicy_tidy tag policy s h
  | .calSubstitute tag wholeBlock region block cell => execCalSubstitute_tidy tag wholeBlock region block cell s h
  | .calGetLog tag seq => execCalGetLog_tidy tag seq s h
  | .calGetSpares tag => execCalGetSpares_tidy tag s h
  | .portGetStatus tag port => execPortGetStatus_tidy tag port s h
  | .portSetMode tag port cfg => execPortSetMode_tidy tag port cfg s h
  | .portGetConfig tag port => execPortGetConfig_tidy tag port s h
  | .portSetPause tag port cfg => execPortSetPause_tidy tag port cfg s h
  | .portSetFilter tag first entries => execPortSetFilter_tidy tag first entries s h
  | .portGetFilter tag first count => execPortGetFilter_tidy tag first count s h
  | .portSetLpi tag port mode idleNs => execPortSetLpi_tidy tag port mode idleNs s h
  | .portGetStats tag port => execPortGetStats_tidy tag port s h
  | .portGetHistory tag port page => execPortGetHistory_tidy tag port page s h
  | .portSetSpares tag mask0 mask1 => execPortSetSpares_tidy tag mask0 mask1 s h
  | .portSubstLane tag port => execPortSubstLane_tidy tag port s h
  | .gateGetStatus tag port => execGateGetStatus_tidy tag port s h
  | .gateSetConfig tag port cfg => execGateSetConfig_tidy tag port cfg s h
  | .gateSetAdmin tag port start n lct listTag entries => execGateSetAdmin_tidy tag port start n lct listTag entries s h
  | .gateGetList tag port oper first count => execGateGetList_tidy tag port oper first count s h
  | .gateCommit tag port ct sig => execGateCommit_tidy tag port ct sig s h
  | .gateCancelCommit tag port => execGateCancelCommit_tidy tag port s h
  | .gateDisable tag port ct => execGateDisable_tidy tag port ct s h
  | .gateGetWindows tag port => execGateGetWindows_tidy tag port s h
  | .streamGetStatus tag => execStreamGetStatus_tidy tag s h
  | .streamSet tag first entries => execStreamSet_tidy tag first entries s h
  | .streamGet tag first count => execStreamGet_tidy tag first count s h
  | .streamGetStats tag first count => execStreamGetStats_tidy tag first count s h
  | .streamResetRecovery tag first count => execStreamResetRecovery_tidy tag first count s h
  | .streamSetCover tag set enable wStart wEnd => execStreamSetCover_tidy tag set enable wStart wEnd s h
  | .streamGetCover tag set => execStreamGetCover_tidy tag set s h
  | .streamClearLatent tag first count => execStreamClearLatent_tidy tag first count s h
  | .ruleGetStatus tag => execRuleGetStatus_tidy tag s h
  | .ruleLoadProgram tag start words => execRuleLoadProgram_tidy tag start words s h
  | .ruleSetProfile tag cfg => execRuleSetProfile_tidy tag cfg s h
  | .ruleAddHash tag recs => execRuleAddHash_tidy tag recs s h
  | .ruleDelHash tag keys => execRuleDelHash_tidy tag keys s h
  | .ruleSetTernary tag first recs => execRuleSetTernary_tidy tag first recs s h
  | .ruleSetPattern tag first recs => execRuleSetPattern_tidy tag first recs s h
  | .ruleClone tag => execRuleClone_tidy tag s h
  | .ruleSwap tag swapAt => execRuleSwap_tidy tag swapAt s h
  | .ruleCancelSwap tag => execRuleCancelSwap_tidy tag s h
  | .ruleGet tag query => execRuleGet_tidy tag query s h
  | .ruleGetStats tag first count => execRuleGetStats_tidy tag first count s h
  | .ruleSetMirror tag session dest trunc => execRuleSetMirror_tidy tag session dest trunc s h
  | .ruleSetMp tag rate => execRuleSetMp_tidy tag rate s h
  | .ruleGetCopies tag count => execRuleGetCopies_tidy tag count s h
  | .hedgeGetStatus tag => execHedgeGetStatus_tidy tag s h
  | .hedgeSetConfig tag cfg => execHedgeSetConfig_tidy tag cfg s h
  | .hedgeGetConfig tag => execHedgeGetConfig_tidy tag s h
  | .hedgeSaveConfig tag => execHedgeSaveConfig_tidy tag s h
  | .hedgeRestart tag force => execHedgeRestart_tidy tag force s h
  | .hedgeGetStats tag => execHedgeGetStats_tidy tag s h
  | .hedgeSetNotice tag policy => execHedgeSetNotice_tidy tag policy s h
  | .hedgeGetNotices tag seq => execHedgeGetNotices_tidy tag seq s h
  | .unitGetStatus tag => execUnitGetStatus_tidy tag s h
  | .unitSetPair tag cfg force => execUnitSetPair_tidy tag cfg force s h
  | .unitDrill tag => execUnitDrill_tidy tag s h
  | .unitSaveStartupMap tag clear => execUnitSaveStartupMap_tidy tag clear s h
  | .unitResync tag => execUnitResync_tidy tag s h
  | .unitGetEpochs tag => execUnitGetEpochs_tidy tag s h
  | .faultGetStatus tag => execFaultGetStatus_tidy tag s h
  | .faultGetSource tag first count => execFaultGetSource_tidy tag first count s h
  | .faultSetSource tag first params => execFaultSetSource_tidy tag first params s h
  | .faultClear tag source seq => execFaultClear_tidy tag source seq s h
  | .faultGetRecord tag which => execFaultGetRecord_tidy tag which s h
  | .faultSaveConfig tag => execFaultSaveConfig_tidy tag s h
  | .faultGetLog tag seq => execFaultGetLog_tidy tag seq s h
  | .faultRaise tag => execFaultRaise_tidy tag s h
  | .faultInject tag op => execFaultInject_tidy tag op s h
  | .faultGetInject tag => execFaultGetInject_tidy tag s h
  | .powerGetStatus tag => execPowerGetStatus_tidy tag s h
  | .powerHold tag hold => execPowerHold_tidy tag hold s h
  | .powerSleep tag => execPowerSleep_tidy tag s h
  | .trustGetStatus tag => execTrustGetStatus_tidy tag s h
  | .trustGetIdentity tag => execTrustGetIdentity_tidy tag s h
  | .trustAttest tag nonce => execTrustAttest_tidy tag nonce s h
  | .trustAdvanceSvn tag => execTrustAdvanceSvn_tidy tag s h
  | .trustRevokeKey tag axaro slot rec_ => execTrustRevokeKey_tidy tag axaro slot rec_ s h
  | .trustSetAxaroKey tag slot key => execTrustSetAxaroKey_tidy tag slot key s h
  | .trustSetPolicy tag => execTrustSetPolicy_tidy tag s h
  | .trustGetNonce tag => execTrustGetNonce_tidy tag s h
  | .trustSetLifecycle tag target rec_ => execTrustSetLifecycle_tidy tag target rec_ s h
  | .trustFactoryTest tag => execTrustFactoryTest_tidy tag s h
  | .deviceGetInfo tag => execDeviceGetInfo_tidy tag s h
  | .deviceGetCommands tag start => execDeviceGetCommands_tidy tag start s h
  | .deviceFwBegin tag size => execDeviceFwBegin_tidy tag size s h
  | .deviceFwData tag offset data => execDeviceFwData_tidy tag offset data s h
  | .deviceFwCommit tag => execDeviceFwCommit_tidy tag s h
  | .deviceFwAbort tag => execDeviceFwAbort_tidy tag s h
  | .deviceFwStatus tag => execDeviceFwStatus_tidy tag s h
  | .deviceReset tag scope subsystem force => execDeviceReset_tidy tag scope subsystem force s h
  | .deviceEcho tag data => execDeviceEcho_tidy tag data s h
  | .fcqSubmit q ack words => execFcqSubmit_tidy q ack words s h
  | .fcqCancel q id => execFcqCancel_tidy q id s h
  | .mbDoorbellRing mailbox value => execMbDoorbellRing_tidy mailbox value s h
  | .mbAnswerRead => execMbAnswerRead_tidy s h
  | .mailboxBodyWrite mailbox offset value => execMailboxBodyWrite_tidy mailbox offset value s h
  | .heldAnswerWrite => execHeldAnswerWrite_tidy s h
  | .tbTimeLoRead => execTbTimeLoRead_tidy s h
  | .tbCountsRead => execTbCountsRead_tidy s h
  | .glStatus0Read => execGlStatus0Read_tidy s h
  | .glClearSource value => execGlClearSource_tidy value s h
  | .glClearAll value => execGlClearAll_tidy value s h
  | .glEventsWrite value => execGlEventsWrite_tidy value s h
  | .unEventsWrite value => execUnEventsWrite_tidy value s h
  | .unCountsRead => execUnCountsRead_tidy s h
  | .mbStateWrite mailbox value => execMbStateWrite_tidy mailbox value s h
  | .hqEnable q => execHqEnable_tidy q s h
  | .hqDisable q => execHqDisable_tidy q s h
  | .hqIdxReset q => execHqIdxReset_tidy q s h
  | .hqTailWrite q value => execHqTailWrite_tidy q value s h
  | .hqDropRead q => execHqDropRead_tidy q s h
  | .cqEnableWrite q enable irqEn => execCqEnableWrite_tidy q enable irqEn s h
  | .cqIdxReset q => execCqIdxReset_tidy q s h
  | .cqHeadWrite q value => execCqHeadWrite_tidy q value s h
  | .registerWrite offset value => execRegisterWrite_tidy offset value s h
  | .d3hotEntry => execD3hotEntry_tidy s h
  | .d0Return => execD0Return_tidy s h
  | .busMasterEnableWrite enable => execBusMasterEnableWrite_tidy enable s h
  | .powerOn => execPowerOn_tidy s h
  | .brownOut => execBrownOut_tidy s h
  | .resetNAssert => execResetNAssert_tidy s h
  | .perstAssert => execPerstAssert_tidy s h
  | .resetRelease straps => execResetRelease_tidy straps s h
  | .wipeComplete => execWipeComplete_tidy s h
  | .fwReady => execFwReady_tidy s h
  | .fwConfirm => execFwConfirm_tidy s h
  | .pcieHotReset => execPcieHotReset_tidy s h
  | .functionLevelReset => execFunctionLevelReset_tidy s h
  | .classFWipeComplete => execClassFWipeComplete_tidy s h
  | .holdNAssert => execHoldNAssert_tidy s h
  | .holdNRelease => execHoldNRelease_tidy s h
  | .wakeRise => execWakeRise_tidy s h
  | .pwrEnRise => execPwrEnRise_tidy s h
  | .sleepShutdown => execSleepShutdown_tidy s h
  | .sleepPark => execSleepPark_tidy s h
  | .pwrEnFall => execPwrEnFall_tidy s h
  | .tbRefLoss => execTbRefLoss_tidy s h
  | .railExcursion rail millivolts => execRailExcursion_tidy rail millivolts s h
  | .paceUpdate pace => execPaceUpdate_tidy pace s h
  | .syncInEdge elapsedPs => execSyncInEdge_tidy elapsedPs s h
  | .syncOutPulse => execSyncOutPulse_tidy s h
  | .scheduleBoundary => execScheduleBoundary_tidy s h
  | .gptpMessageReceived port msg => execGptpMessageReceived_tidy port msg s h
  | .gptpMessageTransmit port sync => execGptpMessageTransmit_tidy port sync s h
  | .gptpSyncTimeout => execGptpSyncTimeout_tidy s h
  | .loopSample element m1 m2 residueFail => execLoopSample_tidy element m1 m2 residueFail s h
  | .handoverAttempt element m1 m2 => execHandoverAttempt_tidy element m1 m2 s h
  | .trimInSample group microvolts => execTrimInSample_tidy group microvolts s h
  | .voaGroupLost group => execVoaGroupLost_tidy group s h
  | .heaterPowerMeasure element nanowatts => execHeaterPowerMeasure_tidy element nanowatts s h
  | .bandgapCheck a b c => execBandgapCheck_tidy a b c s h
  | .temperatureSample junction diodes => execTemperatureSample_tidy junction diodes s h
  | .delayLineExchange line busy => execDelayLineExchange_tidy line busy s h
  | .backgroundVisit region block => execBackgroundVisit_tidy region block s h
  | .spareProof region block same => execSpareProof_tidy region block same s h
  | .spareThresholdMet part => execSpareThresholdMet_tidy part s h
  | .loopCellSwitch region block cell selfTest => execLoopCellSwitch_tidy region block cell selfTest s h
  | .blockSwitch region block selfTest => execBlockSwitch_tidy region block selfTest s h
  | .rowRepair inst row => execRowRepair_tidy inst row s h
  | .spareMapWrite => execSpareMapWrite_tidy s h
  | .logEntryWrite => execLogEntryWrite_tidy s h
  | .calAutoSave => execCalAutoSave_tidy s h
  | .calSaveComplete ok => execCalSaveComplete_tidy ok s h
  | .calStageComplete => execCalStageComplete_tidy s h
  | .roleWaitExpiry => execRoleWaitExpiry_tidy s h
  | .idleParkTimeout plane stage cell => execIdleParkTimeout_tidy plane stage cell s h
  | .sheafArmStart id => execSheafArmStart_tidy id s h
  | .sheafArmCommit id allAcks => execSheafArmCommit_tidy id allAcks s h
  | .sheafCutoff id => execSheafCutoff_tidy id s h
  | .sheafInstant id driveFaults => execSheafInstant_tidy id driveFaults s h
  | .armSlotFree slot => execArmSlotFree_tidy slot s h
  | .sheafHorizon id => execSheafHorizon_tidy id s h
  | .frameReceived port frame elapsedPs => execFrameReceived_tidy port frame elapsedPs s h
  | .rxPause port quanta => execRxPause_tidy port quanta s h
  | .pauseExpiry port => execPauseExpiry_tidy port s h
  | .pauseRefresh port => execPauseRefresh_tidy port s h
  | .rxpWatchdog port => execRxpWatchdog_tidy port s h
  | .rearmExpiry port => execRearmExpiry_tidy port s h
  | .txpWatchdog port => execTxpWatchdog_tidy port s h
  | .portLinkUp port => execPortLinkUp_tidy port s h
  | .portLinkDown port remote => execPortLinkDown_tidy port remote s h
  | .laneLossOfLock port => execLaneLossOfLock_tidy port s h
  | .laneSwitch port => execLaneSwitch_tidy port s h
  | .lpiIdleTimeout port => execLpiIdleTimeout_tidy port s h
  | .lpiSleepEntry port => execLpiSleepEntry_tidy port s h
  | .lpiWake port early => execLpiWake_tidy port early s h
  | .verifyTimer port => execVerifyTimer_tidy port s h
  | .mpacketReceived port packet => execMpacketReceived_tidy port packet s h
  | .txSelect port => execTxSelect_tidy port s h
  | .txFrameDone port => execTxFrameDone_tidy port s h
  | .gateEvent port => execGateEvent_tidy port s h
  | .gateHoldAssert port => execGateHoldAssert_tidy port s h
  | .statsHistoryTick => execStatsHistoryTick_tidy s h
  | .thresherDispatch thread => execThresherDispatch_tidy thread s h
  | .thDone thread => execThDone_tidy thread s h
  | .thMov thread => execThMov_tidy thread s h
  | .thAdd thread => execThAdd_tidy thread s h
  | .thSub thread => execThSub_tidy thread s h
  | .thAnd thread => execThAnd_tidy thread s h
  | .thOr thread => execThOr_tidy thread s h
  | .thShl thread => execThShl_tidy thread s h
  | .thShr thread => execThShr_tidy thread s h
  | .thCmp thread => execThCmp_tidy thread s h
  | .thLdb thread => execThLdb_tidy thread s h
  | .thLdh thread => execThLdh_tidy thread s h
  | .thLdm thread => execThLdm_tidy thread s h
  | .thKld thread => execThKld_tidy thread s h
  | .thKmov thread => execThKmov_tidy thread s h
  | .thBr thread => execThBr_tidy thread s h
  | .thHdr thread => execThHdr_tidy thread s h
  | .thProf thread => execThProf_tidy thread s h
  | .thMark thread => execThMark_tidy thread s h
  | .thPm thread => execThPm_tidy thread s h
  | .pmResult thread => execPmResult_tidy thread s h
  | .thRecirc thread => execThRecirc_tidy thread s h
  | .thresherRelease port => execThresherRelease_tidy port s h
  | .ruleSwapAt => execRuleSwapAt_tidy s h
  | .ruleSwapDrain => execRuleSwapDrain_tidy s h
  | .recoveryResetTimer stream => execRecoveryResetTimer_tidy stream s h
  | .latentPeriod stream => execLatentPeriod_tidy stream s h
  | .coverWindowStart set => execCoverWindowStart_tidy set s h
  | .coverWindowEnd set => execCoverWindowEnd_tidy set s h
  | .txChainFetch q entries buffers => execTxChainFetch_tidy q entries buffers s h
  | .rxReservation q entries => execRxReservation_tidy q entries s h
  | .rxDropDelay q => execRxDropDelay_tidy q s h
  | .completionWrite cq => execCompletionWrite_tidy cq s h
  | .queueDrainComplete q => execQueueDrainComplete_tidy q s h
  | .moderationTimer vector => execModerationTimer_tidy vector s h
  | .pendingVectorDeliver vector => execPendingVectorDeliver_tidy vector s h
  | .hedgerowSlotSend slot => execHedgerowSlotSend_tidy slot s h
  | .noticeSend frameId minislot => execNoticeSend_tidy frameId minislot s h
  | .hedgerowFrameReceived chanB slot rx stamp => execHedgerowFrameReceived_tidy chanB slot rx stamp s h
  | .listenTimeout => execListenTimeout_tidy s h
  | .hedgerowMidpoint => execHedgerowMidpoint_tidy s h
  | .hedgerowCorrection => execHedgerowCorrection_tidy s h
  | .hedgerowCycleEnd => execHedgerowCycleEnd_tidy s h
  | .mlKeepaliveSend => execMlKeepaliveSend_tidy s h
  | .mlFrameReceived frame => execMlFrameReceived_tidy frame s h
  | .mlDownTimeout => execMlDownTimeout_tidy s h
  | .epochClose => execEpochClose_tidy s h
  | .commitRecordCreate => execCommitRecordCreate_tidy s h
  | .epochApply => execEpochApply_tidy s h
  | .partnerAliveTimeout => execPartnerAliveTimeout_tidy s h
  | .partnerAliveEdge => execPartnerAliveEdge_tidy s h
  | .failbackHoldoff => execFailbackHoldoff_tidy s h
  | .handbackInstant => execHandbackInstant_tidy s h
  | .gleanerEvaluation mismatch => execGleanerEvaluation_tidy mismatch s h
  | .gleanerWindowExpiry source => execGleanerWindowExpiry_tidy source s h
  | .sourceSevere source => execSourceSevere_tidy source s h
  | .gleanerDeadline source => execGleanerDeadline_tidy source s h
  | .regionReinitComplete region => execRegionReinitComplete_tidy region s h
  | .firmwareClear source => execFirmwareClear_tidy source s h
  | .recordFlashWrite => execRecordFlashWrite_tidy s h
  | .watchdogExpiry => execWatchdogExpiry_tidy s h
  | .comparatorSelfTest flagged => execComparatorSelfTest_tidy flagged s h
  | .aliveEdge => execAliveEdge_tidy s h
  | .faultInjectEvent => execFaultInjectEvent_tidy s h
  | .fwEraseComplete => execFwEraseComplete_tidy s h
  | .granaryRetrain channelB ok => execGranaryRetrain_tidy channelB ok s h
  | .tapBypass => execTapBypass_tidy s h
  | .tapIdcode => execTapIdcode_tidy s h
  | .tapSamplePreload preload => execTapSamplePreload_tidy preload s h
  | .tapExtest => execTapExtest_tidy s h
  | .tapClamp => execTapClamp_tidy s h
  | .tapHighz => execTapHighz_tidy s h
  | .syncOutPulseEnd => execSyncOutPulseEnd_tidy s h
  | .receivedLpi port entering => execReceivedLpi_tidy port entering s h
  | .pcieLinkChange up lanes speed => execPcieLinkChange_tidy up lanes speed s h
  | .mlLaneLossOfLock => execMlLaneLossOfLock_tidy s h
  | .pllLossOfLock => execPllLossOfLock_tidy s h
  | .memoryError err => execMemoryError_tidy err s h
  | .memoryRequestAnswered answer => execMemoryRequestAnswered_tidy answer s h
  | .userConfigSaveComplete => execUserConfigSaveComplete_tidy s h
  | .resetDeviceDelayExpiry => execResetDeviceDelayExpiry_tidy s h
  | .vwakeLoss => execVwakeLoss_tidy s h
  | .tbRefReturn => execTbRefReturn_tidy s h
  | .trimInPulseEdge pin rising elapsedPs => execTrimInPulseEdge_tidy pin rising elapsedPs s h

end Sys2Proof.Machine
end

