-- ==== Sys2Proof/Laws/EndFrame.lean ====
section
/-! SUPPORT. Sheaves that end without being applied, with all that follows from it, leave the timebase, the
elements and calibration alone (06_sheaves R164, R174, R188). -/
namespace Sys2Proof.Machine

/-! The timebase. -/

@[simp] theorem tb_ite {b : Prop} [Decidable b] (s t : State) : (if b then s else t).tb = if b then s.tb else t.tb := by
  split <;> rfl
@[simp] theorem tb_foldl {α : Type} (f : State → α → State) (l : List α) (s : State) (h : ∀ t x, (f t x).tb = t.tb) :
    (l.foldl f s).tb = s.tb := by
  induction l generalizing s with
  | nil => rfl
  | cons x l ih => rw [List.foldl_cons, ih, h]
@[simp] theorem tb_foldl1 {α β : Type} (f : State × β → α → State × β) (l : List α) (s : State × β) (h : ∀ t x, (f t x).1.tb = t.1.tb) :
    (l.foldl f s).1.tb = s.1.tb := by
  induction l generalizing s with
  | nil => rfl
  | cons x l ih => rw [List.foldl_cons, ih, h]
@[simp] theorem modSheaf_tb (id : Nat) (f : Sheaf → Sheaf) (s : State) : (State.modSheaf id f s).tb = s.tb := by
  simp [State.modSheaf]

@[simp] theorem freeSlot_tb (j : Option Nat) (s : State) : (State.freeSlot j s).tb = s.tb := by
  (unfold State.freeSlot; repeat' split) <;> simp [*]

@[simp] theorem fcqComplete_tb (q idx : Nat) (body : List Byte) (s : State) : (State.fcqComplete q idx body s).tb = s.tb := by
  simp [State.fcqComplete]

@[simp] theorem noticeFor_tb (x : Sheaf) (kind outcome : Nat) (s : State) : (State.noticeFor x kind outcome s).tb = s.tb := by
  simp [State.noticeFor]

@[simp] theorem outcome_tb (id code detail : Nat) (s : State) : (State.outcome id code detail s).tb = s.tb := by
  (unfold State.outcome; repeat' split) <;> simp [*]

@[simp] theorem reevaluateOne_tb (f : Sheaf) (s : State) (g : Sheaf) : (State.reevaluateOne f s g).1.tb = s.tb := by
  (unfold State.reevaluateOne; repeat' split) <;> simp [*]

@[simp] theorem reevaluate_tb (f : Sheaf) (s : State) : (s.reevaluate f).1.tb = s.tb := by
  unfold State.reevaluate
  exact tb_foldl1 _ _ _ fun p g => reevaluateOne_tb f p.1 g

@[simp] theorem stopStook_tb (f : Sheaf) (s : State) : (State.stopStook f s).1.tb = s.tb := by
  (unfold State.stopStook; repeat' split) <;> simp [*]

@[simp] theorem settle_tb (n : Nat) (ids : List Nat) (s : State) : (State.settle n ids s).tb = s.tb := by
  induction n generalizing ids s with
  | zero => rw [State.settle]
  | succ n ih =>
    cases ids with
    | nil => simp [State.settle]
    | cons i ids =>
      rw [State.settle]
      split
      · rw [ih]
      · dsimp only
        rw [ih]
        split <;> simp

@[simp] theorem failSheaf_tb (id : Nat) (code : Nat) (detail : Nat) (s : State) : (State.failSheaf id code detail s).tb = s.tb := by
  simp [State.failSheaf]

@[simp] theorem failSheaves_tb (ids : List Nat) (code : Nat) (s : State) : (State.failSheaves ids code s).tb = s.tb := by
  simp [State.failSheaves]

/-! The elements. -/

@[simp] theorem loops_ite {b : Prop} [Decidable b] (s t : State) : (if b then s else t).loops = if b then s.loops else t.loops := by
  split <;> rfl
@[simp] theorem loops_foldl {α : Type} (f : State → α → State) (l : List α) (s : State) (h : ∀ t x, (f t x).loops = t.loops) :
    (l.foldl f s).loops = s.loops := by
  induction l generalizing s with
  | nil => rfl
  | cons x l ih => rw [List.foldl_cons, ih, h]
@[simp] theorem loops_foldl1 {α β : Type} (f : State × β → α → State × β) (l : List α) (s : State × β) (h : ∀ t x, (f t x).1.loops = t.1.loops) :
    (l.foldl f s).1.loops = s.1.loops := by
  induction l generalizing s with
  | nil => rfl
  | cons x l ih => rw [List.foldl_cons, ih, h]
@[simp] theorem modSheaf_loops (id : Nat) (f : Sheaf → Sheaf) (s : State) : (State.modSheaf id f s).loops = s.loops := by
  simp [State.modSheaf]

@[simp] theorem freeSlot_loops (j : Option Nat) (s : State) : (State.freeSlot j s).loops = s.loops := by
  (unfold State.freeSlot; repeat' split) <;> simp [*]

@[simp] theorem fcqComplete_loops (q idx : Nat) (body : List Byte) (s : State) : (State.fcqComplete q idx body s).loops = s.loops := by
  simp [State.fcqComplete]

@[simp] theorem noticeFor_loops (x : Sheaf) (kind outcome : Nat) (s : State) : (State.noticeFor x kind outcome s).loops = s.loops := by
  simp [State.noticeFor]

@[simp] theorem outcome_loops (id code detail : Nat) (s : State) : (State.outcome id code detail s).loops = s.loops := by
  (unfold State.outcome; repeat' split) <;> simp [*]

@[simp] theorem reevaluateOne_loops (f : Sheaf) (s : State) (g : Sheaf) : (State.reevaluateOne f s g).1.loops = s.loops := by
  (unfold State.reevaluateOne; repeat' split) <;> simp [*]

@[simp] theorem reevaluate_loops (f : Sheaf) (s : State) : (s.reevaluate f).1.loops = s.loops := by
  unfold State.reevaluate
  exact loops_foldl1 _ _ _ fun p g => reevaluateOne_loops f p.1 g

@[simp] theorem stopStook_loops (f : Sheaf) (s : State) : (State.stopStook f s).1.loops = s.loops := by
  (unfold State.stopStook; repeat' split) <;> simp [*]

@[simp] theorem settle_loops (n : Nat) (ids : List Nat) (s : State) : (State.settle n ids s).loops = s.loops := by
  induction n generalizing ids s with
  | zero => rw [State.settle]
  | succ n ih =>
    cases ids with
    | nil => simp [State.settle]
    | cons i ids =>
      rw [State.settle]
      split
      · rw [ih]
      · dsimp only
        rw [ih]
        split <;> simp

@[simp] theorem failSheaf_loops (id : Nat) (code : Nat) (detail : Nat) (s : State) : (State.failSheaf id code detail s).loops = s.loops := by
  simp [State.failSheaf]

@[simp] theorem failSheaves_loops (ids : List Nat) (code : Nat) (s : State) : (State.failSheaves ids code s).loops = s.loops := by
  simp [State.failSheaves]

/-! Calibration. -/

@[simp] theorem cal_ite {b : Prop} [Decidable b] (s t : State) : (if b then s else t).cal = if b then s.cal else t.cal := by
  split <;> rfl
@[simp] theorem cal_foldl {α : Type} (f : State → α → State) (l : List α) (s : State) (h : ∀ t x, (f t x).cal = t.cal) :
    (l.foldl f s).cal = s.cal := by
  induction l generalizing s with
  | nil => rfl
  | cons x l ih => rw [List.foldl_cons, ih, h]
@[simp] theorem cal_foldl1 {α β : Type} (f : State × β → α → State × β) (l : List α) (s : State × β) (h : ∀ t x, (f t x).1.cal = t.1.cal) :
    (l.foldl f s).1.cal = s.1.cal := by
  induction l generalizing s with
  | nil => rfl
  | cons x l ih => rw [List.foldl_cons, ih, h]
@[simp] theorem modSheaf_cal (id : Nat) (f : Sheaf → Sheaf) (s : State) : (State.modSheaf id f s).cal = s.cal := by
  simp [State.modSheaf]

@[simp] theorem freeSlot_cal (j : Option Nat) (s : State) : (State.freeSlot j s).cal = s.cal := by
  (unfold State.freeSlot; repeat' split) <;> simp [*]

@[simp] theorem fcqComplete_cal (q idx : Nat) (body : List Byte) (s : State) : (State.fcqComplete q idx body s).cal = s.cal := by
  simp [State.fcqComplete]

@[simp] theorem noticeFor_cal (x : Sheaf) (kind outcome : Nat) (s : State) : (State.noticeFor x kind outcome s).cal = s.cal := by
  simp [State.noticeFor]

@[simp] theorem outcome_cal (id code detail : Nat) (s : State) : (State.outcome id code detail s).cal = s.cal := by
  (unfold State.outcome; repeat' split) <;> simp [*]

@[simp] theorem reevaluateOne_cal (f : Sheaf) (s : State) (g : Sheaf) : (State.reevaluateOne f s g).1.cal = s.cal := by
  (unfold State.reevaluateOne; repeat' split) <;> simp [*]

@[simp] theorem reevaluate_cal (f : Sheaf) (s : State) : (s.reevaluate f).1.cal = s.cal := by
  unfold State.reevaluate
  exact cal_foldl1 _ _ _ fun p g => reevaluateOne_cal f p.1 g

@[simp] theorem stopStook_cal (f : Sheaf) (s : State) : (State.stopStook f s).1.cal = s.cal := by
  (unfold State.stopStook; repeat' split) <;> simp [*]

@[simp] theorem settle_cal (n : Nat) (ids : List Nat) (s : State) : (State.settle n ids s).cal = s.cal := by
  induction n generalizing ids s with
  | zero => rw [State.settle]
  | succ n ih =>
    cases ids with
    | nil => simp [State.settle]
    | cons i ids =>
      rw [State.settle]
      split
      · rw [ih]
      · dsimp only
        rw [ih]
        split <;> simp

@[simp] theorem failSheaf_cal (id : Nat) (code : Nat) (detail : Nat) (s : State) : (State.failSheaf id code detail s).cal = s.cal := by
  simp [State.failSheaf]

@[simp] theorem failSheaves_cal (ids : List Nat) (code : Nat) (s : State) : (State.failSheaves ids code s).cal = s.cal := by
  simp [State.failSheaves]

end Sys2Proof.Machine
end

