-- ==== Sys2Proof/Laws/Threads.lean ====
section
/-! SUPPORT. What one instruction of a Thresher thread does, said once (11_thresher R309, R310). -/
namespace Sys2Proof.Machine

/-- A thread that may execute an instruction does what the instruction's operation says: the pass ends, or the thread
alone is changed. -/
theorem runThread_runs {s : State} {n op : Nat} {t : Thread} {w : Word} {bs : List Byte} (h : Runs s n op t w bs)
    (f : List Byte → Word → Thread → Thread × Option PassEnd) :
    s.runThread n op f = match f bs w t with
      | (t1, some e) => s.endPass n t1 e
      | (t1, none) => { s with rules.threads := mapSet none s.rules.threads n (some t1) } := by
  obtain ⟨h1, h2, h3, h4, h5, p, h6, h7⟩ := h
  subst h3 h7
  unfold State.runThread
  simp only [h1, h2, h4, h6, Nat.not_le.mpr h5, Option.isSome_none, ne_eq, not_true_eq_false, decide_false, Bool.or_self,
    Bool.false_eq_true, if_false] <;> rfl

/-- The 513th instruction of a packet is not executed: the pass ends (R309). -/
theorem runThread_spent {s : State} {n : Nat} {t : Thread} {p : Pkt} (h1 : mapGet none s.rules.threads n = some t)
    (h2 : t.pmWait = none) (h5 : 512 ≤ t.executed) (h6 : s.pkt? t.port t.pkt = some p)
    (f : List Byte → Word → Thread → Thread × Option PassEnd) :
    s.runThread n (opOf (mapGet 0 (s.rules.store t.gen).program t.pc)) f = s.endPass n t .depth := by
  unfold State.runThread
  simp only [h1, h2, h5, h6, Option.isSome_none, ne_eq, not_true_eq_false, decide_false, Bool.or_self, Bool.false_eq_true,
    if_false, if_true]

end Sys2Proof.Machine
end

