-- ==== Sys2Proof/Laws/State.lean ====
section
/-! SUPPORT. What each plain update of the machine does to each part of State, one lemma for each part. It imports
the other laws, so that their proofs stand before these simp lemmas. -/
namespace Sys2Proof.Machine

@[simp] theorem emit_ident (x : Emit) (s : State) : (s.emit x).ident = s.ident := rfl
@[simp] theorem emit_il (x : Emit) (s : State) : (s.emit x).il = s.il := rfl
@[simp] theorem emit_gl (x : Emit) (s : State) : (s.emit x).gl = s.gl := rfl
@[simp] theorem emit_power (x : Emit) (s : State) : (s.emit x).power = s.power := rfl
@[simp] theorem emit_host (x : Emit) (s : State) : (s.emit x).host = s.host := rfl
@[simp] theorem emit_tb (x : Emit) (s : State) : (s.emit x).tb = s.tb := rfl
@[simp] theorem emit_loops (x : Emit) (s : State) : (s.emit x).loops = s.loops := rfl
@[simp] theorem emit_fabric (x : Emit) (s : State) : (s.emit x).fabric = s.fabric := rfl
@[simp] theorem emit_sheaves (x : Emit) (s : State) : (s.emit x).sheaves = s.sheaves := rfl
@[simp] theorem emit_cal (x : Emit) (s : State) : (s.emit x).cal = s.cal := rfl
@[simp] theorem emit_ports (x : Emit) (s : State) : (s.emit x).ports = s.ports := rfl
@[simp] theorem emit_gates (x : Emit) (s : State) : (s.emit x).gates = s.gates := rfl
@[simp] theorem emit_streams (x : Emit) (s : State) : (s.emit x).streams = s.streams := rfl
@[simp] theorem emit_rules (x : Emit) (s : State) : (s.emit x).rules = s.rules := rfl
@[simp] theorem emit_hedge (x : Emit) (s : State) : (s.emit x).hedge = s.hedge := rfl
@[simp] theorem emit_unit (x : Emit) (s : State) : (s.emit x).unit = s.unit := rfl
@[simp] theorem emit_trust (x : Emit) (s : State) : (s.emit x).trust = s.trust := rfl
@[simp] theorem emit_tap (x : Emit) (s : State) : (s.emit x).tap = s.tap := rfl
@[simp] theorem emit_pending (x : Emit) (s : State) : (s.emit x).pending = s.pending := rfl
@[simp] theorem emit_up (x : Emit) (s : State) : (s.emit x).up = s.up := rfl
@[simp] theorem emit_out (x : Emit) (s : State) : (s.emit x).out = x :: s.out := rfl
@[simp] theorem emit_free (x : Emit) (s : State) : (s.emit x).free = s.free := rfl
@[simp] theorem emit_cycle (x : Emit) (s : State) : (s.emit x).cycle = s.cycle := rfl

@[simp] theorem drawn_ident (s : State) : s.drawn.ident = s.ident := rfl
@[simp] theorem drawn_il (s : State) : s.drawn.il = s.il := rfl
@[simp] theorem drawn_gl (s : State) : s.drawn.gl = s.gl := rfl
@[simp] theorem drawn_power (s : State) : s.drawn.power = s.power := rfl
@[simp] theorem drawn_host (s : State) : s.drawn.host = s.host := rfl
@[simp] theorem drawn_tb (s : State) : s.drawn.tb = s.tb := rfl
@[simp] theorem drawn_loops (s : State) : s.drawn.loops = s.loops := rfl
@[simp] theorem drawn_fabric (s : State) : s.drawn.fabric = s.fabric := rfl
@[simp] theorem drawn_sheaves (s : State) : s.drawn.sheaves = s.sheaves := rfl
@[simp] theorem drawn_cal (s : State) : s.drawn.cal = s.cal := rfl
@[simp] theorem drawn_ports (s : State) : s.drawn.ports = s.ports := rfl
@[simp] theorem drawn_gates (s : State) : s.drawn.gates = s.gates := rfl
@[simp] theorem drawn_streams (s : State) : s.drawn.streams = s.streams := rfl
@[simp] theorem drawn_rules (s : State) : s.drawn.rules = s.rules := rfl
@[simp] theorem drawn_hedge (s : State) : s.drawn.hedge = s.hedge := rfl
@[simp] theorem drawn_unit (s : State) : s.drawn.unit = s.unit := rfl
@[simp] theorem drawn_trust (s : State) : s.drawn.trust = s.trust := rfl
@[simp] theorem drawn_tap (s : State) : s.drawn.tap = s.tap := rfl
@[simp] theorem drawn_pending (s : State) : s.drawn.pending = s.pending := rfl
@[simp] theorem drawn_up (s : State) : s.drawn.up = s.up := rfl
@[simp] theorem drawn_out (s : State) : s.drawn.out = s.out := rfl
@[simp] theorem drawn_free (s : State) : s.drawn.free = s.free + 1 := rfl
@[simp] theorem drawn_cycle (s : State) : s.drawn.cycle = s.cycle := rfl

@[simp] theorem writeBody_ident (m off : Nat) (bs : List Byte) (s : State) : (s.writeBody m off bs).ident = s.ident := rfl
@[simp] theorem writeBody_il (m off : Nat) (bs : List Byte) (s : State) : (s.writeBody m off bs).il = { s.il with bar2 := mapSetList 0 s.il.bar2 (4096 * m + off) bs } := rfl
@[simp] theorem writeBody_gl (m off : Nat) (bs : List Byte) (s : State) : (s.writeBody m off bs).gl = s.gl := rfl
@[simp] theorem writeBody_power (m off : Nat) (bs : List Byte) (s : State) : (s.writeBody m off bs).power = s.power := rfl
@[simp] theorem writeBody_host (m off : Nat) (bs : List Byte) (s : State) : (s.writeBody m off bs).host = s.host := rfl
@[simp] theorem writeBody_tb (m off : Nat) (bs : List Byte) (s : State) : (s.writeBody m off bs).tb = s.tb := rfl
@[simp] theorem writeBody_loops (m off : Nat) (bs : List Byte) (s : State) : (s.writeBody m off bs).loops = s.loops := rfl
@[simp] theorem writeBody_fabric (m off : Nat) (bs : List Byte) (s : State) : (s.writeBody m off bs).fabric = s.fabric := rfl
@[simp] theorem writeBody_sheaves (m off : Nat) (bs : List Byte) (s : State) : (s.writeBody m off bs).sheaves = s.sheaves := rfl
@[simp] theorem writeBody_cal (m off : Nat) (bs : List Byte) (s : State) : (s.writeBody m off bs).cal = s.cal := rfl
@[simp] theorem writeBody_ports (m off : Nat) (bs : List Byte) (s : State) : (s.writeBody m off bs).ports = s.ports := rfl
@[simp] theorem writeBody_gates (m off : Nat) (bs : List Byte) (s : State) : (s.writeBody m off bs).gates = s.gates := rfl
@[simp] theorem writeBody_streams (m off : Nat) (bs : List Byte) (s : State) : (s.writeBody m off bs).streams = s.streams := rfl
@[simp] theorem writeBody_rules (m off : Nat) (bs : List Byte) (s : State) : (s.writeBody m off bs).rules = s.rules := rfl
@[simp] theorem writeBody_hedge (m off : Nat) (bs : List Byte) (s : State) : (s.writeBody m off bs).hedge = s.hedge := rfl
@[simp] theorem writeBody_unit (m off : Nat) (bs : List Byte) (s : State) : (s.writeBody m off bs).unit = s.unit := rfl
@[simp] theorem writeBody_trust (m off : Nat) (bs : List Byte) (s : State) : (s.writeBody m off bs).trust = s.trust := rfl
@[simp] theorem writeBody_tap (m off : Nat) (bs : List Byte) (s : State) : (s.writeBody m off bs).tap = s.tap := rfl
@[simp] theorem writeBody_pending (m off : Nat) (bs : List Byte) (s : State) : (s.writeBody m off bs).pending = s.pending := rfl
@[simp] theorem writeBody_up (m off : Nat) (bs : List Byte) (s : State) : (s.writeBody m off bs).up = s.up := rfl
@[simp] theorem writeBody_out (m off : Nat) (bs : List Byte) (s : State) : (s.writeBody m off bs).out = s.out := rfl
@[simp] theorem writeBody_free (m off : Nat) (bs : List Byte) (s : State) : (s.writeBody m off bs).free = s.free := rfl
@[simp] theorem writeBody_cycle (m off : Nat) (bs : List Byte) (s : State) : (s.writeBody m off bs).cycle = s.cycle := rfl

@[simp] theorem modMb_ident (m : Nat) (f : Mailbox → Mailbox) (s : State) : (s.modMb m f).ident = s.ident := rfl
@[simp] theorem modMb_il (m : Nat) (f : Mailbox → Mailbox) (s : State) : (s.modMb m f).il = { s.il with mb := mapMod Mailbox.dflt s.il.mb m f } := rfl
@[simp] theorem modMb_gl (m : Nat) (f : Mailbox → Mailbox) (s : State) : (s.modMb m f).gl = s.gl := rfl
@[simp] theorem modMb_power (m : Nat) (f : Mailbox → Mailbox) (s : State) : (s.modMb m f).power = s.power := rfl
@[simp] theorem modMb_host (m : Nat) (f : Mailbox → Mailbox) (s : State) : (s.modMb m f).host = s.host := rfl
@[simp] theorem modMb_tb (m : Nat) (f : Mailbox → Mailbox) (s : State) : (s.modMb m f).tb = s.tb := rfl
@[simp] theorem modMb_loops (m : Nat) (f : Mailbox → Mailbox) (s : State) : (s.modMb m f).loops = s.loops := rfl
@[simp] theorem modMb_fabric (m : Nat) (f : Mailbox → Mailbox) (s : State) : (s.modMb m f).fabric = s.fabric := rfl
@[simp] theorem modMb_sheaves (m : Nat) (f : Mailbox → Mailbox) (s : State) : (s.modMb m f).sheaves = s.sheaves := rfl
@[simp] theorem modMb_cal (m : Nat) (f : Mailbox → Mailbox) (s : State) : (s.modMb m f).cal = s.cal := rfl
@[simp] theorem modMb_ports (m : Nat) (f : Mailbox → Mailbox) (s : State) : (s.modMb m f).ports = s.ports := rfl
@[simp] theorem modMb_gates (m : Nat) (f : Mailbox → Mailbox) (s : State) : (s.modMb m f).gates = s.gates := rfl
@[simp] theorem modMb_streams (m : Nat) (f : Mailbox → Mailbox) (s : State) : (s.modMb m f).streams = s.streams := rfl
@[simp] theorem modMb_rules (m : Nat) (f : Mailbox → Mailbox) (s : State) : (s.modMb m f).rules = s.rules := rfl
@[simp] theorem modMb_hedge (m : Nat) (f : Mailbox → Mailbox) (s : State) : (s.modMb m f).hedge = s.hedge := rfl
@[simp] theorem modMb_unit (m : Nat) (f : Mailbox → Mailbox) (s : State) : (s.modMb m f).unit = s.unit := rfl
@[simp] theorem modMb_trust (m : Nat) (f : Mailbox → Mailbox) (s : State) : (s.modMb m f).trust = s.trust := rfl
@[simp] theorem modMb_tap (m : Nat) (f : Mailbox → Mailbox) (s : State) : (s.modMb m f).tap = s.tap := rfl
@[simp] theorem modMb_pending (m : Nat) (f : Mailbox → Mailbox) (s : State) : (s.modMb m f).pending = s.pending := rfl
@[simp] theorem modMb_up (m : Nat) (f : Mailbox → Mailbox) (s : State) : (s.modMb m f).up = s.up := rfl
@[simp] theorem modMb_out (m : Nat) (f : Mailbox → Mailbox) (s : State) : (s.modMb m f).out = s.out := rfl
@[simp] theorem modMb_free (m : Nat) (f : Mailbox → Mailbox) (s : State) : (s.modMb m f).free = s.free := rfl
@[simp] theorem modMb_cycle (m : Nat) (f : Mailbox → Mailbox) (s : State) : (s.modMb m f).cycle = s.cycle := rfl

@[simp] theorem modElem_ident (e : Nat) (f : Elem → Elem) (s : State) : (s.modElem e f).ident = s.ident := rfl
@[simp] theorem modElem_il (e : Nat) (f : Elem → Elem) (s : State) : (s.modElem e f).il = s.il := rfl
@[simp] theorem modElem_gl (e : Nat) (f : Elem → Elem) (s : State) : (s.modElem e f).gl = s.gl := rfl
@[simp] theorem modElem_power (e : Nat) (f : Elem → Elem) (s : State) : (s.modElem e f).power = s.power := rfl
@[simp] theorem modElem_host (e : Nat) (f : Elem → Elem) (s : State) : (s.modElem e f).host = s.host := rfl
@[simp] theorem modElem_tb (e : Nat) (f : Elem → Elem) (s : State) : (s.modElem e f).tb = s.tb := rfl
@[simp] theorem modElem_loops (e : Nat) (f : Elem → Elem) (s : State) : (s.modElem e f).loops = { s.loops with elems := mapMod Elem.park s.loops.elems e f } := rfl
@[simp] theorem modElem_fabric (e : Nat) (f : Elem → Elem) (s : State) : (s.modElem e f).fabric = s.fabric := rfl
@[simp] theorem modElem_sheaves (e : Nat) (f : Elem → Elem) (s : State) : (s.modElem e f).sheaves = s.sheaves := rfl
@[simp] theorem modElem_cal (e : Nat) (f : Elem → Elem) (s : State) : (s.modElem e f).cal = s.cal := rfl
@[simp] theorem modElem_ports (e : Nat) (f : Elem → Elem) (s : State) : (s.modElem e f).ports = s.ports := rfl
@[simp] theorem modElem_gates (e : Nat) (f : Elem → Elem) (s : State) : (s.modElem e f).gates = s.gates := rfl
@[simp] theorem modElem_streams (e : Nat) (f : Elem → Elem) (s : State) : (s.modElem e f).streams = s.streams := rfl
@[simp] theorem modElem_rules (e : Nat) (f : Elem → Elem) (s : State) : (s.modElem e f).rules = s.rules := rfl
@[simp] theorem modElem_hedge (e : Nat) (f : Elem → Elem) (s : State) : (s.modElem e f).hedge = s.hedge := rfl
@[simp] theorem modElem_unit (e : Nat) (f : Elem → Elem) (s : State) : (s.modElem e f).unit = s.unit := rfl
@[simp] theorem modElem_trust (e : Nat) (f : Elem → Elem) (s : State) : (s.modElem e f).trust = s.trust := rfl
@[simp] theorem modElem_tap (e : Nat) (f : Elem → Elem) (s : State) : (s.modElem e f).tap = s.tap := rfl
@[simp] theorem modElem_pending (e : Nat) (f : Elem → Elem) (s : State) : (s.modElem e f).pending = s.pending := rfl
@[simp] theorem modElem_up (e : Nat) (f : Elem → Elem) (s : State) : (s.modElem e f).up = s.up := rfl
@[simp] theorem modElem_out (e : Nat) (f : Elem → Elem) (s : State) : (s.modElem e f).out = s.out := rfl
@[simp] theorem modElem_free (e : Nat) (f : Elem → Elem) (s : State) : (s.modElem e f).free = s.free := rfl
@[simp] theorem modElem_cycle (e : Nat) (f : Elem → Elem) (s : State) : (s.modElem e f).cycle = s.cycle := rfl

@[simp] theorem modElems_ident (es : List Nat) (f : Nat → Elem → Elem) (s : State) : (s.modElems es f).ident = s.ident := rfl
@[simp] theorem modElems_il (es : List Nat) (f : Nat → Elem → Elem) (s : State) : (s.modElems es f).il = s.il := rfl
@[simp] theorem modElems_gl (es : List Nat) (f : Nat → Elem → Elem) (s : State) : (s.modElems es f).gl = s.gl := rfl
@[simp] theorem modElems_power (es : List Nat) (f : Nat → Elem → Elem) (s : State) : (s.modElems es f).power = s.power := rfl
@[simp] theorem modElems_host (es : List Nat) (f : Nat → Elem → Elem) (s : State) : (s.modElems es f).host = s.host := rfl
@[simp] theorem modElems_tb (es : List Nat) (f : Nat → Elem → Elem) (s : State) : (s.modElems es f).tb = s.tb := rfl
@[simp] theorem modElems_loops (es : List Nat) (f : Nat → Elem → Elem) (s : State) : (s.modElems es f).loops = { s.loops with elems := mapModAll Elem.park f es s.loops.elems } := rfl
@[simp] theorem modElems_fabric (es : List Nat) (f : Nat → Elem → Elem) (s : State) : (s.modElems es f).fabric = s.fabric := rfl
@[simp] theorem modElems_sheaves (es : List Nat) (f : Nat → Elem → Elem) (s : State) : (s.modElems es f).sheaves = s.sheaves := rfl
@[simp] theorem modElems_cal (es : List Nat) (f : Nat → Elem → Elem) (s : State) : (s.modElems es f).cal = s.cal := rfl
@[simp] theorem modElems_ports (es : List Nat) (f : Nat → Elem → Elem) (s : State) : (s.modElems es f).ports = s.ports := rfl
@[simp] theorem modElems_gates (es : List Nat) (f : Nat → Elem → Elem) (s : State) : (s.modElems es f).gates = s.gates := rfl
@[simp] theorem modElems_streams (es : List Nat) (f : Nat → Elem → Elem) (s : State) : (s.modElems es f).streams = s.streams := rfl
@[simp] theorem modElems_rules (es : List Nat) (f : Nat → Elem → Elem) (s : State) : (s.modElems es f).rules = s.rules := rfl
@[simp] theorem modElems_hedge (es : List Nat) (f : Nat → Elem → Elem) (s : State) : (s.modElems es f).hedge = s.hedge := rfl
@[simp] theorem modElems_unit (es : List Nat) (f : Nat → Elem → Elem) (s : State) : (s.modElems es f).unit = s.unit := rfl
@[simp] theorem modElems_trust (es : List Nat) (f : Nat → Elem → Elem) (s : State) : (s.modElems es f).trust = s.trust := rfl
@[simp] theorem modElems_tap (es : List Nat) (f : Nat → Elem → Elem) (s : State) : (s.modElems es f).tap = s.tap := rfl
@[simp] theorem modElems_pending (es : List Nat) (f : Nat → Elem → Elem) (s : State) : (s.modElems es f).pending = s.pending := rfl
@[simp] theorem modElems_up (es : List Nat) (f : Nat → Elem → Elem) (s : State) : (s.modElems es f).up = s.up := rfl
@[simp] theorem modElems_out (es : List Nat) (f : Nat → Elem → Elem) (s : State) : (s.modElems es f).out = s.out := rfl
@[simp] theorem modElems_free (es : List Nat) (f : Nat → Elem → Elem) (s : State) : (s.modElems es f).free = s.free := rfl
@[simp] theorem modElems_cycle (es : List Nat) (f : Nat → Elem → Elem) (s : State) : (s.modElems es f).cycle = s.cycle := rfl

@[simp] theorem modSheaf_ident (id : Nat) (f : Sheaf → Sheaf) (s : State) : (s.modSheaf id f).ident = s.ident := rfl
@[simp] theorem modSheaf_il (id : Nat) (f : Sheaf → Sheaf) (s : State) : (s.modSheaf id f).il = s.il := rfl
@[simp] theorem modSheaf_gl (id : Nat) (f : Sheaf → Sheaf) (s : State) : (s.modSheaf id f).gl = s.gl := rfl
@[simp] theorem modSheaf_power (id : Nat) (f : Sheaf → Sheaf) (s : State) : (s.modSheaf id f).power = s.power := rfl
@[simp] theorem modSheaf_host (id : Nat) (f : Sheaf → Sheaf) (s : State) : (s.modSheaf id f).host = s.host := rfl
@[simp] theorem modSheaf_fabric (id : Nat) (f : Sheaf → Sheaf) (s : State) : (s.modSheaf id f).fabric = s.fabric := rfl
@[simp] theorem modSheaf_sheaves (id : Nat) (f : Sheaf → Sheaf) (s : State) : (s.modSheaf id f).sheaves = { s.sheaves with store := s.sheaves.store.map fun x => if x.id = id && x.phase ≠ .done then f x else x } := rfl
@[simp] theorem modSheaf_ports (id : Nat) (f : Sheaf → Sheaf) (s : State) : (s.modSheaf id f).ports = s.ports := rfl
@[simp] theorem modSheaf_gates (id : Nat) (f : Sheaf → Sheaf) (s : State) : (s.modSheaf id f).gates = s.gates := rfl
@[simp] theorem modSheaf_streams (id : Nat) (f : Sheaf → Sheaf) (s : State) : (s.modSheaf id f).streams = s.streams := rfl
@[simp] theorem modSheaf_rules (id : Nat) (f : Sheaf → Sheaf) (s : State) : (s.modSheaf id f).rules = s.rules := rfl
@[simp] theorem modSheaf_hedge (id : Nat) (f : Sheaf → Sheaf) (s : State) : (s.modSheaf id f).hedge = s.hedge := rfl
@[simp] theorem modSheaf_unit (id : Nat) (f : Sheaf → Sheaf) (s : State) : (s.modSheaf id f).unit = s.unit := rfl
@[simp] theorem modSheaf_trust (id : Nat) (f : Sheaf → Sheaf) (s : State) : (s.modSheaf id f).trust = s.trust := rfl
@[simp] theorem modSheaf_tap (id : Nat) (f : Sheaf → Sheaf) (s : State) : (s.modSheaf id f).tap = s.tap := rfl
@[simp] theorem modSheaf_pending (id : Nat) (f : Sheaf → Sheaf) (s : State) : (s.modSheaf id f).pending = s.pending := rfl
@[simp] theorem modSheaf_up (id : Nat) (f : Sheaf → Sheaf) (s : State) : (s.modSheaf id f).up = s.up := rfl
@[simp] theorem modSheaf_out (id : Nat) (f : Sheaf → Sheaf) (s : State) : (s.modSheaf id f).out = s.out := rfl
@[simp] theorem modSheaf_free (id : Nat) (f : Sheaf → Sheaf) (s : State) : (s.modSheaf id f).free = s.free := rfl
@[simp] theorem modSheaf_cycle (id : Nat) (f : Sheaf → Sheaf) (s : State) : (s.modSheaf id f).cycle = s.cycle := rfl

@[simp] theorem modPort_ident (p : Nat) (f : Port → Port) (s : State) : (s.modPort p f).ident = s.ident := rfl
@[simp] theorem modPort_il (p : Nat) (f : Port → Port) (s : State) : (s.modPort p f).il = s.il := rfl
@[simp] theorem modPort_gl (p : Nat) (f : Port → Port) (s : State) : (s.modPort p f).gl = s.gl := rfl
@[simp] theorem modPort_power (p : Nat) (f : Port → Port) (s : State) : (s.modPort p f).power = s.power := rfl
@[simp] theorem modPort_host (p : Nat) (f : Port → Port) (s : State) : (s.modPort p f).host = s.host := rfl
@[simp] theorem modPort_tb (p : Nat) (f : Port → Port) (s : State) : (s.modPort p f).tb = s.tb := rfl
@[simp] theorem modPort_loops (p : Nat) (f : Port → Port) (s : State) : (s.modPort p f).loops = s.loops := rfl
@[simp] theorem modPort_fabric (p : Nat) (f : Port → Port) (s : State) : (s.modPort p f).fabric = s.fabric := rfl
@[simp] theorem modPort_sheaves (p : Nat) (f : Port → Port) (s : State) : (s.modPort p f).sheaves = s.sheaves := rfl
@[simp] theorem modPort_cal (p : Nat) (f : Port → Port) (s : State) : (s.modPort p f).cal = s.cal := rfl
@[simp] theorem modPort_ports (p : Nat) (f : Port → Port) (s : State) : (s.modPort p f).ports = { s.ports with port := mapMod Port.dflt s.ports.port p f } := rfl
@[simp] theorem modPort_gates (p : Nat) (f : Port → Port) (s : State) : (s.modPort p f).gates = s.gates := rfl
@[simp] theorem modPort_streams (p : Nat) (f : Port → Port) (s : State) : (s.modPort p f).streams = s.streams := rfl
@[simp] theorem modPort_rules (p : Nat) (f : Port → Port) (s : State) : (s.modPort p f).rules = s.rules := rfl
@[simp] theorem modPort_hedge (p : Nat) (f : Port → Port) (s : State) : (s.modPort p f).hedge = s.hedge := rfl
@[simp] theorem modPort_unit (p : Nat) (f : Port → Port) (s : State) : (s.modPort p f).unit = s.unit := rfl
@[simp] theorem modPort_trust (p : Nat) (f : Port → Port) (s : State) : (s.modPort p f).trust = s.trust := rfl
@[simp] theorem modPort_tap (p : Nat) (f : Port → Port) (s : State) : (s.modPort p f).tap = s.tap := rfl
@[simp] theorem modPort_pending (p : Nat) (f : Port → Port) (s : State) : (s.modPort p f).pending = s.pending := rfl
@[simp] theorem modPort_up (p : Nat) (f : Port → Port) (s : State) : (s.modPort p f).up = s.up := rfl
@[simp] theorem modPort_out (p : Nat) (f : Port → Port) (s : State) : (s.modPort p f).out = s.out := rfl
@[simp] theorem modPort_free (p : Nat) (f : Port → Port) (s : State) : (s.modPort p f).free = s.free := rfl
@[simp] theorem modPort_cycle (p : Nat) (f : Port → Port) (s : State) : (s.modPort p f).cycle = s.cycle := rfl

@[simp] theorem modSub_ident (k : Nat) (f : SubQ → SubQ) (s : State) : (s.modSub k f).ident = s.ident := rfl
@[simp] theorem modSub_il (k : Nat) (f : SubQ → SubQ) (s : State) : (s.modSub k f).il = s.il := rfl
@[simp] theorem modSub_gl (k : Nat) (f : SubQ → SubQ) (s : State) : (s.modSub k f).gl = s.gl := rfl
@[simp] theorem modSub_power (k : Nat) (f : SubQ → SubQ) (s : State) : (s.modSub k f).power = s.power := rfl
@[simp] theorem modSub_host (k : Nat) (f : SubQ → SubQ) (s : State) : (s.modSub k f).host = { s.host with subq := mapMod SubQ.dflt s.host.subq k f } := rfl
@[simp] theorem modSub_tb (k : Nat) (f : SubQ → SubQ) (s : State) : (s.modSub k f).tb = s.tb := rfl
@[simp] theorem modSub_loops (k : Nat) (f : SubQ → SubQ) (s : State) : (s.modSub k f).loops = s.loops := rfl
@[simp] theorem modSub_fabric (k : Nat) (f : SubQ → SubQ) (s : State) : (s.modSub k f).fabric = s.fabric := rfl
@[simp] theorem modSub_sheaves (k : Nat) (f : SubQ → SubQ) (s : State) : (s.modSub k f).sheaves = s.sheaves := rfl
@[simp] theorem modSub_cal (k : Nat) (f : SubQ → SubQ) (s : State) : (s.modSub k f).cal = s.cal := rfl
@[simp] theorem modSub_ports (k : Nat) (f : SubQ → SubQ) (s : State) : (s.modSub k f).ports = s.ports := rfl
@[simp] theorem modSub_gates (k : Nat) (f : SubQ → SubQ) (s : State) : (s.modSub k f).gates = s.gates := rfl
@[simp] theorem modSub_streams (k : Nat) (f : SubQ → SubQ) (s : State) : (s.modSub k f).streams = s.streams := rfl
@[simp] theorem modSub_rules (k : Nat) (f : SubQ → SubQ) (s : State) : (s.modSub k f).rules = s.rules := rfl
@[simp] theorem modSub_hedge (k : Nat) (f : SubQ → SubQ) (s : State) : (s.modSub k f).hedge = s.hedge := rfl
@[simp] theorem modSub_unit (k : Nat) (f : SubQ → SubQ) (s : State) : (s.modSub k f).unit = s.unit := rfl
@[simp] theorem modSub_trust (k : Nat) (f : SubQ → SubQ) (s : State) : (s.modSub k f).trust = s.trust := rfl
@[simp] theorem modSub_tap (k : Nat) (f : SubQ → SubQ) (s : State) : (s.modSub k f).tap = s.tap := rfl
@[simp] theorem modSub_pending (k : Nat) (f : SubQ → SubQ) (s : State) : (s.modSub k f).pending = s.pending := rfl
@[simp] theorem modSub_up (k : Nat) (f : SubQ → SubQ) (s : State) : (s.modSub k f).up = s.up := rfl
@[simp] theorem modSub_out (k : Nat) (f : SubQ → SubQ) (s : State) : (s.modSub k f).out = s.out := rfl
@[simp] theorem modSub_free (k : Nat) (f : SubQ → SubQ) (s : State) : (s.modSub k f).free = s.free := rfl
@[simp] theorem modSub_cycle (k : Nat) (f : SubQ → SubQ) (s : State) : (s.modSub k f).cycle = s.cycle := rfl

@[simp] theorem modCq_ident (q : Nat) (f : ComplQ → ComplQ) (s : State) : (s.modCq q f).ident = s.ident := rfl
@[simp] theorem modCq_il (q : Nat) (f : ComplQ → ComplQ) (s : State) : (s.modCq q f).il = s.il := rfl
@[simp] theorem modCq_gl (q : Nat) (f : ComplQ → ComplQ) (s : State) : (s.modCq q f).gl = s.gl := rfl
@[simp] theorem modCq_power (q : Nat) (f : ComplQ → ComplQ) (s : State) : (s.modCq q f).power = s.power := rfl
@[simp] theorem modCq_host (q : Nat) (f : ComplQ → ComplQ) (s : State) : (s.modCq q f).host = { s.host with cq := mapMod ComplQ.dflt s.host.cq q f } := rfl
@[simp] theorem modCq_tb (q : Nat) (f : ComplQ → ComplQ) (s : State) : (s.modCq q f).tb = s.tb := rfl
@[simp] theorem modCq_loops (q : Nat) (f : ComplQ → ComplQ) (s : State) : (s.modCq q f).loops = s.loops := rfl
@[simp] theorem modCq_fabric (q : Nat) (f : ComplQ → ComplQ) (s : State) : (s.modCq q f).fabric = s.fabric := rfl
@[simp] theorem modCq_sheaves (q : Nat) (f : ComplQ → ComplQ) (s : State) : (s.modCq q f).sheaves = s.sheaves := rfl
@[simp] theorem modCq_cal (q : Nat) (f : ComplQ → ComplQ) (s : State) : (s.modCq q f).cal = s.cal := rfl
@[simp] theorem modCq_ports (q : Nat) (f : ComplQ → ComplQ) (s : State) : (s.modCq q f).ports = s.ports := rfl
@[simp] theorem modCq_gates (q : Nat) (f : ComplQ → ComplQ) (s : State) : (s.modCq q f).gates = s.gates := rfl
@[simp] theorem modCq_streams (q : Nat) (f : ComplQ → ComplQ) (s : State) : (s.modCq q f).streams = s.streams := rfl
@[simp] theorem modCq_rules (q : Nat) (f : ComplQ → ComplQ) (s : State) : (s.modCq q f).rules = s.rules := rfl
@[simp] theorem modCq_hedge (q : Nat) (f : ComplQ → ComplQ) (s : State) : (s.modCq q f).hedge = s.hedge := rfl
@[simp] theorem modCq_unit (q : Nat) (f : ComplQ → ComplQ) (s : State) : (s.modCq q f).unit = s.unit := rfl
@[simp] theorem modCq_trust (q : Nat) (f : ComplQ → ComplQ) (s : State) : (s.modCq q f).trust = s.trust := rfl
@[simp] theorem modCq_tap (q : Nat) (f : ComplQ → ComplQ) (s : State) : (s.modCq q f).tap = s.tap := rfl
@[simp] theorem modCq_pending (q : Nat) (f : ComplQ → ComplQ) (s : State) : (s.modCq q f).pending = s.pending := rfl
@[simp] theorem modCq_up (q : Nat) (f : ComplQ → ComplQ) (s : State) : (s.modCq q f).up = s.up := rfl
@[simp] theorem modCq_out (q : Nat) (f : ComplQ → ComplQ) (s : State) : (s.modCq q f).out = s.out := rfl
@[simp] theorem modCq_free (q : Nat) (f : ComplQ → ComplQ) (s : State) : (s.modCq q f).free = s.free := rfl
@[simp] theorem modCq_cycle (q : Nat) (f : ComplQ → ComplQ) (s : State) : (s.modCq q f).cycle = s.cycle := rfl

@[simp] theorem modGate_ident (p : Nat) (f : GatePort → GatePort) (s : State) : (s.modGate p f).ident = s.ident := rfl
@[simp] theorem modGate_il (p : Nat) (f : GatePort → GatePort) (s : State) : (s.modGate p f).il = s.il := rfl
@[simp] theorem modGate_gl (p : Nat) (f : GatePort → GatePort) (s : State) : (s.modGate p f).gl = s.gl := rfl
@[simp] theorem modGate_power (p : Nat) (f : GatePort → GatePort) (s : State) : (s.modGate p f).power = s.power := rfl
@[simp] theorem modGate_host (p : Nat) (f : GatePort → GatePort) (s : State) : (s.modGate p f).host = s.host := rfl
@[simp] theorem modGate_tb (p : Nat) (f : GatePort → GatePort) (s : State) : (s.modGate p f).tb = s.tb := rfl
@[simp] theorem modGate_loops (p : Nat) (f : GatePort → GatePort) (s : State) : (s.modGate p f).loops = s.loops := rfl
@[simp] theorem modGate_fabric (p : Nat) (f : GatePort → GatePort) (s : State) : (s.modGate p f).fabric = s.fabric := rfl
@[simp] theorem modGate_sheaves (p : Nat) (f : GatePort → GatePort) (s : State) : (s.modGate p f).sheaves = s.sheaves := rfl
@[simp] theorem modGate_cal (p : Nat) (f : GatePort → GatePort) (s : State) : (s.modGate p f).cal = s.cal := rfl
@[simp] theorem modGate_ports (p : Nat) (f : GatePort → GatePort) (s : State) : (s.modGate p f).ports = s.ports := rfl
@[simp] theorem modGate_gates (p : Nat) (f : GatePort → GatePort) (s : State) : (s.modGate p f).gates = { s.gates with port := mapMod GatePort.dflt s.gates.port p f } := rfl
@[simp] theorem modGate_streams (p : Nat) (f : GatePort → GatePort) (s : State) : (s.modGate p f).streams = s.streams := rfl
@[simp] theorem modGate_rules (p : Nat) (f : GatePort → GatePort) (s : State) : (s.modGate p f).rules = s.rules := rfl
@[simp] theorem modGate_hedge (p : Nat) (f : GatePort → GatePort) (s : State) : (s.modGate p f).hedge = s.hedge := rfl
@[simp] theorem modGate_unit (p : Nat) (f : GatePort → GatePort) (s : State) : (s.modGate p f).unit = s.unit := rfl
@[simp] theorem modGate_trust (p : Nat) (f : GatePort → GatePort) (s : State) : (s.modGate p f).trust = s.trust := rfl
@[simp] theorem modGate_tap (p : Nat) (f : GatePort → GatePort) (s : State) : (s.modGate p f).tap = s.tap := rfl
@[simp] theorem modGate_pending (p : Nat) (f : GatePort → GatePort) (s : State) : (s.modGate p f).pending = s.pending := rfl
@[simp] theorem modGate_up (p : Nat) (f : GatePort → GatePort) (s : State) : (s.modGate p f).up = s.up := rfl
@[simp] theorem modGate_out (p : Nat) (f : GatePort → GatePort) (s : State) : (s.modGate p f).out = s.out := rfl
@[simp] theorem modGate_free (p : Nat) (f : GatePort → GatePort) (s : State) : (s.modGate p f).free = s.free := rfl
@[simp] theorem modGate_cycle (p : Nat) (f : GatePort → GatePort) (s : State) : (s.modGate p f).cycle = s.cycle := rfl

@[simp] theorem modStream_ident (n : Nat) (f : Stream → Stream) (s : State) : (s.modStream n f).ident = s.ident := rfl
@[simp] theorem modStream_il (n : Nat) (f : Stream → Stream) (s : State) : (s.modStream n f).il = s.il := rfl
@[simp] theorem modStream_gl (n : Nat) (f : Stream → Stream) (s : State) : (s.modStream n f).gl = s.gl := rfl
@[simp] theorem modStream_power (n : Nat) (f : Stream → Stream) (s : State) : (s.modStream n f).power = s.power := rfl
@[simp] theorem modStream_host (n : Nat) (f : Stream → Stream) (s : State) : (s.modStream n f).host = s.host := rfl
@[simp] theorem modStream_tb (n : Nat) (f : Stream → Stream) (s : State) : (s.modStream n f).tb = s.tb := rfl
@[simp] theorem modStream_loops (n : Nat) (f : Stream → Stream) (s : State) : (s.modStream n f).loops = s.loops := rfl
@[simp] theorem modStream_fabric (n : Nat) (f : Stream → Stream) (s : State) : (s.modStream n f).fabric = s.fabric := rfl
@[simp] theorem modStream_sheaves (n : Nat) (f : Stream → Stream) (s : State) : (s.modStream n f).sheaves = s.sheaves := rfl
@[simp] theorem modStream_cal (n : Nat) (f : Stream → Stream) (s : State) : (s.modStream n f).cal = s.cal := rfl
@[simp] theorem modStream_ports (n : Nat) (f : Stream → Stream) (s : State) : (s.modStream n f).ports = s.ports := rfl
@[simp] theorem modStream_gates (n : Nat) (f : Stream → Stream) (s : State) : (s.modStream n f).gates = s.gates := rfl
@[simp] theorem modStream_streams (n : Nat) (f : Stream → Stream) (s : State) : (s.modStream n f).streams = { s.streams with table := mapMod Stream.dflt s.streams.table n f } := rfl
@[simp] theorem modStream_rules (n : Nat) (f : Stream → Stream) (s : State) : (s.modStream n f).rules = s.rules := rfl
@[simp] theorem modStream_hedge (n : Nat) (f : Stream → Stream) (s : State) : (s.modStream n f).hedge = s.hedge := rfl
@[simp] theorem modStream_unit (n : Nat) (f : Stream → Stream) (s : State) : (s.modStream n f).unit = s.unit := rfl
@[simp] theorem modStream_trust (n : Nat) (f : Stream → Stream) (s : State) : (s.modStream n f).trust = s.trust := rfl
@[simp] theorem modStream_tap (n : Nat) (f : Stream → Stream) (s : State) : (s.modStream n f).tap = s.tap := rfl
@[simp] theorem modStream_pending (n : Nat) (f : Stream → Stream) (s : State) : (s.modStream n f).pending = s.pending := rfl
@[simp] theorem modStream_up (n : Nat) (f : Stream → Stream) (s : State) : (s.modStream n f).up = s.up := rfl
@[simp] theorem modStream_out (n : Nat) (f : Stream → Stream) (s : State) : (s.modStream n f).out = s.out := rfl
@[simp] theorem modStream_free (n : Nat) (f : Stream → Stream) (s : State) : (s.modStream n f).free = s.free := rfl
@[simp] theorem modStream_cycle (n : Nat) (f : Stream → Stream) (s : State) : (s.modStream n f).cycle = s.cycle := rfl

@[simp] theorem modSrc_ident (i : Nat) (f : Src → Src) (s : State) : (s.modSrc i f).ident = s.ident := rfl
@[simp] theorem modSrc_il (i : Nat) (f : Src → Src) (s : State) : (s.modSrc i f).il = s.il := rfl
@[simp] theorem modSrc_gl (i : Nat) (f : Src → Src) (s : State) : (s.modSrc i f).gl = { s.gl with srcs := mapMod Src.dflt s.gl.srcs i f } := rfl
@[simp] theorem modSrc_power (i : Nat) (f : Src → Src) (s : State) : (s.modSrc i f).power = s.power := rfl
@[simp] theorem modSrc_host (i : Nat) (f : Src → Src) (s : State) : (s.modSrc i f).host = s.host := rfl
@[simp] theorem modSrc_tb (i : Nat) (f : Src → Src) (s : State) : (s.modSrc i f).tb = s.tb := rfl
@[simp] theorem modSrc_loops (i : Nat) (f : Src → Src) (s : State) : (s.modSrc i f).loops = s.loops := rfl
@[simp] theorem modSrc_fabric (i : Nat) (f : Src → Src) (s : State) : (s.modSrc i f).fabric = s.fabric := rfl
@[simp] theorem modSrc_sheaves (i : Nat) (f : Src → Src) (s : State) : (s.modSrc i f).sheaves = s.sheaves := rfl
@[simp] theorem modSrc_cal (i : Nat) (f : Src → Src) (s : State) : (s.modSrc i f).cal = s.cal := rfl
@[simp] theorem modSrc_ports (i : Nat) (f : Src → Src) (s : State) : (s.modSrc i f).ports = s.ports := rfl
@[simp] theorem modSrc_gates (i : Nat) (f : Src → Src) (s : State) : (s.modSrc i f).gates = s.gates := rfl
@[simp] theorem modSrc_streams (i : Nat) (f : Src → Src) (s : State) : (s.modSrc i f).streams = s.streams := rfl
@[simp] theorem modSrc_rules (i : Nat) (f : Src → Src) (s : State) : (s.modSrc i f).rules = s.rules := rfl
@[simp] theorem modSrc_hedge (i : Nat) (f : Src → Src) (s : State) : (s.modSrc i f).hedge = s.hedge := rfl
@[simp] theorem modSrc_unit (i : Nat) (f : Src → Src) (s : State) : (s.modSrc i f).unit = s.unit := rfl
@[simp] theorem modSrc_trust (i : Nat) (f : Src → Src) (s : State) : (s.modSrc i f).trust = s.trust := rfl
@[simp] theorem modSrc_tap (i : Nat) (f : Src → Src) (s : State) : (s.modSrc i f).tap = s.tap := rfl
@[simp] theorem modSrc_pending (i : Nat) (f : Src → Src) (s : State) : (s.modSrc i f).pending = s.pending := rfl
@[simp] theorem modSrc_up (i : Nat) (f : Src → Src) (s : State) : (s.modSrc i f).up = s.up := rfl
@[simp] theorem modSrc_out (i : Nat) (f : Src → Src) (s : State) : (s.modSrc i f).out = s.out := rfl
@[simp] theorem modSrc_free (i : Nat) (f : Src → Src) (s : State) : (s.modSrc i f).free = s.free := rfl
@[simp] theorem modSrc_cycle (i : Nat) (f : Src → Src) (s : State) : (s.modSrc i f).cycle = s.cycle := rfl

@[simp] theorem takeCommand_ident (c : InFlight) (s : State) : (s.takeCommand c).ident = s.ident := rfl
@[simp] theorem takeCommand_il (c : InFlight) (s : State) : (s.takeCommand c).il = { s.il with inflight := s.il.inflight ++ [{ c with arrived := s.now }] } := rfl
@[simp] theorem takeCommand_gl (c : InFlight) (s : State) : (s.takeCommand c).gl = s.gl := rfl
@[simp] theorem takeCommand_power (c : InFlight) (s : State) : (s.takeCommand c).power = s.power := rfl
@[simp] theorem takeCommand_host (c : InFlight) (s : State) : (s.takeCommand c).host = s.host := rfl
@[simp] theorem takeCommand_tb (c : InFlight) (s : State) : (s.takeCommand c).tb = s.tb := rfl
@[simp] theorem takeCommand_loops (c : InFlight) (s : State) : (s.takeCommand c).loops = s.loops := rfl
@[simp] theorem takeCommand_fabric (c : InFlight) (s : State) : (s.takeCommand c).fabric = s.fabric := rfl
@[simp] theorem takeCommand_sheaves (c : InFlight) (s : State) : (s.takeCommand c).sheaves = s.sheaves := rfl
@[simp] theorem takeCommand_cal (c : InFlight) (s : State) : (s.takeCommand c).cal = s.cal := rfl
@[simp] theorem takeCommand_ports (c : InFlight) (s : State) : (s.takeCommand c).ports = s.ports := rfl
@[simp] theorem takeCommand_gates (c : InFlight) (s : State) : (s.takeCommand c).gates = s.gates := rfl
@[simp] theorem takeCommand_streams (c : InFlight) (s : State) : (s.takeCommand c).streams = s.streams := rfl
@[simp] theorem takeCommand_rules (c : InFlight) (s : State) : (s.takeCommand c).rules = s.rules := rfl
@[simp] theorem takeCommand_hedge (c : InFlight) (s : State) : (s.takeCommand c).hedge = s.hedge := rfl
@[simp] theorem takeCommand_unit (c : InFlight) (s : State) : (s.takeCommand c).unit = s.unit := rfl
@[simp] theorem takeCommand_trust (c : InFlight) (s : State) : (s.takeCommand c).trust = s.trust := rfl
@[simp] theorem takeCommand_tap (c : InFlight) (s : State) : (s.takeCommand c).tap = s.tap := rfl
@[simp] theorem takeCommand_pending (c : InFlight) (s : State) : (s.takeCommand c).pending = s.pending := rfl
@[simp] theorem takeCommand_up (c : InFlight) (s : State) : (s.takeCommand c).up = s.up := rfl
@[simp] theorem takeCommand_out (c : InFlight) (s : State) : (s.takeCommand c).out = s.out := rfl
@[simp] theorem takeCommand_free (c : InFlight) (s : State) : (s.takeCommand c).free = s.free := rfl
@[simp] theorem takeCommand_cycle (c : InFlight) (s : State) : (s.takeCommand c).cycle = s.cycle := rfl

@[simp] theorem tapSelect_ident (i : TapIr) (s : State) : (s.tapSelect i).ident = s.ident := rfl
@[simp] theorem tapSelect_il (i : TapIr) (s : State) : (s.tapSelect i).il = s.il := rfl
@[simp] theorem tapSelect_gl (i : TapIr) (s : State) : (s.tapSelect i).gl = s.gl := rfl
@[simp] theorem tapSelect_power (i : TapIr) (s : State) : (s.tapSelect i).power = s.power := rfl
@[simp] theorem tapSelect_host (i : TapIr) (s : State) : (s.tapSelect i).host = s.host := rfl
@[simp] theorem tapSelect_tb (i : TapIr) (s : State) : (s.tapSelect i).tb = s.tb := rfl
@[simp] theorem tapSelect_loops (i : TapIr) (s : State) : (s.tapSelect i).loops = s.loops := rfl
@[simp] theorem tapSelect_fabric (i : TapIr) (s : State) : (s.tapSelect i).fabric = s.fabric := rfl
@[simp] theorem tapSelect_sheaves (i : TapIr) (s : State) : (s.tapSelect i).sheaves = s.sheaves := rfl
@[simp] theorem tapSelect_cal (i : TapIr) (s : State) : (s.tapSelect i).cal = s.cal := rfl
@[simp] theorem tapSelect_ports (i : TapIr) (s : State) : (s.tapSelect i).ports = s.ports := rfl
@[simp] theorem tapSelect_gates (i : TapIr) (s : State) : (s.tapSelect i).gates = s.gates := rfl
@[simp] theorem tapSelect_streams (i : TapIr) (s : State) : (s.tapSelect i).streams = s.streams := rfl
@[simp] theorem tapSelect_rules (i : TapIr) (s : State) : (s.tapSelect i).rules = s.rules := rfl
@[simp] theorem tapSelect_hedge (i : TapIr) (s : State) : (s.tapSelect i).hedge = s.hedge := rfl
@[simp] theorem tapSelect_unit (i : TapIr) (s : State) : (s.tapSelect i).unit = s.unit := rfl
@[simp] theorem tapSelect_trust (i : TapIr) (s : State) : (s.tapSelect i).trust = s.trust := rfl
@[simp] theorem tapSelect_tap (i : TapIr) (s : State) : (s.tapSelect i).tap = { s.tap with ir := i, driving := none, highZ := false } := rfl
@[simp] theorem tapSelect_pending (i : TapIr) (s : State) : (s.tapSelect i).pending = s.pending := rfl
@[simp] theorem tapSelect_up (i : TapIr) (s : State) : (s.tapSelect i).up = s.up := rfl
@[simp] theorem tapSelect_out (i : TapIr) (s : State) : (s.tapSelect i).out = s.out := rfl
@[simp] theorem tapSelect_free (i : TapIr) (s : State) : (s.tapSelect i).free = s.free := rfl
@[simp] theorem tapSelect_cycle (i : TapIr) (s : State) : (s.tapSelect i).cycle = s.cycle := rfl

@[simp] theorem setPwrEn_ident (b : Bool) (s : State) : (s.setPwrEn b).ident = s.ident := rfl
@[simp] theorem setPwrEn_il (b : Bool) (s : State) : (s.setPwrEn b).il = s.il := rfl
@[simp] theorem setPwrEn_gl (b : Bool) (s : State) : (s.setPwrEn b).gl = s.gl := rfl
@[simp] theorem setPwrEn_power (b : Bool) (s : State) : (s.setPwrEn b).power = { s.power with pwrEn := b } := rfl
@[simp] theorem setPwrEn_host (b : Bool) (s : State) : (s.setPwrEn b).host = s.host := rfl
@[simp] theorem setPwrEn_tb (b : Bool) (s : State) : (s.setPwrEn b).tb = s.tb := rfl
@[simp] theorem setPwrEn_loops (b : Bool) (s : State) : (s.setPwrEn b).loops = s.loops := rfl
@[simp] theorem setPwrEn_fabric (b : Bool) (s : State) : (s.setPwrEn b).fabric = s.fabric := rfl
@[simp] theorem setPwrEn_sheaves (b : Bool) (s : State) : (s.setPwrEn b).sheaves = s.sheaves := rfl
@[simp] theorem setPwrEn_cal (b : Bool) (s : State) : (s.setPwrEn b).cal = s.cal := rfl
@[simp] theorem setPwrEn_ports (b : Bool) (s : State) : (s.setPwrEn b).ports = s.ports := rfl
@[simp] theorem setPwrEn_gates (b : Bool) (s : State) : (s.setPwrEn b).gates = s.gates := rfl
@[simp] theorem setPwrEn_streams (b : Bool) (s : State) : (s.setPwrEn b).streams = s.streams := rfl
@[simp] theorem setPwrEn_rules (b : Bool) (s : State) : (s.setPwrEn b).rules = s.rules := rfl
@[simp] theorem setPwrEn_hedge (b : Bool) (s : State) : (s.setPwrEn b).hedge = s.hedge := rfl
@[simp] theorem setPwrEn_unit (b : Bool) (s : State) : (s.setPwrEn b).unit = s.unit := rfl
@[simp] theorem setPwrEn_trust (b : Bool) (s : State) : (s.setPwrEn b).trust = s.trust := rfl
@[simp] theorem setPwrEn_tap (b : Bool) (s : State) : (s.setPwrEn b).tap = s.tap := rfl
@[simp] theorem setPwrEn_pending (b : Bool) (s : State) : (s.setPwrEn b).pending = s.pending := rfl
@[simp] theorem setPwrEn_up (b : Bool) (s : State) : (s.setPwrEn b).up = s.up := rfl
@[simp] theorem setPwrEn_out (b : Bool) (s : State) : (s.setPwrEn b).out = .pin .pwrEn (if b then 1 else 0) :: s.out := rfl
@[simp] theorem setPwrEn_free (b : Bool) (s : State) : (s.setPwrEn b).free = s.free := rfl
@[simp] theorem setPwrEn_cycle (b : Bool) (s : State) : (s.setPwrEn b).cycle = s.cycle := rfl

@[simp] theorem modMonitor_ident (ch : Nat) (f : ChanCal → ChanCal) (s : State) : (s.modMonitor ch f).ident = s.ident := rfl
@[simp] theorem modMonitor_il (ch : Nat) (f : ChanCal → ChanCal) (s : State) : (s.modMonitor ch f).il = s.il := rfl
@[simp] theorem modMonitor_gl (ch : Nat) (f : ChanCal → ChanCal) (s : State) : (s.modMonitor ch f).gl = s.gl := rfl
@[simp] theorem modMonitor_power (ch : Nat) (f : ChanCal → ChanCal) (s : State) : (s.modMonitor ch f).power = s.power := rfl
@[simp] theorem modMonitor_host (ch : Nat) (f : ChanCal → ChanCal) (s : State) : (s.modMonitor ch f).host = s.host := rfl
@[simp] theorem modMonitor_tb (ch : Nat) (f : ChanCal → ChanCal) (s : State) : (s.modMonitor ch f).tb = s.tb := rfl
@[simp] theorem modMonitor_loops (ch : Nat) (f : ChanCal → ChanCal) (s : State) : (s.modMonitor ch f).loops = s.loops := rfl
@[simp] theorem modMonitor_fabric (ch : Nat) (f : ChanCal → ChanCal) (s : State) : (s.modMonitor ch f).fabric = s.fabric := rfl
@[simp] theorem modMonitor_sheaves (ch : Nat) (f : ChanCal → ChanCal) (s : State) : (s.modMonitor ch f).sheaves = s.sheaves := rfl
@[simp] theorem modMonitor_cal (ch : Nat) (f : ChanCal → ChanCal) (s : State) : (s.modMonitor ch f).cal = { s.cal with chanWork := mapSet none s.cal.chanWork ch (some (f (s.chan ch))) } := rfl
@[simp] theorem modMonitor_ports (ch : Nat) (f : ChanCal → ChanCal) (s : State) : (s.modMonitor ch f).ports = s.ports := rfl
@[simp] theorem modMonitor_gates (ch : Nat) (f : ChanCal → ChanCal) (s : State) : (s.modMonitor ch f).gates = s.gates := rfl
@[simp] theorem modMonitor_streams (ch : Nat) (f : ChanCal → ChanCal) (s : State) : (s.modMonitor ch f).streams = s.streams := rfl
@[simp] theorem modMonitor_rules (ch : Nat) (f : ChanCal → ChanCal) (s : State) : (s.modMonitor ch f).rules = s.rules := rfl
@[simp] theorem modMonitor_hedge (ch : Nat) (f : ChanCal → ChanCal) (s : State) : (s.modMonitor ch f).hedge = s.hedge := rfl
@[simp] theorem modMonitor_unit (ch : Nat) (f : ChanCal → ChanCal) (s : State) : (s.modMonitor ch f).unit = s.unit := rfl
@[simp] theorem modMonitor_trust (ch : Nat) (f : ChanCal → ChanCal) (s : State) : (s.modMonitor ch f).trust = s.trust := rfl
@[simp] theorem modMonitor_tap (ch : Nat) (f : ChanCal → ChanCal) (s : State) : (s.modMonitor ch f).tap = s.tap := rfl
@[simp] theorem modMonitor_pending (ch : Nat) (f : ChanCal → ChanCal) (s : State) : (s.modMonitor ch f).pending = s.pending := rfl
@[simp] theorem modMonitor_up (ch : Nat) (f : ChanCal → ChanCal) (s : State) : (s.modMonitor ch f).up = s.up := rfl
@[simp] theorem modMonitor_out (ch : Nat) (f : ChanCal → ChanCal) (s : State) : (s.modMonitor ch f).out = s.out := rfl
@[simp] theorem modMonitor_free (ch : Nat) (f : ChanCal → ChanCal) (s : State) : (s.modMonitor ch f).free = s.free := rfl
@[simp] theorem modMonitor_cycle (ch : Nat) (f : ChanCal → ChanCal) (s : State) : (s.modMonitor ch f).cycle = s.cycle := rfl

@[simp] theorem modLine_ident (l : Nat) (f : LineCal → LineCal) (s : State) : (s.modLine l f).ident = s.ident := rfl
@[simp] theorem modLine_il (l : Nat) (f : LineCal → LineCal) (s : State) : (s.modLine l f).il = s.il := rfl
@[simp] theorem modLine_gl (l : Nat) (f : LineCal → LineCal) (s : State) : (s.modLine l f).gl = s.gl := rfl
@[simp] theorem modLine_power (l : Nat) (f : LineCal → LineCal) (s : State) : (s.modLine l f).power = s.power := rfl
@[simp] theorem modLine_host (l : Nat) (f : LineCal → LineCal) (s : State) : (s.modLine l f).host = s.host := rfl
@[simp] theorem modLine_tb (l : Nat) (f : LineCal → LineCal) (s : State) : (s.modLine l f).tb = s.tb := rfl
@[simp] theorem modLine_loops (l : Nat) (f : LineCal → LineCal) (s : State) : (s.modLine l f).loops = s.loops := rfl
@[simp] theorem modLine_fabric (l : Nat) (f : LineCal → LineCal) (s : State) : (s.modLine l f).fabric = s.fabric := rfl
@[simp] theorem modLine_sheaves (l : Nat) (f : LineCal → LineCal) (s : State) : (s.modLine l f).sheaves = s.sheaves := rfl
@[simp] theorem modLine_cal (l : Nat) (f : LineCal → LineCal) (s : State) : (s.modLine l f).cal = { s.cal with lineWork := mapSet none s.cal.lineWork l (some (f (s.line l))) } := rfl
@[simp] theorem modLine_ports (l : Nat) (f : LineCal → LineCal) (s : State) : (s.modLine l f).ports = s.ports := rfl
@[simp] theorem modLine_gates (l : Nat) (f : LineCal → LineCal) (s : State) : (s.modLine l f).gates = s.gates := rfl
@[simp] theorem modLine_streams (l : Nat) (f : LineCal → LineCal) (s : State) : (s.modLine l f).streams = s.streams := rfl
@[simp] theorem modLine_rules (l : Nat) (f : LineCal → LineCal) (s : State) : (s.modLine l f).rules = s.rules := rfl
@[simp] theorem modLine_hedge (l : Nat) (f : LineCal → LineCal) (s : State) : (s.modLine l f).hedge = s.hedge := rfl
@[simp] theorem modLine_unit (l : Nat) (f : LineCal → LineCal) (s : State) : (s.modLine l f).unit = s.unit := rfl
@[simp] theorem modLine_trust (l : Nat) (f : LineCal → LineCal) (s : State) : (s.modLine l f).trust = s.trust := rfl
@[simp] theorem modLine_tap (l : Nat) (f : LineCal → LineCal) (s : State) : (s.modLine l f).tap = s.tap := rfl
@[simp] theorem modLine_pending (l : Nat) (f : LineCal → LineCal) (s : State) : (s.modLine l f).pending = s.pending := rfl
@[simp] theorem modLine_up (l : Nat) (f : LineCal → LineCal) (s : State) : (s.modLine l f).up = s.up := rfl
@[simp] theorem modLine_out (l : Nat) (f : LineCal → LineCal) (s : State) : (s.modLine l f).out = s.out := rfl
@[simp] theorem modLine_free (l : Nat) (f : LineCal → LineCal) (s : State) : (s.modLine l f).free = s.free := rfl
@[simp] theorem modLine_cycle (l : Nat) (f : LineCal → LineCal) (s : State) : (s.modLine l f).cycle = s.cycle := rfl

end Sys2Proof.Machine
end

