-- ==== Sys2Proof/Tests/Slice0.lean ====
section
/-! SUPPORT. Tests: a term refused by each check of well-formedness; worked examples of spec/; and for each statement with
hypotheses, states and operands that meet them, clause by clause. The expected numbers of the examples are the spec's. -/
namespace Sys2Proof.Tests

open Machine

set_option maxRecDepth 4000
-- One theorem after another: many large evaluations at once need more memory than the whole package.
set_option Elab.async false

/-! Well-formedness: for each check of `Instr.wf` a term that it refuses. -/
theorem test_refused_1 : ([
  .solveConnect default (2 ^ 64) default default default,
  .solveDisconnect default (2 ^ 64) default default default default,
  .solvePermute default (2 ^ 64) default default default, .stookStart default default (2 ^ 64),
  .loopCapture default default default (2 ^ 64), .calGetLog default (2 ^ 32),
  .gateCommit default default (2 ^ 64) default, .gateDisable default default (2 ^ 64), .ruleSwap default (2 ^ 64),
  .hedgeGetNotices default (2 ^ 32), .faultGetLog default (2 ^ 32), .fcqSubmit 16 default default,
  .fcqCancel 16 default, .mbDoorbellRing 32 default, .mailboxBodyWrite 32 default default,
  .mailboxBodyWrite default 2 default, .mailboxBodyWrite default 4096 default, .mbStateWrite 32 default,
  .hqEnable ⟨.tx, 64⟩, .hqDisable ⟨.tx, 64⟩, .hqIdxReset ⟨.tx, 64⟩, .hqTailWrite ⟨.tx, 64⟩ default, .hqDropRead 64,
  .cqEnableWrite 64 default default, .cqIdxReset 64, .cqHeadWrite 64 default, .registerWrite 2 default,
  .registerWrite 0x10000 default, .railExcursion 8 default, .gptpMessageReceived 4 default] : List Instr).all (!·.wf) = true := by decide
theorem test_refused_2 : ([
  .gptpMessageTransmit 4 default, .loopSample 21504 default default default, .handoverAttempt 21504 default default,
  .trimInSample 8 default, .voaGroupLost 8, .heaterPowerMeasure 21504 default, .backgroundVisit 4 default,
  .backgroundVisit default 17, .spareProof 4 default default, .spareProof default 17 default,
  .loopCellSwitch 4 default default default, .loopCellSwitch default 17 default default,
  .loopCellSwitch default default 21 default, .blockSwitch 4 default default, .blockSwitch default 17 default,
  .idleParkTimeout 2 default default, .idleParkTimeout default 19 default, .idleParkTimeout default default 256,
  .armSlotFree 256, .frameReceived 4 default default, .rxPause 4 default, .pauseExpiry 4, .pauseRefresh 4,
  .rxpWatchdog 4, .rearmExpiry 4, .txpWatchdog 4, .portLinkUp 4, .portLinkDown 4 default, .laneLossOfLock 4,
  .laneSwitch 4] : List Instr).all (!·.wf) = true := by decide
theorem test_refused_3 : ([
  .lpiIdleTimeout 4, .lpiSleepEntry 4, .lpiWake 4 default, .verifyTimer 4, .mpacketReceived 4 default, .txSelect 4,
  .txFrameDone 4, .gateEvent 4, .gateHoldAssert 4, .thresherDispatch 32, .thDone 32, .thMov 32, .thAdd 32, .thSub 32,
  .thAnd 32, .thOr 32, .thShl 32, .thShr 32, .thCmp 32, .thLdb 32, .thLdh 32, .thLdm 32, .thKld 32, .thKmov 32,
  .thBr 32, .thHdr 32, .thProf 32, .thMark 32, .thPm 32, .pmResult 32] : List Instr).all (!·.wf) = true := by decide
theorem test_refused_4 : ([
  .thRecirc 32, .thresherRelease 4, .recoveryResetTimer 1024, .latentPeriod 1024, .coverWindowStart 256,
  .coverWindowEnd 256, .txChainFetch ⟨.tx, 64⟩ default default, .txChainFetch default [[]] default,
  .rxReservation 64 default, .rxReservation default [[]], .rxDropDelay 64, .completionWrite 64,
  .queueDrainComplete ⟨.tx, 64⟩, .moderationTimer 128, .pendingVectorDeliver 128, .hedgerowSlotSend 32,
  .gleanerWindowExpiry 192, .sourceSevere 192, .gleanerDeadline 192, .regionReinitComplete 4, .firmwareClear 192,
  .receivedLpi 4 default, .trimInPulseEdge 4 default default, .spareThresholdMet (.loopCell 4 0 0),
  .spareThresholdMet (.loopCell 0 16 0), .spareThresholdMet (.loopCell 0 0 21), .spareThresholdMet (.block 4 0),
  .spareThresholdMet (.block 0 16), .spareThresholdMet (.segment 65536 0), .spareThresholdMet (.lane 4)] : List Instr).all (!·.wf) = true := by decide
theorem test_refused_5 : ([
  .hqEnable ⟨.fcq, 16⟩, .hqEnable ⟨.rx, 64⟩] : List Instr).all (!·.wf) = true := by decide
theorem test_refused_sheafStage : Instr.wf (.sheafStage default default (List.replicate 1017 0)) = false := by decide +kernel
theorem test_refused_sheafAppend : Instr.wf (.sheafAppend default default default (List.replicate 1017 0)) = false := by decide +kernel
theorem test_refused_solveConnect : Instr.wf (.solveConnect default default default default (List.replicate 1017 default)) = false := by decide +kernel
theorem test_refused_stookDefine : Instr.wf (.stookDefine default default default default [List.replicate 1017 0] default) = false := by decide +kernel
theorem test_refused_loopSetParams : Instr.wf (.loopSetParams default default (List.replicate 128 default)) = false := by decide +kernel
theorem test_refused_portSetFilter : Instr.wf (.portSetFilter default default [List.replicate 1017 default]) = false := by decide +kernel
theorem test_refused_gateSetAdmin : Instr.wf (.gateSetAdmin default default default default default default (List.replicate 509 default)) = false := by decide +kernel
theorem test_refused_streamSet : Instr.wf (.streamSet default default [List.replicate 1017 0]) = false := by decide +kernel
theorem test_refused_ruleLoadProgram : Instr.wf (.ruleLoadProgram default default (List.replicate 1017 0)) = false := by decide +kernel
theorem test_refused_ruleAddHash : Instr.wf (.ruleAddHash default [List.replicate 4065 0]) = false := by decide +kernel
theorem test_refused_ruleSetTernary : Instr.wf (.ruleSetTernary default default [List.replicate 4065 0]) = false := by decide +kernel
theorem test_refused_ruleSetPattern : Instr.wf (.ruleSetPattern default default [List.replicate 4065 0]) = false := by decide +kernel
theorem test_refused_deviceEcho : Instr.wf (.deviceEcho default (List.replicate 4065 0)) = false := by decide +kernel
theorem test_refused_deviceFwData : Instr.wf (.deviceFwData default default (.direct (List.replicate 4065 0))) = false := by decide +kernel
theorem test_wf : ([.timeGetStatus 1, .hqEnable ⟨.fcq, 15⟩, .loopSample 21503 0 0 false, .mailboxBodyWrite 31 4092 0] : List Instr).all (·.wf) = true := by decide

/-! States for the tests. -/

/-- A command in flight. -/
def cmd (code : Nat) (len : Nat := 0) : InFlight :=
  { mailbox := 3, tag := 1, code := BitVec.ofNat 16 code, gen := 1, noint := true, rhost := false, raddr := 0, len := len, hdr := [] }
/-- Firmware runs, the unit is in control and has stepped. -/
def run : State :=
  { State.reset with power.phase := .running, ident.fwReady := true, unit.mode := .active, tb.stepped := true }
/-- The same with one command in flight. -/
def ask (code : Nat) (len : Nat := 0) : State := { run with il.inflight := [cmd code len] }
def sheaf5 : Sheaf :=
  { id := 5, prep := false, rel := false, gwEn := false, instant := 0, gwOpen := 0, gwClose := 0, cover := 0, stook := 0, step := 0
    hostTag := 0, changes := [] }
def stook5 : Stook := { id := 5, name := 0, stop := false, members := [] }
def capt0 : Capture := { element := 0, start := 0, count := 1, samples := [], state := .complete }
def rec1 : Record :=
  { seq := 1, openTime := 0, lastTime := 0, escTime := 0, first := 0, nMembers := 1, state := 0, mode := 0, due := 0, done := 0
    regions := 0, clearedBy := 0, members := [0], events := 1, flags := 0 }
/-- A parameter record whose fields lie in range. -/
def rec8 : ParamRec := ⟨0, 0, 0, 0, 1, 0xFFFF#32, 0x10000#32, 0x100000#32⟩
/-- Both VOAs of a path are open; every cell is parked. -/
def openPath : SMap Elem := [(inVoa 0 0, { mode := .lk, target := 65535 }), (outVoa 0 0, { mode := .lk, target := 65535 })]
def barPath : List FailedCell := (List.range 19).map fun s => ⟨0, s, 0, .stuckBar, .host, 0⟩
/-- A sheaf of one change: the input VOA of FI0 goes to FF with TARGET 0. -/
def words5 : List Word := [0x00050100#32, 30000000, 0, 0, 0, 0x00010000#32, 0, 0, 0x4C000000#32, 1]
/-- The same as the member of stook 5. -/
def relWords5 : List Word := [0x00050102#32, 30000000, 0, 0, 0, 0x00010000#32, 0x00050100#32, 0, 0x4C000000#32, 1]
/-- A slot of a fabric command queue: a sheaf to be submitted, with an acknowledgement or without; a cancel. -/
def slotS (ack : Bool) : Slot :=
  { firstIdx := 0, lastIdx := 0, record := some words5, desc := List.replicate 12 0 ++ [1, if ack then 1 else 0] ++ List.replicate 18 0 }
def slotC : Slot := { firstIdx := 0, lastIdx := 0, desc := List.replicate 12 0 ++ [2, 0, 5, 0] ++ List.replicate 16 0 }
def log1 : LogEntry := ⟨1, 0, 0, 4, 0xFFFF, 0, 0, 0, 0, 0, 0⟩
def wire0 : OnWire :=
  { frame := { bytes := List.replicate 64 0, tc := 0 }, express := true, sent := 0, frag := 0, start := 0, stamp := 0 }
/-- Gate lists: one entry; one that holds; two. -/
def bank1e : Bank := { entries := [(0, ⟨0, 100⟩)], n := 1, lct := 1000000 }
def bankHold : Bank := { entries := [(0, ⟨0x20000000#32, 100⟩)], n := 1, lct := 1000000 }
def bank2e : Bank := { entries := [(0, ⟨0, 300000⟩), (1, ⟨0, 100⟩)], n := 2, lct := 1000000 }
/-- The state after one command. -/
def after (i : Instr) (s : State) : State := match exec i s with | .next t => t | _ => s
/-- A stream that recovers, with a timer that runs and a latent error in its period. -/
def strm : Stream :=
  { entry := [0x84000000#32, 0x08000000#32, 1, 0x40000008#32, 0x07D00020#32, 0, 0, 0], timer := some 0, ledPassed := 10 }
def pkt7 : Pkt := { id := 7, bytes := List.replicate 64 0, ts := 0, stage := .thread }
def octets60 : List Byte := List.replicate 60 0
def thr : Thread := { port := 0, pkt := 7 }
/-- Thread 31 holds `t`, and instruction `w` comes next. -/
def onThread (w : Word) (t : Thread) : State :=
  { run with rules.threads := [(31, some t)], rules.flight := [(0, [pkt7])], rules.store0.program := [(0, w)] }
def vdt : Verdict := { action := dropAction, source := .miss, flags := 0, wbase2 := 0 }
/-- TXQ00 runs with one entry published. -/
def txRun : State := { run with host.busMaster := true, host.subq := [(0, { state := .running, tail := 1 })] }
def rxw : RxWait := { bytes := List.replicate 64 0, len := 64, flags := 0, port := 0, ts := none, source := 0, stripped := false, tag := 0, seq := 0 }
/-- The body of mailbox 31 holds the header of a DEVICE_GET_INFO of Ilucy 1 with tag 1. -/
def echo31 : List (Nat × Byte) := [(126976, 1), (126978, 1), (126979, 1), (126983, 16)]
/-- The state after one step. -/
def stepped (s : State) : State := match step s with | .next t => t | _ => s
/-- One command waits. -/
def oneWaits : State := { run with pending := [.mbAnswerRead] }
def paired : PairCfg := { PairCfg.dflt with partner := 15, paired := true }
def recE : CommitRec := { epoch := 1, bytes := 0, baseline := false, handback := false, digest := digest8 [] }
def inE : EpochIn := { epoch := 1, ended := true }
def loud : Src := { params := some ⟨1, 1, 1, 0, true⟩, waiting := 1 }
def svnImage (n : Byte) : List Byte := List.replicate 16 0 ++ [n, 0, 0, 0]

/-! Worked examples of spec/. The rule or the line that gives the numbers is named beside each. -/

/-- 00_scope R12: element 7,941 is A1.07.13.05, the tail gate of cell 130 in stage 15 of plane A. -/
theorem test_element_address : regionOf 7941 = 1 ∧ blockOf 7941 = 7 ∧ loopCellOf 7941 = 13 ∧ slotOf 7941 = 5 ∧
    elementAt 1 7 13 5 = 7941 ∧ isGate 7941 = true ∧ gateAt 0 15 130 + 1 = 7941 := by decide
/-- 05_loop_modes: the output VOA of FO300 in plane A is A1.15.07.12. -/
theorem test_output_voa : outVoa 0 300 = elementAt 1 15 7 12 := by decide
/-- 02_network_time R52: r_est = -12.5 ppm and no offset give the increment 0x6_666B_A494. -/
theorem test_servo_increment : servoIncr (-12500000) 0 1000 = 0x6666BA494#36 := by decide
/-- 02_network_time R65: the four edges of the example, with a deadband of 4 ns. -/
theorem test_shift_steps : shiftStep 4 false 0 730 = (250, false) ∧ shiftStep 4 false 250 480 = (250, false) ∧
    shiftStep 4 false 500 230 = (230, false) ∧ shiftStep 4 false 730 0 = (0, false) := by decide
/-- 02_network_time R65: the cumulative shift is held at 10,000 ns and SYNC_LIMIT sets. -/
theorem test_shift_limit : shiftStep 4 false 9900 250 = (100, true) := by decide
/-- 03_fabric R86: the links that FI005 takes with every cell in BAR; it ends at FO005. -/
theorem test_links : (List.range 18).map (fun s => link s ([5, 260, 130, 65, 96, 80, 72, 68, 66, 65, 66, 68, 72, 80, 96, 65, 130, 260].getD s 0)) =
    [260, 130, 65, 96, 80, 72, 68, 66, 65, 66, 68, 72, 80, 96, 65, 130, 260, 5] := by decide
/-- The record of the worked example of 04_element_loops. -/
def exampleRec : ParamRec :=
  ⟨0x6000C000#32, 0, 0xC0000000#32, 0x8000B008#32, 0x80000028#32, 0x03E8EA60#32, 0x20000083#32, 0x02820000#32⟩
/-- 04_element_loops R110: a heater of 2.4 mW at full scale gives U_CAP = 24,576. -/
theorem test_cap : uCapOf 2400000 = 24576 := by decide
/-- 04_element_loops R122: sample 1 of the example. -/
theorem test_loop_sample1 : (measure exampleRec true 3200 512 131).y = 163 ∧ (measure exampleRec true 3200 512 131).e = 32 ∧
    compensate exampleRec 24576 { w := 12000 * 65536, u := 12000 } 32 none =
      ({ e1 := 32, v1 := 6144, w := 12003 * 65536, u := 12003 }, 0) := by decide
/-- 04_element_loops R122: sample 3 of the example; SLEW_BOUND sets, and w takes the back-calculation. -/
theorem test_loop_sample3 : (measure exampleRec true 2900 3000 131).e = 928 ∧
    compensate exampleRec 24576 { e1 := 22, e2 := 32, v1 := 3200, v2 := 6144, w := 786731008, u := 12005 } 928 none =
      ({ e1 := 928, e2 := 22, e3 := 32, v1 := 176960, v2 := 3200, w := 789379072, u := 12045 }, 0x80) := by decide
/-- The gate of the example of 05_loop_modes R146 at t4: in FF at 11,870 with LK requested. -/
def ffGate : Elem := { Elem.park with mode := .ff, reqLk := true, attempt := some 0, r := 131, target := 131, q := { u := 11870 } }
/-- 05_loop_modes R142, R146: y = 170 lies within HO_TOL, so the element enters LK with its code kept. -/
theorem test_handover : (ffGate.sample ⟨exampleRec, true, 24576, 11870, 3200, 532, 0, 0⟩ ⟨3000, 10000, 2048⟩ false).mode = .lk ∧
    (ffGate.sample ⟨exampleRec, true, 24576, 11870, 3200, 532, 0, 0⟩ ⟨3000, 10000, 2048⟩ false).q.u = 11870 := by decide
/-- The same with y = 2,300: refused, with the next attempt 10,000 ns later. -/
theorem test_handover_refused : (ffGate.sample ⟨exampleRec, true, 24576, 11870, 320, 719, 0, 0⟩ ⟨3000, 10000, 2048⟩ false).mode = .ff ∧
    (ffGate.sample ⟨exampleRec, true, 24576, 11870, 320, 719, 0, 0⟩ ⟨3000, 10000, 2048⟩ false).attempt = some 10000 := by decide
/-- 05_loop_modes R148: a set-point of 18,000 moves to 17,378 in steps of 200. -/
theorem test_ramp : rampStep 17378 200 18000 = 17800 ∧ rampStep 17378 200 17400 = 17378 := by decide
/-- 05_loop_modes R151: table[96] of the example, with A_LO 2.00 dB and A_HI 12.00 dB. -/
theorem test_trim_table : linearOf (200 * (255 - 96) + 1200 * 96) = 17378 := by decide +kernel
/-- 06_sheaves R161: TARGET 46,396 lies halfway between the 1 dB and 2 dB entries. -/
theorem test_voa_code : voaCode [0, 100, 200, 300] 46396 = 150 := by decide +kernel
/-- 08_network_ports R247: 300 m of cable at 25 Gbit/s with MAX_LEN 2,000 need 21,567 bytes below SHARE. -/
theorem test_headroom : headroomOk 5 1 { PauseCfg.dflt with cableM := 300, high := 2075585 } = true ∧
    headroomOk 5 1 { PauseCfg.dflt with cableM := 300, high := 2075586 } = false := by decide
/-- 09_gates_preemption: NP1 of the example, preemptive, with pause generation. -/
def port1 : State := { run with
  ports.port := [(1, { up := true, cfg := { PortModeCfg.dflt with mode := 5 }, pause := { PauseCfg.dflt with generate := true } })]
  gates.port := [(1, { cfg := { GateCfg.dflt with enable := true, verifyEn := false, preemptable := 0x3F } })] }
/-- 09_gates_preemption R256, R275: the room asked for two frames of the example, and HOLD_ADVANCE. -/
theorem test_room : port1.roomFor 1 3 1522 = 168 ∧ port1.roomFor 1 7 300 = 404 ∧ port1.holdAdvance 1 = 29 := by decide
/-- 11_thresher R317: the instructions of the short program are accepted. -/
theorem test_program_words : ([0x44800C00#32, 0x20888100#32, 0x8100002F#32, 0x45000E00#32, 0x11080FFF#32, 0x64020000#32, 0xA0180E00#32, 0xA0280400#32,
    0xC4000000#32, 0xC0000001#32, 0x60231000#32, 0x60600900#32, 0x41800900#32, 0xA0300000#32, 0xC4000001#32, 0xA0700000#32, 0#32] : List Word).all wordOk = true := rfl
/-- 11_thresher: LDH X1, 12 of the short program reads the type field. -/
theorem test_ldh : (thr.load 2 ((List.range 60).map (BitVec.ofNat 8)) 0x44800C00#32).1.reg 1 = 0x0C0D#16 := by decide
/-- The octets of the frame of the short program, with a Total Length, as far as its IP header goes. -/
def ipFrame (hi lo : Byte) : List Byte := List.replicate 18 0 ++ [0x45, 0, hi, lo, 0, 0, 0x40, 0] ++ List.replicate 170 0
/-- 11_thresher R314: HDR IPV4 at 0x020 of the short program with Total Length 178, and with 300. -/
theorem test_hdr : (Thread.hdr (ipFrame 0 178) 0xA0300000#32 { thr with cur := 18 }).2 = none ∧
    (Thread.hdr (ipFrame 0 178) 0xA0300000#32 { thr with cur := 18 }).1.cur = 38 ∧
    (Thread.hdr (ipFrame 1 44) 0xA0300000#32 { thr with cur := 18 }).2 = some .len := by decide
/-- 13_ilucy R378, R377: the header in MB03 and the answer record of MB04. -/
theorem test_header : readHeader 3 [0x02010102#32, 0x20010000#32, 0x23456000#32, 1, 0, 0, 0, 0] =
    { mailbox := 3, tag := 0x0102#16, code := 0x0201#16, gen := 2, noint := false, rhost := true, raddr := 0x123456000, len := 0
      hdr := [0x02010102#32, 0x20010000#32, 0x23456000#32, 1, 0, 0, 0, 0] } ∧
    (⟨false, 4, 0x0103#16⟩ : AnswerRec).word = 0x80040103#32 := by decide
/-- 14_hedgerow R426: the seven values of the example give 9 ns. -/
theorem test_midpoint : midpoint [112, -192, 640, 288, -400, 4960, 0] = some 144 := by decide
/-- 18_trust R509: SHA-512 (FIPS 180-4) of "abc", its first eight octets. -/
theorem test_sha512 : (sha512 [0x61, 0x62, 0x63]).take 8 = [0xdd, 0xaf, 0x35, 0xa1, 0x93, 0x61, 0x7a, 0xba] := by decide +kernel

theorem trimChan_rotation (s : State) (ch a b : Nat) : (State.trimChan ch a b s).cal.rotation = s.cal.rotation := by
  simp [State.trimChan, State.modMonitor, State.logSubst, State.logSubstAt, State.blockFallback, State.raise, State.raiseN,
    apply_ite State.cal, apply_ite Cal.rotation]
theorem ite_rotation {c : Prop} [Decidable c] {a b : State} {r : List (Nat × Nat)} (ha : a.cal.rotation = r)
    (hb : b.cal.rotation = r) : (if c then a else b).cal.rotation = r := by split <;> assumption
theorem visitChan_rotation (both : Bool) (s : State) (ch : Nat) : (State.visitChan both s ch).cal.rotation = s.cal.rotation :=
  have h := ite_rotation (trimChan_rotation (s.modMonitor ch fun _ => s.measureChan both ch) ch 3 0) rfl
  ite_rotation h h
/-- A visit of an element that is no gate leaves the numbers of the rotation. -/
theorem visit_rotated (s : State) (e : Nat) (h : isGate e = false) : (s.visit e).cal.rotated = s.cal.rotated := by
  have hf : ∀ (l : List Nat) (t : State), (l.foldl (State.visitChan false) t).cal.rotation = t.cal.rotation := by
    intro l
    induction l with
    | nil => exact fun _ => rfl
    | cons a l ih => exact fun t => (ih _).trans (visitChan_rotation _ _ _)
  have hr : (s.visit e).cal.rotation = s.cal.rotation := by
    simp [State.visit, h, State.electrical, State.askSelect, State.atFrame, State.calibrated, State.drawn, hf,
      apply_ite State.cal]
  simp only [Cal.rotated, hr]

/-! Witnesses: `witness_<Name>` meets the hypotheses of `Obligations.<Name>`, one conjunct for each clause, in order. -/

theorem witness_TimeCommandsTakeEffect :
  (let s : State := { (ask 0x0202 0) with tb.stepped := false }; Waits s 1 0x0202 (cmd 0x0202) ∧ s.tb.stepped = false
    ∧ s.tb.load = none) ∧
  (let s : State := { (ask 0x0203 0) with tb.counter := 7 }; Waits s 1 0x0203 (cmd 0x0203) ∧ s.tb.stepped = true ∧
    s.tb.load = none ∧ s.tb.reanchorTag = none) ∧
  (Waits (ask 0x0204 0) 1 0x0204 (cmd 0x0204 0) ∧ sourceOf (1#8).toNat = some (.gptp) ∧ sourceOf (2#8).toNat = some
    (.hedge) ∧ tauOk (1000) = true ∧ 10 ≤ 10 ∧ 10 ≤ 10000 ∧ 1000 ≤ 1000 ∧ 1000 ≤ 1000000000) ∧
  (let s : State := { (ask 0x0205 0) with il.inflight := [{ cmd 0x0205 0 with arrived := 5 }] }; Waits s 1 0x0205
    ({ cmd 0x0205 0 with arrived := 5 }) ∧ s.tb.stepped = true ∧ s.tb.pendCycle = none ∧ 20000 ≤ (250000#32).toNat ∧
    (250000#32).toNat ≤ 1000000000 ∧ divides (250000#32).toNat s.hNs = true ∧ s.baseOk (s.arrivalOf 1)
    (1000005#64).toNat (250000#32).toNat = true ∧ s.gatesFit (1000005#64).toNat (250000#32).toNat = true) ∧
  (Asks (ask 0x0206 0) 1 0x0206 (cmd 0x0206 0)) ∧
  (Waits (ask 0x0207 0) 1 0x0207 (cmd 0x0207 0) ∧ 1000 ≤ 1000 ∧ 1000 ≤ 100000 ∧ 2 * 1000 < max (ask 0x0207
    0).tb.cycleC (ask 0x0207 0).hNs ∧ 0 ≤ 100) ∧
  (Waits (ask 0x0208 0) 1 0x0208 (cmd 0x0208 0) ∧ syncOutOf (2) = some (.pps) ∧ (∀ w ∈ ((some 100 : Option Nat)), 100
    ≤ w ∧ w ≤ 500000000) ∧ 1000 ≤ 1000 ∧ 1000 ≤ 1000000) ∧
  (Waits (ask 0x0209 0) 1 0x0209 (cmd 0x0209 0) ∧
    ({ PtpCfg.dflt with domain := 127, priority1 := 255, logSync := -7, logPdelay := 3, roles := [3] }).domain ≤ 127 ∧
    ({ PtpCfg.dflt with domain := 127, priority1 := 255, logSync := -7, logPdelay := 3, roles := [3] }).priority1 ≤
    255 ∧ -7 ≤
    ({ PtpCfg.dflt with domain := 127, priority1 := 255, logSync := -7, logPdelay := 3, roles := [3] }).logSync ∧
    ({ PtpCfg.dflt with domain := 127, priority1 := 255, logSync := -7, logPdelay := 3, roles := [3] }).logSync ≤ 3 ∧
    -3 ≤ ({ PtpCfg.dflt with domain := 127, priority1 := 255, logSync := -7, logPdelay := 3, roles := [3] }).logPdelay
    ∧ ({ PtpCfg.dflt with domain := 127, priority1 := 255, logSync := -7, logPdelay := 3, roles := [3] }).logPdelay ≤
    3 ∧ (∀ r ∈
    ({ PtpCfg.dflt with domain := 127, priority1 := 255, logSync := -7, logPdelay := 3, roles := [3] }).roles, r ≤ 3)
    ∧ ({ PtpCfg.dflt with domain := 127, priority1 := 255, logSync := -7, logPdelay := 3, roles := [3] }).gmCapable =
    true) ∧
  (Waits (ask 0x020A 0) 1 0x020A (cmd 0x020A 0) ∧ 0 ≤ 3 ∧ mag 0 ≤ 1600 ∧ mag 0 ≤ 1600) ∧
  (let s : State := { (ask 0x0202 0) with tb.stepped := false }; Waits s 1 0x0202 (cmd 0x0202) ∧ s.tb.stepped = false
    ∧ s.tb.load = none) ∧
  (let s : State := { (ask 0x0202 0) with tb.stepped := false, tb.load := some 0 }; Waits s 1 0x0202 (cmd 0x0202) ∧
    (s.tb.stepped = true ∨ s.tb.load.isSome = true)) :=
  ⟨⟨rfl, rfl, rfl⟩,
   ⟨rfl, rfl, rfl, rfl⟩,
   ⟨rfl, rfl, rfl, rfl, by decide, by decide, by decide, by decide⟩,
   ⟨rfl, rfl, rfl, by decide, by decide, rfl, rfl, rfl⟩,
   ⟨rfl, rfl⟩,
   ⟨rfl, by decide, by decide, by decide, by decide⟩,
   ⟨rfl, rfl, by decide, by decide, by decide⟩,
   ⟨rfl, by decide, by decide, by decide, by decide, by decide, by decide, by decide, rfl⟩,
   ⟨rfl, by decide, by decide, by decide⟩,
   ⟨rfl, rfl, rfl⟩,
   ⟨rfl, by decide⟩⟩
theorem witness_TimebaseEvents :
  (let s : State :=
    { run with tb.syncIn := ⟨true, 10000, 4⟩, tb.cycleValid := true, tb.window := some ⟨5000, false⟩, tb.counter := BitVec.ofNat 96 (5000 * 2 ^ 32) };
    s.tb.syncIn.enable = true ∧ s.tb.cycleValid = true ∧ s.tb.window = some (⟨5000, false⟩ : SyncWindow) ∧ (⟨5000,
    false⟩ : SyncWindow).accepted = false ∧ (⟨5000, false⟩ : SyncWindow).t * 2 ^ 32 ≤ s.captureAt (1000) ∧ s.captureAt
    (1000) ≤ ((⟨5000, false⟩ : SyncWindow).t + s.tb.syncIn.wNs) * 2 ^ 32) ∧
  (let s : State :=
    { run with tb.syncOut := ⟨.pps, none, 10000⟩, tb.counter := BitVec.ofNat 96 (999999994 * 2 ^ 32) }; s.dueEdge =
    some (1000000000, none)) ∧
  (let s : State := { run with tb.syncOutHigh := true }; s.tb.syncOutHigh = true ∧ s.reached s.pulseEndNow = true ∧
    s.tb.syncOut.mode ≠ .sheafNotice) ∧
  (let s : State :=
    { run with tb.cycleC := 250000, tb.cycleValid := true, tb.counter := BitVec.ofNat 96 (249994 * 2 ^ 32) };
    s.nextBoundary = some (false, true, 250000) ∧ s.reached 250000 = true) ∧
  (let s : State :=
    { run with tb.ptpPend := some { PtpCfg.dflt with ports := 8#4, external := true, roles := [0, 0, 0, 1] } }; 3 ≤ 3
    ∧ s.applyPtp.tb.ptp.ports.getLsbD 3 = true ∧ s.applyPtp.ptpRole 3 = 1) ∧
  (let s : State := { run with tb.ptp := { PtpCfg.dflt with ports := 8#4, external := true, roles := [0, 0, 0, 2] } };
    3 < 4 ∧ s.applyPtp.tb.ptp.ports.getLsbD 3 = true ∧ (true = true → s.applyPtp.ptpRole 3 = 2)) ∧
  (let s : State := { run with up := 3750000000 }; s.tb.syncAt + 3 * s.tb.ptp.interval ≤ s.up) :=
  ⟨⟨rfl, rfl, rfl, rfl, by decide, by decide⟩,
   by decide +kernel,
   ⟨rfl, by decide +kernel, by decide⟩,
   ⟨rfl, by decide +kernel⟩,
   ⟨by decide, rfl, rfl⟩,
   ⟨by decide, rfl, by decide⟩,
   by decide⟩
theorem witness_ResetsAndTheCounter :
  (let s : State := { run with power.phase := .waitRelease, up := 10000000 }; s.power.phase = .waitRelease ∧
    s.power.tbRef = true ∧ s.power.pwrEn = true ∧ s.railsGood = true ∧ s.power.tbRefAt + 10000000 ≤ s.up) ∧
  (run.functionUp = true) :=
  ⟨⟨rfl, rfl, rfl, by decide +kernel, by decide⟩,
   rfl⟩
theorem witness_IdleStepIsOneTick :
  (let s : State := { run with tb.load := some 7 }; s.pending = [] ∧ s.power.tbRef = true ∧ s.counting = true ∧
    s.tb.load = some 7 ∧ s.tb.reanchorTag = none ∧ s.tb.window = none ∧ s.loops.frames = []) ∧
  (let s : State :=
    { run with tb.window := some ⟨0, false⟩, tb.counter := BitVec.ofNat 96 (100000 * 2 ^ 32), tb.missRun := 14 };
    s.pending = [] ∧ s.power.tbRef = true ∧ s.counting = true ∧ s.tb.load = none ∧ s.loops.frames = [] ∧ s.tb.window =
    some (⟨0, false⟩ : SyncWindow) ∧ (⟨0, false⟩ : SyncWindow).accepted = false ∧ (⟨0, false⟩ : SyncWindow).t +
    s.tb.syncIn.wNs < s.ticked.now ∧ s.tb.missRun ≠ 15) ∧
  (run.pending = [] ∧ run.power.tbRef = true ∧ run.counting = true ∧ run.tb.load = none ∧ (∀ w, run.tb.window = some w
    → run.ticked.now ≤ w.t + run.tb.syncIn.wNs) ∧ run.loops.frames = [] ∧ run.ticked.readyNow = run.unit.ready) ∧
  (let s : State := { run with loops.frames := [(7, .hold)] }; s.pending = [] ∧ s.power.tbRef = true ∧ s.counting =
    true ∧ s.tb.load = none ∧ (∀ w, s.tb.window = some w → s.ticked.now ≤ w.t + s.tb.syncIn.wNs) ∧ s.loops.frames =
    [(7, (.hold))] ∧ s.ticked.now < 7 ∧ s.ticked.readyNow = s.unit.ready) ∧
  (let s : State := { run with loops.frames := [(6, .params 21503 [rec8])] }; s.pending = [] ∧ s.power.tbRef = true ∧
    s.counting = true ∧ s.tb.load = none ∧ (∀ w, s.tb.window = some w → s.ticked.now ≤ w.t + s.tb.syncIn.wNs) ∧
    s.loops.frames = [(6, .params 21503 [rec8])] ∧ 6 ≤ s.ticked.now) ∧
  (let s : State := { run with loops.frames := [(6, .region 3)], loops.regionHold := 8#4 }; s.pending = [] ∧
    s.power.tbRef = true ∧ s.counting = true ∧ s.tb.load = none ∧ (∀ w, s.tb.window = some w → s.ticked.now ≤ w.t +
    s.tb.syncIn.wNs) ∧ s.loops.frames = [(6, .region 3)] ∧ 6 ≤ s.ticked.now ∧ s.regionHeld 3 = true) ∧
  (let s : State := { run with loops.frames := [(6, .region 3)] }; s.pending = [] ∧ s.power.tbRef = true ∧ s.counting
    = true ∧ s.tb.load = none ∧ (∀ w, s.tb.window = some w → s.ticked.now ≤ w.t + s.tb.syncIn.wNs) ∧ s.loops.frames =
    [(6, .region 3)] ∧ 6 ≤ s.ticked.now ∧ s.regionHeld 3 = false) ∧
  (let s : State := { run with loops.frames := [(6, .hold)], gl.hold := true }; s.pending = [] ∧ s.power.tbRef = true
    ∧ s.counting = true ∧ s.tb.load = none ∧ (∀ w, s.tb.window = some w → s.ticked.now ≤ w.t + s.tb.syncIn.wNs) ∧
    s.loops.frames = [(6, .hold)] ∧ 6 ≤ s.ticked.now ∧ s.holdCaused = true) :=
  ⟨⟨rfl, rfl, rfl, rfl, rfl, rfl, rfl⟩,
   ⟨rfl, rfl, rfl, rfl, rfl, rfl, rfl, by decide, by decide⟩,
   ⟨rfl, rfl, rfl, rfl, (fun w h => nomatch (show (none : Option SyncWindow) = some w from h)), rfl, rfl⟩,
   ⟨rfl, rfl, rfl, rfl, (fun w h => nomatch (show (none : Option SyncWindow) = some w from h)), rfl, by decide, rfl⟩,
   ⟨rfl, rfl, rfl, rfl, (fun w h => nomatch (show (none : Option SyncWindow) = some w from h)), rfl, by decide⟩,
   ⟨rfl, rfl, rfl, rfl, (fun w h => nomatch (show (none : Option SyncWindow) = some w from h)), rfl, by decide, rfl⟩,
   ⟨rfl, rfl, rfl, rfl, (fun w h => nomatch (show (none : Option SyncWindow) = some w from h)), rfl, by decide, rfl⟩,
   ⟨rfl, rfl, rfl, rfl, (fun w h => nomatch (show (none : Option SyncWindow) = some w from h)), rfl, by decide, rfl⟩⟩
theorem witness_QueriesAnswerOk :
  (Asks (ask 0x0201 0) 1 0x0201 (cmd 0x0201 0)) ∧
  (Asks (ask 0x0301 0) 1 0x0301 (cmd 0x0301 0)) ∧
  (let s : State := { (ask 0x0302 0) with loops.elems := openPath, fabric.failed := barPath }; Waits s 1 0x0302 (cmd
    0x0302 0) ∧ 0 ≤ 1 ∧ (0) ≤ 511 ∧ carried s.loops.elems s.fabric.failed 0 (0) = some (0) ∧ tracePath s.loops.elems
    s.fabric.failed 0 19 (0) = some ((((tracePath openPath barPath 0 19 0).getD ([], 0)).1), (((tracePath openPath
    barPath 0 19 0).getD ([], 0)).2))) ∧
  (Waits (ask 0x0303 0) 1 0x0303 (cmd 0x0303 0) ∧ 0 ≤ 1 ∧ 1 ≤ 1 ∧ 1 ≤ 1024 ∧ 0 + 1 ≤ 4864) ∧
  (Waits (ask 0x0304 0) 1 0x0304 (cmd 0x0304 0) ∧ 0 ≤ 1) ∧
  (Waits (ask 0x0307 0) 1 0x0307 (cmd 0x0307 0) ∧ 1 ≤ 1 ∧ 0 + 1 ≤ 512) ∧
  (let s : State := { (ask 0x0404 0) with sheaves.store := [sheaf5] }; Waits s 1 0x0404 (cmd 0x0404 0) ∧ s.sheaf?
    (5#16).toNat = some (sheaf5)) ∧
  (let s : State := { (ask 0x0405 0) with sheaves.store := [sheaf5] }; Waits s 1 0x0405 (cmd 0x0405 0) ∧ s.sheaf?
    (5#16).toNat = some (sheaf5) ∧ (0 = 0 ∨ 480 * 0 < (sheaf5).excluded.length)) ∧
  (Waits (ask 0x0406 0) 1 0x0406 (cmd 0x0406 0)) ∧
  (Waits (ask 0x040B 0) 1 0x040B (cmd 0x040B 0) ∧ (0 = 0 ∨ 128 * 0 < (ask 0x040B 0).sheaves.report.length)) ∧
  (let s : State := { (ask 0x040F 0) with sheaves.stooks := [stook5] }; (stook5) ∈ s.sheaves.stooks ∧ Waits s 1 0x040F
    (cmd 0x040F 0) ∧ (stook5).id = (5#16).toNat) ∧
  (Waits (ask 0x0501 0) 1 0x0501 (cmd 0x0501 0) ∧ rangeOk 0 1 64 = true) ∧
  (Waits (ask 0x0503 0) 1 0x0503 (cmd 0x0503 0) ∧ rangeOk 0 1 64 = true) ∧
  (Waits (ask 0x0504 0) 1 0x0504 (cmd 0x0504 0) ∧ rangeOk 0 1 1024 = true) ∧
  (let s : State := { (ask 0x0507 0) with loops.captures := [(0, some capt0)] }; Waits s 1 0x0507 (cmd 0x0507 0) ∧
    mapGet none s.loops.captures (regionOf 0) = some (capt0) ∧ (capt0).element = 0 ∧ 128 * 0 < (capt0).count ∧
    ((capt0).state = .complete ∨ min (capt0).count (128 * (0 + 1)) ≤ (capt0).samples.length)) ∧
  (Waits (ask 0x0508 0) 1 0x0508 (cmd 0x0508 0) ∧ rangeOk 0 1 254 = true) ∧
  (Waits (ask 0x050D 0) 1 0x050D (cmd 0x050D 0) ∧ 0 ≤ 7) ∧
  (Asks (ask 0x0601 0) 1 0x0601 (cmd 0x0601 0)) ∧
  (Waits (ask 0x0608 0) 1 0x0608 (cmd 0x0608 0) ∧ 0 < (ask 0x0608 0).cal.logSeq) ∧
  (Waits (ask 0x0701 0) 1 0x0701 (cmd 0x0701 0) ∧ 0 ≤ 3) ∧
  (Waits (ask 0x0703 0) 1 0x0703 (cmd 0x0703 0) ∧ 0 ≤ 3) ∧
  (Waits (ask 0x0706 0) 1 0x0706 (cmd 0x0706 0) ∧ 1 ≤ 1 ∧ 1 ≤ 64 ∧ 0 + 1 ≤ 256) ∧
  (Waits (ask 0x0709 0) 1 0x0709 (cmd 0x0709 0) ∧ 0 ≤ 3 ∧ 0 ≤ 14) ∧
  (Waits (ask 0x0801 0) 1 0x0801 (cmd 0x0801 0) ∧ 0 ≤ 3) ∧
  (Waits (ask 0x0804 0) 1 0x0804 (cmd 0x0804 0) ∧ 0 ≤ 3 ∧ 1 ≤ 480 ∧ 0 + 1 ≤ 1024) ∧
  (Waits (ask 0x0808 0) 1 0x0808 (cmd 0x0808 0) ∧ 0 ≤ 3) ∧
  (Asks (ask 0x0901 0) 1 0x0901 (cmd 0x0901 0)) ∧
  (Waits (ask 0x0903 0) 1 0x0903 (cmd 0x0903 0) ∧ 1 ≤ 1 ∧ 1 ≤ 16 ∧ 0 + 1 ≤ 1024) ∧
  (Waits (ask 0x0907 0) 1 0x0907 (cmd 0x0907 0) ∧ 1 ≤ 1 ∧ 1 ≤ 255) ∧
  (Asks (ask 0x0A01 0) 1 0x0A01 (cmd 0x0A01 0)) ∧
  (Waits (ask 0x0A0B 0) 1 0x0A0B (cmd 0x0A0B 0) ∧ tableRangeOk 4096 4 0 1 = true) ∧
  (Waits (ask 0x0A0B 0) 1 0x0A0B (cmd 0x0A0B 0) ∧ tableRangeOk 65536 64 0 1 = true) ∧
  (Waits (ask 0x0A0B 0) 1 0x0A0B (cmd 0x0A0B 0) ∧ tableRangeOk 2048 128 0 1 = true) ∧
  (Waits (ask 0x0A0B 0) 1 0x0A0B (cmd 0x0A0B 0) ∧ tableRangeOk 4096 72 0 1 = true) ∧
  (Waits (ask 0x0A0F 0) 1 0x0A0F (cmd 0x0A0F 0)) ∧
  (Asks (ask 0x0D01 0) 1 0x0D01 (cmd 0x0D01 0)) ∧
  (Waits (ask 0x0D02 0) 1 0x0D02 (cmd 0x0D02 0) ∧ sourcesOk 0 1 = true) ∧
  (Waits (ask 0x0D05 0) 1 0x0D05 (cmd 0x0D05 0)) ∧
  (let s : State := { (ask 0x0D07 0) with gl.log := [rec1] }; Waits s 1 0x0D07 (cmd 0x0D07 0) ∧ (rec1) ∈ s.gl.log ∧
    (1) ≤ (rec1).seq.toNat) ∧
  (Asks (ask 0x0D0A 0) 1 0x0D0A (cmd 0x0D0A 0)) ∧
  (Asks (ask 0x0E01 0) 1 0x0E01 (cmd 0x0E01 0)) :=
  ⟨⟨rfl, rfl⟩,
   ⟨rfl, rfl⟩,
   ⟨rfl, by decide, by decide, rfl, rfl⟩,
   ⟨rfl, by decide, by decide, by decide, by decide⟩,
   ⟨rfl, by decide⟩,
   ⟨rfl, by decide, by decide⟩,
   ⟨rfl, rfl⟩,
   ⟨rfl, rfl, by decide⟩,
   rfl,
   ⟨rfl, by decide⟩,
   ⟨by decide, rfl, rfl⟩,
   ⟨rfl, rfl⟩,
   ⟨rfl, rfl⟩,
   ⟨rfl, rfl⟩,
   ⟨rfl, rfl, rfl, by decide, by decide⟩,
   ⟨rfl, rfl⟩,
   ⟨rfl, by decide⟩,
   ⟨rfl, rfl⟩,
   ⟨rfl, by decide⟩,
   ⟨rfl, by decide⟩,
   ⟨rfl, by decide⟩,
   ⟨rfl, by decide, by decide, by decide⟩,
   ⟨rfl, by decide, by decide⟩,
   ⟨rfl, by decide⟩,
   ⟨rfl, by decide, by decide, by decide⟩,
   ⟨rfl, by decide⟩,
   ⟨rfl, rfl⟩,
   ⟨rfl, by decide, by decide, by decide⟩,
   ⟨rfl, by decide, by decide⟩,
   ⟨rfl, rfl⟩,
   ⟨rfl, rfl⟩,
   ⟨rfl, rfl⟩,
   ⟨rfl, rfl⟩,
   ⟨rfl, rfl⟩,
   rfl,
   ⟨rfl, rfl⟩,
   ⟨rfl, rfl⟩,
   rfl,
   ⟨rfl, by decide, by decide⟩,
   ⟨rfl, rfl⟩,
   ⟨rfl, rfl⟩⟩
theorem witness_FabricCommandsTakeEffect :
  (Waits (ask 0x0305 0) 1 0x0305 (cmd 0x0305 0) ∧ (ask 0x0305 0).inControl = true ∧ (1) < 2 ∧ (18) < 19 ∧ (255) < 256
    ∧ kindOfCode (2) = some (.dark) ∧ ((ask 0x0305 0).fabric.failed.filter fun f => f.plane = (1)).length < 256) ∧
  (let s : State := { (ask 0x0306 0) with fabric.failed := [⟨1, 18, 255, .dark, .host, 0⟩] }; Waits s 1 0x0306 (cmd
    0x0306) ∧ s.inControl = true ∧ 1 < 2 ∧ 18 < 19 ∧ 255 < 256 ∧ failedAt s.fabric.failed 1 18 255 = some ⟨1, 18, 255,
    .dark, .host, 0⟩ ∧ s.substituting (gateAt 1 18 255) = false ∧ s.substituting (gateAt 1 18 255 + 1) = false ∧
    cellCarries s.loops.elems s.fabric.failed 1 18 255 = false) ∧
  (Waits (ask 0x0308 0) 1 0x0308 (cmd 0x0308 0) ∧ 50000 ≤ 50000 ∧ 50000 ≤ 100000000) ∧
  (Waits (ask 0x0309 0) 1 0x0309 (cmd 0x0309 0) ∧ 10000000 ≤ 10000000 ∧ 10000000 ≤ 3600000000000) ∧
  (let s : State :=
    { run with fabric.parkOn := true, loops.elems := [(gateAt 0 0 0, { mode := .lk })], up := 10000000000 };
    s.idleParkDue 0 0 0 = true) :=
  ⟨⟨rfl, rfl, by decide, by decide, by decide, rfl, by decide⟩,
   ⟨rfl, rfl, by decide, by decide, by decide, rfl, rfl, rfl, rfl⟩,
   ⟨rfl, by decide, by decide⟩,
   ⟨rfl, by decide, by decide⟩,
   rfl⟩
theorem witness_LoopCommandsTakeEffect :
  (Waits (ask 0x0502 0) 1 0x0502 (cmd 0x0502 0) ∧ (ask 0x0502 0).unit.mode ≠ .factoryTest ∧ rangeOk 0 ([rec8]).length
    64 = true ∧ firstBad 0 ([rec8]) = none ∧ (∀ k < ([rec8]).length, (ask 0x0502 0).substituting (0 + k) = false)) ∧
  (Waits (ask 0x0505 0) 1 0x0505 (cmd 0x0505 0) ∧ rangeOk 0 1 21504 = true) ∧
  (let s : State :=
    { (ask 0x0506 0) with il.inflight := [{ cmd 0x0506 0 with arrived := 5 }], tb.counter := BitVec.ofNat 96 (60000 * 2 ^ 32) };
    Waits s 1 0x0506 ({ cmd 0x0506 0 with arrived := 5 }) ∧ s.tb.stepped = true ∧ 21503 < numElements ∧ 1 ≤ 4096 ∧
    4096 ≤ 4096 ∧ s.arrivalOf 1 + 50000 ≤ 50005 ∧ s.capturing (regionOf 21503) = false) ∧
  (Waits (ask 0x0509 0) 1 0x0509 (cmd 0x0509 0) ∧ 10 ≤ 10 ∧ 10 ≤ 10000 ∧ 1 ≤ 1 ∧ 1 ≤ 1000 ∧ 1 ≤ 1 ∧ 1 ≤ 65535) ∧
  (Waits (ask 0x0509 0) 1 0x0509 (cmd 0x0509 0) ∧ 1 ≤ 1 ∧ 1 ≤ 100 ∧ 1 ≤ 1 ∧ 1 ≤ 1000 ∧ 1 ≤ 1 ∧ 1 ≤ 65535) ∧
  (Waits (ask 0x050A 0) 1 0x050A (cmd 0x050A 0) ∧ (ask 0x050A 0).inControl = true ∧ rangeOk 0 1 21504 = true) ∧
  (Waits (ask 0x050B 0) 1 0x050B (cmd 0x050B 0) ∧ 0 ≤ 3) ∧
  (let s : State := ask 0x050C 0; Waits s 1 0x050C (cmd 0x050C) ∧ 7 ≤ 7 ∧
    ({ (default : VoaGroupCfg) with fibres := [511] }).pin ≤ 3 ∧
    ({ (default : VoaGroupCfg) with fibres := [511] }).aLo ≤ 2000 ∧
    ({ (default : VoaGroupCfg) with fibres := [511] }).aHi ≤ 2000 ∧ hasDup
    ({ (default : VoaGroupCfg) with fibres := [511] }).fibres = false ∧ (∀ f ∈
    ({ (default : VoaGroupCfg) with fibres := [511] }).fibres, f ≤ 511) ∧ s.groupClash 7
    ({ (default : VoaGroupCfg) with fibres := [511] }) = false) ∧
  (let s : State :=
    { (ask 0x050C 0) with loops.groups := [(1, { cfg := { (default : VoaGroupCfg) with fibres := [511] } })] }; Waits
    s 1 0x050C (cmd 0x050C) ∧ 0 ≤ 7 ∧ ({ (default : VoaGroupCfg) with fibres := [511] }).pin ≤ 3 ∧
    ({ (default : VoaGroupCfg) with fibres := [511] }).aLo ≤ 2000 ∧
    ({ (default : VoaGroupCfg) with fibres := [511] }).aHi ≤ 2000 ∧ hasDup
    ({ (default : VoaGroupCfg) with fibres := [511] }).fibres = false ∧ (∀ f ∈
    ({ (default : VoaGroupCfg) with fibres := [511] }).fibres, f ≤ 511) ∧ s.groupClash 0
    ({ (default : VoaGroupCfg) with fibres := [511] }) = true) :=
  ⟨⟨rfl, by decide, rfl, rfl, by decide⟩,
   ⟨rfl, rfl⟩,
   ⟨rfl, rfl, by decide, by decide, by decide, by decide, rfl⟩,
   ⟨rfl, by decide, by decide, by decide, by decide, by decide, by decide⟩,
   ⟨rfl, by decide, by decide, by decide, by decide, by decide, by decide⟩,
   ⟨rfl, rfl, rfl⟩,
   ⟨rfl, by decide⟩,
   ⟨rfl, by decide, by decide, by decide, by decide, rfl, by decide, rfl⟩,
   ⟨rfl, by decide, by decide, by decide, by decide, rfl, by decide, rfl⟩⟩
theorem witness_LoopEvents :
  (let s : State := { run with unit.mode := .hold, tb.counter := BitVec.ofNat 96 (17000 * 2 ^ 32) }; 21503 <
    numElements ∧ s.sampleAt 21503 = some (16000, 16937)) ∧
  (let s : State := { run with loops.elems := [(0, { mode := .ff, reqLk := true, attempt := some 0 })] }; 0 <
    numElements ∧ s.sampleAt 0 = some (0, 0) ∧ (s.elem 0).due (0, 0).2 = true) ∧
  (let s : State := { run with up := 10000000000, loops.elems := [(21503, { capAt := some 0 })] }; 21503 < numElements
    ∧ 0 < 1 ∧ s.periodDue (s.elem 21503).capAt 10000000000 = true) ∧
  (let s : State :=
    { run with loops.groups := [(7, { cfg := { (default : VoaGroupCfg) with enabled := true }, formedAt := some 0 })], tb.counter := BitVec.ofNat 96 (10000 * 2 ^ 32) };
    7 ≤ 7 ∧ (mapGet VoaGroup.dflt s.loops.groups 7).cfg.enabled = true ∧ (mapGet VoaGroup.dflt s.loops.groups
    7).cfg.pulse = false ∧ (mapGet VoaGroup.dflt s.loops.groups 7).formedAt ≠ some (s.now / 10000 * 10000)) ∧
  (0 ≤ 3) ∧
  (let s : State := { run with loops.trim := [(3, { lastRise := some 1, lastFall := some 2 })], up := 100001 }; (3) ≤
    3 ∧ (mapGet TrimPin.dflt s.loops.trim (3)).lastRise = some (1) ∧ (mapGet TrimPin.dflt s.loops.trim (3)).lastFall =
    some (2) ∧ (1) ≤ (2) ∧ (1) + 100000 ≤ s.up + 0 / 100 ∧ s.up + 0 / 100 ≤ (1) + 10000000) ∧
  (let s : State :=
    { run with loops.groups := [(7, { cfg := { (default : VoaGroupCfg) with enabled := true, pulse := true } })], up := 20000000 };
    (7) < 8 ∧ (mapGet VoaGroup.dflt s.loops.groups (7)).cfg.enabled = true ∧ (mapGet VoaGroup.dflt s.loops.groups
    (7)).cfg.pulse = true ∧ (mapGet VoaGroup.dflt s.loops.groups (7)).lost = false ∧ (mapGet VoaGroup.dflt
    s.loops.groups (7)).lastValid + 20000000 ≤ s.up) :=
  ⟨⟨by decide, rfl⟩,
   ⟨by decide, rfl, rfl⟩,
   ⟨by decide, by decide, by decide +kernel⟩,
   ⟨by decide, rfl, rfl, by decide⟩,
   by decide,
   ⟨by decide, rfl, rfl, by decide, by decide, by decide⟩,
   ⟨by decide, rfl, rfl, rfl, by decide⟩⟩
theorem witness_ClearFlagsSparesUnlockable :
  ((ask 0x0505 0).tidy ∧ Waits (ask 0x0505 0) 1 0x0505 (cmd 0x0505 0) ∧ rangeOk 0 1 21504 = true) :=
  ⟨⟨rfl, rfl, rfl, rfl, rfl⟩, rfl, rfl⟩
theorem witness_SheafCommandsTakeEffect :
  (let s : State := ask 0x0401 0; let x : Sheaf := { readSheaf words5 with submitter := .mailbox }; Waits s 1 0x0401
    (cmd 0x0401) ∧ 8 ≤ words5.length ∧ partOk (words5.drop 8) = true ∧ formatOk words5 true = true ∧ s.sheafReason x
    false = none) ∧
  (let s : State := { (ask 0x0401 0) with unit.mode := .standby };
    let x : Sheaf := { readSheaf words5 with submitter := .mailbox }; Waits s 1 0x0401 (cmd 0x0401) ∧ 8 ≤
    words5.length ∧ partOk (words5.drop 8) = true ∧ formatOk words5 true = true ∧ s.sheafReason x false = some 0x0C) ∧
  (let s : State := ask 0x0401 0; Waits s 1 0x0401 (cmd 0x0401) ∧ 8 ≤ (List.replicate 8 0 : List Word).length ∧ partOk
    ((List.replicate 8 0 : List Word).drop 8) = true ∧ formatOk (List.replicate 8 0 : List Word) true = false) ∧
  (let s : State := { (ask 0x0401 0) with sheaves.opened := List.replicate 15 (6, []) };
    let x : Sheaf := { readSheaf words5 with submitter := .mailbox }; Waits s 1 0x0401 (cmd 0x0401) ∧ 8 ≤
    words5.length ∧ partOk (words5.drop 8) = true ∧ s.sheaves.opened.length < 16 ∧ (∀ p ∈ s.sheaves.opened, p.1 ≠
    x.id)) ∧
  (let s : State := { (ask 0x0402 0) with sheaves.opened := [(5, words5.take 8)] };
    let u : State := { s with sheaves.opened := s.sheaves.opened.filter (· ≠ (((5, words5.take 8) : Nat × List Word))) };
    let x : Sheaf := { readSheaf ((((5, words5.take 8) : Nat × List Word)).2 ++ (words5.drop 8)) with submitter := .mailbox };
    Waits s 1 0x0402 (cmd 0x0402) ∧ (s.sheaves.opened.find? fun q_ => q_.1 = BitVec.toNat (5#16)) = some (((5,
    words5.take 8) : Nat × List Word)) ∧ partOk (words5.drop 8) = true ∧ (((5, words5.take 8) : Nat × List
    Word)).2.length + (words5.drop 8).length ≤ 21504 * 2 + 8 ∧ formatOk ((((5, words5.take 8) : Nat × List Word)).2 ++
    (words5.drop 8)) true = true ∧ u.sheafReason x false = none) ∧
  (let s : State := { (ask 0x0402 0) with sheaves.opened := [(5, words5.take 8)], unit.mode := .standby };
    let u : State := { s with sheaves.opened := s.sheaves.opened.filter (· ≠ (((5, words5.take 8) : Nat × List Word))) };
    let x : Sheaf := { readSheaf ((((5, words5.take 8) : Nat × List Word)).2 ++ (words5.drop 8)) with submitter := .mailbox };
    Waits s 1 0x0402 (cmd 0x0402) ∧ (s.sheaves.opened.find? fun q_ => q_.1 = BitVec.toNat (5#16)) = some (((5,
    words5.take 8) : Nat × List Word)) ∧ partOk (words5.drop 8) = true ∧ (((5, words5.take 8) : Nat × List
    Word)).2.length + (words5.drop 8).length ≤ 21504 * 2 + 8 ∧ formatOk ((((5, words5.take 8) : Nat × List Word)).2 ++
    (words5.drop 8)) true = true ∧ u.sheafReason x false = some 0x0C) ∧
  (let s : State := { (ask 0x0402 0) with sheaves.opened := [(5, words5.take 8)] }; Waits s 1 0x0402 (cmd 0x0402) ∧
    (s.sheaves.opened.find? fun q_ => q_.1 = BitVec.toNat (5#16)) = some (((5, words5.take 8) : Nat × List Word)) ∧
    partOk (words5.drop 8) = true ∧ (((5, words5.take 8) : Nat × List Word)).2.length + (words5.drop 8).length ≤ 21504
    * 2 + 8) ∧
  (let s : State := { (ask 0x0403 0) with sheaves.store := [{ sheaf5 with phase := .committed, instant := 2001 }] };
    Waits s 1 0x0403 (cmd 0x0403) ∧ s.sheaf? (BitVec.toNat (5#16)) = some
    ({ sheaf5 with phase := .committed, instant := 2001 } : Sheaf) ∧
    (({ sheaf5 with phase := .committed, instant := 2001 } : Sheaf).phase = .staged ∨
    ({ sheaf5 with phase := .committed, instant := 2001 } : Sheaf).pending = true ∧ s.pastCutoff
    ({ sheaf5 with phase := .committed, instant := 2001 } : Sheaf) = false)) ∧
  (Waits (ask 0x0407 0) 1 0x0407 (cmd 0x0407 0) ∧ 20000 ≤ 20000 ∧ 20000 ≤ 100000000 ∧ 70000 ≤ 70000 ∧ 70000 ≤
    10000000) ∧
  (let s : State := ask 0x040C 0;
    let ms := byStep ([relWords5].map fun ws => { readSheaf ws with submitter := .stook (5#16).toNat });
    let content := Config.payloadBytes 0x040C ([((5#16).toNat : Int), ((0#128) : BitVec 128).toNat, b2i false] ++ [relWords5].flatten.map fun w => (w.toNat : Int));
    Waits s 1 0x040C (cmd 0x040C) ∧ (5#16) ≠ 0 ∧ [relWords5] ≠ [] ∧ [relWords5].length ≤ 256 ∧ (∀ ws ∈ [relWords5],
    formatOk ws true = true) ∧ (∀ x ∈ ms, x.rel = true ∧ x.stook = (5#16).toNat) ∧ stepsRise ms = true ∧ (∀ k ∈
    s.sheaves.stooks, k.id ≠ (5#16).toNat) ∧ s.sheaves.stooks.length < 64 ∧ s.storeLoad.1 + ms.length ≤ 16384 ∧
    s.storeLoad.2 + (ms.map (·.changes.length)).sum ≤ 4194304 ∧ s.axaroVerdict 1 content (none : Option AxaroBlock) =
    .good) ∧
  (let s : State := { (ask 0x040D 0) with sheaves.stooks := [{ stook5 with members := [readSheaf relWords5] }] };
    Waits s 1 0x040D (cmd 0x040D 0) ∧ (s.sheaves.stooks.find? fun kk_ => kk_.id = (5#16).toNat) = some
    (({ stook5 with members := [readSheaf relWords5] } : Stook)) ∧ s.tb.stepped = true ∧ s.stookRuns
    (({ stook5 with members := [readSheaf relWords5] } : Stook)).id = false ∧ (s.sheaves.stooks.filter fun y =>
    s.stookRuns y.id).length < 4 ∧ s.axaroVerdict 1 (({ stook5 with members := [readSheaf relWords5] } :
    Stook)).content (({ stook5 with members := [readSheaf relWords5] } : Stook)).sig = .good ∧ s.startMembers
    (20000000) (({ stook5 with members := [readSheaf relWords5] } : Stook)).members =
    (((({ ask 0x040D with sheaves.stooks := [{ stook5 with members := [readSheaf relWords5] }] } : State).startMembers
    20000000 [readSheaf relWords5]).1), none)) ∧
  (let s : State := { (ask 0x040E 0) with sheaves.stooks := [stook5] }; (stook5) ∈ s.sheaves.stooks ∧ Waits s 1 0x040E
    (cmd 0x040E 0) ∧ (stook5).id = (5#16).toNat) ∧
  (let s : State := { (ask 0x0410 0) with sheaves.stooks := [stook5] }; Waits s 1 0x0410 (cmd 0x0410 0) ∧
    (s.sheaves.stooks.find? fun kk_ => kk_.id = (5#16).toNat) = some (stook5) ∧ s.stookRuns (stook5).id = false) :=
  ⟨⟨rfl, by decide, rfl, by decide +kernel, by decide +kernel⟩,
   ⟨rfl, by decide, rfl, by decide +kernel, by decide +kernel⟩,
   ⟨rfl, by decide, rfl, by decide +kernel⟩,
   ⟨rfl, by decide, rfl, by decide, by decide +kernel⟩,
   ⟨rfl, rfl, rfl, by decide, by decide +kernel, by decide +kernel⟩,
   ⟨rfl, rfl, rfl, by decide, by decide +kernel, by decide +kernel⟩,
   ⟨rfl, rfl, rfl, by decide⟩,
   ⟨rfl, rfl, by decide +kernel⟩,
   ⟨rfl, by decide, by decide, by decide, by decide⟩,
   ⟨rfl, by decide, by decide, by decide, by decide +kernel, by decide +kernel, by decide +kernel, by decide, by
   decide, by decide +kernel, by decide +kernel, rfl⟩,
   ⟨rfl, rfl, rfl, rfl, by decide, rfl, rfl⟩,
   ⟨by decide, rfl, rfl⟩,
   ⟨rfl, rfl, rfl⟩⟩
theorem witness_SolveCommandsAskTheSolver :
  (let s : State := ask 0x0408 0; let m := s.carriedAt 20000000; Waits s 1 0x0408 (cmd 0x0408) ∧ 1 ≤ (([(0, 511)] :
    List (Nat × Nat))).length ∧ (([(0, 511)] : List (Nat × Nat))).length ≤ 512 ∧ hasDup ((([(0, 511)] : List (Nat ×
    Nat))).map (·.1)) = false ∧ hasDup ((([(0, 511)] : List (Nat × Nat))).map (·.2)) = false ∧ (∀ p ∈ (([(0, 511)] :
    List (Nat × Nat))), p.1 < 512 ∧ p.2 < 512 ∧ m.getD p.2 (none, none) = (none, none) ∧ ∀ q ∈ m, q.1 ≠ some p.1 ∧ q.2
    ≠ some p.1)) ∧
  (let s : State := ask 0x0409 0; Waits s 1 0x0409 (cmd 0x0409) ∧ ([511] : List Nat).length + ([0] : List Nat).length
    ≤ 512 ∧ (∀ f ∈ ([511] : List Nat) ++ ([0] : List Nat), f < 512)) ∧
  (let s : State := ask 0x040A 0; Waits s 1 0x040A (cmd 0x040A) ∧ ((List.replicate 512 (none : Option Nat))).length =
    512 ∧ (∀ i, some i ∈ ((List.replicate 512 (none : Option Nat))) → i < 512) ∧ hasDup (((List.replicate 512 (none :
    Option Nat))).filterMap id) = false) ∧
  (((true) = true ∨ (run.solveCommand (default : SolveReq) (true) true).2.status ≠ .ok)) ∧
  (let s : State := { (ask 0x0408 0) with unit.mode := .standby }; s.inControl = false) :=
  ⟨⟨rfl, by decide, by decide, rfl, rfl, by decide +kernel⟩,
   ⟨rfl, by decide, by decide⟩,
   ⟨rfl, by decide +kernel, fun i h => by simp at h, by decide +kernel⟩,
   Or.inl rfl,
   rfl⟩
theorem witness_SheafCourse :
  (let s : State := { run with sheaves.store := [{ sheaf5 with mirrored := true }], unit.mode := .standby };
    s.nextToArm = some ({ sheaf5 with mirrored := true } : Sheaf) ∧ ({ sheaf5 with mirrored := true } : Sheaf).id =
    (5#16).toNat ∧ s.tb.stepped = true ∧ (s.inControl = true ∨ ({ sheaf5 with mirrored := true } : Sheaf).mirrored =
    true) ∧ ({ sheaf5 with mirrored := true } : Sheaf).instant ≤ s.now + s.sheaves.armLead ∧ s.covered
    ({ sheaf5 with mirrored := true } : Sheaf) = true ∧ s.freeArmSlot = some 0 ∧ s.listRoom
    ({ sheaf5 with mirrored := true } : Sheaf) = true) ∧
  (let s : State := { run with sheaves.store := [({ sheaf5 with phase := .arming, instant := 2001 } : Sheaf)] };
    s.sheaf? (5#16).toNat = some (({ sheaf5 with phase := .arming, instant := 2001 } : Sheaf)) ∧
    (({ sheaf5 with phase := .arming, instant := 2001 } : Sheaf)).phase = .arming ∧ s.pastCutoff
    (({ sheaf5 with phase := .arming, instant := 2001 } : Sheaf)) = false) ∧
  (let s : State := { run with sheaves.store := [({ sheaf5 with phase := .arming } : Sheaf)] }; s.sheaf? (5#16).toNat
    = some (({ sheaf5 with phase := .arming } : Sheaf)) ∧ (({ sheaf5 with phase := .arming } : Sheaf)).phase =
    .arming) ∧
  (let s : State := { run with sheaves.store := [{ sheaf5 with phase := .arming, instant := 2000 }] }; s.sheaf?
    (5#16).toNat = some ({ sheaf5 with phase := .arming, instant := 2000 } : Sheaf) ∧
    (({ sheaf5 with phase := .arming, instant := 2000 } : Sheaf).phase = .staged ∨
    ({ sheaf5 with phase := .arming, instant := 2000 } : Sheaf).phase = .arming) ∧ s.tb.stepped = true ∧ s.pastCutoff
    ({ sheaf5 with phase := .arming, instant := 2000 } : Sheaf) = true) ∧
  (let s : State := { run with sheaves.store := [{ sheaf5 with phase := .committed, instant := 6 }] }; s.sheaf?
    (5#16).toNat = some ({ sheaf5 with phase := .committed, instant := 6 } : Sheaf) ∧
    ({ sheaf5 with phase := .committed, instant := 6 } : Sheaf).phase = .committed ∧ s.reached
    ({ sheaf5 with phase := .committed, instant := 6 } : Sheaf).instant = true ∧ s.unit.mode ≠ .hold ∧ s.guardPasses
    ({ sheaf5 with phase := .committed, instant := 6 } : Sheaf) = true) ∧
  (let s : State := { run with sheaves.store := [{ sheaf5 with phase := .committed, instant := 6, gwEn := true }] };
    s.sheaf? (5#16).toNat = some ({ sheaf5 with phase := .committed, instant := 6, gwEn := true } : Sheaf) ∧
    ({ sheaf5 with phase := .committed, instant := 6, gwEn := true } : Sheaf).phase = .committed ∧ s.reached
    ({ sheaf5 with phase := .committed, instant := 6, gwEn := true } : Sheaf).instant = true ∧ s.unit.mode ≠ .hold ∧
    s.guardPasses ({ sheaf5 with phase := .committed, instant := 6, gwEn := true } : Sheaf) = false) ∧
  (let s : State := { run with sheaves.freeing := [(255, 0)] }; (255, 0) ∈ s.sheaves.freeing ∧ 0 < s.tb.run +
    s.tb.incr.toNat) ∧
  (let s : State :=
    { run with sheaves.store := [{ sheaf5 with phase := .applied, firedAt := some 0 }], tb.run := 43000000000000 };
    s.sheaf? (5#16).toNat = some ({ sheaf5 with phase := .applied, firedAt := some 0 } : Sheaf) ∧
    ({ sheaf5 with phase := .applied, firedAt := some 0 } : Sheaf).phase = .applied ∧
    ({ sheaf5 with phase := .applied, firedAt := some 0 } : Sheaf).firedAt = some 0 ∧
    ({ sheaf5 with phase := .applied, firedAt := some 0 } : Sheaf).excluded = [] ∧ 0 + (10000 +
    ({ sheaf5 with phase := .applied, firedAt := some 0 } : Sheaf).dwell) * 2 ^ 32 < s.tb.run + s.tb.incr.toNat) ∧
  (let s : State := { run with host.subq := [(143, { state := .running, slots := [slotS true] })] };
    let x : Sheaf := { readSheaf words5 with submitter := .fcq 15 (slotS true).lastIdx.toNat }; s.fcqReady 15 1 = some
    (slotS true) ∧ (slotS true).record = some words5 ∧ true = (byteAt (slotS true).desc 13).getLsbD 0 ∧ formatOk
    words5 true = true ∧ s.sheafReason x false = none) ∧
  (let s : State :=
    { run with host.subq := [(143, { state := .running, slots := [slotS false] })], unit.mode := .standby };
    let x : Sheaf := { readSheaf words5 with submitter := .fcq 15 (slotS false).lastIdx.toNat }; s.fcqReady 15 1 =
    some (slotS false) ∧ (slotS false).record = some words5 ∧ false = (byteAt (slotS false).desc 13).getLsbD 0 ∧
    formatOk words5 true = true ∧ s.sheafReason x false = some 0x0C) ∧
  (let s : State :=
    { run with sheaves.store := [sheaf5], host.subq := [(128, { state := .running, slots := [slotC] })] }; s.fcqReady
    0 2 = some slotC ∧ ofLe (slice slotC.desc 14 2) = (5#16).toNat ∧ s.sheaf? (5#16).toNat = some sheaf5 ∧
    (sheaf5.phase = .staged ∨ sheaf5.pending = true ∧ s.pastCutoff sheaf5 = false)) :=
  ⟨⟨rfl, rfl, rfl, .inr rfl, by decide, rfl, rfl, rfl⟩,
   ⟨rfl, rfl, by decide⟩,
   ⟨rfl, rfl⟩,
   ⟨rfl, .inr rfl, rfl, by decide +kernel⟩,
   ⟨rfl, rfl, by decide +kernel, by decide, rfl⟩,
   ⟨rfl, rfl, by decide +kernel, by decide, rfl⟩,
   ⟨by decide, by decide +kernel⟩,
   ⟨rfl, rfl, rfl, rfl, by decide +kernel⟩,
   ⟨rfl, rfl, rfl, by decide +kernel, by decide +kernel⟩,
   ⟨rfl, rfl, rfl, by decide +kernel, by decide +kernel⟩,
   ⟨rfl, rfl, rfl, .inl rfl⟩⟩
theorem witness_HeldInstantChangesNoElement :
  (let s : State :=
    { run with sheaves.store := [{ sheaf5 with phase := .committed, instant := 6, gwEn := true }], unit.mode := .hold, power.holdFrame := 6 };
    s.sheaf? (5#16).toNat = some ({ sheaf5 with phase := .committed, instant := 6, gwEn := true } : Sheaf) ∧
    s.unit.mode = .hold ∧ ({ sheaf5 with phase := .committed, instant := 6, gwEn := true } : Sheaf).phase = .committed
    ∧ s.reached ({ sheaf5 with phase := .committed, instant := 6, gwEn := true } : Sheaf).instant = true ∧
    s.power.holdFrame ≤ ({ sheaf5 with phase := .committed, instant := 6, gwEn := true } : Sheaf).instant) ∧
  (let s : State :=
    { run with sheaves.store := [{ sheaf5 with phase := .committed, instant := 6 }], unit.mode := .hold, power.holdFrame := 7 };
    s.sheaf? (5#16).toNat = some ({ sheaf5 with phase := .committed, instant := 6 } : Sheaf) ∧ s.unit.mode = .hold ∧
    ({ sheaf5 with phase := .committed, instant := 6 } : Sheaf).phase = .committed ∧ s.reached
    ({ sheaf5 with phase := .committed, instant := 6 } : Sheaf).instant = true ∧
    ({ sheaf5 with phase := .committed, instant := 6 } : Sheaf).instant < s.power.holdFrame ∧ s.guardPasses
    ({ sheaf5 with phase := .committed, instant := 6 } : Sheaf) = true) ∧
  (let s : State :=
    { run with sheaves.store := [{ sheaf5 with phase := .applied, firedAt := some 0 }], unit.mode := .hold, tb.run := 43000000000000 };
    s.sheaf? (5#16).toNat = some ({ sheaf5 with phase := .applied, firedAt := some 0 } : Sheaf) ∧ s.unit.mode = .hold
    ∧ ({ sheaf5 with phase := .applied, firedAt := some 0 } : Sheaf).phase = .applied ∧
    ({ sheaf5 with phase := .applied, firedAt := some 0 } : Sheaf).firedAt = some 0 ∧
    ({ sheaf5 with phase := .applied, firedAt := some 0 } : Sheaf).excluded = [] ∧ 0 + (10000 +
    ({ sheaf5 with phase := .applied, firedAt := some 0 } : Sheaf).dwell) * 2 ^ 32 < s.tb.run + s.tb.incr.toNat) :=
  ⟨⟨rfl, rfl, rfl, by decide +kernel, by decide⟩,
   ⟨rfl, rfl, rfl, by decide +kernel, by decide, rfl⟩,
   ⟨rfl, rfl, rfl, rfl, rfl, by decide +kernel⟩⟩
theorem witness_CalCommandsTakeEffect :
  ((ask 0x0603 0).noImage = false ∧ Asks (ask 0x0603 0) 1 0x0603 (cmd 0x0603 0) ∧ (ask 0x0603 0).cal.saving = false) ∧
  ((ask 0x0604 0).noImage = false ∧ Waits (ask 0x0604 0) 1 0x0604 (cmd 0x0604 0) ∧ rangeOk 0 1 64 = true ∧ (∀ x ∈ (ask
    0x0604 0).cal.subst, ∀ e ∈ List.range' 0 1, ¬(x.region = regionOf e ∧ x.block = blockOf e))) ∧
  ((ask 0x0605 0).noImage = false ∧ Waits (ask 0x0605 0) 1 0x0605 (cmd 0x0605 0) ∧ 1000 ≤ 1000 ∧ 1000 ≤ 3600000) ∧
  ((ask 0x0606 0).noImage = false ∧ Waits (ask 0x0606 0) 1 0x0606 (cmd 0x0606 0) ∧ SparePolicy.ok (SparePolicy.dflt) =
    true) ∧
  ((ask 0x0607 0).noImage = false ∧ Waits (ask 0x0607 0) 1 0x0607 (cmd 0x0607 0) ∧ 0 ≤ 3 ∧ 0 ≤ 15 ∧ 0 ≤ 20 ∧ (ask
    0x0607 0).cell21Used ((ask 0x0607 0).location 0 0) = false ∧ (ask 0x0607 0).location 0 0 ∉ (ask 0x0607
    0).cal.badCell21) ∧
  ((ask 0x0607 0).noImage = false ∧ Waits (ask 0x0607 0) 1 0x0607 (cmd 0x0607 0) ∧ 0 ≤ 3 ∧ 0 ≤ 15 ∧ 0 ≤ 20 ∧ (ask
    0x0607 0).block16Used 0 = false ∧ 0 ∉ (ask 0x0607 0).cal.badBlock16) ∧
  ((ask 0x0602 0).noImage = false ∧ Waits (ask 0x0602 0) 1 0x0602 (cmd 0x0602 0) ∧ rangeOk 0 1 64 = true) ∧
  ((ask 0x0609 0).noImage = false ∧ Asks (ask 0x0609 0) 1 0x0609 (cmd 0x0609 0)) ∧
  (let s : State := { (ask 0x0602 0) with cal.stage := 0xF }; s.cal.stage = 0xF ∧ Waits s 1 0x0602 (cmd 0x0602 0)) ∧
  (let s : State := { (ask 0x0603 0) with cal.stage := 0xF }; s.cal.stage = 0xF ∧ Asks s 1 0x0603 (cmd 0x0603 0)) ∧
  (let s : State := { (ask 0x0604 0) with cal.stage := 0xF }; s.cal.stage = 0xF ∧ Waits s 1 0x0604 (cmd 0x0604 0)) ∧
  (let s : State := { (ask 0x0605 0) with cal.stage := 0xF }; s.cal.stage = 0xF ∧ Waits s 1 0x0605 (cmd 0x0605 0)) ∧
  (let s : State := { (ask 0x0606 0) with cal.stage := 0xF }; s.cal.stage = 0xF ∧ Waits s 1 0x0606 (cmd 0x0606 0)) ∧
  (let s : State := { (ask 0x0607 0) with cal.stage := 0xF }; s.cal.stage = 0xF ∧ Waits s 1 0x0607 (cmd 0x0607 0)) ∧
  (let s : State := { (ask 0x0609 0) with cal.stage := 0xF }; s.cal.stage = 0xF ∧ Asks s 1 0x0609 (cmd 0x0609 0)) :=
  ⟨⟨rfl, ⟨rfl, rfl⟩, rfl⟩,
   ⟨rfl, rfl, rfl, by decide⟩,
   ⟨rfl, rfl, by decide, by decide⟩,
   ⟨rfl, rfl, rfl⟩,
   ⟨rfl, rfl, by decide, by decide, by decide, rfl, by decide⟩,
   ⟨rfl, rfl, by decide, by decide, by decide, rfl, by decide⟩,
   ⟨rfl, rfl, rfl⟩,
   ⟨rfl, ⟨rfl, rfl⟩⟩,
   ⟨rfl, rfl⟩,
   ⟨rfl, ⟨rfl, rfl⟩⟩,
   ⟨rfl, rfl⟩,
   ⟨rfl, rfl⟩,
   ⟨rfl, rfl⟩,
   ⟨rfl, rfl⟩,
   ⟨rfl, ⟨rfl, rfl⟩⟩⟩
theorem witness_CalibrationAndSpareEvents :
  (let s : State := { run with cal.work := [(0, none)], up := 864000000000000 }; s.cal.changed = true ∧ s.cal.lastSave
    + 864000000000000 ≤ s.up ∧ s.unit.mode ≠ .hold ∧ s.cal.saving = false) ∧
  (let s : State := { run with cal.saving := true }; s.cal.saving = true) ∧
  (let s : State := { run with unit.mode := .calibrate, cal.stage := 1 }; s.unit.mode = .calibrate ∧ s.cal.stage = 1)
    ∧
  (let s : State :=
    { run with unit.mode := .calibrate, cal.stage := 4, power.dark := true, loops.elems := [(0, { attempt := some 0 })] };
    s.unit.mode = .calibrate ∧ s.cal.stage = 4 ∧ (s.power.dark = true ∨ s.handedOver = true)) ∧
  (let s : State := { run with unit.mode := .calibrate, cal.stage := 5 }; s.unit.mode = .calibrate ∧ s.cal.stage = 5 ∧
    s.unit.waiting = none ∧ s.handedOver = true) ∧
  (let s : State := { run with cal.logPend := [log1] }; s.cal.logPend = (log1) :: ([] : List LogEntry)) ∧
  (let s : State := { run with cal.unfinished := [(3, 15, 20)] }; 3 ≤ 3 ∧ 15 ≤ 15 ∧ 20 ≤ 20 ∧ s.thresholdMet
    (.loopCell 3 15 20) = true ∧ s.cal.subst = [] ∧ s.cal.lost = []) ∧
  (0 ≤ 3 ∧ 0 ≤ 15 ∧ run.cell21Used (blockSource 0 0) = false) ∧
  (0 ≤ 3 ∧ run.block16Used 0 = false) ∧
  (let s : State := { run with cal.map.blockSub := [(3, 16)] }; 3 ≤ 3 ∧ s.block16Used 3 = true ∧ s.cell21Used
    (blockSource 3 16) = false) ∧
  (let s : State := { run with cal.subst := [⟨3, 15, 20, false, 0, 4, 0xFFFF, 0⟩] }; (s.cal.subst.find? fun xx_ =>
    xx_.region = (3) && xx_.block = (15) && xx_.cell = (20) && !xx_.whole && decide (xx_.switchAt ≤ s.now)) = some
    (⟨3, 15, 20, false, 0, 4, 0xFFFF, 0⟩ : Subst)) ∧
  (let s : State := { run with cal.subst := [⟨3, 15, 0, true, 0, 4, 0xFFFF, 0⟩] }; (s.cal.subst.find? fun xx_ =>
    xx_.region = (3) && xx_.block = (15) && xx_.whole && decide (xx_.switchAt ≤ s.now)) = some (⟨3, 15, 0, true, 0, 4,
    0xFFFF, 0⟩ : Subst)) ∧
  (let s : State := { run with cal.events := [((Part.row 0 0).key, [0, 0, 0, 0])] }; s.thresholdMet (.row 0 0) = true
    ∧ 0 < numMemories ∧ (mapGet [] s.cal.map.rows 0).length < 16) ∧
  (run.periodDue run.cal.bandgapAt 1000000000 = true ∧ run.cal.bandgapLost = false ∧ run.cal.map.bandgap = none ∧
    within 1000000 2000000 = false ∧ within 2000000 1000000 = false ∧ within 2000000 3000000 = false ∧ within 3000000
    2000000 = false ∧ within 1000000 3000000 = false ∧ within 3000000 1000000 = false) ∧
  (1100 ≤ 1100 ∧ run.periodDue run.cal.tempAt 100000000 = true) ∧
  (let s : State := { run with up := 100000000, cal.exchangedAt := [(0, some 0)] }; 0 < numLines ∧ s.periodDue (mapGet
    none s.cal.exchangedAt 0) 100000000 = true ∧ 0 ∉ s.cal.alone ∧ ((s.measured 26 0).natAbs % 2 = 0 ∨ (s.measured 26
    0).natAbs % 2 = 1)) ∧
  (let s : State := { run with up := 100000000, cal.exchangedAt := [(0, some 0)], cal.alone := [0] }; 0 < numLines ∧
    s.periodDue (mapGet none s.cal.exchangedAt 0) 100000000 = true ∧ 0 ∈ s.cal.alone) ∧
  (let s : State :=
    { run with sheaves.store := [{ sheaf5 with phase := .committed, changes := [⟨elementAt 3 15 0 0 + 335, .hd, false, false, 0, 0, 0, none⟩] }], cal.rotation := [(63, 335)] };
    let e := elementAt 3 15 0 0 + mapGet 0 s.cal.rotation (3 * 16 + 15);
    let s1 : State := { s with cal.rotation := mapSet 0 s.cal.rotation (3 * 16 + 15) (mapGet 0 s.cal.rotation (3 * 16 + 15) + 1), cal.visitAt := mapSet none s.cal.visitAt (3 * 16 + 15) (some s.up) };
    3 ≤ 3 ∧ 15 ≤ 15 ∧ s.unit.mode = .active ∧ s.cal.bgOn = true ∧ s.cal.subst = [] ∧ s.visitDue (3 * 16 + 15) = true ∧
    mapGet 0 s.cal.rotation (3 * 16 + 15) < 336 ∧ s.visitBlocked e = true ∧ s1.cal.rotated = false) ∧
  (let s : State := { run with cal.rotation := [(63, 335)] };
    let e := elementAt 3 15 0 0 + mapGet 0 s.cal.rotation (3 * 16 + 15);
    let s1 : State := { s with cal.rotation := mapSet 0 s.cal.rotation (3 * 16 + 15) (mapGet 0 s.cal.rotation (3 * 16 + 15) + 1), cal.visitAt := mapSet none s.cal.visitAt (3 * 16 + 15) (some s.up) };
    3 ≤ 3 ∧ 15 ≤ 15 ∧ s.unit.mode = .active ∧ s.cal.bgOn = true ∧ s.cal.subst = [] ∧ s.visitDue (3 * 16 + 15) = true ∧
    mapGet 0 s.cal.rotation (3 * 16 + 15) < 336 ∧ s.visitBlocked e = false ∧ (s1.visit e).cal.rotated = false) ∧
  (let s : State := { run with cal.rotation := (List.range 64).map fun k => (k, if k = 63 then 335 else 336) };
    let e := elementAt 3 15 0 0 + mapGet 0 s.cal.rotation (3 * 16 + 15);
    let s1 : State := { s with cal.rotation := mapSet 0 s.cal.rotation (3 * 16 + 15) (mapGet 0 s.cal.rotation (3 * 16 + 15) + 1), cal.visitAt := mapSet none s.cal.visitAt (3 * 16 + 15) (some s.up) };
    3 ≤ 3 ∧ 15 ≤ 15 ∧ s.unit.mode = .active ∧ s.cal.bgOn = true ∧ s.cal.subst = [] ∧ s.visitDue (3 * 16 + 15) = true ∧
    mapGet 0 s.cal.rotation (3 * 16 + 15) < 336 ∧ s.visitBlocked e = false ∧ (s1.visit e).cal.rotated = true) :=
  ⟨⟨rfl, by decide, by decide, rfl⟩,
   rfl,
   ⟨rfl, rfl⟩,
   ⟨rfl, rfl, .inl rfl⟩,
   ⟨rfl, rfl, rfl, rfl⟩,
   rfl,
   ⟨by decide, by decide, by decide, rfl, rfl, rfl⟩,
   ⟨by decide, by decide, rfl⟩,
   ⟨by decide, rfl⟩,
   ⟨by decide, rfl, rfl⟩,
   rfl,
   rfl,
   ⟨rfl, by simp [numMemories], by decide⟩,
   ⟨by decide +kernel, rfl, rfl, rfl, rfl, rfl, rfl, rfl, rfl⟩,
   ⟨by decide, by decide +kernel⟩,
   ⟨by simp [numLines], by decide +kernel, by decide, Nat.mod_two_eq_zero_or_one _⟩,
   ⟨by simp [numLines], by decide +kernel, by decide⟩,
   ⟨by decide, by decide, rfl, rfl, rfl, rfl, by decide, rfl, rfl⟩,
   ⟨by decide, by decide, rfl, rfl, rfl, rfl, by decide, rfl, (visit_rotated _ _ rfl).trans (by decide)⟩,
   ⟨by decide, by decide, rfl, rfl, rfl, rfl, by decide +kernel, by decide +kernel, (visit_rotated _ _ (by
   decide +kernel)).trans (by decide +kernel)⟩⟩
theorem witness_PortCommandsTakeEffect :
  (let s : State := { (ask 0x0702 0) with ports.port := [(3, { up := true })] }; (3) ≤ 3 ∧ Waits s 1 0x0702 (cmd
    0x0702 0) ∧ lineOk (({ PortModeCfg.dflt with mode := 5, fec := 2, badq := 63 })).mode
    (({ PortModeCfg.dflt with mode := 5, fec := 2, badq := 63 })).fec
    (({ PortModeCfg.dflt with mode := 5, fec := 2, badq := 63 })).clause37 = true ∧
    (({ PortModeCfg.dflt with mode := 5, fec := 2, badq := 63 })).maxLen ≠ 3 ∧
    (({ PortModeCfg.dflt with mode := 5, fec := 2, badq := 63 })).badq ≤ 63 ∧ headroomOk
    (({ PortModeCfg.dflt with mode := 5, fec := 2, badq := 63 })).mode
    (({ PortModeCfg.dflt with mode := 5, fec := 2, badq := 63 })).maxLen (s.prt (3)).pauseNext = true ∧ (s.prt
    (3)).subst = none) ∧
  ((3) ≤ 3 ∧ Waits (ask 0x0704 0) 1 0x0704 (cmd 0x0704 0) ∧ PauseCfg.ok (PauseCfg.dflt) = true ∧ headroomOk ((ask
    0x0704 0).prt (3)).cfg.mode ((ask 0x0704 0).prt (3)).cfg.maxLen (PauseCfg.dflt) = true ∧ ((([0, 1, 2, 3] : List
    Nat).filter (· ≠ (3))).map fun p => ((ask 0x0704 0).prt p).pauseNext.share).sum + (PauseCfg.dflt).share ≤
    10485760) ∧
  ((3) ≤ 3 ∧ Waits (ask 0x0705 0) 1 0x0705 (cmd 0x0705 0) ∧ 1 ≤ ([[0, 0, 0, 0]] : List (List Word)).length ∧ ([[0, 0,
    0, 0]] : List (List Word)).length ≤ 16 ∧ (255) + ([[0, 0, 0, 0]] : List (List Word)).length ≤ 256 ∧ (∀ e ∈ ([[0,
    0, 0, 0]] : List (List Word)), filterOk e = true)) ∧
  (0 ≤ 3 ∧ Waits (ask 0x0707 0) 1 0x0707 (cmd 0x0707 0) ∧ 0 ≤ 2 ∧ (0 = 0 ∨ (lpiTimes ((ask 0x0707 0).prt 0).cfg.mode
    ((ask 0x0707 0).prt 0).cfg.fec).isSome = true) ∧ 10000 ≤ 10000 ∧ 10000 ≤ 100000000) ∧
  (0 ≤ 3 ∧ Waits (ask 0x0708 0) 1 0x0708 (cmd 0x0708 0)) ∧
  (0 ≤ 3 ∧ Waits (ask 0x070A 0) 1 0x070A (cmd 0x070A 0) ∧ (ask 0x070A 0).spareKept 1 0 = true ∧ (ask 0x070A
    0).spareKept 2 0 = true) ∧
  (let s : State := { (ask 0x070B 0) with ports.mask1 := 8#4 }; (3) ≤ 3 ∧ Waits s 1 0x070B (cmd 0x070B 0) ∧ (s.prt
    (3)).subst = none ∧ s.spareFor (3) = some (2)) :=
  ⟨⟨by decide, rfl, rfl, by decide, by decide, by decide, rfl⟩,
   ⟨by decide, rfl, rfl, by decide, by decide⟩,
   ⟨by decide, rfl, by decide, by decide, by decide, by decide⟩,
   ⟨by decide, rfl, by decide, by decide, by decide, by decide⟩,
   ⟨by decide, rfl⟩,
   ⟨by decide, rfl, rfl, rfl⟩,
   ⟨by decide, rfl, rfl, rfl⟩⟩
theorem witness_LinkAndLaneEvents :
  (let s : State := { run with ports.port := [(3, { up := true })] }; (3) ≤ 3 ∧ (s.prt (3)).up = true) ∧
  (let s : State :=
    { run with ports.port := [(3, { up := true })], gates.port := [(3, { cfg := { GateCfg.dflt with enable := true } })] };
    (3) ≤ 3 ∧ (s.prt (3)).up = true ∧ (s.gate (3)).cfg.enable = true) ∧
  (let s : State := { run with ports.port := [(3, { cfg := { PortModeCfg.dflt with mode := 5 } })] }; 3 ≤ 3 ∧ (s.prt
    3).up = false ∧ (s.prt 3).cfg.mode ≠ 0 ∧ (s.prt 3).lane ∉ (s.prt 3).dead ∧ (s.prt 3).subst = none ∧ s.power.sleep
    ≠ .shutdown) ∧
  (0 ≤ 3) ∧
  (let s : State :=
    { run with ports.port := [(3, { cfg := { PortModeCfg.dflt with mode := 5 }, up := true })], ports.mask0 := 8#4 };
    3 ≤ 3 ∧ (s.prt 3).cfg.mode ≠ 0 ∧ (s.prt 3).subst = none ∧ s.spareFor 3 = some 1 ∧ (s.prt 3).up = true) ∧
  (let s : State :=
    { run with ports.port := [(3, { cfg := { PortModeCfg.dflt with mode := 5 } })], ports.mask1 := 8#4 }; 3 ≤ 3 ∧
    (s.prt 3).cfg.mode ≠ 0 ∧ (s.prt 3).subst = none ∧ s.spareFor 3 = some 2 ∧ (s.prt 3).up = false) ∧
  (let s : State := { run with ports.port := [(3, { subst := some ⟨1, 2, 0, 0, none, false⟩ })] }; (3) ≤ 3 ∧ (s.prt
    (3)).subst = some (⟨1, 2, 0, 0, none, false⟩ : LaneSubst) ∧ (⟨1, 2, 0, 0, none, false⟩ : LaneSubst).switched =
    false ∧ (⟨1, 2, 0, 0, none, false⟩ : LaneSubst).t2 = none ∧ (⟨1, 2, 0, 0, none, false⟩ : LaneSubst).cause = 2) ∧
  (let s : State := { run with up := 10000000000 }; 3 ≤ 3 ∧ s.functionUp = true ∧ s.periodDue (some
    (s.ports.historyAt.getD s.power.releasedAt)) 10000000000 = true) :=
  ⟨⟨by decide, rfl⟩,
   ⟨by decide, rfl, rfl⟩,
   ⟨by decide, rfl, by decide, by decide, rfl, by decide⟩,
   by decide,
   ⟨by decide, by decide, rfl, rfl, rfl⟩,
   ⟨by decide, by decide, rfl, rfl, rfl⟩,
   ⟨by decide, rfl, rfl, rfl, rfl⟩,
   ⟨by decide, rfl, by decide +kernel⟩⟩
theorem witness_SpareLaneServesOnePort :
  (Waits (ask 0x070B 0) 1 0x070B (cmd 0x070B 0) ∧ 0 ≤ 3 ∧ ((ask 0x070B 0).prt 0).subst = none ∧ (ask 0x070B
    0).spareFor 0 = none) ∧
  (let s : State := { (ask 0x070B 0) with ports.mask0 := 8#4 }; Waits s 1 0x070B (cmd 0x070B 0) ∧ (3) ≤ 3 ∧ (s.prt
    (3)).subst = none ∧ s.spareFor (3) = some (1)) ∧
  (let s : State := { (ask 0x070B 0) with ports.mask0 := 8#4, ports.port := [(0, { up := true })] }; Waits s 1 0x070B
    (cmd 0x070B 0) ∧ (3) ≤ 3 ∧ (s.prt (3)).subst = none ∧ s.spareFor (3) = some (1) ∧ ((0, { up := true }) : Nat ×
    Port) ∈ s.ports.port) ∧
  (let s : State :=
    { (ask 0x070B 0) with ports.mask0 := 8#4, ports.port := [(0, { subst := some ⟨2, 2, 0, 0, none, false⟩ })] };
    Waits s 1 0x070B (cmd 0x070B 0) ∧ (3) ≤ 3 ∧ (s.prt (3)).subst = none ∧ s.spareFor (3) = some (1) ∧ (⟨2, 2, 0, 0,
    none, false⟩ : LaneSubst) ∈ ((0, { subst := some ⟨2, 2, 0, 0, none, false⟩ }) : Nat × Port).2.subst) :=
  ⟨⟨rfl, by decide, rfl, rfl⟩,
   ⟨rfl, by decide, rfl, rfl⟩,
   ⟨rfl, by decide, rfl, rfl, by decide⟩,
   ⟨rfl, by decide, rfl, rfl, rfl⟩⟩
theorem witness_TransmitEvents :
  (3 ≤ 3 ∧ (run.prt 3).up = false ∧ run.holdsFrames 3 = false) ∧
  (let s : State := { run with ports.port := [(3, { subst := some ⟨1, 2, 0, 0, none, false⟩ })] }; 3 ≤ 3 ∧ (s.prt
    3).up = false ∧ s.holdsFrames 3 = true) ∧
  (let s : State := { run with ports.port := [(3, { up := true })] }; 3 ≤ 3 ∧ (s.prt 3).up = true ∧ (s.prt 3).txAsleep
    = false ∧ (s.prt 3).wakeEnd = none ∧ (s.prt 3).wire = none ∧ (s.prt 3).freeAt ≤ s.upPs ∧ (s.prt 3).subst = none) ∧
  (let s : State := { run with ports.port := [(3, { up := true, wire := some wire0 })], up := 1000000000000 }; 3 ≤ 3 ∧
    (s.prt 3).wire = some wire0 ∧ wire0.sent = 0 ∧ wire0.frame.gptp = none ∧ wire0.start + (8 +
    wire0.frame.bytes.length) * byteTime (s.prt 3).cfg.mode ≤ s.upPs) ∧
  (let s : State :=
    { run with gates.port := [(3, { list := .running, bank0 := bank1e })], tb.cycleC := 1000000, tb.cycleValid := true };
    3 ≤ 3 ∧ s.nextGateEvent 3 = some (0, (⟨0, 100⟩ : GateEntry)) ∧ s.reached (s.tb.start + 0) = true) ∧
  (let s : State :=
    { run with ports.port := [(3, { up := true })], gates.port := [(3, { cfg := { GateCfg.dflt with enable := true, verifyEn := false }, list := .running, bank0 := bankHold })], tb.cycleC := 1000000, tb.cycleValid := true };
    3 ≤ 3 ∧ s.preemptive 3 = true ∧ (s.gate 3).hold = false ∧ ((s.gateTimeline 3).find? fun q_ => q_.2.op = 1) = some
    (((0, ⟨0x20000000#32, 100⟩) : Nat × GateEntry)) ∧ s.reached ((((0, ⟨0x20000000#32, 100⟩) : Nat × GateEntry)).1 -
    s.holdAdvance 3) = true) ∧
  (let s : State :=
    { run with ports.port := [(3, { up := true })], gates.port := [(3, { cfg := { GateCfg.dflt with enable := true }, tries := 2 })] };
    (3) ≤ 3 ∧ (s.prt (3)).up = true ∧ (s.gate (3)).cfg.enable = true ∧ (s.gate (3)).cfg.verifyEn = true ∧ (s.gate
    (3)).succeeded = false ∧ (s.gate (3)).failed = false ∧ (s.gate (3)).verifyAt ≤ s.up ∧ (s.prt (3)).txAsleep = false
    ∧ (s.prt (3)).wakeEnd = none ∧ (s.gate (3)).tries < 3) ∧
  (let s : State :=
    { run with ports.port := [(3, { up := true })], gates.port := [(3, { cfg := { GateCfg.dflt with enable := true }, tries := 3 })] };
    (3) ≤ 3 ∧ (s.prt (3)).up = true ∧ (s.gate (3)).cfg.enable = true ∧ (s.gate (3)).cfg.verifyEn = true ∧ (s.gate
    (3)).succeeded = false ∧ (s.gate (3)).failed = false ∧ (s.gate (3)).verifyAt ≤ s.up ∧ (s.prt (3)).txAsleep = false
    ∧ (s.prt (3)).wakeEnd = none ∧ 3 ≤ (s.gate (3)).tries) :=
  ⟨⟨by decide, rfl, rfl⟩,
   ⟨by decide, rfl, by decide +kernel⟩,
   ⟨by decide, rfl, rfl, rfl, rfl, by decide, rfl⟩,
   ⟨by decide, rfl, rfl, rfl, by decide⟩,
   ⟨by decide, rfl, by decide +kernel⟩,
   ⟨by decide, rfl, rfl, rfl, by decide +kernel⟩,
   ⟨by decide, rfl, rfl, rfl, rfl, rfl, by decide, rfl, rfl, by decide⟩,
   ⟨by decide, rfl, rfl, rfl, rfl, rfl, by decide, rfl, rfl, by decide⟩⟩
theorem witness_PauseAndLowPowerIdle :
  (let s : State := { run with ports.port := [(3, { up := true })] }; (3) ≤ 3 ∧ (s.prt (3)).up = true) ∧
  (let s : State := { run with ports.port := [(3, { rxPauseEnd := some 0 })] }; (3) ≤ 3 ∧ (s.prt (3)).rxPauseEnd =
    some (0) ∧ (0) ≤ s.up) ∧
  (let s : State :=
    { run with ports.port := [(3, { ownPauseSince := some 0, marks := (0, 0), pause := { PauseCfg.dflt with generate := true } })], up := 1000000000000 };
    3 ≤ 3 ∧ (s.prt 3).pause.generate = true ∧ (s.prt 3).ownPauseSince.isSome = true ∧ (s.prt 3).marks.2 ≤ s.occupancy
    3 ∧ (s.prt 3).pauseDue = none ∧ (s.prt 3).lastPauseAt + (s.prt 3).pause.pq / 2 * quantumPs (s.prt 3).cfg.mode /
    100 ≤ s.up) ∧
  (let s : State := { run with ports.port := [(3, { rxPauseEnd := some 0 })], up := 1000000001 }; (3) ≤ 3 ∧ (s.prt
    (3)).rxPauseEnd.isSome = true ∧ (s.prt (3)).rxpTripped = false ∧ (s.prt (3)).rxPauseSince + (s.prt
    (3)).pause.rxpWdMs * 10000000 < s.up) ∧
  (let s : State := { run with ports.port := [(3, { rxpTripped := true })], up := 10000000000 }; (3) ≤ 3 ∧ (s.prt
    (3)).rxpTripped = true ∧ (s.prt (3)).lastRxPauseAt + (s.prt (3)).pause.rearmMs * 10000000 ≤ s.up) ∧
  (let s : State := { run with ports.port := [(3, { ownPauseSince := some 0 })], up := 5000000001 }; (3) ≤ 3 ∧ (s.prt
    (3)).ownPauseSince = some (0) ∧ (0) + (s.prt (3)).pause.txpWdMs * 10000000 < s.up) ∧
  (let s : State :=
    { run with ports.port := [(3, { up := true, lpiMode := 1, cfg := { PortModeCfg.dflt with mode := 2 } })], up := 1000000 };
    3 ≤ 3 ∧ (s.prt 3).up = true ∧ (s.prt 3).lpiMode = 1 ∧ (lpiTimes (s.prt 3).cfg.mode (s.prt 3).cfg.fec).isSome =
    true ∧ (s.prt 3).txAsleep = false ∧ (s.prt 3).wakeEnd = none ∧ s.pathIdle 3 = true ∧ (s.prt 3).classes = [] ∧
    (s.prt 3).idleSince + (s.prt 3).idleNs * 10 ≤ s.up) ∧
  (let s : State :=
    { run with ports.port := [(3, { up := true, lpiMode := 2, cfg := { PortModeCfg.dflt with mode := 2 } })], gates.port := [(3, { list := .running, done := 1, bank0 := bank2e })], tb.cycleC := 1000000, tb.cycleValid := true };
    3 ≤ 3 ∧ (s.prt 3).up = true ∧ (s.prt 3).lpiMode = 2 ∧ (s.gate 3).list = .running ∧ (s.prt 3).txAsleep = false ∧
    (s.prt 3).wakeEnd = none ∧ s.pathIdle 3 = true ∧ (∀ k < 8, (s.gate 3).gates.getLsbD k = true → (s.prt 3).head k =
    none) ∧ lpiTimes (s.prt 3).cfg.mode (s.prt 3).cfg.fec = some (20000, 16500) ∧ s.gateTimeline 3 = (((300000, ⟨0,
    100⟩) : Nat × GateEntry)) :: (((s.gateTimeline 3).drop 1)) ∧ s.now + 20000 + 16500 + 2000 ≤ (((300000, ⟨0, 100⟩) :
    Nat × GateEntry)).1) ∧
  (let s : State :=
    { run with ports.port := [(3, { up := true, txAsleep := true, pauseDue := some 1, lpiMode := 1, cfg := { PortModeCfg.dflt with mode := 2 } })] };
    (3) ≤ 3 ∧ (s.prt (3)).up = true ∧ (s.prt (3)).txAsleep = true ∧ s.wantsWake (3) = true ∧ (s.prt (3)).cfg.mode = 2
    ∧ (s.prt (3)).lpiMode = 1) ∧
  (let s : State := { run with ports.port := [(3, { up := true, wakeEnd := some 0 })] }; 3 ≤ 3 ∧ (s.prt 3).up = true ∧
    (s.prt 3).txAsleep = false ∧ (s.prt 3).wakeEnd = some 0 ∧ 0 ≤ s.up ∧ (s.gate 3).respondDue = false) ∧
  (let s : State := { run with ports.port := [(3, { up := true })] }; (3) ≤ 3 ∧ (s.prt (3)).up = true ∧ (s.prt
    (3)).rxLpi = false) ∧
  (let s : State := { run with ports.port := [(3, { up := true })] }; 3 ≤ 3 ∧ (s.prt 3).up = true) :=
  ⟨⟨by decide, rfl⟩,
   ⟨by decide, rfl, by decide⟩,
   ⟨by decide, rfl, rfl, by decide, rfl, by decide⟩,
   ⟨by decide, rfl, rfl, by decide⟩,
   ⟨by decide, rfl, by decide⟩,
   ⟨by decide, rfl, by decide⟩,
   ⟨by decide, rfl, by decide +kernel, rfl, rfl, rfl, rfl, rfl, by decide⟩,
   ⟨by decide, rfl, rfl, rfl, rfl, rfl, rfl, by decide, rfl, rfl, by decide⟩,
   ⟨by decide, rfl, rfl, rfl, rfl, rfl⟩,
   ⟨by decide, rfl, rfl, rfl, by decide, rfl⟩,
   ⟨by decide, rfl, rfl⟩,
   ⟨by decide, rfl⟩⟩
theorem witness_GateCommandsTakeEffect :
  ((3) ≤ 3 ∧ Waits (ask 0x0802 0) 1 0x0802 (cmd 0x0802 0) ∧ GateCfg.offends (GateCfg.dflt) = none) ∧
  (let s : State := { (ask 0x0803 0) with gates.port := [(3, { pend := some (0, true) })] }; 3 ≤ 3 ∧ Waits s 1 0x0803
    (cmd 0x0803) ∧ ([⟨0, 100⟩] : List GateEntry).length ≤ 480 ∧ 1023 + ([⟨0, 100⟩] : List GateEntry).length ≤ 1024 ∧
    (∀ q ∈ (s.gate 3).pend, q.2 = true)) ∧
  (let s : State := { (ask 0x0805 0) with gates.port := [(3, { bank1 := bank1e })], tb.cycleC := 1000000 }; 3 ≤ 3 ∧
    Waits s 1 0x0805 (cmd 0x0805) ∧ s.tb.stepped = true ∧ s.changeOk (s.arrivalOf 1) 1000000 = true ∧ (s.gate
    3).admin.broken (s.cycleAt 1000000).2 (s.gate 3).cfg.guardSafe = none ∧ s.axaroVerdict 2 (gateContent 3 (s.gate
    3).admin) (none : Option AxaroBlock) = .good) ∧
  (let s : State := { (ask 0x0806 0) with gates.port := [(3, { pend := some (100000, false) })] }; (3) ≤ 3 ∧ Waits s 1
    0x0806 (cmd 0x0806 0) ∧ (s.gate (3)).pend = some ((100000), false) ∧ (s.now : Int) + 100000 ≤ ((100000) : Int) +
    s.tb.shiftS) ∧
  (let s : State := { (ask 0x0807 0) with tb.cycleC := 1000000 }; 3 ≤ 3 ∧ Waits s 1 0x0807 (cmd 0x0807) ∧ s.tb.stepped
    = true ∧ s.changeOk (s.arrivalOf 1) 1000000 = true) :=
  ⟨⟨by decide, rfl, rfl⟩,
   ⟨by decide, rfl, by decide, by decide, by decide⟩,
   ⟨by decide, rfl, rfl, by decide +kernel, rfl, rfl⟩,
   ⟨by decide, rfl, rfl, by decide⟩,
   ⟨by decide, rfl, rfl, by decide +kernel⟩⟩
theorem witness_CommitLeavesOperList :
  ((ask 0x0805 0).tidy ∧ Waits (ask 0x0805 0) 1 0x0805 (cmd 0x0805 0)) ∧
  (let s : State := { (ask 0x0806 0) with gates.port := [(3, { pend := some (99999, false) })] }; s.tidy ∧ Waits s 1
    0x0806 (cmd 0x0806 0) ∧ (3) ≤ 3 ∧ (s.gate (3)).pend = some ((99999), false) ∧ ((99999) : Int) + s.tb.shiftS <
    (s.now : Int) + 100000) :=
  ⟨⟨⟨rfl, rfl, rfl, rfl, rfl⟩, rfl⟩,
   ⟨⟨rfl, rfl, rfl, rfl, rfl⟩, rfl, by decide, rfl, by decide⟩⟩
theorem witness_ReanchorCancelsCommits :
  (let s : State := ask 0x0203 0; Waits s 1 0x0203 (cmd 0x0203) ∧ s.tb.stepped = true ∧ s.tb.load = none ∧
    s.tb.reanchorTag = none) :=
  ⟨rfl, rfl, rfl, rfl⟩
theorem witness_StreamCommandsAndTimers :
  (Waits (ask 0x0902 0) 1 0x0902 (cmd 0x0902 0) ∧ (ask 0x0902 0).inControl = true ∧ 1 ≤ ([streamDefault]).length ∧
    ([streamDefault]).length ≤ 16 ∧ (1023) + ([streamDefault]).length ≤ 1024 ∧ (∀ e ∈ ([streamDefault]), (ask 0x0902
    0).entryOffends e = none)) ∧
  (Waits (ask 0x0904 0) 1 0x0904 (cmd 0x0904 0) ∧ 1 ≤ 1 ∧ 1 ≤ 16 ∧ 0 + 1 ≤ 1024) ∧
  (Waits (ask 0x0905 0) 1 0x0905 (cmd 0x0905 0) ∧ 0 + 1 ≤ 1024) ∧
  (let s : State := ask 0x0906 0; Waits s 1 0x0906 (cmd 0x0906) ∧ s.inControl = true ∧ 1 ≤ 255 ∧ 255 ≤ 255 ∧
    s.coverUsed 255 = false ∧ (mapGet Cover.dflt s.streams.covers 255).enable = false ∧ 1 < 100000001 ∧ 100000001 ≤ 1
    + 100000000 ∧ s.arrivalOf 1 < 100000001 ∧ s.now < 1) ∧
  (let s : State := { (ask 0x0906 0) with tb.counter := BitVec.ofNat 96 (5 * 2 ^ 32) }; Waits s 1 0x0906 (cmd 0x0906)
    ∧ s.inControl = true ∧ 1 ≤ 255 ∧ 255 ≤ 255 ∧ s.coverUsed 255 = false ∧ (mapGet Cover.dflt s.streams.covers
    255).enable = false ∧ 5 < 6 ∧ 6 ≤ 5 + 100000000 ∧ s.arrivalOf 1 < 6 ∧ 5 ≤ s.now) ∧
  (let s : State := { (ask 0x0906 0) with streams.covers := [(1, { enable := true })] }; Waits s 1 0x0906 (cmd 0x0906)
    ∧ s.inControl = true ∧ 1 ≤ 1 ∧ 1 ≤ 255 ∧ s.coverUsed 1 = false ∧ (mapGet Cover.dflt s.streams.covers 1).enable =
    true) ∧
  (Waits (ask 0x0908 0) 1 0x0908 (cmd 0x0908 0) ∧ 0 + 1 ≤ 1024) ∧
  (let s : State := { run with streams.table := [(1023, strm)], up := 10000064 }; (s.stream 1023).timer = some 0 ∧
    (s.stream 1023).valid = true ∧ (s.stream 1023).rcvyEn = true ∧ 0 + (s.stream 1023).resetMs * 10000000 + 64 ≤ s.up
    ∧ s.coverOpen (s.stream 1023) s.now = false) ∧
  (let s : State := { run with streams.table := [(0, strm)], up := 20000000000 }; (s.stream (0)).valid = true ∧
    (s.stream (0)).ledPaths ≠ 0 ∧ (s.stream (0)).ledStart + (s.stream (0)).ledPeriod * 10000000 ≤ s.up ∧ (s.stream
    (0)).ledSpoilt = false ∧ s.coverOverlaps (s.stream (0)) = false ∧ (s.stream (0)).ledDiscarded + (s.stream
    (0)).ledDiff < (s.stream (0)).ledPassed * ((s.stream (0)).ledPaths - 1)) ∧
  (let s : State := { run with streams.covers := [(255, { enable := true, state := .pending })] }; mapGet Cover.dflt
    s.streams.covers (255) = (({ enable := true, state := .pending } : Cover)) ∧
    (({ enable := true, state := .pending } : Cover)).enable = true ∧ (({ enable := true, state := .pending } :
    Cover)).state = .pending ∧ (({ enable := true, state := .pending } : Cover)).wStart ≤ s.now) ∧
  (let s : State := { run with streams.covers := [(255, { enable := true, state := .pending })] }; mapGet Cover.dflt
    s.streams.covers 255 = ({ enable := true, state := .pending } : Cover) ∧ ({ enable := true, state := .pending } :
    Cover).enable = true ∧ (({ enable := true, state := .pending } : Cover).state = .opened ∨
    ({ enable := true, state := .pending } : Cover).state = .pending) ∧ ({ enable := true, state := .pending } :
    Cover).wEnd ≤ s.now) :=
  ⟨⟨rfl, rfl, by decide, by decide, by decide, by decide⟩,
   ⟨rfl, by decide, by decide, by decide⟩,
   ⟨rfl, by decide⟩,
   ⟨rfl, rfl, by decide, by decide, rfl, rfl, by decide, by decide, by decide, by decide⟩,
   ⟨rfl, rfl, by decide, by decide, rfl, rfl, by decide, by decide, by decide +kernel, by decide +kernel⟩,
   ⟨rfl, rfl, by decide, by decide, rfl, rfl⟩,
   ⟨rfl, by decide⟩,
   ⟨rfl, rfl, rfl, by decide, rfl⟩,
   ⟨rfl, by decide, by decide, rfl, rfl, by decide⟩,
   ⟨rfl, rfl, rfl, by decide⟩,
   ⟨rfl, rfl, .inr rfl, by decide⟩⟩
theorem witness_ThresherInstructions :
  (let s : State := onThread (0x04000000#32) (thr); Runs s 31 0x01 (thr) (0x04000000#32) octets60) ∧
  (let s : State := onThread (0x08000000#32) (thr); Runs s 31 0x02 (thr) (0x08000000#32) octets60) ∧
  (let s : State := onThread (0x0C000000#32) (thr); Runs s 31 0x03 (thr) (0x0C000000#32) octets60) ∧
  (let s : State := onThread (0x10000000#32) (thr); Runs s 31 0x04 (thr) (0x10000000#32) octets60) ∧
  (let s : State := onThread (0x14000000#32) (thr); Runs s 31 0x05 (thr) (0x14000000#32) octets60) ∧
  (let s : State := onThread (0x18000000#32) (thr); Runs s 31 0x06 (thr) (0x18000000#32) octets60) ∧
  (let s : State := onThread (0x1C000000#32) (thr); Runs s 31 0x07 (thr) (0x1C000000#32) octets60) ∧
  (let s : State := onThread (0x20000000#32) (thr); Runs s 31 0x08 (thr) (0x20000000#32) octets60) ∧
  (let s : State := onThread (0x40000000#32) (({ thr with cur := 255 } : Thread)); Runs s 31 0x10
    (({ thr with cur := 255 } : Thread)) (0x40000000#32) octets60 ∧ ((({ thr with cur := 255 } : Thread)).cur + fld
    (0x40000000#32) 15 8) + 1 ≤ 256) ∧
  (let s : State := onThread (0x40000000#32) (({ thr with cur := 256 } : Thread)); Runs s 31 0x10
    (({ thr with cur := 256 } : Thread)) (0x40000000#32) octets60 ∧ 256 < ((({ thr with cur := 256 } : Thread)).cur +
    fld (0x40000000#32) 15 8) + 1) ∧
  (let s : State := onThread (0x44000000#32) (({ thr with cur := 254 } : Thread)); Runs s 31 0x11
    (({ thr with cur := 254 } : Thread)) (0x44000000#32) octets60 ∧ ((({ thr with cur := 254 } : Thread)).cur + fld
    (0x44000000#32) 15 8) + 2 ≤ 256) ∧
  (let s : State := onThread (0x48000000#32) (thr); Runs s 31 0x12 (thr) (0x48000000#32) octets60) ∧
  (let s : State := onThread (0x60000000#32) (({ thr with cur := 255 } : Thread)); Runs s 31 0x18
    (({ thr with cur := 255 } : Thread)) (0x60000000#32) octets60 ∧ ((({ thr with cur := 255 } : Thread)).cur + fld
    (0x60000000#32) 15 8) + (fld (0x60000000#32) 19 16 + 1) ≤ 256) ∧
  (let s : State := onThread (0x64000000#32) (thr); Runs s 31 0x19 (thr) (0x64000000#32) octets60) ∧
  (let s : State := onThread (0x80000000#32) (thr); Runs s 31 0x20 (thr) (0x80000000#32) octets60) ∧
  (let s : State := onThread (0xA0000000#32) (thr); Runs s 31 0x28 (thr) (0xA0000000#32) octets60 ∧ (thr).hdr octets60
    (0xA0000000#32) = (((thr.hdr octets60 0xA0000000#32).1), none)) ∧
  (let s : State := onThread (0xC0000000#32) (thr); Runs s 31 0x30 (thr) (0xC0000000#32) octets60) ∧
  (let s : State := onThread (0xC4000000#32) (thr); Runs s 31 0x31 (thr) (0xC4000000#32) octets60 ∧ bit
    (0xC4000000#32) 0 = false) ∧
  (let s : State := onThread (0xC4000001#32) (thr); Runs s 31 0x31 (thr) (0xC4000001#32) octets60 ∧ bit
    (0xC4000001#32) 0 = true) ∧
  (let s : State := onThread (0xC8000000#32) (({ thr with cur := 255 } : Thread)); Runs s 31 0x32
    (({ thr with cur := 255 } : Thread)) (0xC8000000#32) octets60 ∧ (({ thr with cur := 255 } : Thread)).cur < 256 ∧
    (({ thr with cur := 255 } : Thread)).pmDone = false) ∧
  (let s : State := onThread (0xCC000000#32) (thr); Runs s 31 0x33 (thr) (0xCC000000#32) octets60 ∧ (thr).pass2 =
    false) ∧
  (let s : State := onThread (0xCC000000#32) (({ thr with pass2 := true } : Thread)); Runs s 31 0x33
    (({ thr with pass2 := true } : Thread)) (0xCC000000#32) octets60 ∧ (({ thr with pass2 := true } : Thread)).pass2 =
    true) ∧
  (let s : State := onThread (0x00000000#32) (thr); Runs s 31 0x00 (thr) (0x00000000#32) octets60) ∧
  (let s : State := onThread 0 { thr with pmWait := some (0, 0) }; mapGet none s.rules.threads (31) = some
    (({ thr with pmWait := some (0, 0) } : Thread)) ∧ (({ thr with pmWait := some (0, 0) } : Thread)).pmWait = some
    ((0), (0)) ∧ s.pkt? (({ thr with pmWait := some (0, 0) } : Thread)).port (({ thr with pmWait := some (0, 0) } :
    Thread)).pkt = some (pkt7)) :=
  ⟨⟨rfl, rfl, rfl, rfl, by decide, _, rfl, rfl⟩,
   ⟨rfl, rfl, rfl, rfl, by decide, _, rfl, rfl⟩,
   ⟨rfl, rfl, rfl, rfl, by decide, _, rfl, rfl⟩,
   ⟨rfl, rfl, rfl, rfl, by decide, _, rfl, rfl⟩,
   ⟨rfl, rfl, rfl, rfl, by decide, _, rfl, rfl⟩,
   ⟨rfl, rfl, rfl, rfl, by decide, _, rfl, rfl⟩,
   ⟨rfl, rfl, rfl, rfl, by decide, _, rfl, rfl⟩,
   ⟨rfl, rfl, rfl, rfl, by decide, _, rfl, rfl⟩,
   ⟨⟨rfl, rfl, rfl, rfl, by decide, _, rfl, rfl⟩, by decide⟩,
   ⟨⟨rfl, rfl, rfl, rfl, by decide, _, rfl, rfl⟩, by decide⟩,
   ⟨⟨rfl, rfl, rfl, rfl, by decide, _, rfl, rfl⟩, by decide⟩,
   ⟨rfl, rfl, rfl, rfl, by decide, _, rfl, rfl⟩,
   ⟨⟨rfl, rfl, rfl, rfl, by decide, _, rfl, rfl⟩, by decide⟩,
   ⟨rfl, rfl, rfl, rfl, by decide, _, rfl, rfl⟩,
   ⟨rfl, rfl, rfl, rfl, by decide, _, rfl, rfl⟩,
   ⟨⟨rfl, rfl, rfl, rfl, by decide, _, rfl, rfl⟩, rfl⟩,
   ⟨rfl, rfl, rfl, rfl, by decide, _, rfl, rfl⟩,
   ⟨⟨rfl, rfl, rfl, rfl, by decide, _, rfl, rfl⟩, rfl⟩,
   ⟨⟨rfl, rfl, rfl, rfl, by decide, _, rfl, rfl⟩, rfl⟩,
   ⟨⟨rfl, rfl, rfl, rfl, by decide, _, rfl, rfl⟩, by decide, rfl⟩,
   ⟨⟨rfl, rfl, rfl, rfl, by decide, _, rfl, rfl⟩, rfl⟩,
   ⟨⟨rfl, rfl, rfl, rfl, by decide, _, rfl, rfl⟩, rfl⟩,
   ⟨rfl, rfl, rfl, rfl, by decide, _, rfl, rfl⟩,
   ⟨rfl, rfl, rfl⟩⟩
theorem witness_BudgetEndsThePass :
  (let s : State := onThread 0x08000000#32 { thr with executed := 512 }; s.tidy ∧ mapGet none s.rules.threads (31) =
    some (({ thr with executed := 512 } : Thread)) ∧ (({ thr with executed := 512 } : Thread)).pmWait = none ∧ mapGet
    0 (s.rules.store (({ thr with executed := 512 } : Thread)).gen).program (({ thr with executed := 512 } :
    Thread)).pc = (0x08000000#32) ∧ s.pkt? (({ thr with executed := 512 } : Thread)).port
    (({ thr with executed := 512 } : Thread)).pkt = some (pkt7) ∧ 512 ≤ (({ thr with executed := 512 } :
    Thread)).executed ∧ opOf (0x08000000#32) = 0x02) :=
  ⟨⟨rfl, rfl, rfl, rfl, rfl⟩, rfl, rfl, rfl, rfl, by decide, rfl⟩
theorem witness_ThreadNeverAltersFrame :
  (let s : State := onThread 0x08000000#32 thr; (Instr.thAdd 31) ∈ [Instr.thDone (31), .thMov (31), .thAdd (31),
    .thSub (31), .thAnd (31), .thOr (31), .thShl (31), .thShr (31), .thCmp (31), .thLdb (31), .thLdh (31), .thLdm
    (31), .thKld (31), .thKmov (31), .thBr (31), .thHdr (31), .thProf (31), .thMark (31), .thPm (31), .thRecirc (31),
    .pmResult (31)] ∧ s.tidy ∧ exec (Instr.thAdd 31) s = .next (after (Instr.thAdd 31) s) ∧ s.pkt? (0) (7) = some
    (pkt7)) :=
  ⟨by decide, ⟨rfl, rfl, rfl, rfl, rfl⟩, rfl, rfl⟩
theorem witness_ThresherEvents :
  (let s : State := { run with rules.recirc := [thr], rules.swap := .scheduled 0 }; s.swapDue = s.swapDue ∧ 31 < 32 ∧
    mapGet none s.swapDue.rules.threads 31 = none ∧ s.swapDue.rules.recirc = thr :: []) ∧
  (let s : State := { run with rules.flight := [(0, [{ pkt7 with stage := .waiting }])] }; s.swapDue = s.swapDue ∧ 31
    < 32 ∧ mapGet none s.swapDue.rules.threads 31 = none ∧ s.swapDue.rules.recirc = [] ∧ s.swapDue.nextPort = some (0,
    ({ pkt7 with stage := .waiting } : Pkt))) ∧
  (let s : State := { run with rules.flight := [(0, [{ pkt7 with stage := .classified, verdict := some vdt }])] };
    mapGet [] s.rules.flight 0 = ({ pkt7 with stage := .classified, verdict := some vdt } : Pkt) :: [] ∧
    ({ pkt7 with stage := .classified, verdict := some vdt } : Pkt).verdict = some vdt ∧ vdt.action.getD 0 0 =
    (vdt.action.getD 0 0) ∧ bit (vdt.action.getD 0 0) 7 = false ∧ fld (vdt.action.getD 0 0) 6 4 = 0 ∧ bit
    (vdt.action.getD 0 0) 3 = false ∧ vdt.source ≠ .fault) ∧
  (let s : State := { run with rules.swap := .scheduled 0 }; s.rules.swap = .scheduled (0) ∧ (0) ≤ s.now) ∧
  (let s : State := { run with rules.swap := .draining 0 }; s.rules.swap = .draining (0) ∧ s.latched
    (!s.rules.active1) = false) :=
  ⟨⟨rfl, by decide, rfl, rfl⟩,
   ⟨rfl, by decide, rfl, rfl, rfl⟩,
   ⟨rfl, rfl, rfl, rfl, rfl, rfl, by decide⟩,
   ⟨rfl, by decide⟩,
   ⟨rfl, rfl⟩⟩
theorem witness_RuleCommandsTakeEffect :
  ((ask 0x0A02 0).swapBusy = false ∧ Waits (ask 0x0A02 0) 1 0x0A02 (cmd 0x0A02 0) ∧ ([0x04000000#32] : List
    Word).length ≤ 960 ∧ (4095) + ([0x04000000#32] : List Word).length ≤ 4096 ∧ (∀ w ∈ ([0x04000000#32] : List Word),
    wordOk w = true)) ∧
  ((ask 0x0A03 0).swapBusy = false ∧ Waits (ask 0x0A03 0) 1 0x0A03 (cmd 0x0A03 0) ∧ ProfileCfg.ok (⟨[], [], [], none,
    none⟩ : ProfileCfg) = true) ∧
  ((ask 0x0A04 0).swapBusy = false ∧ Waits (ask 0x0A04 0) 1 0x0A04 (cmd 0x0A04 0) ∧ 1 ≤ ([List.replicate 64 0] : List
    (List Byte)).length ∧ ([List.replicate 64 0] : List (List Byte)).length ≤ 32 ∧ (∀ r ∈ ([List.replicate 64 0] :
    List (List Byte)), hashedOk r = true) ∧ addAll 0 ((ask 0x0A04 0).rules.store (!(ask 0x0A04
    0).rules.active1)).hashed ([List.replicate 64 0] : List (List Byte)) = .inr (match addAll 0 [] [List.replicate 64
    0] with | .inr m => m | _ => [])) ∧
  ((ask 0x0A05 0).swapBusy = false ∧ Waits (ask 0x0A05 0) 1 0x0A05 (cmd 0x0A05 0) ∧ 1 ≤ ([(0#6, 0#8, 0#320)] : List
    (BitVec 6 × Byte × BitVec 320)).length ∧ ([(0#6, 0#8, 0#320)] : List (BitVec 6 × Byte × BitVec 320)).length ≤ 32)
    ∧
  ((ask 0x0A06 0).swapBusy = false ∧ Waits (ask 0x0A06 0) 1 0x0A06 (cmd 0x0A06 0) ∧ 1 ≤ ([List.replicate 128 0] : List
    (List Byte)).length ∧ ([List.replicate 128 0] : List (List Byte)).length ≤ 16 ∧ (2047) + ([List.replicate 128 0] :
    List (List Byte)).length ≤ 2048 ∧ (∀ r ∈ ([List.replicate 128 0] : List (List Byte)), ternaryOffends r = none)) ∧
  ((ask 0x0A07 0).swapBusy = false ∧ Waits (ask 0x0A07 0) 1 0x0A07 (cmd 0x0A07 0) ∧ 1 ≤ ([1 :: List.replicate 71 0] :
    List (List Byte)).length ∧ ([1 :: List.replicate 71 0] : List (List Byte)).length ≤ 32 ∧ (4095) + ([1 ::
    List.replicate 71 0] : List (List Byte)).length ≤ 4096 ∧ (∀ r ∈ ([1 :: List.replicate 71 0] : List (List Byte)),
    patternOffends r = none)) ∧
  ((ask 0x0A08 0).swapBusy = false ∧ Asks (ask 0x0A08 0) 1 0x0A08 (cmd 0x0A08 0)) ∧
  ((ask 0x0A09 0).swapBusy = false ∧ Waits (ask 0x0A09 0) 1 0x0A09 (cmd 0x0A09 0)) ∧
  ((ask 0x0A09 0).swapBusy = false ∧ Waits (ask 0x0A09 0) 1 0x0A09 (cmd 0x0A09 0) ∧ (1000000) ≠ 0 ∧ (ask 0x0A09
    0).tb.stepped = true ∧ (ask 0x0A09 0).arrivalOf 1 + 1000000 ≤ (1000000)) ∧
  ((ask 0x0A0D 0).swapBusy = false ∧ Waits (ask 0x0A0D 0) 1 0x0A0D (cmd 0x0A0D 0) ∧ (3) ≤ 3 ∧ MirrorDest.ok
    (MirrorDest.port 3 7) = true ∧ ((9216) = 0 ∨ 64 ≤ (9216) ∧ (9216) ≤ 9216)) ∧
  ((ask 0x0A0E 0).swapBusy = false ∧ Waits (ask 0x0A0E 0) 1 0x0A0E (cmd 0x0A0E 0) ∧ 100 ≤ 100 ∧ 100 ≤ 100000) ∧
  (let s : State := ask 0x0A0C 0; s.swapBusy = false ∧ Waits s 1 0x0A0C (cmd 0x0A0C) ∧ 240 ≤ 240 ∧ 3856 + 240 ≤ 4096)
    ∧
  (let s : State := { (ask 0x0A0A 0) with rules.swap := .scheduled 100001 }; s.rules.swap = .scheduled (100001) ∧ Asks
    s 1 0x0A0A (cmd 0x0A0A 0) ∧ s.now + 100000 < (100001)) ∧
  (let s : State := { (ask 0x0A0A 0) with rules.swap := .scheduled 100000 }; s.rules.swap = .scheduled (100000) ∧ Asks
    s 1 0x0A0A (cmd 0x0A0A 0) ∧ (100000) ≤ s.now + 100000) ∧
  (let s : State := { (ask 0x0A02 0) with rules.swap := .scheduled 100000 }; s.rules.swap = .scheduled (100000) ∧
    Waits s 1 0x0A02 (cmd 0x0A02 0)) ∧
  (let s : State := { (ask 0x0A04 0) with rules.swap := .scheduled 100000 }; s.rules.swap = .scheduled (100000) ∧
    Waits s 1 0x0A04 (cmd 0x0A04 0)) ∧
  (let s : State := { (ask 0x0A08 0) with rules.swap := .scheduled 100000 }; s.rules.swap = .scheduled (100000) ∧ Asks
    s 1 0x0A08 (cmd 0x0A08 0)) ∧
  (let s : State := { (ask 0x0A09 0) with rules.swap := .scheduled 100000 }; s.rules.swap = .scheduled (100000) ∧
    Waits s 1 0x0A09 (cmd 0x0A09 0)) :=
  ⟨⟨rfl, rfl, by decide, by decide, List.forall_mem_singleton.mpr (by decide)⟩,
   ⟨rfl, rfl, rfl⟩,
   ⟨rfl, rfl, by decide, by decide, by decide, rfl⟩,
   ⟨rfl, rfl, by decide, by decide⟩,
   ⟨rfl, rfl, by decide, by decide, by decide, by decide⟩,
   ⟨rfl, rfl, by decide, by decide, by decide, by decide⟩,
   ⟨rfl, ⟨rfl, rfl⟩⟩,
   ⟨rfl, rfl⟩,
   ⟨rfl, rfl, by decide, rfl, by decide⟩,
   ⟨rfl, rfl, by decide, rfl, by decide⟩,
   ⟨rfl, rfl, by decide, by decide⟩,
   ⟨rfl, rfl, by decide, by decide⟩,
   ⟨rfl, ⟨rfl, rfl⟩, by decide⟩,
   ⟨rfl, ⟨rfl, rfl⟩, by decide⟩,
   ⟨rfl, rfl⟩,
   ⟨rfl, rfl⟩,
   ⟨rfl, ⟨rfl, rfl⟩⟩,
   ⟨rfl, rfl⟩⟩
theorem witness_QueueAndFunctionEvents :
  (let s : State := { run with host.cq := [(0, { enable := true })] }; s.barOpen = true ∧ (⟨.fcq, 15⟩ : QId).ok = true
    ∧ (s.sub (⟨.fcq, 15⟩ : QId).key).state = .disabled ∧ s.configOk (⟨.fcq, 15⟩ : QId).kind (s.sub (⟨.fcq, 15⟩ :
    QId).key) = true) ∧
  (run.barOpen = true ∧ (⟨.fcq, 15⟩ : QId).ok = true ∧ (run.sub (⟨.fcq, 15⟩ : QId).key).state = .disabled ∧
    run.configOk (⟨.fcq, 15⟩ : QId).kind (run.sub (⟨.fcq, 15⟩ : QId).key) = false) ∧
  (let s : State := { run with host.subq := [(127, { state := .running })] }; s.barOpen = true ∧ (⟨.rx, 63⟩ : QId).ok
    = true ∧ (s.sub (⟨.rx, 63⟩ : QId).key).state ≠ .disabled) ∧
  (run.barOpen = true ∧ (⟨.tx, 63⟩ : QId).ok = true ∧ (run.sub (⟨.tx, 63⟩ : QId).key).state = .disabled) ∧
  (run.barOpen = true ∧ (⟨.tx, 63⟩ : QId).ok = true ∧ ((64#32) - (run.sub (⟨.tx, 63⟩ : QId).key).tail).toNat ≤
    (run.sub (⟨.tx, 63⟩ : QId).key).size ∧ ((64#32) - (run.sub (⟨.tx, 63⟩ : QId).key).head).toNat ≤ (run.sub (⟨.tx,
    63⟩ : QId).key).size) ∧
  (let s : State :=
    { run with host.subq := [(127, { shareDrop := 2, delayDrop := 1 })], cycle.shareDrops := [(127, 1)], cycle.delayDrops := [(127, 1)] };
    s.barOpen = true ∧ (⟨.rx, 63⟩ : QId).ok = true ∧ 63 < 64 ∧ min (s.sub (64 + 63)).shareDrop (mapGet 0
    s.cycle.shareDrops (64 + 63)) = 1 ∧ min (s.sub (64 + 63)).delayDrop (mapGet 0 s.cycle.delayDrops (64 + 63)) = 1) ∧
  (run.barOpen = true ∧ (⟨.rx, 63⟩ : QId).ok = true ∧ (63) < 64) ∧
  (run.barOpen = true ∧ (⟨.rx, 63⟩ : QId).ok = true ∧ (63) < 64 ∧ (run.cqn (63)).enable = false) ∧
  (let s : State := { run with host.cq := [(63, { tail := 1 })] }; s.barOpen = true ∧ (⟨.rx, 63⟩ : QId).ok = true ∧
    (63) < 64 ∧ ((1#32) - (s.cqn (63)).head).toNat ≤ ((s.cqn (63)).tail - (s.cqn (63)).head).toNat) ∧
  (let s : State := { run with host.vecs := [(127, { since := some 0 })] }; (127) < 128 ∧ (mapGet Vec.dflt s.host.vecs
    (127)).since.isSome = true ∧ (mapGet Vec.dflt s.host.vecs (127)).modTime ≤ s.elapsedUs (mapGet Vec.dflt
    s.host.vecs (127))) ∧
  (let s : State :=
    { run with host.vecs := [(127, { pending := true })], host.table := [(511, 1)], host.busMaster := true }; (127) <
    128 ∧ (mapGet Vec.dflt s.host.vecs (127)).pending = true ∧ s.masked (127) = false ∧ s.canMaster = true) ∧
  (let s : State := { run with host.d3hot := true }; s.host.d3hot = true) :=
  ⟨⟨rfl, rfl, rfl, rfl⟩,
   ⟨rfl, rfl, rfl, rfl⟩,
   ⟨rfl, rfl, by decide⟩,
   ⟨rfl, rfl, rfl⟩,
   ⟨rfl, rfl, by decide, by decide⟩,
   ⟨rfl, rfl, by decide, rfl, rfl⟩,
   ⟨rfl, rfl, by decide⟩,
   ⟨rfl, rfl, by decide, rfl⟩,
   ⟨rfl, rfl, by decide, by decide⟩,
   ⟨by decide, rfl, by decide⟩,
   ⟨by decide, rfl, rfl, rfl⟩,
   rfl⟩
theorem witness_InvalidTailStopsQueue :
  (run.tidy ∧ run.barOpen = true ∧ (⟨.tx, 63⟩ : QId).ok = true ∧ ((run.sub (⟨.tx, 63⟩ : QId).key).size < ((65#32) -
    (run.sub (⟨.tx, 63⟩ : QId).key).tail).toNat ∨ (run.sub (⟨.tx, 63⟩ : QId).key).size < ((65#32) - (run.sub (⟨.tx,
    63⟩ : QId).key).head).toNat) ∧ exec (.hqTailWrite (⟨.tx, 63⟩ : QId) (65#32)) run = .next (after (.hqTailWrite
    ⟨.tx, 63⟩ 65#32) run)) ∧
  (let s : State := { run with host.subq := [(63, { state := .running })] }; s.tidy ∧ s.barOpen = true ∧ (⟨.tx, 63⟩ :
    QId).ok = true ∧ ((s.sub (⟨.tx, 63⟩ : QId).key).size < ((65#32) - (s.sub (⟨.tx, 63⟩ : QId).key).tail).toNat ∨
    (s.sub (⟨.tx, 63⟩ : QId).key).size < ((65#32) - (s.sub (⟨.tx, 63⟩ : QId).key).head).toNat) ∧ exec (.hqTailWrite
    (⟨.tx, 63⟩ : QId) (65#32)) s = .next (after (.hqTailWrite ⟨.tx, 63⟩ 65#32)
    { run with host.subq := [(63, { state := .running })] }) ∧ (s.sub (⟨.tx, 63⟩ : QId).key).state = .running) :=
  ⟨⟨⟨rfl, rfl, rfl, rfl, rfl⟩, rfl, rfl, by decide, rfl⟩,
   ⟨⟨rfl, rfl, rfl, rfl, rfl⟩, rfl, rfl, by decide, rfl, rfl⟩⟩
theorem witness_QueueServiceEvents :
  ((⟨.tx, 0⟩ : QId).ok = true ∧ (⟨.tx, 0⟩ : QId).kind = .tx ∧ (∀ d ∈ ([List.replicate 32 0] : List Descriptor),
    d.length = 32) ∧ ([List.replicate 32 0] : List Descriptor).length ≤ ((txRun).sub (⟨.tx, 0⟩ : QId).key).published ∧
    (txRun).nextServed = some (((txRun.nextServed.getD (txRun, 0)).1), (⟨.tx, 0⟩ : QId).idx)) ∧
  (let s : State := { run with host.busMaster := true, host.subq := [(143, { state := .running, tail := 1 })] };
    (⟨.fcq, 15⟩ : QId).ok = true ∧ (⟨.fcq, 15⟩ : QId).kind = .fcq ∧ (List.replicate 32 0 : Descriptor).length = 32 ∧ 1
    ≤ (s.sub (⟨.fcq, 15⟩ : QId).key).published ∧ s.nextServed = some ((((s.nextServed.getD (s, 0)).1)), 64 + (⟨.fcq,
    15⟩ : QId).idx)) ∧
  ((⟨.tx, 63⟩ : QId).ok = true ∧ (⟨.tx, 63⟩ : QId).kind = .tx) ∧
  ((⟨.fcq, 15⟩ : QId).ok = true ∧ (⟨.fcq, 15⟩ : QId).kind = .fcq) ∧
  (let s : State := { run with host.subq := [(63, { state := .running, tail := 1 })] }; (⟨.tx, 63⟩ : QId).ok = true ∧
    (s.sub (⟨.tx, 63⟩ : QId).key).state = .running ∧ 0 < (s.sub (⟨.tx, 63⟩ : QId).key).published) ∧
  (let s : State :=
    { run with host.busMaster := true, host.subq := [(127, { state := .running, waiting := [{ rxw with firstFail := some 0 }] })], up := 1000000 };
    (63) < 64 ∧ (s.sub (64 + (63))).waiting = (({ rxw with firstFail := some 0 } : RxWait)) :: ([] : List RxWait) ∧
    (({ rxw with firstFail := some 0 } : RxWait)).firstFail = some (0) ∧ s.reserving (s.sub (64 + (63))) = true ∧
    (s.sub (64 + (63))).reservable = false ∧ (0) + min 10000 (s.sub (64 + (63))).dropDelay * 10000 ≤ s.up) ∧
  (let s : State :=
    { run with host.busMaster := true, host.subq := [(127, { state := .running, tail := 1, waiting := [rxw] })] };
    (63) < 64 ∧ (s.sub (64 + (63))).waiting = (rxw) :: ([] : List RxWait) ∧ s.reserving (s.sub (64 + (63))) = true ∧
    (s.sub (64 + (63))).slots.length < 64 ∧ ([List.replicate 24 0 ++ [0, 0, 0, 0, 0, 0, 0, 0]] : List
    Descriptor).length = (s.sub (64 + (63))).needs (rxw).len ∧ ([List.replicate 24 0 ++ [0, 0, 0, 0, 0, 0, 0, 0]] :
    List Descriptor).length ≤ (s.sub (64 + (63))).published ∧ (∀ d ∈ ([List.replicate 24 0 ++ [0, 0, 0, 0, 0, 0, 0,
    0]] : List Descriptor), d.length = 32) ∧ (∀ p ∈ ([List.replicate 24 0 ++ [0, 0, 0, 0, 0, 0, 0, 0]] : List
    Descriptor).zipIdx, rxEntryError (s.sub (64 + (63))).size ((s.sub (64 + (63))).fetch + BitVec.ofNat 32 p.2) p.1 =
    0)) ∧
  (let s : State := { run with host.subq := [(63, { state := .draining })] }; (⟨.tx, 63⟩ : QId).ok = true ∧ (s.sub
    (⟨.tx, 63⟩ : QId).key).state = .draining ∧ (s.sub (⟨.tx, 63⟩ : QId).key).requests = 0) ∧
  (let s : State :=
    { run with host.busMaster := true, host.cq := [(63, { enable := true })], host.subq := [(0, { cq := 63, slots := [{ firstIdx := 0, lastIdx := 0, ready := true }] })] };
    s.cqTakes (63) = true ∧ s.candidates (63) ≠ []) :=
  ⟨⟨rfl, rfl, by decide, by decide, rfl⟩,
   ⟨rfl, rfl, rfl, by decide, rfl⟩,
   ⟨rfl, rfl⟩,
   ⟨rfl, rfl⟩,
   ⟨rfl, rfl, by decide⟩,
   ⟨by decide, rfl, rfl, rfl, rfl, by decide⟩,
   ⟨by decide, rfl, rfl, by decide, rfl, by decide, by decide, by decide⟩,
   ⟨rfl, rfl, rfl⟩,
   ⟨rfl, by decide⟩⟩
theorem witness_BlockedVectorPends :
  (let s : State := { run with host.vecs := [(127, { since := some 0 })] }; s.tidy ∧ (127) < 128 ∧ (mapGet Vec.dflt
    s.host.vecs (127)).since.isSome = true ∧ (mapGet Vec.dflt s.host.vecs (127)).modTime ≤ s.elapsedUs (mapGet
    Vec.dflt s.host.vecs (127)) ∧ (s.canMaster = false ∨ s.masked (127) = true) ∧ exec (.moderationTimer (127)) s =
    .next (after (.moderationTimer 127) { run with host.vecs := [(127, { since := some 0 })] })) :=
  ⟨⟨rfl, rfl, rfl, rfl, rfl⟩, by decide, rfl, by decide, Or.inl rfl, rfl⟩
theorem witness_AnswersAndMailboxes :
  ((cmd 0x0101 0).orphan = false ∧ (ask 0x0101 0).il.inflight.contains (cmd 0x0101 0) = true ∧ (cmd 0x0101 0).rhost =
    false ∧ (cmd 0x0101 0).noint = true ∧ (ask 0x0101 0).il.resetAsked ≠ some (cmd 0x0101 0).tag ∧ (ask 0x0101
    0).power.sleepAsked ≠ some (cmd 0x0101 0).tag) ∧
  (let s : State := { run with il.mb := [(31, { state := .posted })] }; (31) < 32 ∧ bit (1#32) 0 = true ∧
    s.ident.fwReady = true ∧ (mapGet Mailbox.dflt s.il.mb (31)).state = .posted) ∧
  (let s : State := { run with il.bar2 := echo31, ident.il1 := true }; (31) < 32 ∧ bit (1#32) 0 = true ∧
    s.ident.fwReady = true ∧ (mapGet Mailbox.dflt s.il.mb (31)).state ≠ .posted ∧ (readHeader (31) (s.bodyHeader
    (31))).rhost = false ∧ s.postRefused (readHeader (31) (s.bodyHeader (31))) = none) ∧
  ((31) < 32 ∧ bit (2#32) 0 = false) ∧
  (let s : State := { run with il.mb := [(31, { state := .posted })] }; (31) < 32 ∧ (4092) < 4096 ∧ (4092) % 4 = 0 ∧
    (mapGet Mailbox.dflt s.il.mb (31)).state = .posted) ∧
  ((31) < 32 ∧ (4092) < 4096 ∧ (4092) % 4 = 0 ∧ (mapGet Mailbox.dflt run.il.mb (31)).state ≠ .posted) ∧
  ((31) < 32) ∧
  ((31) < 32 ∧ run.il.answers = []) ∧
  (let s : State := { run with il.answers := [⟨false, 3, 1⟩] }; (31) < 32 ∧ s.il.answers = (⟨false, 3, 1⟩ : AnswerRec)
    :: ([] : List AnswerRec)) ∧
  (let s : State := { run with il.held := [⟨cmd 0x0101 0, [], []⟩], host.busMaster := true }; (31) < 32 ∧ s.il.held =
    (⟨cmd 0x0101 0, [], []⟩ : HeldAnswer) :: ([] : List HeldAnswer) ∧ s.canMaster = true) ∧
  (31 < 32) ∧
  ((31) < 32 ∧ bit (1#32) 0 = true ∧ run.ident.fwReady = true ∧ (mapGet Mailbox.dflt run.il.mb (31)).state ≠ .posted ∧
    run.postRefused (readHeader (31) (run.bodyHeader (31))) = some (Reply.no .badHeader 7)) ∧
  (let s : State :=
    { run with il.inflight := (List.range 256).map fun i => { cmd 0x0101 0 with tag := BitVec.ofNat 16 i } }; (31) <
    32 ∧ bit (1#32) 0 = true ∧ s.ident.fwReady = true ∧ (mapGet Mailbox.dflt s.il.mb (31)).state ≠ .posted ∧ 256 ≤
    (s.il.inflight.filter fun d => !d.orphan).length) ∧
  (let s : State := { run with il.inflight := [{ cmd 0x0101 0 with tag := 0 }] }; (31) < 32 ∧ bit (1#32) 0 = true ∧
    s.ident.fwReady = true ∧ (mapGet Mailbox.dflt s.il.mb (31)).state ≠ .posted ∧ (s.il.inflight.filter fun d =>
    !d.orphan).length < 256 ∧ (∃ d ∈ s.il.inflight, d.orphan = false ∧ d.tag = (readHeader (31) (s.bodyHeader
    (31))).tag)) :=
  ⟨⟨rfl, rfl, rfl, rfl, by decide, by decide⟩,
   ⟨by decide, rfl, rfl, rfl⟩,
   ⟨by decide, rfl, rfl, by decide, rfl, rfl⟩,
   ⟨by decide, rfl⟩,
   ⟨by decide, by decide, rfl, rfl⟩,
   ⟨by decide, by decide, rfl, by decide⟩,
   by decide,
   ⟨by decide, rfl⟩,
   ⟨by decide, rfl⟩,
   ⟨by decide, rfl, rfl⟩,
   by decide,
   ⟨by decide, rfl, rfl, by decide, rfl⟩,
   ⟨by decide, rfl, rfl, by decide, by decide⟩,
   ⟨by decide, rfl, rfl, by decide, by decide, by decide⟩⟩
theorem witness_BodyWriteFrame :
  (mapWf 0 run.il.bar2 = true ∧ (31) < 32 ∧ (4092) < 4096 ∧ (4092) % 4 = 0 ∧ (mapGet Mailbox.dflt run.il.mb
    (31)).state ≠ .posted) :=
  ⟨rfl, by decide, by decide, rfl, by decide⟩
theorem witness_AnswersKeepTheOthers :
  ((cmd 0x0101 0) ∈ (ask 0x0101 0).il.inflight ∧ (cmd 0x0101 0) ≠ (cmd 0x0202 0)) ∧
  (let s : State := { run with il.inflight := [{ cmd 0x0206 0 with tag := 2 }, cmd 0x0202 12], tb.stepped := false };
    s.il.inflight = (({ cmd 0x0206 0 with tag := 2 } : InFlight)) :: (cmd 0x0202 12) :: ([] : List InFlight) ∧
    (({ cmd 0x0206 0 with tag := 2 } : InFlight)).answered = false ∧ (({ cmd 0x0206 0 with tag := 2 } :
    InFlight)).code = 0x0206 ∧ (cmd 0x0202 12).code = 0x0202 ∧ (cmd 0x0202 12).tag = 1 ∧
    (({ cmd 0x0206 0 with tag := 2 } : InFlight)).tag ≠ 1 ∧ s.tb.stepped = false ∧ (∀ x ∈ ([] : List InFlight), x.tag
    ≠ 1)) :=
  ⟨⟨by decide, by decide⟩,
   ⟨rfl, rfl, rfl, rfl, rfl, by decide, rfl, by decide⟩⟩
theorem witness_DeviceCommandsTakeEffect :
  (Asks (ask 0x0101 0) 1 0x0101 (cmd 0x0101 0)) ∧
  (Waits (ask 0x0102 0) 1 0x0102 (cmd 0x0102 0) ∧ 0 < allCodes.length) ∧
  (let s : State := ask 0x0103 0; Waits s 1 0x0103 (cmd 0x0103) ∧ 1024 ≤ 8388608 ∧ 8388608 ≤ 8388608 ∧ s.il.fw.busy =
    false ∧ s.unit.mode ≠ .boot ∧ s.unit.mode ≠ .factoryTest) ∧
  (let s : State := { (ask 0x0104 6) with il.fw := { phase := .receiving, open_ := true, size := 1024 } }; Waits s 1
    0x0104 (cmd 0x0104 6) ∧ (cmd 0x0104 6).len = 4 + ([1, 2] : List Byte).length ∧ s.il.fw.open_ = true ∧
    s.il.fw.phase ≠ .erasing ∧ 0 = s.il.fw.bytes.length ∧ 0 + ([1, 2] : List Byte).length ≤ s.il.fw.size) ∧
  (run.canMaster = false) ∧
  (let s : State :=
    { (ask 0x0104 0) with il.inflight := [{ cmd 0x0104 0 with gen := 2 }], host.busMaster := true, il.fw := { phase := .receiving, open_ := true, size := 1024 } };
    Waits s 1 0x0104 ({ cmd 0x0104 0 with gen := 2 }) ∧ s.isGen2 1 = true ∧ s.canMaster = true ∧ ([1, 2] : List
    Byte).length ≤ 1048576 ∧ s.il.fw.open_ = true ∧ s.il.fw.phase ≠ .erasing ∧ 0 = s.il.fw.bytes.length ∧ 0 + ([1, 2]
    : List Byte).length ≤ s.il.fw.size) ∧
  (let s : State := { (ask 0x0105 0) with il.fw := { phase := .receiving, open_ := true, size := 0 } }; Asks s 1
    0x0105 (cmd 0x0105 0) ∧ s.il.fw.open_ = true ∧ s.il.fw.size ≤ s.il.fw.bytes.length) ∧
  (let s : State := { (ask 0x0106 0) with il.fw := { phase := .receiving, open_ := true, size := 1024 } }; Asks s 1
    0x0106 (cmd 0x0106 0) ∧ s.il.fw.open_ = true) ∧
  (Asks (ask 0x0107 0) 1 0x0107 (cmd 0x0107 0)) ∧
  (Waits (ask 0x0108 0) 1 0x0108 (cmd 0x0108 0) ∧ ((ask 0x0108 0).inControl = false ∨ (true) = true)) ∧
  (Waits (ask 0x0108 0) 1 0x0108 (cmd 0x0108 0) ∧ 2 ≤ (6#8).toNat ∧ (6#8).toNat ≤ 6) ∧
  (Waits (ask 0x0108 0) 1 0x0108 (cmd 0x0108 0)) ∧
  (Waits (ask 0x0109 2) 1 0x0109 (cmd 0x0109 2) ∧ (cmd 0x0109 2).len = ([1, 2] : List Byte).length) ∧
  (let s : State := { run with il.fw := { phase := .erasing, open_ := true, size := 1024 } }; s.il.fw.phase =
    .erasing) :=
  ⟨⟨rfl, rfl⟩,
   ⟨rfl, by decide⟩,
   ⟨rfl, by decide, by decide, rfl, by decide, by decide⟩,
   ⟨rfl, rfl, rfl, by decide, rfl, by decide⟩,
   rfl,
   ⟨rfl, rfl, rfl, by decide, rfl, by decide, rfl, by decide⟩,
   ⟨⟨rfl, rfl⟩, rfl, by decide⟩,
   ⟨⟨rfl, rfl⟩, rfl⟩,
   ⟨rfl, rfl⟩,
   ⟨rfl, Or.inr rfl⟩,
   ⟨rfl, by decide, by decide⟩,
   rfl,
   ⟨rfl, rfl⟩,
   rfl⟩
theorem witness_HedgeAndUnitCommands :
  (Asks (ask 0x0B01 0) 1 0x0B01 (cmd 0x0B01 0)) ∧
  (Waits (ask 0x0B02 0) 1 0x0B02 (cmd 0x0B02 0) ∧ (ask 0x0B02 0).hedgeCfgOk
    ({ HedgeCfg.dflt with hUs := 1000, nm := 800, pw := 500 } : HedgeCfg) = true) ∧
  (Waits (ask 0x0B02 0) 1 0x0B02 (cmd 0x0B02 0) ∧ (ask 0x0B02 0).hedgeCfgOk ({ HedgeCfg.dflt with pw := 501 } :
    HedgeCfg) = false) ∧
  (Asks (ask 0x0B03 0) 1 0x0B03 (cmd 0x0B03 0)) ∧
  (Asks (ask 0x0B04 0) 1 0x0B04 (cmd 0x0B04 0) ∧ (ask 0x0B04 0).il.saving = none) ∧
  (let s : State := { (ask 0x0B05 0) with hedge.hstate := .active }; Waits s 1 0x0B05 (cmd 0x0B05 0) ∧ (s.inControl =
    false ∨ (true) = true) ∧ s.hedge.hstate ≠ .off) ∧
  (let s : State := { (ask 0x0B05 0) with hedge.hstate := .off }; Waits s 1 0x0B05 (cmd 0x0B05) ∧ (s.inControl = false
    ∨ true = true) ∧ s.hedge.hstate = .off) ∧
  (Waits (ask 0x0B05 0) 1 0x0B05 (cmd 0x0B05 0) ∧ (ask 0x0B05 0).inControl = true) ∧
  (Asks (ask 0x0B06 0) 1 0x0B06 (cmd 0x0B06 0)) ∧
  (Waits (ask 0x0B07 0) 1 0x0B07 (cmd 0x0B07 0) ∧ 0 ≤ 3) ∧
  (Waits (ask 0x0B08 0) 1 0x0B08 (cmd 0x0B08 0) ∧ 0 ≤ (ask 0x0B08 0).hedge.nextNotice) ∧
  (Asks (ask 0x0C01 0) 1 0x0C01 (cmd 0x0C01 0)) ∧
  (Waits (ask 0x0C02 0) 1 0x0C02 (cmd 0x0C02 0) ∧ (paired).partner ≤ 15 ∧ 1000 ≤ (paired).roleWaitMs ∧
    (paired).roleWaitMs ≤ 60000 ∧ 1000 ≤ (paired).holdoffMs ∧ (paired).holdoffMs ≤ 3600000 ∧ ((ask 0x0C02 0).inControl
    = false ∨ (true) = true)) ∧
  (Waits (ask 0x0C02 0) 1 0x0C02 (cmd 0x0C02 0) ∧ (paired).partner ≤ 15 ∧ 1000 ≤ (paired).roleWaitMs ∧
    (paired).roleWaitMs ≤ 60000 ∧ 1000 ≤ (paired).holdoffMs ∧ (paired).holdoffMs ≤ 3600000 ∧ (ask 0x0C02 0).inControl
    = true) ∧
  (let s : State := { (ask 0x0C03 0) with unit.partnerReady := true }; Asks s 1 0x0C03 (cmd 0x0C03 0) ∧ s.inControl =
    true ∧ s.unit.partnerReady = true ∧ s.unit.handbackAt = none) ∧
  (let s : State := { (ask 0x0C03 0) with unit.mode := .standby }; Asks s 1 0x0C03 (cmd 0x0C03 0) ∧ s.inControl =
    false) ∧
  (Waits (ask 0x0C04 0) 1 0x0C04 (cmd 0x0C04 0) ∧ (ask 0x0C04 0).inControl = true ∧ (ask 0x0C04 0).il.saving = none) ∧
  (let s : State := { (ask 0x0C05 0) with unit.mode := .standby }; Asks s 1 0x0C05 (cmd 0x0C05 0) ∧ s.inControl =
    false) ∧
  (Asks (ask 0x0C05 0) 1 0x0C05 (cmd 0x0C05 0) ∧ (ask 0x0C05 0).inControl = true) ∧
  (Asks (ask 0x0C06 0) 1 0x0C06 (cmd 0x0C06 0)) :=
  ⟨⟨rfl, rfl⟩,
   ⟨rfl, rfl⟩,
   ⟨rfl, rfl⟩,
   ⟨rfl, rfl⟩,
   ⟨⟨rfl, rfl⟩, rfl⟩,
   ⟨rfl, Or.inr rfl, by decide⟩,
   ⟨rfl, .inr rfl, rfl⟩,
   ⟨rfl, rfl⟩,
   ⟨rfl, rfl⟩,
   ⟨rfl, by decide⟩,
   ⟨rfl, by decide⟩,
   ⟨rfl, rfl⟩,
   ⟨rfl, by decide, by decide, by decide, by decide, by decide, Or.inr rfl⟩,
   ⟨rfl, by decide, by decide, by decide, by decide, by decide, rfl⟩,
   ⟨⟨rfl, rfl⟩, rfl, rfl, rfl⟩,
   ⟨⟨rfl, rfl⟩, rfl⟩,
   ⟨rfl, rfl, rfl⟩,
   ⟨⟨rfl, rfl⟩, rfl⟩,
   ⟨⟨rfl, rfl⟩, rfl⟩,
   ⟨rfl, rfl⟩⟩
theorem witness_HedgerowTraffic :
  (let s : State := { run with hedge.hstate := .coldstart }; (s.hedge.hstate = .coldstart ∨ s.hedge.hstate = .active)
    ∧ s.hedge.cfg.ownsSlot s.hedge.node 0 = true ∧ 0 < s.hedge.cfg.ns ∧ s.inSlot 0 = true ∧ s.hedge.hasSent 0 = false
    ∧ 0 = s.hedge.node) ∧
  (let s : State := { run with hedge.hstate := .active, tb.counter := BitVec.ofNat 96 (64000 * 2 ^ 32) };
    (s.hedge.hstate = .coldstart ∨ s.hedge.hstate = .active) ∧ s.hedge.cfg.ownsSlot s.hedge.node (16) = true ∧ (16) <
    s.hedge.cfg.ns ∧ s.inSlot (16) = true ∧ s.hedge.hasSent (16) = false ∧ (16) ≠ s.hedge.node ∧ s.hedge.commits = [])
    ∧
  (let s : State :=
    { run with hedge.hstate := .active, hedge.commits := [recE], tb.counter := BitVec.ofNat 96 (64000 * 2 ^ 32) };
    (s.hedge.hstate = .coldstart ∨ s.hedge.hstate = .active) ∧ s.hedge.cfg.ownsSlot s.hedge.node (16) = true ∧ (16) <
    s.hedge.cfg.ns ∧ s.inSlot (16) = true ∧ s.hedge.hasSent (16) = false ∧ (16) ≠ s.hedge.node ∧ s.hedge.commits ≠ [])
    ∧
  (let s : State := { run with hedge.hstate := .passive }; (s.hedge.hstate = .listen ∨ s.hedge.hstate = .integrating ∨
    s.hedge.hstate = .passive)) ∧
  (let s : State :=
    { run with hedge.hstate := .active, hedge.queue := [default], tb.counter := BitVec.ofNat 96 (128000 * 2 ^ 32) };
    s.hedge.hstate = .active ∧ s.inControl = true ∧ s.hedge.cfg.ownsFrame s.hedge.node 1 = true ∧ 1000 * ((4 *
    s.hedge.cfg.ns + 1 - 1 : Nat) : Int) ≤ s.inCycleNs ∧ s.inCycleNs < 1000 * ((4 * s.hedge.cfg.ns + 1 - 1 : Nat) :
    Int) + 1000 ∧ s.hedge.fitsMinislot false 1 1 ((s.hedge.octets 32 (.notice default))).length = true ∧
    s.hedge.fitsMinislot true 1 1 ((s.hedge.octets 32 (.notice default))).length = true ∧ (true || true) = true ∧
    s.hedge.hasSent (31 + 1) = false ∧ s.hedge.queue = (default : Notice) :: [] ∧ s.hedge.octets (31 + 1) (.notice
    (default : Notice)) = ((s.hedge.octets 32 (.notice default)))) ∧
  (let s : State :=
    { run with hedge.hstate := .active, hedge.sent := [({ frameId := 32, bytes := [1], onA := true, onB := false, readA := true, readB := false } : SentFrame)], tb.counter := BitVec.ofNat 96 (128000 * 2 ^ 32) };
    s.hedge.hstate = .active ∧ s.inControl = true ∧ s.hedge.cfg.ownsFrame s.hedge.node 1 = true ∧ 1000 * ((4 *
    s.hedge.cfg.ns + 1 - 1 : Nat) : Int) ≤ s.inCycleNs ∧ s.inCycleNs < 1000 * ((4 * s.hedge.cfg.ns + 1 - 1 : Nat) :
    Int) + 1000 ∧ s.hedge.fitsMinislot false 1 1 ([1] : List Byte).length = false ∧ s.hedge.fitsMinislot true 1 1 ([1]
    : List Byte).length = true ∧ (false || true) = true ∧ (s.hedge.sent.find? fun q_ => q_.frameId = 31 + 1) = some
    ({ frameId := 32, bytes := [1], onA := true, onB := false, readA := true, readB := false } : SentFrame) ∧
    ({ frameId := 32, bytes := [1], onA := true, onB := false, readA := true, readB := false } : SentFrame).bytes =
    ([1] : List Byte)) ∧
  (let s : State := { run with hedge.hstate := .passive }; (if true then s.hedge.cfg.chanB else s.hedge.cfg.chanA) =
    true ∧ (s.captureAt 0 : Int) * 16 / 2 ^ 32 = 0 ∧ s.placeOf true 0 0 = 0 ∧ s.hedge.awaits true 0 = false ∧
    (s.hedge.hstate = .active ∨ s.hedge.hstate = .passive)) ∧
  (let s : State := { run with hedge.hstate := .active }; (if true then s.hedge.cfg.chanB else s.hedge.cfg.chanA) =
    true ∧ (s.captureAt 0 : Int) * 16 / 2 ^ 32 = 0 ∧ s.placeOf true 0 0 = 0 ∧ s.hedge.awaits true 0 = false ∧ s.heldBy
    true 0 ([] : List Byte).length 0 = (s.heldBy true 0 0 0) ∧ s.hedge.hstate = .active ∧ s.hedge.frameFault true 0
    ([] : List Byte) = some 3) ∧
  (let s : State := { run with hedge.hstate := .active }; (if true then s.hedge.cfg.chanB else s.hedge.cfg.chanA) =
    true ∧ (s.captureAt 0 : Int) * 16 / 2 ^ 32 = 0 ∧ s.placeOf true 1 0 = 1 ∧ s.hedge.awaits true 1 = false ∧ s.heldBy
    true 1 (frameBytes false false 1 1 0 0 .null).length 0 = ((s.heldBy true 1 (frameBytes false false 1 1 0 0
    .null).length 0)) ∧ s.hedge.hstate = .active ∧ s.hedge.frameFault true 1 (frameBytes false false 1 1 0 0 .null) =
    none ∧ (readHead (frameBytes false false 1 1 0 0 .null)).sync = false ∧ 16 * (s.hedge.cfg.pw : Int) < mag
    (s.frameDelta 1 true 0)) ∧
  (let s : State := { run with hedge.hstate := .active, tb.counter := BitVec.ofNat 96 (4100 * 2 ^ 32) }; (if true then
    s.hedge.cfg.chanB else s.hedge.cfg.chanA) = true ∧ (s.captureAt 0 : Int) * 16 / 2 ^ 32 = 65600 ∧ s.placeOf true 1
    65600 = 1 ∧ s.hedge.awaits true 1 = false ∧ s.heldBy true 1 (frameBytes false false 1 1 0 0 .null).length 65600 =
    ((s.heldBy true 1 (frameBytes false false 1 1 0 0 .null).length 65600)) ∧ s.hedge.hstate = .active ∧
    s.hedge.frameFault true 1 (frameBytes false false 1 1 0 0 .null) = none ∧ (readHead (frameBytes false false 1 1 0
    0 .null)).sync = false ∧ mag (s.frameDelta 1 true 65600) ≤ 16 * (s.hedge.cfg.pw : Int)) ∧
  (let s : State := { run with hedge.hstate := .listen }; (if true then s.hedge.cfg.chanB else s.hedge.cfg.chanA) =
    true ∧ (s.captureAt 0 : Int) * 16 / 2 ^ 32 = 0 ∧ s.placeOf true 1 0 = 1 ∧ s.hedge.awaits true 1 = false ∧ s.heldBy
    true 1 ((frameBytes true false 1 1 0 0 (.heartbeat default))).length 0 = ((s.heldBy true 1 (frameBytes true false
    1 1 0 0 (.heartbeat default)).length 0)) ∧ s.hedge.hstate = .listen ∧ s.hedge.frameFault false 1 ((frameBytes true
    false 1 1 0 0 (.heartbeat default))) = none ∧ (readHead ((frameBytes true false 1 1 0 0 (.heartbeat
    default)))).sync = true ∧ readBody ((frameBytes true false 1 1 0 0 (.heartbeat default))) = .heartbeat default) ∧
  ((([] : List Byte).length ≠ 12 + (byteAt ([] : List Byte) 5).toNat ∨ 64 < (byteAt ([] : List Byte) 5).toNat)) ∧
  ((List.replicate 12 0 : List Byte).length = 12 + (byteAt (List.replicate 12 0 : List Byte) 5).toNat ∧ (byteAt
    (List.replicate 12 0 : List Byte) 5).toNat ≤ 64 ∧ (List.replicate 12 0 : List Byte).drop ((List.replicate 12 0 :
    List Byte).length - 4) ≠ leBytes (crc32c ((List.replicate 12 0 : List Byte).take ((List.replicate 12 0 : List
    Byte).length - 4)))) :=
  ⟨⟨Or.inl rfl, rfl, by decide, rfl, rfl, rfl⟩,
   ⟨Or.inr rfl, rfl, by decide, rfl, rfl, by decide, rfl⟩,
   ⟨Or.inr rfl, rfl, by decide, rfl, rfl, by decide, by decide⟩,
   by decide,
   ⟨rfl, rfl, rfl, by decide +kernel, by decide +kernel, by decide +kernel, by decide +kernel, rfl, rfl, rfl, rfl⟩,
   ⟨rfl, rfl, rfl, by decide +kernel, by decide +kernel, by decide +kernel, by decide +kernel, rfl, rfl, rfl⟩,
   ⟨rfl, rfl, rfl, rfl, .inr rfl⟩,
   ⟨rfl, rfl, rfl, rfl, rfl, rfl, rfl⟩,
   ⟨rfl, rfl, rfl, rfl, rfl, rfl, by decide +kernel, by decide +kernel, by decide +kernel⟩,
   ⟨rfl, by decide +kernel, rfl, rfl, rfl, rfl, by decide +kernel, by decide +kernel, by decide +kernel⟩,
   ⟨rfl, rfl, rfl, rfl, rfl, rfl, by decide +kernel, by decide +kernel, by decide +kernel⟩,
   .inl (by decide),
   ⟨rfl, by decide, by decide +kernel⟩⟩
theorem witness_HedgerowSynchronisation :
  (let s : State := { run with hedge.hstate := .listen, hedge.coldNode := true }; s.hedge.hstate = .listen ∧
    s.hedge.coldNode = true ∧ s.hedge.listenAt ≤ s.up) ∧
  (let s : State := { run with hedge.hstate := .active, tb.counter := BitVec.ofNat 96 (128000 * 2 ^ 32) };
    s.hedge.cycling = true ∧ s.hedge.midDone = false ∧ s.pastInCycle (4 * s.hedge.cfg.ns) = true ∧
    s.hedge.syncNodes.length + (if s.hedge.isSync then 1 else 0) ≤ 8) ∧
  (let s : State :=
    { run with hedge.hstate := .passive, hedge.midDone := true, tb.counter := BitVec.ofNat 96 (229000 * 2 ^ 32) };
    s.hedge.cycling = true ∧ s.hedge.midDone = true ∧ s.hedge.corrected = false ∧ s.pastInCycle (4 * s.hedge.cfg.ns +
    s.hedge.cfg.nm + 1) = true ∧ s.hedge.mid = none) ∧
  (let s : State :=
    { run with hedge.hstate := .active, hedge.mid := some 24000, hedge.midDone := true, tb.counter := BitVec.ofNat 96 (229000 * 2 ^ 32) };
    s.hedge.cycling = true ∧ s.hedge.midDone = true ∧ s.hedge.corrected = false ∧ s.pastInCycle (4 * s.hedge.cfg.ns +
    s.hedge.cfg.nm + 1) = true ∧ s.hedge.mid = some 24000 ∧ 24000 + s.thetaAt (s.hedge.start16 + 64000 *
    s.hedge.cfg.ns) = 24000 ∧
    { s with hedge.corrected := true, hedge.shift := s.nitShift, hedge.theta := -24000, hedge.thetaAt := s.now, hedge.eps := 24000 }
    =
    ({ s with hedge.corrected := true, hedge.shift := s.nitShift, hedge.theta := -24000, hedge.thetaAt := s.now, hedge.eps := 24000 })
    ∧ (s.hedge.hstate ≠ .active ∨ mag 24000 ≤ 24000)) ∧
  (let s : State :=
    { run with hedge.hstate := .active, hedge.mid := some (-24001), hedge.midDone := true, tb.counter := BitVec.ofNat 96 (229000 * 2 ^ 32) };
    s.hedge.cycling = true ∧ s.hedge.midDone = true ∧ s.hedge.corrected = false ∧ s.pastInCycle (4 * s.hedge.cfg.ns +
    s.hedge.cfg.nm + 1) = true ∧ s.hedge.mid = some (-24001) ∧ (-24001) + s.thetaAt (s.hedge.start16 + 64000 *
    s.hedge.cfg.ns) = (-24001) ∧
    { s with hedge.corrected := true, hedge.shift := s.nitShift, hedge.theta := -(-24001), hedge.thetaAt := s.now, hedge.eps := (-24001) }
    =
    ({ s with hedge.corrected := true, hedge.shift := s.nitShift, hedge.theta := -(-24001), hedge.thetaAt := s.now, hedge.eps := (-24001) })
    ∧ s.hedge.hstate = .active ∧ 24000 < mag (-24001)) ∧
  (let s : State :=
    { run with hedge.hstate := .coldstart, hedge.cycle := 2, tb.cycleC := 250000, tb.counter := BitVec.ofNat 96 (250000 * 2 ^ 32) };
    s.hedge.hstate = .coldstart ∧ 2 ≤ s.hedge.cycle ∧ s.hedge.heard = [] ∧ s.hedge.sent = [] ∧ s.unit.pair.paired =
    false ∧ s.tb.stepped = true ∧ s.tb.cycleC ≠ 0 ∧ 8 * ((s.hNs : Nat) : Int) ≤ s.cycleStartNow - s.hedge.start16) :=
  ⟨⟨rfl, rfl, by decide⟩,
   ⟨rfl, rfl, rfl, by decide⟩,
   ⟨rfl, rfl, rfl, by decide +kernel, rfl⟩,
   ⟨rfl, rfl, rfl, by decide +kernel, rfl, by decide +kernel, rfl, .inr (by decide)⟩,
   ⟨rfl, rfl, rfl, by decide +kernel, rfl, by decide +kernel, rfl, rfl, by decide⟩,
   ⟨rfl, by decide, rfl, rfl, rfl, rfl, by decide, by decide⟩⟩
theorem witness_MidpointDiscardsExtremes :
  (let s : State := { run with hedge.hstate := .active, tb.counter := BitVec.ofNat 96 (128000 * 2 ^ 32) };
    s.hedge.cycling = true ∧ s.hedge.midDone = false ∧ s.pastInCycle (4 * s.hedge.cfg.ns) = true ∧
    s.hedge.syncNodes.length + (if s.hedge.isSync then 1 else 0) ≤ 8) ∧
  (([1, 2, 3, 4, 5, 6, 7, 8] : List Int) ≠ [] ∧ ([1, 2, 3, 4, 5, 6, 7, 8] : List Int).length ≤ 8) :=
  ⟨⟨rfl, rfl, by decide, by decide⟩,
   by decide⟩
theorem witness_MidpointToleratesFaults :
  (([-100, -1, 0, 1, 1, 2, 3, 100] : List Int) ≠ [] ∧ ([-100, -1, 0, 1, 1, 2, 3, 100] : List Int).length ≤ 8 ∧
    (([-100, -1, 0, 1, 1, 2, 3, 100] : List Int).filter fun x => decide (x < (-1)) || decide ((3) < x)).length ≤
    discardsOf ([-100, -1, 0, 1, 1, 2, 3, 100] : List Int).length) ∧
  (([1, 2] : List Int).Perm ([2, 1] : List Int)) :=
  ⟨⟨by decide, by decide, by decide⟩,
   by decide⟩
theorem witness_MirrorLinkAndPartner :
  (let s : State := { run with unit.pair := paired, power.sleep := .answered }; s.unit.pair.paired = true ∧
    s.ident.fwReady = true ∧ (s.power.sleep = .none ∨ s.power.sleep = .answered)) ∧
  (let s : State := { run with unit.pair := paired }; s.unit.pair.paired = true ∧ s.ident.fwReady = true ∧
    (s.power.sleep = .none ∨ s.power.sleep = .answered)) ∧
  (let s : State := { run with unit.pair := paired }; s.unit.pair.paired = true ∧ s.ident.fwReady = true) ∧
  (run.unit.pair.paired = false) ∧
  (let s : State := { run with unit.mlUp := true, unit.hbCycles := 2, up := 1000000 }; s.unit.mlUp = true ∧
    s.unit.mlAt + 1000000 ≤ s.up ∧ s.unit.hbCycles < 3) ∧
  (let s : State := { run with unit.mlUp := true, unit.hbCycles := 3, up := 1000000 }; s.unit.mlUp = true ∧
    s.unit.mlAt + 1000000 ≤ s.up ∧ 3 ≤ s.unit.hbCycles) ∧
  (run.up < run.unit.mlAt + 1000000) ∧
  (let s : State := { run with unit.mode := .standby, unit.pair := paired, unit.ctlCycles := 2, up := 30000000 };
    s.unit.mode = .standby ∧ s.unit.pair.paired = true ∧ s.unit.aliveFault = false ∧ s.unit.aliveAt.getD
    s.power.releasedAt + 30000000 ≤ s.up ∧ s.unit.ctlCycles < 3) ∧
  (let s : State := { run with unit.mode := .standby, unit.pair := paired, unit.ctlCycles := 3, up := 30000000 };
    s.unit.mode = .standby ∧ s.unit.pair.paired = true ∧ s.unit.aliveFault = false ∧ s.unit.aliveAt.getD
    s.power.releasedAt + 30000000 ≤ s.up ∧ 3 ≤ s.unit.ctlCycles) ∧
  (let s : State := { run with unit.mode := .standby, unit.aliveAt := some 0, up := 29999999 }; s.inControl = false ∧
    s.aliveOk = true) ∧
  (let s : State := { run with unit.mode := .standby, unit.aliveAt := some 0, up := 30000000 }; s.inControl = false ∧
    s.aliveOk = false) ∧
  (let s : State :=
    { run with unit.pair := paired, unit.partnerSeen := true, unit.hbMode := .standby, unit.hbCycles := 3, unit.aliveAt := some 0, up := 25000001 };
    s.inControl = true ∧ s.unit.pair.paired = true ∧ s.unit.partnerSeen = true ∧ s.unit.hbMode = .standby ∧ 3 ≤
    s.unit.hbCycles ∧ s.unit.mlUp = false ∧ s.unit.frameAt + 25000000 < s.up ∧ s.aliveOk = true) ∧
  (let s : State :=
    { run with unit.mode := .standby, unit.pair := paired, unit.pref := true, unit.ready := true, unit.aliveAt := some 600000000000, up := 600000000000 };
    s.unit.mode = .standby ∧ s.unit.pair.paired = true ∧ s.unit.pair.failback = true ∧ s.preferred = true ∧
    s.unit.ready = true ∧ s.aliveOk = true ∧ s.unit.failbackAsked = false ∧ s.unit.readySince + 10000000 *
    s.unit.pair.holdoffMs ≤ s.up) ∧
  (let s : State := { run with unit.handbackAt := some 0 }; s.unit.handbackAt = some (0) ∧ (0) ≤ s.now ∧ s.inControl =
    true) ∧
  (let s : State := { run with unit.mode := .standby, unit.handbackAt := some 0 }; s.unit.handbackAt = some (0) ∧ (0)
    ≤ s.now ∧ s.inControl = false ∧ s.unit.mode = .standby) ∧
  (let s : State := { run with unit.handbackAt := some 1 }; s.unit.handbackAt = some (1) ∧ s.now < (1)) ∧
  (let s : State := { run with unit.takeovers := 2, cycle.takeovers := 1 }; min s.unit.takeovers s.cycle.takeovers = 1
    ∧ min s.unit.discards s.cycle.discards = 0) :=
  ⟨⟨rfl, rfl, .inr rfl⟩,
   ⟨rfl, rfl, .inl rfl⟩,
   ⟨rfl, rfl⟩,
   rfl,
   ⟨rfl, by decide, by decide⟩,
   ⟨rfl, by decide, by decide⟩,
   by decide,
   ⟨rfl, rfl, rfl, by decide, by decide⟩,
   ⟨rfl, rfl, rfl, by decide, by decide⟩,
   ⟨rfl, by decide +kernel⟩,
   ⟨rfl, by decide +kernel⟩,
   ⟨rfl, rfl, rfl, rfl, by decide, rfl, by decide, by decide +kernel⟩,
   ⟨rfl, rfl, rfl, rfl, rfl, rfl, rfl, by decide⟩,
   ⟨rfl, by decide, rfl⟩,
   ⟨rfl, by decide, rfl, rfl⟩,
   ⟨rfl, by decide⟩,
   ⟨rfl, rfl⟩⟩
theorem witness_EpochEvents :
  (let s : State := { run with unit.epochOpen := true, tb.counter := BitVec.ofNat 96 (500000 * 2 ^ 32) }; s.inControl
    = true ∧ s.unit.epochOpen = true ∧ (s.epochNow - s.unit.epoch).toNat = 2 ∧ 1 ≤ 2 ∧ 2 < 2 ^ 31 ∧ s.mirrors = false)
    ∧
  (let s : State :=
    { run with unit.epochOpen := true, unit.pair := paired, unit.mlUp := true, tb.counter := BitVec.ofNat 96 (250000 * 2 ^ 32) };
    s.inControl = true ∧ s.unit.epochOpen = true ∧ (s.epochNow - s.unit.epoch).toNat = 1 ∧ 1 ≤ 1 ∧ 1 < 2 ^ 31 ∧
    s.mirrors = true) ∧
  (let s : State := { run with unit.epochOpen := true, unit.epoch := 1 }; s.inControl = true ∧ s.unit.epochOpen = true
    ∧ 2 ^ 31 ≤ (s.epochNow - s.unit.epoch).toNat) ∧
  (let s : State := { run with unit.closed := [⟨1, [], false, false⟩] }; s.unit.closed = (⟨1, [], false, false⟩ :
    EpochOut) :: ([] : List EpochOut) ∧ s.inControl = true) ∧
  (let s : State :=
    { run with unit.mode := .standby, unit.held := [inE], unit.recs := [recE], unit.applied := some 0 }; s.unit.held =
    inE :: [] ∧ s.unit.mode = .standby ∧ (s.unit.recs.find? fun q_ => q_.epoch = inE.epoch) = some recE ∧ inE.ended =
    true ∧ recE.bytes = inE.data.length % 2 ^ 24 ∧ recE.digest = digest8 inE.data ∧ (inE.opens = true ∨ s.unit.applied
    = some (inE.epoch - 1))) ∧
  (let s : State :=
    { run with unit.mode := .standby, unit.held := [inE], unit.recs := [{ recE with digest := digest8 [] + 1 }] };
    s.unit.held = (inE) :: ([] : List EpochIn) ∧ s.unit.mode = .standby ∧ (s.unit.recs.find? fun rr_ => rr_.epoch =
    (inE).epoch) = some ({ recE with digest := digest8 [] + 1 }) ∧ (inE).ended = true ∧
    ({ recE with digest := digest8 [] + 1 }).digest ≠ digest8 (inE).data) :=
  ⟨⟨rfl, rfl, rfl, by decide, by decide, rfl⟩,
   ⟨rfl, rfl, rfl, by decide, by decide, rfl⟩,
   ⟨rfl, rfl, by decide⟩,
   ⟨rfl, rfl⟩,
   ⟨rfl, rfl, rfl, rfl, rfl, rfl, .inr rfl⟩,
   ⟨rfl, rfl, rfl, rfl, by decide⟩⟩
theorem witness_HandbackGivesControl :
  (let s : State := { run with unit.handbackAt := some 0 }; s.unit.handbackAt = some (0) ∧ (0) ≤ s.now ∧ s.inControl =
    true) :=
  ⟨rfl, by decide, rfl⟩
theorem witness_GleanerAndFaultCommands :
  (let s : State := { run with up := 10000 }; s.gleanerRuns = true ∧ s.gl.tick < (s.up - s.power.releasedAt) / 10000)
    ∧
  (run.gleanerRuns = true ∧ (run.up - run.power.releasedAt) / 10000 ≤ run.gl.tick) ∧
  (let s : State := { run with gl.srcs := [(191, { c := 1, w := 1 })] }; s.gleanerRuns = true ∧ (s.src (191)).severe =
    false ∧ 0 < (s.src (191)).c ∧ (s.src (191)).w ≤ s.gl.tick + 1) ∧
  (let s : State := { run with gl.srcs := [(190, loud)], up := 10000 }; s.gleanerRuns = true ∧ (s.src 190).severe =
    false ∧ ((s.evaluateGl false).src 190).severe = true) ∧
  (let s : State := { run with gl.srcs := [(191, { severe := true, deadline := some 1 })] }; s.gleanerRuns = true ∧
    (s.src (191)).severe = true ∧ (s.src (191)).deadline = some (1) ∧ (1) ≤ s.gl.tick + 1) ∧
  (let s : State := { run with gl.regionPhase := [(3, .reinit)], ident.fwReady := false }; s.gleanerRuns = true ∧
    mapGet .none s.gl.regionPhase 3 = .reinit ∧ (s.loops.frames.any fun p => p.2 = .region 3) = false ∧
    s.ident.fwReady = false) ∧
  (let s : State :=
    { run with gl.record := some rec1, gl.srcs := [(190, { params := some ⟨1, 1, 1, 0, true⟩, cur := some ⟨1, 1, 1, 0, true⟩, severe := true, repaired := some 0 })], gl.tick := 1000 };
    s.gleanerRuns = true ∧ s.gl.record = some rec1 ∧ s.ident.fwReady = true ∧ 190 ≠ 144 ∧ (s.src 190).severe = true ∧
    ((s.src 190).running 190).fwClear = true ∧ (s.src 190).repaired = some 0 ∧ (0 + 1000 < s.gl.tick ∨ (0 + 1000 =
    s.gl.tick ∧ (s.src 190).waiting = 0))) ∧
  (let s : State := { run with gl.logPending := [rec1] }; s.gleanerRuns = true ∧ s.gl.logPending = (rec1) :: ([] :
    List Record) ∧ s.ident.fwReady = true) ∧
  (let s : State := { run with up := 40000000000 }; s.gleanerRuns = true ∧ s.gl.wdRun = true ∧ s.gl.wdLast + 10000000
    * s.gl.wdPeriodMs ≤ s.up) ∧
  (let s : State := { run with gl.tick := 10000 }; s.gleanerRuns = true ∧ s.gl.testTick / 10000 < s.gl.tick / 10000) ∧
  (let s : State := { run with gl.tick := 500 }; s.gleanerRuns = true ∧ s.alive = 0 ∧ s.gl.tick % 500 = 0 ∧
    s.gl.edgeTick ≠ s.gl.tick) ∧
  (let s : State := { run with gl.inj := some ⟨190, 2, 1, 0⟩ }; s.gleanerRuns = true ∧ s.gl.inj = some (⟨190, 2, 1, 0⟩
    : Injection) ∧ (⟨190, 2, 1, 0⟩ : Injection).nextTick ≤ s.gl.tick ∧ 1 < (⟨190, 2, 1, 0⟩ : Injection).left) ∧
  (run.gleanerRuns = true ∧ bit 0 8 = false ∧ fld 0 7 0 < 192) ∧
  (run.gleanerRuns = true) ∧
  (Waits (ask 0x0D03 0) 1 0x0D03 (cmd 0x0D03 0) ∧ sourcesOk (191) ([⟨255, 1, 10000, 5, true⟩] : List SrcParams).length
    = true ∧ (∀ q ∈ ([⟨255, 1, 10000, 5, true⟩] : List SrcParams).zipIdx, (ask 0x0D03 0).paramsRefused ((191) + q.2)
    q.1 = none)) ∧
  (let s : State := { (ask 0x0D04 0) with gl.record := some rec1 }; Waits s 1 0x0D04 (cmd 0x0D04 0) ∧ s.gl.lockstep =
    false ∧ (191) < 192 ∧ s.gl.record = some (rec1)) ∧
  (Asks (ask 0x0D06 0) 1 0x0D06 (cmd 0x0D06 0) ∧ (ask 0x0D06 0).il.saving = none) ∧
  (Asks (ask 0x0D08 0) 1 0x0D08 (cmd 0x0D08 0) ∧ (ask 0x0D08 0).gl.lockstep = false) ∧
  (let s : State := { (ask 0x0D09 0) with unit.mode := .factoryTest }; Waits s 1 0x0D09 (cmd 0x0D09 0) ∧ s.unit.mode =
    .factoryTest ∧ s.gl.lockstep = false ∧ (191) < 192 ∧ (191) ≠ 146 ∧ 1 ≤ (255) ∧ (255) ≤ 255 ∧ 1 ≤ (1000) ∧ (1000) ≤
    1000 ∧ s.gl.inj = none) ∧
  (let s : State := { (ask 0x0D09 0) with unit.mode := .factoryTest }; Waits s 1 0x0D09 (cmd 0x0D09 0) ∧ s.unit.mode =
    .factoryTest ∧ s.gl.lockstep = false) :=
  ⟨⟨rfl, by decide⟩,
   ⟨rfl, by decide⟩,
   ⟨rfl, rfl, by decide, by decide⟩,
   ⟨rfl, rfl, rfl⟩,
   ⟨rfl, rfl, rfl, by decide⟩,
   ⟨rfl, rfl, rfl, rfl⟩,
   ⟨rfl, rfl, rfl, by decide, rfl, rfl, rfl, .inr (by decide)⟩,
   ⟨rfl, rfl, rfl⟩,
   ⟨rfl, rfl, by decide⟩,
   ⟨rfl, by decide⟩,
   ⟨rfl, rfl, rfl, by decide⟩,
   ⟨rfl, rfl, by decide, by decide⟩,
   ⟨rfl, rfl, by decide⟩,
   rfl,
   ⟨rfl, rfl, List.forall_mem_singleton.mpr (by decide)⟩,
   ⟨rfl, rfl, by decide, rfl⟩,
   ⟨⟨rfl, rfl⟩, rfl⟩,
   ⟨⟨rfl, rfl⟩, rfl⟩,
   ⟨rfl, rfl, rfl, by decide, by decide, by decide, by decide, by decide, by decide, rfl⟩,
   ⟨rfl, rfl, rfl⟩⟩
theorem witness_LockstepFailureStops :
  (let s : State := { run with up := 10000 }; s.gleanerRuns = true ∧ s.gl.tick < (s.up - s.power.releasedAt) / 10000) :=
  ⟨rfl, by decide⟩
theorem witness_PowerAndBootEvents :
  (let s : State := { run with power.phase := .off }; s.power.phase = .off) ∧
  (let s : State := { run with power.phase := .waitRelease, power.pwrEn := false }; s.power.phase = .waitRelease ∧
    s.power.pwrEn = false ∧ s.power.railsAt ≤ s.up) ∧
  (run.power.phase ≠ .off) ∧
  (run.powered = true ∧ run.power.detectors = true) ∧
  (run.powered = true) ∧
  (let s : State := { run with il.resetDue := some 0 }; s.il.resetDue = some (0) ∧ (0) ≤ s.up) ∧
  (let s : State := { run with power.phase := .waitRelease, up := 10000000 }; s.power.phase = .waitRelease ∧
    s.power.tbRef = true ∧ s.power.pwrEn = true ∧ s.railsGood = true ∧ s.power.tbRefAt + 10000000 ≤ s.up) ∧
  (let s : State := { run with power.phase := .wiping }; s.power.phase = .wiping) ∧
  (let s : State := { run with power.phase := .bootRom, trust.loaded := true }; s.power.phase = .bootRom ∧
    s.trust.loaded = true ∧ s.trust.factoryRequest = none ∧ s.gl.regionPhase = []) ∧
  (let s : State :=
    { run with power.phase := .bootRom, trust.loaded := true, trust.lc := 3, trust.factoryRequest := some 3 };
    s.power.phase = .bootRom ∧ s.trust.loaded = true ∧ s.trust.factoryRequest = some s.trust.lc ∧ (s.trust.lc = 0 ∨
    s.trust.lc = 3) ∧ s.gl.regionPhase = []) ∧
  (let s : State := { run with trust.confirmed := false, up := 600000000000 }; s.ident.fwReady = true ∧
    s.trust.confirmed = false ∧ s.trust.readyAt + 600000000000 ≤ s.up) ∧
  (run.functionUp = true) ∧
  (((Instr.perstAssert) = .resetNAssert ∨ (Instr.perstAssert) = .perstAssert) ∧ run.functionUp = true) :=
  ⟨rfl,
   ⟨rfl, rfl, by decide⟩,
   by decide,
   ⟨rfl, rfl⟩,
   rfl,
   ⟨rfl, by decide⟩,
   ⟨rfl, rfl, rfl, by decide +kernel, by decide⟩,
   rfl,
   ⟨rfl, rfl, rfl, rfl⟩,
   ⟨rfl, rfl, rfl, .inr rfl, rfl⟩,
   ⟨rfl, rfl, by decide⟩,
   rfl,
   ⟨Or.inr rfl, rfl⟩⟩
theorem witness_SleepHoldAndPower :
  (run.powered = true) ∧
  (let s : State := { run with power.phase := .asleep }; (s.power.phase = .asleep ∨ s.power.sleep ≠ .none)) ∧
  (let s : State := { run with power.sleep := .answered, up := 10000000 }; s.power.sleep = .answered ∧ s.power.sleepT0
    + 10000000 ≤ s.up) ∧
  (let s : State := { run with power.sleep := .shutdown, unit.mode := .hold }; s.power.sleep = .shutdown ∧
    s.power.sleepFrame ≤ s.now ∧ (s.unit.mode = .standby ∨ s.unit.mode = .hold)) ∧
  (let s : State := { run with power.sleep := .parked }; s.power.sleep = .parked) ∧
  (let s : State := { run with power.phase := .asleep, power.wakeRecognised := true, up := 100000000 }; s.power.phase
    = .asleep ∧ s.power.wakeRecognised = true ∧ s.power.sleepT4 + 100000000 ≤ s.up) ∧
  (run.powered = true ∧ run.power.tbRef = true) ∧
  (let s : State := { run with power.tbRef := false }; s.power.tbRef = false) ∧
  (0 ≤ 7 ∧ run.powered = true ∧ (0 < (railRange 0).1 ∨ (railRange 0).2 < 0) ∧ run.railIgnored 0 = false) ∧
  (let s : State := { run with power.rails := [(7, some 1891)] }; 7 ≤ 7 ∧ s.powered = true ∧ (railRange 7).1 ≤ 1890 ∧
    1890 ≤ (railRange 7).2 ∧ mapGet none s.power.rails 7 = some 1891 ∧ (1891 < (railRange 7).1 ∨ (railRange 7).2 <
    1891)) ∧
  (let s : State := { run with up := 9999999 }; (s.power.phase = .wiping ∨ s.functionUp = true) ∧ s.up <
    s.power.paceAt + 10000000) ∧
  (let s : State := { run with up := 10000000, power.phase := .wiping }; (s.power.phase = .wiping ∨ s.functionUp =
    true) ∧ s.power.paceAt + 10000000 ≤ s.up ∧ 0x0A00 ≤ (0x0A00#16).toNat) ∧
  (let s : State := { run with unit.mode := .calibrate, unit.waiting := some 0 }; s.unit.mode = .calibrate ∧
    s.unit.waiting.isSome = true) ∧
  (let s : State := { (ask 0x0E02 0) with unit.mode := .standby }; s.unit.mode = .standby ∧ Waits s 1 0x0E02 (cmd
    0x0E02 0)) ∧
  (let s : State := { (ask 0x0E02 0) with unit.mode := .standby }; s.unit.mode = .standby ∧ Waits s 1 0x0E02 (cmd
    0x0E02) ∧ s.power.pinHold = false ∧ s.gl.lockstep = false) ∧
  (let s : State := { (ask 0x0E03 0) with unit.mode := .standby }; s.unit.mode = .standby ∧ Asks s 1 0x0E03 (cmd
    0x0E03) ∧ s.sleeping = false) :=
  ⟨rfl,
   .inl rfl,
   ⟨rfl, by decide⟩,
   ⟨rfl, by decide, .inr rfl⟩,
   rfl,
   ⟨rfl, rfl, by decide⟩,
   ⟨rfl, rfl⟩,
   rfl,
   ⟨by decide, rfl, by decide, rfl⟩,
   ⟨by decide, rfl, by decide, by decide, rfl, .inr (by decide)⟩,
   ⟨.inr rfl, by decide⟩,
   ⟨.inl rfl, by decide, by decide⟩,
   ⟨rfl, rfl⟩,
   ⟨rfl, rfl⟩,
   ⟨rfl, rfl, rfl, rfl⟩,
   ⟨rfl, ⟨rfl, rfl⟩, rfl⟩⟩
theorem witness_TapAndRegisterEvents :
  (let s : State := { run with power.resetN := false }; s.tapOpen = true) ∧
  (run.tapOpen = false ∧ (Instr.tapHighz) ∈ [Instr.tapExtest, .tapClamp, .tapHighz]) ∧
  (run.barOpen = true ∧ (0xB3C0) % 4 = 0 ∧ ((0xB3C0) < 0x4000 ∨ 0x5000 ≤ (0xB3C0)) ∧ ((0xB3C0) < 0xA000 ∨ 0xB000 ≤
    (0xB3C0)) ∧ queueAt (0xB3C0) = some ((⟨.fcq, 15⟩ : QId), (0)) ∧ (run.sub (⟨.fcq, 15⟩ : QId).key).state =
    .disabled) ∧
  (run.barOpen = true ∧ 0xA000 % 4 = 0 ∧ 0xA000 ≤ 0xA000 ∧ 0xA000 < 0xB000 ∧ (run.cqn ((0xA000 - 0xA000) / 64)).enable
    = false) ∧
  (run.barOpen = true ∧ 0x4000 % 4 = 0 ∧ 0x4000 ≤ 0x4000 ∧ 0x4000 < 0x5000) ∧
  (MemErr.placed (MemErr.unfinishedSlot 3 15 20) = true ∧ run.functionUp = true) ∧
  (0 < numElements ∧ run.functionUp = true) ∧
  (let s : State := { run with up := 100000000, power.retrainA := some 0 }; (s.power.phase = .wiping ∨ s.functionUp =
    true) ∧ s.periodDue s.power.retrainA 100000000 = true) ∧
  (let s : State := { run with power.phase := .wiping }; (s.power.phase = .wiping ∨ s.functionUp = true) ∧ s.periodDue
    s.power.retrainB 100000000 = true) ∧
  (run.functionUp = true) ∧
  (run.functionUp = true) :=
  ⟨rfl,
   ⟨rfl, by decide⟩,
   ⟨rfl, rfl, by decide, by decide, rfl, rfl⟩,
   ⟨rfl, rfl, by decide, by decide, rfl⟩,
   ⟨rfl, rfl, by decide, by decide⟩,
   ⟨rfl, rfl⟩,
   ⟨by decide, rfl⟩,
   ⟨.inr rfl, by decide +kernel⟩,
   ⟨.inl rfl, by decide +kernel⟩,
   rfl,
   rfl⟩
theorem witness_TrustCommandsTakeEffect :
  (Asks (ask 0x0F01 0) 1 0x0F01 (cmd 0x0F01 0)) ∧
  (Asks (ask 0x0F02 0) 1 0x0F02 (cmd 0x0F02 0)) ∧
  (let s : State := ask 0x0F03 32; Waits s 1 0x0F03 (cmd 0x0F03 32) ∧ (cmd 0x0F03 32).len = 32 ∧ s.trust.lc ≠ 3 ∧
    s.unit.mode ≠ .boot ∧ s.attesting 1 = false) ∧
  (let s : State := ask 0x0F03 32; (s.il.inflight.find? fun x => x.tag = 1 && !x.answered) = some (cmd 0x0F03 32) ∧ (∀
    x ∈ s.sheaves.store, x.phase = .committed → s.now / 1000 * 1000 < x.instant)) ∧
  (Asks (ask 0x0F04 0) 1 0x0F04 (cmd 0x0F04 0) ∧ (ask 0x0F04 0).trust.confirmed = true) ∧
  (let s : State := { (ask 0x0F04 0) with trust.confirmed := false }; Asks s 1 0x0F04 (cmd 0x0F04 0) ∧
    s.trust.confirmed = false) ∧
  (Waits (ask 0x0F05 0) 1 0x0F05 (cmd 0x0F05 0) ∧ (3) ≤ 3 ∧ (ask 0x0F05 0).revocationOk true (3) (none : Option
    SignedRecord) = true) ∧
  (Waits (ask 0x0F05 0) 1 0x0F05 (cmd 0x0F05 0) ∧ 0 ≤ 3) ∧
  (Waits (ask 0x0F06 0) 1 0x0F06 (cmd 0x0F06 0) ∧ 0 ≤ 3 ∧ (ask 0x0F06 0).trust.lc ≤ 1 ∧ mapGet 0 (ask 0x0F06
    0).trust.akey 0 = 0) ∧
  (let s : State := { (ask 0x0F06 0) with trust.akey := [(3, 1)] }; Waits s 1 0x0F06 (cmd 0x0F06 0) ∧ (3) ≤ 3 ∧
    s.trust.lc ≤ 1 ∧ mapGet 0 s.trust.akey (3) ≠ 0) ∧
  (Asks (ask 0x0F07 0) 1 0x0F07 (cmd 0x0F07 0) ∧ (ask 0x0F07 0).trust.lc ≤ 1) ∧
  (let s : State := { (ask 0x0F07 0) with trust.lc := 2 }; Asks s 1 0x0F07 (cmd 0x0F07 0) ∧ 1 < s.trust.lc) ∧
  (Asks (ask 0x0F08 0) 1 0x0F08 (cmd 0x0F08 0)) :=
  ⟨⟨rfl, rfl⟩,
   ⟨rfl, rfl⟩,
   ⟨rfl, rfl, by decide, by decide, rfl⟩,
   ⟨rfl, by decide⟩,
   ⟨⟨rfl, rfl⟩, rfl⟩,
   ⟨⟨rfl, rfl⟩, rfl⟩,
   ⟨rfl, by decide, rfl⟩,
   ⟨rfl, by decide⟩,
   ⟨rfl, by decide, by decide, rfl⟩,
   ⟨rfl, by decide, by decide, by decide⟩,
   ⟨⟨rfl, rfl⟩, by decide⟩,
   ⟨⟨rfl, rfl⟩, by decide⟩,
   ⟨rfl, rfl⟩⟩
theorem witness_AdvanceSvnBlowsMinSvn :
  (let s : State := { (ask 0x0F04 0) with trust.confirmed := false }; Asks s 1 0x0F04 (cmd 0x0F04 0) ∧
    s.trust.confirmed = false) ∧
  (let s : State := { (ask 0x0F04 0) with trust.img0 := some (svnImage 127), trust.minSvn := 127 }; Asks s 1 0x0F04
    (cmd 0x0F04 0) ∧ s.trust.confirmed = true ∧ imageSvn s.runningImage ≤ s.trust.minSvn) ∧
  (let s : State := { (ask 0x0F04 0) with trust.img0 := some (svnImage 127), trust.minSvn := 126 }; Asks s 1 0x0F04
    (cmd 0x0F04 0) ∧ s.trust.confirmed = true ∧ s.trust.minSvn < imageSvn s.runningImage ∧ imageSvn s.runningImage ≤
    127) ∧
  (let s : State := { (ask 0x0F04 0) with trust.minSvn := 127 }; Asks s 1 0x0F04 (cmd 0x0F04 0) ∧ imageSvn (svnImage
    126) < s.trust.minSvn) ∧
  (Asks (ask 0x0F04 0) 1 0x0F04 (cmd 0x0F04 0) ∧ imageSvn
    (({ run with trust.img1 := some (svnImage 126), trust.minSvn := 127 } : State).slotBytes (true)) <
    ({ run with trust.img1 := some (svnImage 126), trust.minSvn := 127 } : State).trust.minSvn) :=
  ⟨⟨⟨rfl, rfl⟩, rfl⟩,
   ⟨⟨rfl, rfl⟩, rfl, by decide⟩,
   ⟨⟨rfl, rfl⟩, rfl, by decide, by decide⟩,
   ⟨⟨rfl, rfl⟩, by decide⟩,
   ⟨⟨rfl, rfl⟩, by decide⟩⟩
theorem witness_LifecycleAdvances :
  (let s : State := { (ask 0x0F09 0) with unit.mode := .standby, trust.lc := 1 }; Waits s 1 0x0F09 (cmd 0x0F09 0) ∧
    s.inReset = false ∧ s.lifecycleOpen 2 = true ∧ s.il.fw.open_ = false ∧ s.il.saving = none ∧ s.cal.saving = false ∧
    (2 = 3 → s.returnOk (none : Option SignedRecord) = true)) ∧
  (Waits (ask 0x0F09 0) 1 0x0F09 (cmd 0x0F09 0) ∧ (0 ≠ (ask 0x0F09 0).trust.lc + 1 ∨ (ask 0x0F09 0).inControl = true ∨
    3 ≤ (ask 0x0F09 0).trust.lc)) ∧
  (let s : State := { (ask 0x0F0A 0) with unit.mode := .standby }; Asks s 1 0x0F0A (cmd 0x0F0A 0) ∧ s.inControl =
    false ∧ (s.trust.lc = 0 ∨ s.trust.lc = 3)) :=
  ⟨⟨rfl, rfl, rfl, rfl, rfl, rfl, by decide⟩,
   ⟨rfl, by decide⟩,
   ⟨⟨rfl, rfl⟩, rfl, Or.inl rfl⟩⟩
theorem witness_EveryStepCompletes :
  (step (oneWaits) = .next (stepped oneWaits)) :=
  rfl
theorem witness_FusesAreOnlyBlown :
  (mapWf 0 (oneWaits).trust.akey = true ∧ step (oneWaits) = .next (stepped oneWaits)) ∧
  (let s : State := { oneWaits with trust.crevoke := 8#4 }; mapWf 0 s.trust.akey = true ∧ step s = .next (stepped
    { oneWaits with trust.crevoke := 8#4 }) ∧ s.trust.crevoke.getLsbD (3) = true) ∧
  (let s : State := { oneWaits with trust.arevoke := 8#4 }; mapWf 0 s.trust.akey = true ∧ step s = .next (stepped
    { oneWaits with trust.arevoke := 8#4 }) ∧ s.trust.arevoke.getLsbD (3) = true) ∧
  (let s : State := { oneWaits with trust.akey := [(3, 1)] }; mapWf 0 s.trust.akey = true ∧ step s = .next (stepped
    { oneWaits with trust.akey := [(3, 1)] }) ∧ mapGet 0 s.trust.akey (3) ≠ 0) ∧
  (let s : State := { oneWaits with trust.policySigned := true }; mapWf 0 s.trust.akey = true ∧ step s = .next
    (stepped { oneWaits with trust.policySigned := true }) ∧ s.trust.policySigned = true) ∧
  (let s : State := { oneWaits with trust.idSeed := BitVec.allOnes 256 }; mapWf 0 s.trust.akey = true ∧ step s = .next
    (stepped { oneWaits with trust.idSeed := BitVec.allOnes 256 }) ∧ s.trust.idSeed = BitVec.allOnes 256) :=
  ⟨⟨rfl, rfl⟩,
   ⟨rfl, rfl, rfl⟩,
   ⟨rfl, rfl, rfl⟩,
   ⟨rfl, rfl, by decide⟩,
   ⟨rfl, rfl, rfl⟩,
   ⟨rfl, rfl, rfl⟩⟩
theorem witness_InFlightLimitIsKept :
  (let s : State := { oneWaits with il.inflight := [cmd 0x0101 0] }; inFlightOk s.il.inflight ∧ step s = .next
    (stepped { oneWaits with il.inflight := [cmd 0x0101 0] })) :=
  ⟨⟨by decide, by decide⟩, rfl⟩
theorem witness_CanonicalFormIsKept :
  (let s : State := { oneWaits with il.inflight := [cmd 0x0101 0] }; s.canonical ∧ step s = .next (stepped
    { oneWaits with il.inflight := [cmd 0x0101 0] })) :=
  ⟨⟨rfl, rfl, ⟨rfl, rfl, rfl, rfl, rfl⟩⟩, rfl⟩

end Sys2Proof.Tests
end

section
/-! PROOFS. A step by its two causes (a waiting command, an edge of TB_REF), what it keeps beyond the command that it
takes off the queue, and the statement that every command completes. -/
namespace Sys2Proof.Machine

/-- What a step can be: an edge of TB_REF while no command waits, or the meaning of the first command, which no longer
waits. -/
theorem step_next_cases {s t : State} (h : step s = .next t) :
    (s.pending = [] ∧ t = s.tbTick) ∨
      ∃ c rest, s.pending = c :: rest ∧ exec c { s with pending := rest } = .next t := by
  unfold step at h
  split at h
  · next hnil =>
    cases h
    exact .inl ⟨hnil, rfl⟩
  · next c rest hcons => exact .inr ⟨c, rest, hcons, h⟩

/-- A command that answers `t` keeps in `t` what every command keeps. -/
theorem keeps_of_exec_next {i : Instr} {s t : State} (h : exec i s = .next t) : s.Keeps t := by
  obtain ⟨u, hu, hkeeps⟩ := exec_keeps i s
  cases h.symm.trans hu
  exact hkeeps

/-- But for the command taken off the queue, a step keeps what every command keeps. -/
theorem keeps_of_step_next {s t : State} (h : step s = .next t) : { s with pending := s.pending.tail }.Keeps t := by
  obtain ⟨hnil, rfl⟩ | ⟨c, rest, hcons, hexec⟩ := step_next_cases h
  · have htail : { s with pending := s.pending.tail } = s := by rw [hnil, List.tail_nil, ← hnil]
    rw [htail]
    exact tbTick_keeps s
  · rw [hcons, List.tail_cons]
    exact keeps_of_exec_next hexec

/-- Settles O56: each meaning answers a next state (`exec_keeps`), and a step keeps the rest of the queue and the
identity (`keeps_of_step_next`). -/
theorem everyStepCompletes : Obligations.EveryStepCompletes := by
  unfold Obligations.EveryStepCompletes
  refine ⟨fun i s => ?_, fun s t h => (keeps_of_step_next h).pending, fun s t h => ?_⟩
  · obtain ⟨t, hnext, -⟩ := exec_keeps i s
    exact ⟨t, hnext⟩
  · have hkeeps := keeps_of_step_next h
    exact ⟨hkeeps.rev, hkeeps.serial⟩

end Sys2Proof.Machine
end

section
/-! PROOFS. The end of a sheaf: what it leaves of the sheaves that have ended already and of the arm slots that wait to be
freed (06_sheaves R164, R170, R175, R188), and the instant of a sheaf in HOLD (01_architecture R36, 05_loop_modes R155). -/
namespace Sys2Proof.Machine

/-- From `s` to `t` the slots that wait to be freed stay, and so does every sheaf that has ended. -/
structure State.KeepsEnded (s t : State) : Prop where
  freeing : t.sheaves.freeing = s.sheaves.freeing
  ended : ∀ y ∈ s.sheaves.store, y.phase = .done → y ∈ t.sheaves.store

theorem State.KeepsEnded.refl (s : State) : s.KeepsEnded s := ⟨rfl, fun _ hmem _ => hmem⟩

theorem State.KeepsEnded.trans {s t u : State} (h : s.KeepsEnded t) (k : t.KeepsEnded u) : s.KeepsEnded u :=
  ⟨k.freeing.trans h.freeing, fun y hmem hdone => k.ended y (h.ended y hmem hdone) hdone⟩

/-- Any update of a sheaf passes by the sheaves that have ended. -/
theorem modSheaf_keepsEnded (id : Nat) (f : Sheaf → Sheaf) (s : State) : s.KeepsEnded (s.modSheaf id f) where
  freeing := rfl
  ended y hmem hdone := List.mem_map.mpr ⟨y, hmem, by simp [hdone]⟩

theorem freeSlot_keepsEnded (j : Option Nat) (s : State) : s.KeepsEnded (s.freeSlot j) := by
  cases j <;> exact ⟨rfl, fun _ hmem _ => hmem⟩

@[simp] theorem noticeFor_sheaves (x : Sheaf) (kind outcome : Nat) (s : State) : (s.noticeFor x kind outcome).sheaves = s.sheaves := by
  unfold State.noticeFor
  split
  · rfl
  · split <;> rfl

@[simp] theorem fcqComplete_sheaves (q idx : Nat) (body : List Byte) (s : State) : (s.fcqComplete q idx body).sheaves = s.sheaves := rfl

/-- The sheaf of an ID that has not ended: the one that an outcome finds. -/
def State.liveSheaf? (s : State) (id : Nat) : Option Sheaf := s.sheaves.store.find? fun x => x.id = id && x.phase ≠ .done

theorem liveSheaf?_some {s : State} {id : Nat} {x : Sheaf} (h : s.liveSheaf? id = some x) :
    x ∈ s.sheaves.store ∧ x.id = id ∧ x.phase ≠ .done := by
  have hpred := List.find?_some (p := fun x : Sheaf => x.id = id && x.phase ≠ .done) h
  simp only [Bool.and_eq_true, decide_eq_true_eq] at hpred
  exact ⟨List.mem_of_find?_eq_some h, hpred⟩

/-- A sheaf that is found and has not ended is the live one of its ID. -/
theorem liveSheaf?_of_sheaf? {s : State} {id : Nat} {x : Sheaf} (h : s.sheaf? id = some x) (hphase : x.phase ≠ .done) :
    s.liveSheaf? id = some x := by
  unfold State.sheaf? at h
  unfold State.liveSheaf?
  split at h
  · next y hfind => rw [hfind, h]
  · next hnone =>
    have hid : x.id = id := by simpa using List.find?_some h
    have hmem : x ∈ s.sheaves.store := by simpa using List.mem_of_find?_eq_some h
    have hlive := List.find?_eq_none.mp hnone x hmem
    simp [hid, hphase] at hlive

/-- An update that keeps ID and phase gives the live sheaf of the ID in its new form. -/
theorem modSheaf_liveSheaf? {s : State} {id : Nat} {x : Sheaf} (f : Sheaf → Sheaf) (hid : ∀ y, (f y).id = y.id)
    (hphase : ∀ y, (f y).phase = y.phase) (h : s.liveSheaf? id = some x) : (s.modSheaf id f).liveSheaf? id = some (f x) := by
  obtain ⟨-, hlive⟩ := liveSheaf?_some h
  have hpred : ((fun y : Sheaf => y.id = id && y.phase ≠ .done) ∘ fun y => if y.id = id && y.phase ≠ .done then f y else y) =
      fun y : Sheaf => y.id = id && y.phase ≠ .done := by
    funext y
    dsimp only [Function.comp]
    split
    · rw [hid, hphase]
    · rfl
  unfold State.liveSheaf? at h ⊢
  rw [modSheaf_sheaves, List.find?_map, hpred, h, Option.map_some, if_pos (by simpa using hlive)]

/-- A sheaf `y` of the ID of the live sheaf `x` as the outcome of `x` leaves it (R175, R170). -/
def Sheaf.endedAs (code detail : Nat) (x y : Sheaf) : Sheaf :=
  { y with phase := .done, outcome := code, detail := keptDetail code detail x.detail, slot := if x.firedAt.isSome then y.slot else none }

/-- An outcome marks the sheaf and frees its slot; the notice and the completion that it brings are outside the store. -/
theorem outcome_sheaves {s : State} {id : Nat} {x : Sheaf} (code detail : Nat) (h : s.liveSheaf? id = some x) :
    (s.outcome id code detail).sheaves =
      ((s.modSheaf id (x.endedAs code detail)).freeSlot (if x.firedAt.isSome then none else x.slot)).sheaves := by
  unfold State.liveSheaf? at h
  unfold State.outcome
  simp only [h]
  cases x.submitter with
  | fcq q idx =>
    cases x.mirrored
    · exact (fcqComplete_sheaves q idx _ _).trans (noticeFor_sheaves _ _ _ _)
    · exact noticeFor_sheaves _ _ _ _
  | _ => exact noticeFor_sheaves _ _ _ _

theorem outcome_keepsEnded (id code detail : Nat) (s : State) : s.KeepsEnded (s.outcome id code detail) := by
  cases hlive : s.liveSheaf? id with
  | none =>
    unfold State.liveSheaf? at hlive
    simp only [State.outcome, hlive]
    exact .refl s
  | some x =>
    have hends := (modSheaf_keepsEnded id (x.endedAs code detail) s).trans
      (freeSlot_keepsEnded (if x.firedAt.isSome then none else x.slot) _)
    have hsheaves := outcome_sheaves code detail hlive
    exact ⟨hsheaves ▸ hends.freeing, hsheaves ▸ hends.ended⟩

theorem reevaluateOne_keepsEnded (f : Sheaf) (s : State) (g : Sheaf) : s.KeepsEnded (s.reevaluateOne f g).1 := by
  unfold State.reevaluateOne
  split
  · split
    · exact .refl s
    · split
      · exact modSheaf_keepsEnded _ _ s
      · exact outcome_keepsEnded _ _ _ s
  · exact .refl s

/-- Through a list of steps of a process that carries a state: each step keeps the ended, and so do all of them. -/
theorem State.KeepsEnded.foldl {α σ : Type} (state : σ → State) (f : σ → α → σ) (h : ∀ p a, (state p).KeepsEnded (state (f p a)))
    (l : List α) (p : σ) : (state p).KeepsEnded (state (l.foldl f p)) := by
  induction l generalizing p with
  | nil => exact .refl _
  | cons a l ih => exact (h p a).trans (ih (f p a))

theorem reevaluate_keepsEnded (f : Sheaf) (s : State) : s.KeepsEnded (s.reevaluate f).1 :=
  .foldl Prod.fst (fun p g => ((p.1.reevaluateOne f g).1, p.2 ++ (p.1.reevaluateOne f g).2))
    (fun p g => reevaluateOne_keepsEnded f p.1 g) _ (s, [])

theorem stopStook_keepsEnded (f : Sheaf) (s : State) : s.KeepsEnded (s.stopStook f).1 := by
  unfold State.stopStook
  split
  · exact .refl s
  · split
    · have hfold (ids : List Nat) : s.KeepsEnded (ids.foldl (fun t i => t.outcome i 0x08 0) s) :=
        .foldl id _ (fun t i => outcome_keepsEnded i 0x08 0 t) ids s
      exact (hfold _).trans ⟨rfl, fun _ hmem _ => hmem⟩
    · exact .refl s

/-- What follows from sheaves that were not applied in full ends further sheaves, and changes none that has ended. -/
theorem settle_keepsEnded (n : Nat) (ids : List Nat) (s : State) : s.KeepsEnded (s.settle n ids) := by
  induction n generalizing ids s with
  | zero => rw [State.settle]; exact .refl s
  | succ n ih =>
    cases ids with
    | nil => exact .refl s
    | cons i ids =>
      rw [State.settle]
      split
      · exact ih ids s
      · next f _ =>
        refine (reevaluate_keepsEnded f s).trans (.trans ?_ (ih _ _))
        split
        · exact stopStook_keepsEnded f _
        · exact .refl _

/-- A sheaf that fails stands in the store with its outcome, whatever else its failure ends. -/
theorem failSheaf_ended {s : State} {id : Nat} {x : Sheaf} (code detail : Nat)
    (h : s.liveSheaf? id = some x) :
    x.endedAs code detail x ∈ (s.failSheaf id code detail).sheaves.store := by
  refine (settle_keepsEnded _ _ _).ended _ ?_ rfl
  rw [outcome_sheaves code detail h]
  refine (freeSlot_keepsEnded _ _).ended _ ?_ rfl
  obtain ⟨hmem, hlive⟩ := liveSheaf?_some h
  exact List.mem_map.mpr ⟨x, hmem, if_pos (by simpa using hlive)⟩

theorem failSheaf_freeing (id code detail : Nat) (s : State) : (s.failSheaf id code detail).sheaves.freeing = s.sheaves.freeing :=
  ((outcome_keepsEnded id code detail s).trans (settle_keepsEnded _ _ _)).freeing

/-- In HOLD, from its entry on, a sheaf that comes to its instant ends HELD (R36). -/
theorem exec_sheafInstant_held {s : State} {id : BitVec 16} {x : Sheaf} (faults : List Nat) (hx : s.sheaf? id.toNat = some x)
    (hmode : s.unit.mode = .hold) (hphase : x.phase = .committed) (hreached : s.reached x.instant = true)
    (hheld : s.power.holdFrame ≤ x.instant) :
    exec (.sheafInstant id faults) s = .next ((s.meets x).failSheaf x.id 0x03 0) := by
  have hlate : s.beforeHold x = false := by simp [State.beforeHold, Nat.not_lt.mpr hheld]
  change execSheafInstant id faults s = _
  simp [execSheafInstant, hx, hphase, hreached, hmode, hlate]

/-- In HOLD a sheaf whose instant lies before the entry is applied as outside HOLD (05 R155). -/
theorem exec_sheafInstant_beforeHold {s : State} {id : BitVec 16} {x : Sheaf} (faults : List Nat) (hx : s.sheaf? id.toNat = some x)
    (hmode : s.unit.mode = .hold) (hphase : x.phase = .committed) (hreached : s.reached x.instant = true)
    (hbefore : x.instant < s.power.holdFrame) (hguard : s.guardPasses x = true) :
    exec (.sheafInstant id faults) s = .next ((s.launched x.instant).fire x faults) := by
  have hearly : s.beforeHold x = true := by simp [State.beforeHold, hmode, hbefore]
  change execSheafInstant id faults s = _
  simp [execSheafInstant, hx, hphase, hreached, hearly, hguard]

/-- An applied sheaf with no exclusion is DONE at its horizon (R172). -/
theorem exec_sheafHorizon_done {s : State} {id : BitVec 16} {x : Sheaf} {u : Nat} (hx : s.sheaf? id.toNat = some x)
    (hphase : x.phase = .applied) (hfired : x.firedAt = some u) (hexcl : x.excluded = [])
    (hhorizon : u + (10000 + x.dwell) * 2 ^ 32 < s.tb.run + s.tb.incr.toNat) :
    exec (.sheafHorizon id) s = .next (s.outcome x.id 0x00 x.detail) := by
  have hdue : (x.firedAt.any fun u => decide (u + (10000 + x.dwell) * 2 ^ 32 < s.tb.run + s.tb.incr.toNat)) = true := by
    rw [hfired, Option.any_some]
    exact decide_eq_true hhorizon
  change execSheafHorizon id s = _
  simp only [execSheafHorizon, hx, hphase, hdue, hexcl, decide_true, Bool.and_self, if_true, Nat.zero_ne_one, if_false]

/-- Settles O14: HELD is a failure of the sheaf (`exec_sheafInstant_held`), which leaves the elements, the slots that wait
and the sheaf's own record as they stand once it has met its instant. -/
theorem heldInstantChangesNoElement : Obligations.HeldInstantChangesNoElement := by
  unfold Obligations.HeldInstantChangesNoElement
  intro s id x hx hmode
  refine ⟨fun faults hphase hreached hheld => ?_,
    fun faults hphase hreached hbefore hguard => exec_sheafInstant_beforeHold faults hx hmode hphase hreached hbefore hguard,
    fun u hphase hfired hexcl hhorizon => exec_sheafHorizon_done hx hphase hfired hexcl hhorizon⟩
  have hlive := liveSheaf?_of_sheaf? hx (by rw [hphase]; decide)
  obtain ⟨-, hid, -⟩ := liveSheaf?_some hlive
  rw [← hid] at hlive
  have hmet : (s.meets x).liveSheaf? x.id = some { x with firedAt := some (s.runAt x.instant) } :=
    modSheaf_liveSheaf? _ (fun _ => rfl) (fun _ => rfl) hlive
  refine ⟨_, exec_sheafInstant_held faults hx hmode hphase hreached hheld, ?_, fun j hslot => ?_,
    _, failSheaf_ended 0x03 0 hmet, rfl, rfl, rfl, rfl, rfl⟩
  · rw [failSheaf_loops]; rfl
  · rw [failSheaf_freeing]
    simp [State.meets, hslot]

end Sys2Proof.Machine
end

section
/-! PROOFS. HOLD, SLEEP, the rails and references and the POWER commands (17_power_reset R491-R495, R507, 05_loop_modes R154,
19_package_electrical R537): what the shared operations of the entry into SLEEP change, and a lemma for each row. -/
namespace Sys2Proof.Machine

/-! What the shared operations change. -/

/-- The loss of a source is a matter of the timebase alone (02 R54). -/
theorem sourceLost_frame (x : Source) (s : State) : ∃ tb, s.sourceLost x = { s with tb := tb } := by
  unfold State.sourceLost State.useSource State.enterHoldover
  dsimp only
  cases x
  all_goals repeat' split
  all_goals exact ⟨_, rfl⟩

theorem checkIntegrated_frame (was : Bool) (s : State) : ∃ tb, s.checkIntegrated was = { s with tb := tb } := by
  unfold State.checkIntegrated
  split
  · exact sourceLost_frame .hedge s
  · exact ⟨s.tb, rfl⟩

theorem setAlive_frame (high : Bool) (s : State) : ∃ gl out, s.setAlive high = { s with gl := gl, out := out } := by
  unfold State.setAlive
  split <;> exact ⟨_, _, rfl⟩

theorem recordReset_frame (s : State) : ∃ gl ret, s.recordReset = { s with gl := gl, power.ret := ret } := by
  unfold State.recordReset State.retain
  split
  · exact ⟨_, _, rfl⟩
  · dsimp only
    split <;> exact ⟨_, _, rfl⟩

theorem unEvent_frame (s : State) : AnswerFrame s s.unEvent := by
  unfold State.unEvent
  exact .ite (countEvent_frame _ _) (.refl s)

@[simp] theorem unEvent_unit (s : State) : s.unEvent.unit = s.unit := by obtain ⟨_, _, _, _, h⟩ := unEvent_frame s; rw [h]
@[simp] theorem unEvent_loops (s : State) : s.unEvent.loops = s.loops := by obtain ⟨_, _, _, _, h⟩ := unEvent_frame s; rw [h]

/-- A bit of UN_EVENTS that sets changes no mode and no element (15 R462). -/
@[simp] theorem unSet_mode (i : Nat) (s : State) : (s.unSet i).unit.mode = s.unit.mode := by
  unfold State.unSet
  dsimp only
  split
  · rfl
  · rw [unEvent_unit]
@[simp] theorem unSet_loops (i : Nat) (s : State) : (s.unSet i).loops = s.loops := by
  unfold State.unSet
  dsimp only
  split
  · rfl
  · rw [unEvent_loops]

@[simp] theorem setMode_mode (m : Mode) (s : State) : (s.setMode m).unit.mode = m := by
  unfold State.setMode
  dsimp only
  repeat' split
  all_goals simp [*]
@[simp] theorem setMode_loops (m : Mode) (s : State) : (s.setMode m).loops = s.loops := by
  unfold State.setMode
  dsimp only
  repeat' split
  all_goals simp

/-- Each listed entry after an update of all of them is the update of some value. -/
theorem mem_mapListed {α : Type} [DecidableEq α] {d : α} {f : Nat → α → α} {m : SMap α} {p : Nat × α} (h : p ∈ mapListed d f m) :
    ∃ x, p.2 = f p.1 x := by
  obtain ⟨q, -, rfl⟩ := List.mem_map.mp (List.mem_filter.mp h).1
  exact ⟨q.2, rfl⟩

/-! The rows of HOLD_N and of SLEEP. -/

theorem exec_holdNAssert {s : State} (h : s.powered = true) :
    exec .holdNAssert s = .next { s with power.holdN := false, power.pinHold := true }.holdEntry :=
  congrArg Host.Outcome.next (if_pos h)

theorem exec_holdNRelease {s : State} (h : s.powered = true) :
    exec .holdNRelease s = .next { s with power.holdN := true, power.pinHold := false }.holdRelease :=
  congrArg Host.Outcome.next (if_pos h)

theorem exec_wakeRise {s : State} (h : s.power.phase = .asleep ∨ s.power.sleep ≠ .none) :
    exec .wakeRise s = .next { s with power.wakeRecognised := true } :=
  congrArg Host.Outcome.next (if_pos (by simpa using h))

/-- t1: Hedgerow, the mirror link and the watchdog stop (R491). The loss of the shelf's time that may follow is the
timebase's alone. -/
theorem exec_sleepShutdown {s : State} (hsleep : s.power.sleep = .answered) (ht1 : s.power.sleepT0 + 10000000 ≤ s.up) :
    ∃ t, exec .sleepShutdown s = .next t ∧
      t.power.sleep = .shutdown ∧ t.unit.mlUp = false ∧ t.gl.wdRun = false ∧ t.hedge.hstate = .off := by
  have hrow : ¬ (decide (s.power.sleep ≠ .answered) || decide (s.up < s.power.sleepT0 + 10000000)) = true := by
    simp [hsleep, Nat.not_lt.mpr ht1]
  refine ⟨_, congrArg Host.Outcome.next (if_neg hrow), ?_⟩
  dsimp only
  obtain ⟨tb, hframe⟩ := checkIntegrated_frame s.hedge.integrated _
  rw [hframe]
  exact ⟨rfl, rfl, rfl, rfl⟩

/-- t2 and t3: every element is parked, and the mode is SLEEP (R491). -/
theorem exec_sleepPark {s : State} (hsleep : s.power.sleep = .shutdown) (hframe : s.power.sleepFrame ≤ s.now)
    (hmode : s.unit.mode = .standby ∨ s.unit.mode = .hold) :
    ∃ t, exec .sleepPark s = .next t ∧ t.power.sleep = .parked ∧ t.power.detectors = false ∧
      t.unit.mode = .sleep ∧ ∀ p ∈ t.loops.elems, p.2.mode = .pk := by
  have hrow : ¬ (decide (s.power.sleep ≠ .shutdown) || decide (s.now < s.power.sleepFrame) ||
      !(decide (s.unit.mode = .standby) || decide (s.unit.mode = .hold))) = true := by
    simpa [hsleep, Nat.not_lt.mpr hframe, or_iff_not_imp_left] using hmode
  refine ⟨_, congrArg Host.Outcome.next (if_neg hrow), rfl, rfl, ?_⟩
  dsimp only
  obtain ⟨gl, out, halive⟩ := setAlive_frame false (State.recordReset _)
  obtain ⟨gl', ret, hrecord⟩ := recordReset_frame (State.setMode .sleep _)
  rw [halive, hrecord]
  refine ⟨setMode_mode _ _, fun p hmem => ?_⟩
  rw [setMode_loops] at hmem
  dsimp only at hmem
  obtain ⟨x, hx⟩ := mem_mapListed hmem
  rw [hx]
  rfl

/-- t4: every rail but VWAKE goes (R491). -/
theorem exec_pwrEnFall {s : State} (h : s.power.sleep = .parked) :
    ∃ t, exec .pwrEnFall s = .next t ∧ t.power.phase = .asleep ∧ t.power.pwrEn = false ∧ t.power.sleepT4 = s.up :=
  ⟨_, congrArg Host.Outcome.next (if_neg (by simp [h])), rfl, rfl, rfl⟩

/-- A wake ends SLEEP from T_OFF after t4 on, by a class P reset of its own cause (R493). -/
theorem exec_pwrEnRise {s : State} (hphase : s.power.phase = .asleep) (hwake : s.power.wakeRecognised = true)
    (hoff : s.power.sleepT4 + 100000000 ≤ s.up) :
    ∃ t, exec .pwrEnRise s = .next t ∧
      t.power.phase = .waitRelease ∧ t.power.pwrEn = true ∧ t.power.cause = 2 ∧ t.power.classP = true := by
  refine ⟨_, congrArg Host.Outcome.next ((if_neg (by simp [hphase])).trans (if_neg ?_)), rfl, rfl, rfl, rfl⟩
  simp [hphase, hwake, Nat.not_lt.mpr hoff]

/-! The rows of TB_REF, the rails, the pace and the role wait. -/

theorem exec_tbRefLoss {s : State} (hpower : s.powered = true) (href : s.power.tbRef = true) :
    exec .tbRefLoss s = .next ({ s with power.tbRef := false }.raise 152) :=
  congrArg Host.Outcome.next (if_pos (by simp [hpower, href]))

theorem exec_tbRefReturn {s : State} (h : s.power.tbRef = false) :
    exec .tbRefReturn s = .next { s with power.tbRef := true, power.tbRefAt := s.up } :=
  congrArg Host.Outcome.next (if_neg (by simp [h]))

/-- A rail that leaves its range is an event of its source (16 R466). -/
theorem exec_railExcursion_out {s : State} {r : Nat} {v : Int} (hr : r ≤ 7) (hpower : s.powered = true)
    (hout : v < (railRange r).1 ∨ (railRange r).2 < v) (hseen : s.railIgnored r = false) :
    exec (.railExcursion r v) s =
      .next ({ s with power.rails := mapSet none s.power.rails r (some v) }.raise (176 + r)) := by
  have hrow : (decide (7 < r) || !s.powered) = false := by simp [hpower, hr]
  have hbad : (decide ((railRange r).1 ≤ v) && decide (v ≤ (railRange r).2)) = false := by
    simp only [Bool.and_eq_false_iff, decide_eq_false_iff_not, Int.not_le]
    exact hout
  change execRailExcursion r v s = _
  simp only [execRailExcursion, hrow, hbad, hseen, Bool.false_and, Bool.or_self, Bool.false_eq_true, if_false]

/-- A rail that comes back into its range starts the wait of the reset release again (R494). -/
theorem exec_railExcursion_back {s : State} {r : Nat} {v w : Int} (hr : r ≤ 7) (hpower : s.powered = true)
    (hlo : (railRange r).1 ≤ v) (hhi : v ≤ (railRange r).2) (hw : mapGet none s.power.rails r = some w)
    (hout : w < (railRange r).1 ∨ (railRange r).2 < w) :
    exec (.railExcursion r v) s =
      .next { s with power.rails := mapSet none s.power.rails r (some v), power.railsAt := s.up } := by
  have hrow : (decide (7 < r) || !s.powered) = false := by simp [hpower, hr]
  have hwas : (decide ((railRange r).1 ≤ w) && decide (w ≤ (railRange r).2)) = false := by
    simp only [Bool.and_eq_false_iff, decide_eq_false_iff_not, Int.not_le]
    exact hout
  change execRailExcursion r v s = _
  simp only [execRailExcursion, hrow, hw, hwas, hlo, hhi, Option.all_some, decide_true, Bool.and_self, Bool.not_false, Bool.true_or,
    Bool.false_eq_true, if_false, if_true]

/-- The pace index is not read twice within 1 ms (00 R14). -/
theorem exec_paceUpdate_early {s : State} (v : BitVec 16) (h : s.up < s.power.paceAt + 10000000) :
    exec (.paceUpdate v) s = .next s :=
  congrArg Host.Outcome.next (if_pos (by simp [h]))

/-- A pace that has not fallen is stored, for the period from the reset release that runs (00 R14). -/
theorem exec_paceUpdate_due {s : State} {v : BitVec 16} (hphase : s.power.phase = .wiping ∨ s.functionUp = true)
    (hdue : s.power.paceAt + 10000000 ≤ s.up) (hv : 0x0A00 ≤ v.toNat) :
    exec (.paceUpdate v) s =
      .next { s with ident.pace := v, power.paceAt := s.up - (s.up - s.power.releasedAt) % 10000000 } := by
  have hrow : ¬ (!(decide (s.power.phase = .wiping) || s.functionUp) || decide (s.up < s.power.paceAt + 10000000)) = true := by
    simpa [Nat.not_lt.mpr hdue, or_iff_not_imp_left] using hphase
  exact congrArg Host.Outcome.next ((if_neg hrow).trans (if_neg (by simp [Nat.not_lt.mpr hv])))

theorem exec_roleWaitExpiry {s : State} (hmode : s.unit.mode = .calibrate) (hwait : s.unit.waiting.isSome = true) :
    exec .roleWaitExpiry s = .next s.roleDecision :=
  congrArg Host.Outcome.next (if_pos (by simp [hmode, hwait]))

/-! The POWER commands on a Standby unit. -/

section
variable {s : State} {tag : Tag} {c : InFlight} (hmode : s.unit.mode = .standby)
include hmode

theorem exec_powerHold_standby (hwaits : Waits s tag 0x0E02 c) :
    exec (.powerHold tag true) s = (({ s with power.cmdHold := true } : State).atFrame .hold).ok c := by
  refine congrArg Host.Outcome.next ((serve_any hwaits false _).trans ?_)
  simp [hmode, Reply.done]

theorem exec_powerHold_release_standby (hwaits : Waits s tag 0x0E02 c) (hpin : s.power.pinHold = false)
    (hlock : s.gl.lockstep = false) :
    exec (.powerHold tag false) s = (({ s with power.cmdHold := false } : State).holdRelease).ok c := by
  refine congrArg Host.Outcome.next ((serve_any hwaits false _).trans ?_)
  simp [hmode, hpin, hlock, Reply.done]

theorem exec_powerSleep_standby (hasks : Asks s tag 0x0E03 c) (hawake : s.sleeping = false) :
    exec (.powerSleep tag) s = ({ s with power.sleepAsked := some tag } : State).ok c := by
  refine congrArg Host.Outcome.next ((serve_asks hasks false _).trans ?_)
  simp [hmode, hawake, Reply.done]

end

/-- Settles O50: each clause is the lemma above of its row. Only the entry into SLEEP calls operations that other parts of the
state share, and their frames give what it leaves. -/
theorem sleepHoldAndPower : Obligations.SleepHoldAndPower := by
  unfold Obligations.SleepHoldAndPower
  refine ⟨fun s => ⟨exec_holdNAssert, exec_holdNRelease, exec_wakeRise, exec_sleepShutdown, exec_sleepPark, exec_pwrEnFall,
    exec_pwrEnRise, exec_tbRefLoss, exec_tbRefReturn, fun r v => exec_railExcursion_out,
    fun r v hr hpower hlo hhi w => exec_railExcursion_back hr hpower hlo hhi,
    fun v hphase => ⟨exec_paceUpdate_early v, exec_paceUpdate_due hphase⟩, exec_roleWaitExpiry⟩,
    fun s tag c hmode => ⟨exec_powerHold_standby hmode, exec_powerHold_release_standby hmode, exec_powerSleep_standby hmode⟩⟩

end Sys2Proof.Machine
end

section
/-! PROOFS. What a change of mode, the resets and a demotion leave of the network time counter (02_network_time R46, 17_power_reset
R494, R500-R502): the operations that they call touch the timebase nowhere, or nothing of it but its schedule. -/
namespace Sys2Proof.Machine

/-- The network time counter, its increment and STEPPED (02 R45-R47). -/
def State.clock (s : State) : BitVec 96 × BitVec 36 × Bool := (s.tb.counter, s.tb.incr, s.tb.stepped)

theorem clock_of_tb {s t : State} (h : t.tb = s.tb) : t.clock = s.clock := by unfold State.clock; rw [h]

theorem clock_eq_iff {s t : State} :
    t.clock = s.clock ↔ t.tb.counter = s.tb.counter ∧ t.tb.incr = s.tb.incr ∧ t.tb.stepped = s.tb.stepped := by
  simp [State.clock]

/-! Mode changes. -/

/-- A bit of UN_EVENTS changes the unit block, the access cycle, and what an interrupt changes (15 R462). -/
theorem unSet_frame (i : Nat) (s : State) : ∃ u cyc, AnswerFrame { s with unit := u, cycle := cyc } (s.unSet i) := by
  unfold State.unSet
  dsimp only
  split
  · exact ⟨_, _, .refl _⟩
  · exact ⟨_, _, unEvent_frame _⟩

/-- So does a change of MODE (15 R440, R462). -/
theorem setMode_frame (m : Mode) (s : State) : ∃ u cyc, AnswerFrame { s with unit := u, cycle := cyc } (s.setMode m) := by
  unfold State.setMode
  split
  · exact ⟨s.unit, s.cycle, .refl s⟩
  · dsimp only
    obtain ⟨u, cyc, hset⟩ := unSet_frame 0 { s with unit.mode := m, unit.control := decide (m = .active) || decide (m = .degraded) }
    exact ⟨u, cyc, hset.trans (.trans (unEvent_frame _) (.ite (unEvent_frame _) (.refl _)))⟩

section
variable (i : Nat) (m : Mode) (s : State)

@[simp] theorem unSet_tb : (s.unSet i).tb = s.tb := by obtain ⟨_, _, _, _, _, _, h⟩ := unSet_frame i s; rw [h]
@[simp] theorem setMode_tb : (s.setMode m).tb = s.tb := by obtain ⟨_, _, _, _, _, _, h⟩ := setMode_frame m s; rw [h]
@[simp] theorem setMode_gl : (s.setMode m).gl = s.gl := by obtain ⟨_, _, _, _, _, _, h⟩ := setMode_frame m s; rw [h]
@[simp] theorem setMode_ident : (s.setMode m).ident = s.ident := by obtain ⟨_, _, _, _, _, _, h⟩ := setMode_frame m s; rw [h]
@[simp] theorem setMode_trust : (s.setMode m).trust = s.trust := by obtain ⟨_, _, _, _, _, _, h⟩ := setMode_frame m s; rw [h]

end

@[simp] theorem demote_tb (s : State) : s.demote.tb = s.tb := by simp [State.demote]

/-! Ports and regions. -/

@[simp] theorem raise_tb (src : Nat) (s : State) : (s.raise src).tb = s.tb := by simp [State.raise, State.raiseN]
@[simp] theorem count_tb (p i n : Nat) (s : State) : (s.count p i n).tb = s.tb := rfl
@[simp] theorem atFrame_tb (a : FrameAct) (s : State) : (s.atFrame a).tb = s.tb := rfl

@[simp] theorem copyDone_tb (owner : Option (Nat × Nat)) (port st : Nat) (stamp : Option Nat) (s : State) :
    (s.copyDone owner port st stamp).tb = s.tb := by
  unfold State.copyDone
  split <;> rfl

@[simp] theorem endSleep_tb (p : Nat) (s : State) : (s.endSleep p).tb = s.tb := by simp [State.endSleep]
@[simp] theorem cutFrame_tb (p : Nat) (s : State) : (s.cutFrame p).tb = s.tb := by
  simp only [State.cutFrame, count_tb, tb_foldl, copyDone_tb, modPort_tb, implies_true]
@[simp] theorem discardQueued_tb (p counter st : Nat) (s : State) : (s.discardQueued p counter st).tb = s.tb := by
  simp [State.discardQueued]

/-- A fault of a link takes no source of time: the Sync interval of its port does (08 R234). -/
@[simp] theorem linkDown_tb (p : Nat) (remote : Bool) (s : State) : (s.linkDown p remote).tb = s.tb := by simp [State.linkDown]

/-- `t` is `s` but for its ports and its outputs. -/
def PortsFrame (s t : State) : Prop := ∃ ports out, t = { s with ports := ports, out := out }

theorem PortsFrame.trans {s t u : State} (h : PortsFrame s t) (k : PortsFrame t u) : PortsFrame s u := by
  obtain ⟨_, _, rfl⟩ := h
  obtain ⟨_, _, rfl⟩ := k
  exact ⟨_, _, rfl⟩

theorem PortsFrame.foldl {α : Type} {f : State → α → State} (h : ∀ t a, PortsFrame t (f t a)) (l : List α) (s : State) :
    PortsFrame s (l.foldl f s) := by
  induction l generalizing s with
  | nil => exact ⟨s.ports, s.out, rfl⟩
  | cons a l ih => exact (h s a).trans (ih _)

theorem setLsel_frame (k v : Nat) (s : State) : PortsFrame s (s.setLsel k v) := by
  unfold State.setLsel
  split <;> exact ⟨_, _, rfl⟩

/-- Substitutions restored touch the lanes of the ports and the lane-select pins (08 R232). -/
theorem restoreLanes_frame (s : State) : PortsFrame s s.restoreLanes := by
  unfold State.restoreLanes
  refine .foldl (fun t l => ?_) _ _
  dsimp only
  split
  · exact .trans ⟨_, _, rfl⟩ (setLsel_frame _ _ _)
  · exact .trans (.trans ⟨_, _, rfl⟩ (setLsel_frame _ _ _)) (setLsel_frame _ _ _)

@[simp] theorem restoreLanes_tb (s : State) : s.restoreLanes.tb = s.tb := by obtain ⟨_, _, h⟩ := restoreLanes_frame s; rw [h]

@[simp] theorem abortGroup_tb (group : Nat) (s : State) : (s.abortGroup group).tb = s.tb := by simp [State.abortGroup]
@[simp] theorem startRegionReset_tb (r : Nat) (s : State) : (s.startRegionReset r).tb = s.tb := rfl
@[simp] theorem resetLoop_tb (s : State) : s.resetLoop.tb = s.tb := by simp [State.resetLoop]
@[simp] theorem resetPorts_tb (s : State) : s.resetPorts.tb = s.tb := by simp [State.resetPorts]

/-! The schedule cycle: what takes effect at a common boundary, and Hedgerow. -/

@[simp] theorem setSyncOut_clock (high : Bool) (s : State) : (s.setSyncOut high).clock = s.clock := by
  unfold State.setSyncOut
  split <;> rfl

theorem foldShift_clock (s : State) : s.foldShift.clock = s.clock := rfl

@[simp] theorem applyAtCommon_clock (s : State) : s.applyAtCommon.clock = s.clock := by
  have hfold : (if s.tb.foldPending then s.foldShift else s).clock = s.clock := by
    split
    · exact foldShift_clock s
    · rfl
  unfold State.applyAtCommon
  extract_lets
  split
  · rw [setSyncOut_clock]
    exact hfold
  · exact hfold

@[simp] theorem settleCommon_clock (s : State) : s.settleCommon.clock = s.clock := by
  unfold State.settleCommon
  split
  · exact applyAtCommon_clock s
  · rfl

/-- The loss of a source decides no step and makes none. -/
theorem sourceLost_counter (x : Source) (s : State) :
    (s.sourceLost x).tb.counter = s.tb.counter ∧ (s.sourceLost x).tb.stepped = s.tb.stepped := by
  unfold State.sourceLost State.useSource State.enterHoldover
  dsimp only
  cases x
  all_goals repeat' split
  all_goals exact ⟨rfl, rfl⟩

theorem checkIntegrated_counter (was : Bool) (s : State) :
    (s.checkIntegrated was).tb.counter = s.tb.counter ∧ (s.checkIntegrated was).tb.stepped = s.tb.stepped := by
  unfold State.checkIntegrated
  split
  · exact sourceLost_counter .hedge s
  · exact ⟨rfl, rfl⟩

/-- Where the restart of Hedgerow loses the source in use, the increment of holdover waits for a loop frame start. -/
theorem resetHedge_clock (s : State) : s.resetHedge.clock = s.clock := by
  unfold State.resetHedge
  split
  · rfl
  · dsimp only
    rw [settleCommon_clock]
    obtain ⟨hcounter, hstepped⟩ := checkIntegrated_counter s.hedge.integrated { s with hedge := s.hedge.restarted s.up }
    split <;> simp [State.clock, hcounter, hstepped]

/-! The resets. -/

theorem classS_clock (k : Nat) (s : State) : (s.classS k).clock = s.clock := by
  unfold State.classS
  split
  · exact clock_of_tb (by simp)
  · exact clock_of_tb (by simp)
  · exact clock_of_tb (abortGroup_tb _ _)
  · exact clock_of_tb (abortGroup_tb _ _)
  · exact clock_of_tb (abortGroup_tb _ _)
  · rw [resetHedge_clock]
    exact clock_of_tb (abortGroup_tb _ _)
  · rfl

theorem classF_clock (s : State) : s.classF.clock = s.clock := by
  unfold State.classF
  split <;> rfl

/-- The release of a class P or H reset (17 R494): the counter starts again at 0 (R46). -/
theorem exec_resetRelease {s : State} (straps : Straps) (hphase : s.power.phase = .waitRelease) (href : s.power.tbRef = true)
    (hen : s.power.pwrEn = true) (hrails : s.railsGood = true) (hran : s.power.tbRefAt + 10000000 ≤ s.up) :
    exec (.resetRelease straps) s = .next (({ s with
      power.phase := .wiping, power.resetN := true, power.perstN := true, power.detectors := true, power.releasedAt := s.up
      power.paceAt := s.up, tb.counter := 0, tb.incr := 0x666666666#36, tb.stepped := false
      gl.resetCause := s.power.ret.cause, gl.wdPeriodMs := 4000, gl.wdLast := s.up, gl.wdRun := true
      unit.unitIdStrap := straps.unitId, unit.pref := straps.pref, hedge.node := straps.unitId.toNat
      hedge.coldNode := straps.coldstart }.emit (.pin .flRstN 0)).emit (.pin .flRstN 1)) :=
  congrArg Host.Outcome.next (if_neg (by simp [hphase, href, hen, hrails, Nat.not_lt.mpr hran]))

theorem exec_functionLevelReset {s : State} (h : s.functionUp = true) : exec .functionLevelReset s = .next s.classF :=
  congrArg Host.Outcome.next (if_pos h)

/-- Settles O4: the release writes the clock, and each of the other resets and the demotion keeps it. -/
theorem resetsAndTheCounter : Obligations.ResetsAndTheCounter := by
  unfold Obligations.ResetsAndTheCounter
  intro s
  refine ⟨fun straps hphase href hen hrails hran => ?_, fun hup => ?_, fun k => ?_, ?_⟩
  · exact ⟨_, exec_resetRelease straps hphase href hen hrails hran, rfl, rfl, rfl, rfl⟩
  · exact ⟨_, exec_functionLevelReset hup, clock_eq_iff.mp (classF_clock s)⟩
  · exact clock_eq_iff.mp (classS_clock k s)
  · exact clock_eq_iff.mp (clock_of_tb (demote_tb s))

end Sys2Proof.Machine
end

section
/-! PROOFS. Power, the reset pins and boot (17_power_reset R493-R500, R504, 18_trust R511, R523, 00_scope R17): a lemma for each
row, and what the assertion of a reset pin leaves. -/
namespace Sys2Proof.Machine

/-! Power and the reset pins. -/

theorem exec_powerOn {s : State} (h : s.power.phase = .off) : exec .powerOn s = .next { s with
    power.phase := .waitRelease, power.vwake := true, power.classP := true, power.dark := true, power.cause := 1
    power.ret := {}, power.tbRefAt := s.up, power.railsAt := s.up + 20000000 } :=
  congrArg Host.Outcome.next (if_neg (by simp [h]))

/-- The rise of PWR_EN at power on, 2 ms after VWAKE (R493). -/
theorem exec_pwrEnRise_powerOn {s : State} (hphase : s.power.phase = .waitRelease) (hlow : s.power.pwrEn = false)
    (hwait : s.power.railsAt ≤ s.up) : exec .pwrEnRise s = .next { s.setPwrEn true with power.railsAt := s.up } :=
  congrArg Host.Outcome.next (if_pos (by simp [hphase, hlow, hwait]))

/-- The loss of VWAKE takes the retention area with it (R504). -/
theorem exec_vwakeLoss {s : State} (h : s.power.phase ≠ .off) : ∃ t, exec .vwakeLoss s = .next t ∧ t.power.phase = .off ∧
    t.power.vwake = false ∧ t.power.ret = { cause := 0, nextSeq := 1, record := none, lastResetTime := 0, resetCount := 0 } :=
  ⟨_, congrArg Host.Outcome.next (if_neg h), rfl, rfl, rfl⟩

theorem exec_brownOut {s : State} (hpower : s.powered = true) (harmed : s.power.detectors = true) :
    exec .brownOut s = .next ({ s with power.railsAt := s.up }.classReset true 1) :=
  congrArg Host.Outcome.next (if_pos (by simp [hpower, harmed]))

theorem exec_resetNAssert {s : State} (h : s.powered = true) :
    exec .resetNAssert s = .next ({ s with power.resetN := false }.classReset false 3) :=
  congrArg Host.Outcome.next (if_pos h)

theorem exec_perstAssert {s : State} (h : s.powered = true) :
    exec .perstAssert s = .next ({ s with power.perstN := false }.classReset false 4) :=
  congrArg Host.Outcome.next (if_pos h)

theorem exec_resetDeviceDelayExpiry {s : State} {t : Nat} (hasked : s.il.resetDue = some t) (hdue : t ≤ s.up) :
    exec .resetDeviceDelayExpiry s = .next ({ s with il.resetDue := none }.classReset false 7) := by
  change execResetDeviceDelayExpiry s = _
  simp only [execResetDeviceDelayExpiry, hasked, hdue, if_true]

/-- A device whose function answers is powered and in no class P or H reset. -/
theorem powered_of_functionUp {s : State} (h : s.functionUp = true) : s.powered = true ∧ s.inReset = false := by
  simp only [State.functionUp, Bool.or_eq_true, decide_eq_true_eq] at h
  obtain hphase | hphase := h <;> simp [State.powered, State.inReset, hphase]

/-- The state from the assertion of a class H reset of a cause on: the device waits for its release in BOOT, with firmware, commands
and answers gone (R497, R498, R506). -/
structure State.Awaits (cause : Nat) (t : State) : Prop where
  phase : t.power.phase = .waitRelease
  classH : t.power.classP = false
  boot : t.unit.mode = .boot
  firmware : t.ident.fwReady = false
  commands : t.il.inflight = []
  answers : t.il.answers = []
  cause : t.power.cause = cause

theorem classReset_awaits {s : State} (cause : Nat) (h : s.inReset = false) : (s.classReset false cause).Awaits cause := by
  unfold State.classReset
  rw [h]
  exact ⟨rfl, rfl, rfl, rfl, rfl, rfl, rfl⟩

/-- Either reset pin, on a device whose function answers, is a class H reset of its own cause (R496). -/
theorem exec_resetPin {s : State} {i : Instr} (hpin : i = .resetNAssert ∨ i = .perstAssert) (hup : s.functionUp = true) :
    ∃ t, exec i s = .next t ∧ t.Awaits (if i = .resetNAssert then 3 else 4) := by
  obtain ⟨hpower, hreset⟩ := powered_of_functionUp hup
  obtain rfl | rfl := hpin
  · exact ⟨_, exec_resetNAssert hpower, classReset_awaits 3 hreset⟩
  · exact ⟨_, exec_perstAssert hpower, classReset_awaits 4 hreset⟩

/-! Boot. -/

theorem exec_wipeComplete {s : State} (h : s.power.phase = .wiping) :
    exec .wipeComplete s = .next { s with power.phase := .bootRom }.bootRom :=
  congrArg Host.Outcome.next (if_pos h)

/-- The saved parameters are those of Gleaner sources, and nothing else (16 R488). -/
theorem loadParams_frame (s : State) : ∃ srcs, s.loadParams = { s with gl.srcs := srcs } := by
  unfold State.loadParams
  generalize s.gl.saved = saved
  induction saved generalizing s with
  | nil => exact ⟨s.gl.srcs, rfl⟩
  | cons p saved ih =>
    obtain ⟨srcs, h⟩ := ih (s.modSrc p.1 fun x => { x with params := some p.2 })
    exact ⟨srcs, h⟩

/-- What firmware loads before it starts a mode leaves the phases of the regions, the identity and the trust block (R17). -/
theorem restoreLanes_loadParams_frame (s : State) :
    ∃ srcs, PortsFrame { s with gl.srcs := srcs } s.loadParams.restoreLanes := by
  obtain ⟨srcs, h⟩ := loadParams_frame s
  exact ⟨srcs, h ▸ restoreLanes_frame _⟩

theorem blockOutputs_gl (s : State) : s.blockOutputs.gl = s.gl := by
  unfold State.blockOutputs
  generalize s.withChanges s.now s.loops.elems _ = elems
  rfl

theorem holdDevice_gl (s : State) : s.holdDevice.gl = s.gl := by rw [State.holdDevice, modElems_gl]

@[simp] theorem holdEntry_gl (s : State) : s.holdEntry.gl = s.gl := by
  unfold State.holdEntry
  split
  · rw [holdDevice_gl, setMode_gl]
  · rfl

@[simp] theorem startCalibrate_gl (s : State) : s.startCalibrate.gl = s.gl := by
  have hdark (t : State) : (if s.power.dark then t.blockOutputs else t).gl = t.gl := by
    split
    · exact blockOutputs_gl t
    · rfl
  unfold State.startCalibrate
  extract_lets
  split
  · rw [holdEntry_gl, setMode_gl]
    exact hdark _
  · rw [setMode_gl]
    exact hdark _

@[simp] theorem startFactoryTest_gl (s : State) : s.startFactoryTest.gl = s.gl := by simp [State.startFactoryTest]

/-- The state in which FW_READY has set, before the mode that it starts (R17). -/
def State.fwUp (s : State) : State :=
  { s.identify with
    power.phase := .running, trust.readyAt := s.up, trust.factoryRequest := none
    gl.wdPeriodMs := 500, gl.wdLast := s.up }.loadParams.restoreLanes

/-- What FW_READY keeps and sets, whatever mode it starts. -/
theorem fwUp_fields (s : State) :
    s.fwUp.gl.regionPhase = s.gl.regionPhase ∧ s.fwUp.ident.fwReady = true ∧ s.fwUp.trust.factoryRequest = none := by
  obtain ⟨srcs, ports, out, h⟩ := restoreLanes_loadParams_frame { s.identify with
    power.phase := .running, trust.readyAt := s.up, trust.factoryRequest := none, gl.wdPeriodMs := 500, gl.wdLast := s.up }
  unfold State.fwUp
  rw [h]
  exact ⟨rfl, rfl, rfl⟩

/-- FACTORY_TEST is asked for by the life cycle as it stands (18 R523). -/
def State.testAsked (s : State) : Bool := s.trust.factoryRequest = some s.trust.lc && (s.trust.lc = 0 || s.trust.lc = 3)

/-- With no RESET_REGION in progress, FW_READY is the start of CALIBRATE or of the FACTORY_TEST asked for (R17, 18 R523). -/
theorem exec_fwReady {s : State} (hphase : s.power.phase = .bootRom) (hloaded : s.trust.loaded = true) (hregion : s.gl.regionPhase = []) :
    exec .fwReady s = .next (if s.testAsked then s.fwUp.startFactoryTest else s.fwUp.startCalibrate) := by
  obtain ⟨hkept, -, -⟩ := fwUp_fields s
  have hmode : (if s.testAsked then s.fwUp.startFactoryTest else s.fwUp.startCalibrate).gl.regionPhase = [] := by
    split <;> simp [hkept, hregion]
  refine congrArg Host.Outcome.next ((if_neg (by simp [hphase, hloaded])).trans ?_)
  change List.foldl _ (if s.testAsked then s.fwUp.startFactoryTest else s.fwUp.startCalibrate)
    (List.filter _ (if s.testAsked then s.fwUp.startFactoryTest else s.fwUp.startCalibrate).gl.regionPhase) = _
  rw [hmode]
  rfl

theorem exec_fwReady_calibrate {s : State} (hphase : s.power.phase = .bootRom) (hloaded : s.trust.loaded = true)
    (hask : s.trust.factoryRequest = none) (hregion : s.gl.regionPhase = []) : exec .fwReady s = .next s.fwUp.startCalibrate := by
  rw [exec_fwReady hphase hloaded hregion, if_neg (by simp [State.testAsked, hask])]

theorem exec_fwReady_factoryTest {s : State} (hphase : s.power.phase = .bootRom) (hloaded : s.trust.loaded = true)
    (hask : s.trust.factoryRequest = some s.trust.lc) (hlc : s.trust.lc = 0 ∨ s.trust.lc = 3) (hregion : s.gl.regionPhase = []) :
    ∃ t, exec .fwReady s = .next t ∧ t.unit.mode = .factoryTest ∧ t.ident.fwReady = true ∧ t.trust.factoryRequest = none := by
  have htest : s.testAsked = true := by simpa [State.testAsked, hask] using hlc
  obtain ⟨-, hready, hnone⟩ := fwUp_fields s
  refine ⟨s.fwUp.startFactoryTest, (exec_fwReady hphase hloaded hregion).trans (by rw [if_pos htest]), setMode_mode _ _, ?_, ?_⟩
  · rw [State.startFactoryTest, setMode_ident]
    exact hready
  · rw [State.startFactoryTest, setMode_trust]
    exact hnone

/-- An image that has run for 60 s is confirmed; one staged meanwhile keeps its trial (18 R511). -/
theorem exec_fwConfirm {s : State} (hready : s.ident.fwReady = true) (hopen : s.trust.confirmed = false)
    (hran : s.trust.readyAt + 600000000000 ≤ s.up) : exec .fwConfirm s =
      .next { s with trust.confirmed := true, trust.boot.trial := s.trust.boot.trial && s.trust.staged } :=
  congrArg Host.Outcome.next (if_pos (by simp [hready, hopen, hran]))

theorem exec_pcieHotReset {s : State} (h : s.functionUp = true) : exec .pcieHotReset s = .next s.classF :=
  congrArg Host.Outcome.next (if_pos h)

/-- Settles O49: each clause is the lemma above of its row, and the state that a reset pin leaves is `exec_resetPin`. -/
theorem powerAndBootEvents : Obligations.PowerAndBootEvents := by
  unfold Obligations.PowerAndBootEvents
  refine ⟨fun s => ⟨exec_powerOn, exec_pwrEnRise_powerOn, exec_vwakeLoss, exec_brownOut, exec_resetNAssert, exec_perstAssert,
    fun t => exec_resetDeviceDelayExpiry, exec_resetRelease, exec_wipeComplete, exec_fwReady_calibrate,
    exec_fwReady_factoryTest, exec_fwConfirm, exec_pcieHotReset, exec_functionLevelReset, rfl⟩, fun s i hpin hup => ?_⟩
  obtain ⟨t, hnext, h⟩ := exec_resetPin hpin hup
  exact ⟨t, hnext, h.phase, h.classH, h.boot, h.firmware, h.commands, h.answers, h.cause⟩

end Sys2Proof.Machine
end

section
/-! PROOFS. The TIME commands and the latched read of the counter (02_network_time R47-R49, R57, R62-R64, R68, R71, R76, R79): a
lemma for each row. -/
namespace Sys2Proof.Machine

section
variable {s : State} {tag : Tag} {c : InFlight}

/-- The first TIME_SET decides the step that the next tick makes (R47, R553). -/
theorem exec_timeSet (time : BitVec 64) (frac : BitVec 32) (hwaits : Waits s tag 0x0202 c) (hfirst : s.tb.stepped = false)
    (hload : s.tb.load = none) : exec (.timeSet tag time frac) s = ({ s with tb.load := some (time ++ frac) } : State).ok c := by
  have htaken : s.stepTaken = false := by simp [State.stepTaken, hfirst, hload]
  refine congrArg Host.Outcome.next ((serve_any hwaits false _).trans ?_)
  simp only [htaken, Bool.false_eq_true, if_false]
  rfl

theorem exec_timeSet_again (time : BitVec 64) (frac : BitVec 32) (hwaits : Waits s tag 0x0202 c)
    (hagain : s.tb.stepped = true ∨ s.tb.load.isSome = true) : exec (.timeSet tag time frac) s = s.no c .alreadyStepped := by
  have htaken : s.stepTaken = true := by simpa [State.stepTaken] using hagain
  refine congrArg Host.Outcome.next ((serve_any hwaits false _).trans ?_)
  simp only [htaken, if_true]
  rfl

/-- A re-anchor runs up to its step (R49). -/
theorem exec_timeReanchor (time : BitVec 64) (frac : BitVec 32) (hwaits : Waits s tag 0x0203 c) (hstepped : s.tb.stepped = true)
    (hload : s.tb.load = none) (hidle : s.tb.reanchorTag = none) :
    exec (.timeReanchor tag time frac) s = .next (s.reanchor tag (time ++ frac)) := by
  have hfound : findServed s.il.inflight tag 0x0203 false = some c := hwaits
  change execTimeReanchor tag time frac s = _
  simp [execTimeReanchor, hidle, hstepped, hload, hfound, counterOf]

theorem exec_timeSetSource {p f : BitVec 2} {x y : Source} {tau lock large : Nat} (hwaits : Waits s tag 0x0204 c)
    (hp : sourceOf p.toNat = some x) (hf : sourceOf f.toNat = some y) (htau : tauOk tau = true) (hlock : 10 ≤ lock)
    (hlock' : lock ≤ 10000) (hlarge : 1000 ≤ large) (hlarge' : large ≤ 1000000000) :
    exec (.timeSetSource tag p f tau lock large) s =
      ({ s.selectSource x y with tb.tauMs := tau, tb.lockNs := lock, tb.largeNs := large } : State).ok c := by
  refine congrArg Host.Outcome.next ((serve_any hwaits false _).trans ?_)
  simp [hp, hf, htau, Nat.not_lt.mpr, hlock, hlock', hlarge, hlarge', Reply.done]

theorem exec_timeSetCycle {b : BitVec 64} {n : BitVec 32} (hwaits : Waits s tag 0x0205 c) (hstepped : s.tb.stepped = true)
    (hpend : s.tb.pendCycle = none) (hn : 20000 ≤ n.toNat) (hn' : n.toNat ≤ 1000000000) (hdiv : divides n.toNat s.hNs = true)
    (hbase : s.baseOk (s.arrivalOf tag) b.toNat n.toNat = true) (hfit : s.gatesFit b.toNat n.toNat = true) :
    exec (.timeSetCycle tag b n) s = ({ s with tb.pendCycle := some (b.toNat, n.toNat) } : State).ok c := by
  refine congrArg Host.Outcome.next ((serve_any hwaits false _).trans ?_)
  simp [hstepped, hpend, Nat.not_lt.mpr, hn, hn', hdiv, hbase, hfit, Reply.done]

theorem exec_timeFoldShift (hasks : Asks s tag 0x0206 c) :
    exec (.timeFoldShift tag) s = ({ s with tb.foldPending := true } : State).settleCommon.ok c :=
  congrArg Host.Outcome.next (serve_asks hasks false _)

theorem exec_timeSetSyncin {en : Bool} {w d : Nat} (hwaits : Waits s tag 0x0207 c) (hw : 1000 ≤ w) (hw' : w ≤ 100000)
    (hfits : 2 * w < max s.tb.cycleC s.hNs) (hd : d ≤ 100) :
    exec (.timeSetSyncin tag en w d) s = ({ s with tb.syncInPend := some ⟨en, w, d⟩ } : State).settleCommon.ok c := by
  refine congrArg Host.Outcome.next ((serve_any hwaits false _).trans ?_)
  simp only [Nat.not_lt.mpr hw, Nat.not_lt.mpr hw', Nat.not_le.mpr hfits, Nat.not_lt.mpr hd, decide_false, Bool.and_false, Bool.or_false,
    Bool.false_eq_true, if_false]
  rfl

theorem exec_timeSetSyncout {m : Nat} {k : SyncOutMode} {p : Option Nat} {l : Nat} (hwaits : Waits s tag 0x0208 c)
    (hm : syncOutOf m = some k) (hp : ∀ w ∈ p, 100 ≤ w ∧ w ≤ 500000000) (hl : 1000 ≤ l) (hl' : l ≤ 1000000) :
    exec (.timeSetSyncout tag m p l) s = ({ s with tb.syncOutPend := some ⟨k, p, l⟩ } : State).settleCommon.ok c := by
  have hwidth : (p.any fun w => decide (w < 100) || decide (500000000 < w)) = false := by
    cases p with
    | none => rfl
    | some w => simpa using hp w rfl
  refine congrArg Host.Outcome.next ((serve_any hwaits false _).trans ?_)
  simp only [hm, hwidth, Nat.not_lt.mpr hl, Nat.not_lt.mpr hl', decide_false, Bool.or_false, Bool.false_eq_true, if_false]
  rfl

theorem exec_timeSetPtp {cfg : PtpCfg} (hwaits : Waits s tag 0x0209 c) (hdomain : cfg.domain ≤ 127) (hprio : cfg.priority1 ≤ 255)
    (hsync : -7 ≤ cfg.logSync) (hsync' : cfg.logSync ≤ 3) (hdelay : -3 ≤ cfg.logPdelay) (hdelay' : cfg.logPdelay ≤ 3)
    (hroles : ∀ r ∈ cfg.roles, r ≤ 3) (hgm : cfg.gmCapable = true) :
    exec (.timeSetPtp tag cfg) s = ({ s with tb.ptpPend := some cfg } : State).ok c := by
  have hany : (cfg.roles.any fun r => decide (3 < r)) = false := by simpa using hroles
  have hkept : ({ cfg with priority1 := if cfg.gmCapable then cfg.priority1 else 255 } : PtpCfg) = cfg := by rw [if_pos hgm]
  refine congrArg Host.Outcome.next ((serve_any hwaits false _).trans ?_)
  simp only [Nat.not_lt.mpr hdomain, Nat.not_lt.mpr hprio, Int.not_lt.mpr hsync, Int.not_lt.mpr hsync', Int.not_lt.mpr hdelay,
    Int.not_lt.mpr hdelay', hany, hkept, decide_false, Bool.or_false, Bool.false_eq_true, if_false]
  rfl

theorem exec_timeSetPortLatency {port : Nat} {i e : Int} (hwaits : Waits s tag 0x020A c) (hport : port ≤ 3) (hi : mag i ≤ 1600)
    (he : mag e ≤ 1600) : exec (.timeSetPortLatency tag port i e) s =
      ({ s with tb.lat := mapSet (0, 0) s.tb.lat port (i, e) } : State).ok c := by
  refine congrArg Host.Outcome.next ((serve_any hwaits false _).trans ?_)
  simp only [gt_iff_lt, Nat.not_lt.mpr hport, Int.not_lt.mpr hi, Int.not_lt.mpr he, if_false]
  rfl

end

/-- Settles O1: each clause is the lemma above of its row; of an answer the timebase, the loops, the sheaves and Hedgerow feel
nothing. -/
theorem timeCommandsTakeEffect : Obligations.TimeCommandsTakeEffect := by
  unfold Obligations.TimeCommandsTakeEffect
  refine ⟨fun s tag c => ⟨exec_timeSet, exec_timeReanchor, fun p f x y tau lock large => exec_timeSetSource,
    fun b n => exec_timeSetCycle, exec_timeFoldShift, fun en w d => exec_timeSetSyncin, fun m k p l => exec_timeSetSyncout,
    fun cfg => exec_timeSetPtp, fun port i e => exec_timeSetPortLatency⟩, fun s tag c time frac hwaits => ⟨fun hfirst hload => ?_,
    exec_timeSet_again time frac hwaits⟩⟩
  exact ⟨_, exec_timeSet time frac hwaits hfirst hload, answer_tb _ _ _, answer_loops _ _ _, answer_sheaves _ _ _, answer_hedge _ _ _⟩

theorem exec_tbTimeLoRead (s : State) : exec .tbTimeLoRead s =
    .next { s with tb.latched := s.tb.counter, out := .readData ((s.tb.counter >>> 32).setWidth 32) :: s.out } := rfl

/-- TB_TIME_HI and TB_TIME_FRAC are parts of the sample that the last read of TB_TIME_LO latched (R76). -/
theorem readReg_latched (s : State) : s.readReg 0x1004 = (s.tb.latched >>> 64).setWidth 32 ∧
    s.readReg 0x1008 = s.tb.latched.setWidth 32 := ⟨rfl, rfl⟩

/-- Settles O2: the read latches the counter, and the two other registers read what is latched. -/
theorem latchedTimeReads : Obligations.LatchedTimeReads := by
  unfold Obligations.LatchedTimeReads
  exact fun s => ⟨⟨_, exec_tbTimeLoRead s, rfl, readReg_latched _⟩, readReg_latched s⟩

end Sys2Proof.Machine
end

section
/-! PROOFS. The events of the timebase (02_network_time R54, R56, R60, R64, R67, R71-R73, R77): a lemma for each row, and when a
capture window stays open. -/
namespace Sys2Proof.Machine

/-! The capture window of SYNC_IN (R64, R67). -/

theorem closeWindow_none {s : State} (t : Nat) (h : s.tb.window = none) : s.closeWindow t = s := by
  unfold State.closeWindow
  rw [h]

/-- A window stays as it is up to its end. -/
theorem closeWindow_open {s : State} {w : SyncWindow} {t : Nat} (hwin : s.tb.window = some w) (ht : t ≤ w.t + s.tb.syncIn.wNs) :
    s.closeWindow t = s := by
  unfold State.closeWindow
  rw [hwin]
  exact if_pos ht

/-- A time `x` that lies in the window, in 2^-32 ns, is near its middle and not past its end. -/
theorem mag_le_and_div_le_of_mem_window {x t w : Nat} (hlo : t * 2 ^ 32 ≤ x) (hhi : x ≤ (t + w) * 2 ^ 32) :
    mag ((x : Int) - t * 2 ^ 32) ≤ (w : Int) * 2 ^ 32 ∧ ((x : Int) / 2 ^ 32).toNat ≤ t + w := by
  unfold mag
  omega

/-- An edge inside the open window is accepted with its offset from the boundary (R64). -/
theorem exec_syncInEdge_inside {s : State} {ps : Nat} {w : SyncWindow} (hen : s.tb.syncIn.enable = true)
    (hvalid : s.tb.cycleValid = true) (hwin : s.tb.window = some w) (hfirst : w.accepted = false)
    (hlo : w.t * 2 ^ 32 ≤ s.captureAt ps) (hhi : s.captureAt ps ≤ (w.t + s.tb.syncIn.wNs) * 2 ^ 32) :
    exec (.syncInEdge ps) s = .next (({ s with tb.window := some ⟨w.t, true⟩ } : State).acceptEdge
      (((s.captureAt ps : Int) - w.t * 2 ^ 32 + 2 ^ 31) / 2 ^ 32) false) := by
  obtain ⟨hinside, hend⟩ := mag_le_and_div_le_of_mem_window hlo hhi
  have hopen : s.closeWindow ((s.captureAt ps : Int) / 2 ^ 32).toNat = s := closeWindow_open hwin hend
  change execSyncInEdge ps s = _
  simp only [execSyncInEdge, hen, hvalid, hopen, hwin, hfirst, hinside, Bool.and_self, Bool.not_true, decide_true, Bool.false_eq_true,
    if_false, if_true]

/-! SYNC_OUT and the schedule cycle. -/

theorem exec_syncOutPulse {s : State} {t : Nat} {id : Option Nat} (hdue : s.dueEdge = some (t, id)) :
    exec .syncOutPulse s = .next ((s.launched t).pulse t id) := by
  change execSyncOutPulse s = _
  simp only [execSyncOutPulse, hdue]

/-- A pulse that no sheaf notice can prolong ends at its time (R72, R73). -/
theorem exec_syncOutPulseEnd {s : State} (hhigh : s.tb.syncOutHigh = true) (hend : s.reached s.pulseEndNow = true)
    (hmode : s.tb.syncOut.mode ≠ .sheafNotice) :
    exec .syncOutPulseEnd s = .next { s with tb.syncOutHigh := false, out := .pin .syncOut 0 :: s.out } := by
  change execSyncOutPulseEnd s = _
  simp [execSyncOutPulseEnd, State.setSyncOut, State.emit, hhigh, hend, hmode]

theorem exec_scheduleBoundary {s : State} {sw com : Bool} {at_ : Nat} (hnext : s.nextBoundary = some (sw, com, at_))
    (hreached : s.reached at_ = true) : exec .scheduleBoundary s = .next (s.boundary.gatesAtBoundary s.tb.cycleC) := by
  change execScheduleBoundary s = _
  simp only [execScheduleBoundary, hnext, hreached, if_true]

/-! gPTP (R56). -/

theorem exec_gptpMessageReceived_sync {s : State} {port : Nat} {off rate : Int} {src : Nat} (hport : port ≤ 3)
    (hen : s.applyPtp.tb.ptp.ports.getLsbD port = true) (hslave : s.applyPtp.ptpRole port = 1) :
    exec (.gptpMessageReceived port (.sync s.applyPtp.tb.ptp.domain true off rate src)) s =
      .next (({ s.applyPtp with tb.syncStamp := mapGet 0 s.tb.gptpStamp port } : State).measurement .gptp off rate
        (BitVec.ofNat 96 (src * 2 ^ 32))) := by
  change execGptpMessageReceived port (.sync s.applyPtp.tb.ptp.domain true off rate src) s = _
  unfold execGptpMessageReceived
  rw [if_neg (Nat.not_lt.mpr hport)]
  simp only [hen, hslave, ne_eq, not_true_eq_false, decide_false, Bool.or_self, Bool.not_true, Bool.false_eq_true, if_false, if_true]
  rfl

theorem exec_gptpMessageTransmit {s : State} {port : Nat} {sync : Bool} (hport : port < 4)
    (hen : s.applyPtp.tb.ptp.ports.getLsbD port = true) (hmaster : sync = true → s.applyPtp.ptpRole port = 2) :
    exec (.gptpMessageTransmit port sync) s = .next (s.applyPtp.drawn.enqueue port
      { bytes := Config.gptpFrame port sync s.free, tc := (s.gate port).cfg.ptpClass, gptp := some sync }) := by
  have hsends : (s.applyPtp.tb.ptp.ports.getLsbD port && (!sync || decide (s.applyPtp.ptpRole port = 2))) = true := by
    cases sync
    · simpa using hen
    · simp [hen, hmaster rfl]
  change execGptpMessageTransmit port sync s = _
  unfold execGptpMessageTransmit
  rw [if_neg (by omega)]
  dsimp only
  rw [if_pos hsends]
  rfl

theorem exec_gptpSyncTimeout {s : State} (h : s.tb.syncAt + 3 * s.tb.ptp.interval ≤ s.up) :
    exec .gptpSyncTimeout s = .next (s.sourceLost .gptp) :=
  congrArg Host.Outcome.next (if_pos h)

/-- The read clears the counts but for what the access cycle has counted (R77, 00 R7). -/
theorem exec_tbCountsRead (s : State) : exec .tbCountsRead s =
    .next { s with tb.syncMiss := min s.tb.syncMiss s.cycle.miss, tb.syncReject := min s.tb.syncReject s.cycle.reject
                   out := .readData (BitVec.ofNat 32 ((s.tb.syncReject - min s.tb.syncReject s.cycle.reject) * 65536 +
                     (s.tb.syncMiss - min s.tb.syncMiss s.cycle.miss))) :: s.out } := rfl

/-- Settles O3: each clause is the lemma above of its row. -/
theorem timebaseEvents : Obligations.TimebaseEvents := by
  unfold Obligations.TimebaseEvents
  exact ⟨fun s => ⟨fun ps w => exec_syncInEdge_inside, fun t id => exec_syncOutPulse, exec_syncOutPulseEnd,
      fun sw com at_ => exec_scheduleBoundary, fun port off rate src => exec_gptpMessageReceived_sync,
      fun port sync => exec_gptpMessageTransmit, exec_gptpSyncTimeout⟩,
    fun s => ⟨exec_tbTimeLoRead s, exec_tbCountsRead s⟩⟩

end Sys2Proof.Machine
end

section
/-! PROOFS. One edge of TB_REF with no command waiting (02_network_time R45, R47, R67, R553): what a loaded step leaves, when the
capture window, the loop frames and READY stay as they are, and the tick from these. -/
namespace Sys2Proof.Machine

/-! Elapsed time through sheaves that end. -/

theorem up_ite {b : Prop} [Decidable b] (s t : State) : (if b then s else t).up = if b then s.up else t.up := by
  split <;> rfl

theorem up_foldl {α : Type} (f : State → α → State) (l : List α) (s : State) (h : ∀ t x, (f t x).up = t.up) :
    (l.foldl f s).up = s.up := by
  induction l generalizing s with
  | nil => rfl
  | cons x l ih => rw [List.foldl_cons, ih, h]

theorem up_foldl1 {α β : Type} (f : State × β → α → State × β) (l : List α) (s : State × β)
    (h : ∀ t x, (f t x).1.up = t.1.up) : (l.foldl f s).1.up = s.1.up := by
  induction l generalizing s with
  | nil => rfl
  | cons x l ih => rw [List.foldl_cons, ih, h]

@[simp] theorem freeSlot_up (j : Option Nat) (s : State) : (s.freeSlot j).up = s.up := by
  cases j <;> rfl

@[simp] theorem noticeFor_up (x : Sheaf) (kind outcome : Nat) (s : State) : (s.noticeFor x kind outcome).up = s.up := by
  simp only [State.noticeFor, up_ite, ite_self]

@[simp] theorem outcome_up (id code detail : Nat) (s : State) : (s.outcome id code detail).up = s.up := by
  unfold State.outcome
  dsimp only
  repeat' split
  all_goals simp [State.fcqComplete]

@[simp] theorem reevaluateOne_up (f : Sheaf) (s : State) (g : Sheaf) : (s.reevaluateOne f g).1.up = s.up := by
  unfold State.reevaluateOne
  repeat' split
  all_goals simp

@[simp] theorem reevaluate_up (f : Sheaf) (s : State) : (s.reevaluate f).1.up = s.up :=
  up_foldl1 _ _ _ fun p g => reevaluateOne_up f p.1 g

@[simp] theorem stopStook_up (f : Sheaf) (s : State) : (s.stopStook f).1.up = s.up := by
  unfold State.stopStook
  repeat' split
  all_goals simp [up_foldl]

@[simp] theorem settle_up (n : Nat) (ids : List Nat) (s : State) : (s.settle n ids).up = s.up := by
  induction n generalizing ids s with
  | zero => rw [State.settle]
  | succ n ih =>
    cases ids with
    | nil => rfl
    | cons i ids =>
      rw [State.settle]
      split
      · exact ih ids s
      · dsimp only
        rw [ih]
        split <;> simp

@[simp] theorem failSheaves_up (ids : List Nat) (code : Nat) (s : State) : (s.failSheaves ids code).up = s.up := by
  rw [State.failSheaves, settle_up, up_foldl _ _ _ fun t i => outcome_up i code 0 t]

/-! The step of a tick. -/

/-- `t` is `s` but for what an answer may change, where there is a command to answer. -/
theorem answerTag_frame (tag : Tag) (r : Reply) (s : State) : AnswerFrame s (s.answerTag tag r) := by
  unfold State.answerTag
  split
  · exact answer_frame _ r s
  · exact .refl s

/-- What a tick that loads `c` leaves of the timebase, the loop frames that wait and the elapsed time (R47, R49). -/
structure State.Loaded (c : BitVec 96) (s t : State) : Prop where
  counter : t.tb.counter = c
  stepped : t.tb.stepped = true
  load : t.tb.load = none
  incr : t.tb.incr = s.tb.incr
  window : t.tb.window = s.tb.window
  frames : s.loops.frames = [] → t.loops.frames = []
  up : t.up = s.up + 64

theorem State.Loaded.of_eq {c : BitVec 96} {s t u : State} (h : s.Loaded c t) (htb : u.tb = t.tb) (hloops : u.loops = t.loops)
    (hup : u.up = t.up) : s.Loaded c u := by
  obtain ⟨hcounter, hstepped, hload, hincr, hwindow, hframes, hup'⟩ := h
  constructor <;> simpa [htb, hloops, hup]

theorem rebaseLoops_frames {s : State} (d : Int) (old : Nat) (h : s.loops.frames = []) :
    (s.rebaseLoops d old).loops.frames = [] := by simp [State.rebaseLoops, h]

theorem loadStep_loaded (c : BitVec 96) (s : State) : s.Loaded c (s.loadStep c) := by
  unfold State.loadStep
  extract_lets d16 s1 _ _ s2 s3 s4
  have h3 : s.Loaded c s3 := ⟨rfl, rfl, rfl, rfl, rfl, rebaseLoops_frames (s := s2) _ _, rfl⟩
  have h4 : s.Loaded c s4 := h3.of_eq (failSheaves_tb _ _ _) (failSheaves_loops _ _ _) (failSheaves_up _ _ _)
  split
  · next tag _ =>
    obtain ⟨_, _, _, _, h⟩ := answerTag_frame tag Reply.done s4
    exact h4.of_eq (by rw [h]) (by rw [h]) (by rw [h])
  · exact h4

/-! What a tick leaves as it is, and what it changes besides. -/

/-- Where no window is past its end, none closes (R67). -/
theorem closeWindow_running {s : State} {t : Nat} (h : ∀ w, s.tb.window = some w → t ≤ w.t + s.tb.syncIn.wNs) :
    s.closeWindow t = s := by
  cases hwin : s.tb.window with
  | none => exact closeWindow_none t hwin
  | some w => exact closeWindow_open hwin (h w hwin)

/-- A window that passes without an edge is a miss; only the sixteenth in a row is an event (R67). -/
theorem closeWindow_missed {s : State} {w : SyncWindow} {t : Nat} (hwin : s.tb.window = some w) (hmiss : w.accepted = false)
    (ht : w.t + s.tb.syncIn.wNs < t) (hrun : s.tb.missRun ≠ 15) :
    s.closeWindow t = { s with tb.window := none, tb.missRun := s.tb.missRun + 1
                               tb.syncMiss := min 65535 (s.tb.syncMiss + 1), cycle.miss := s.cycle.miss + 1 } := by
  unfold State.closeWindow
  rw [hwin]
  dsimp only
  rw [if_neg (Nat.not_le.mpr ht), hmiss, if_neg Bool.false_ne_true, if_neg (by omega)]

theorem loopFrames_waiting {s : State} (h : ∀ p ∈ s.loops.frames, s.now < p.1) : s.loopFrames = s := by
  unfold State.loopFrames
  exact if_pos (List.filter_eq_nil_iff.mpr fun p hp => by simpa using h p hp)

/-- The one action that waits for a frame start has its effect once the time has reached it (04 R133). -/
theorem loopFrames_due {s : State} {f : Nat} {x : FrameAct} (h : s.loops.frames = [(f, x)]) (hdue : f ≤ s.now) :
    s.loopFrames = ({ s with loops.frames := [] } : State).frameAct x := by
  unfold State.loopFrames
  simp [h, hdue, Nat.not_lt.mpr hdue]

theorem frameAct_region_held {s : State} {r : Nat} (h : s.regionHeld r = true) : s.frameAct (.region r) = s.holdRegion r := if_pos h

theorem frameAct_region_free {s : State} {r : Nat} (h : s.regionHeld r = false) : s.frameAct (.region r) = s.releaseRegion r :=
  if_neg (by simp [h])

theorem frameAct_hold {s : State} (h : s.holdCaused = true) : s.frameAct .hold = s.holdEntry := if_pos h

theorem checkReady_stated {s : State} (h : s.readyNow = s.unit.ready) : s.checkReady = s := if_pos h

/-- READY is a matter of the unit block (15 R452, R459). -/
theorem checkReady_frame (s : State) : ∃ u, s.checkReady = { s with unit := u } := by
  unfold State.checkReady
  dsimp only
  split
  · exact ⟨s.unit, rfl⟩
  · exact ⟨_, rfl⟩

/-! The tick. -/

theorem step_idle {s : State} (hidle : s.pending = []) : step s = .next s.tbTick := by unfold step; rw [hidle]

/-- A tick by what its edge does to time. -/
theorem tbTick_of_edge {s t : State} (href : s.power.tbRef = true) (hedge : ({ s with cycle := {} } : State).edge = t) :
    s.tbTick = (t.closeWindow t.now).loopFrames.checkReady := by
  unfold State.tbTick
  dsimp only
  rw [if_pos href, hedge]

theorem edge_running {s : State} (hcount : s.counting = true) (hload : s.tb.load = none) : s.edge =
    { s with up := s.up + 64, tb.counter := s.tb.counter + s.tb.incr.setWidth 96, tb.run := s.tb.run + s.tb.incr.toNat } := by
  unfold State.edge
  rw [hcount, hload]

theorem edge_loading {s : State} {v : BitVec 96} (hcount : s.counting = true) (hload : s.tb.load = some v) :
    s.edge = s.loadStep v := by
  unfold State.edge
  rw [hcount, hload]

/-- With no step decided the time goes on by one increment, and then come the window, the frames and READY. -/
theorem tbTick_running {s : State} (href : s.power.tbRef = true) (hcount : s.counting = true) (hload : s.tb.load = none) :
    s.tbTick = (s.ticked.closeWindow s.ticked.now).loopFrames.checkReady :=
  tbTick_of_edge href (edge_running (s := { s with cycle := {} }) hcount hload)

theorem tbTick_loading {s : State} {v : BitVec 96} (href : s.power.tbRef = true) (hcount : s.counting = true)
    (hload : s.tb.load = some v) (hwin : s.tb.window = none) (hframes : s.loops.frames = []) :
    ({ s with cycle := {} } : State).Loaded v s.tbTick := by
  rw [tbTick_of_edge href (edge_loading (s := { s with cycle := {} }) hcount hload)]
  have hstep := loadStep_loaded v { s with cycle := {} }
  generalize ({ s with cycle := {} } : State).loadStep v = t at hstep ⊢
  have hwaits : t.loops.frames = [] := hstep.frames hframes
  obtain ⟨u, hready⟩ := checkReady_frame t
  rw [closeWindow_none _ (hstep.window.trans hwin), loopFrames_waiting (by simp [hwaits]), hready]
  exact hstep.of_eq rfl rfl rfl

/-- With the window open, a tick that reaches no loop frame start and finds READY as it states only lets time pass. -/
theorem tick_quiet {s : State} (hwin : ∀ w, s.tb.window = some w → s.ticked.now ≤ w.t + s.tb.syncIn.wNs)
    (hframes : ∀ p ∈ s.loops.frames, s.ticked.now < p.1) (hready : s.ticked.readyNow = s.unit.ready) :
    (s.ticked.closeWindow s.ticked.now).loopFrames.checkReady = s.ticked := by
  rw [closeWindow_running (s := s.ticked) hwin, loopFrames_waiting (s := s.ticked) hframes, checkReady_stated (s := s.ticked) hready]

theorem tick_frame {s : State} {f : Nat} {x : FrameAct} (hwin : ∀ w, s.tb.window = some w → s.ticked.now ≤ w.t + s.tb.syncIn.wNs)
    (hframes : s.loops.frames = [(f, x)]) (hdue : f ≤ s.ticked.now) : (s.ticked.closeWindow s.ticked.now).loopFrames =
      ({ s.ticked with loops.frames := [] } : State).frameAct x := by
  rw [closeWindow_running (s := s.ticked) hwin, loopFrames_due (s := s.ticked) hframes hdue]

/-- Settles O5: the step is the tick (`step_idle`), which loads the value decided (`tbTick_loading`) or lets the time go on
(`tbTick_running`), and the window, the one action that waits, and READY follow by the lemmas of each. -/
theorem idleStepIsOneTick : Obligations.IdleStepIsOneTick := by
  unfold Obligations.IdleStepIsOneTick
  intro s hidle href hcount
  refine ⟨fun v hload _ hwin hframes => ?_, fun w hload hframes hwin hmiss hpast hrun => ?_, fun hload hwin => ?_⟩
  · obtain ⟨hcounter, hstepped, hloaded, hincr, -, -, hup⟩ := tbTick_loading href hcount hload hwin hframes
    exact ⟨_, step_idle hidle, hcounter, hstepped, hloaded, hincr, hup⟩
  · rw [step_idle hidle, tbTick_running href hcount hload, closeWindow_missed (s := s.ticked) hwin hmiss hpast hrun,
      loopFrames_waiting (by simp [State.ticked, hframes])]
    rfl
  rw [step_idle hidle, tbTick_running href hcount hload]
  refine ⟨fun hframes hready => ?_, fun f x hframes hlater hready => ?_, fun f first recs hframes hdue => ?_,
    fun f r hframes hdue hheld => ?_, fun f r hframes hdue hfree => ?_, fun f hframes hdue hcaused => ?_⟩
  · rw [tick_quiet hwin (by simp [hframes]) hready]
  · rw [tick_quiet hwin (by simpa [hframes] using hlater) hready]
  · rw [tick_frame hwin hframes hdue]
    rfl
  · rw [tick_frame hwin hframes hdue, frameAct_region_held (s := { s.ticked with loops.frames := [] }) hheld]
  · rw [tick_frame hwin hframes hdue, frameAct_region_free (s := { s.ticked with loops.frames := [] }) hfree]
  · rw [tick_frame hwin hframes hdue, frameAct_hold (s := { s.ticked with loops.frames := [] }) hcaused]

end Sys2Proof.Machine
end

section
/-! PROOFS. The commands that only read (02_network_time R78, 03_fabric R104, R105, 06_sheaves R176, R195, 04_element_loops R133, and
the GET rows of the later chapters): a query that waits reads where its reply is OK, and where each reply is. -/
namespace Sys2Proof.Machine

/-- A reply that a check guards is OK where the check does not refuse. -/
theorem status_of_passed {b : Prop} [Decidable b] {x y : Reply} (hpass : ¬ b) (hok : y.status = .ok) :
    (if b then x else y).status = .ok := by
  rw [if_neg hpass, hok]

section
variable {s : State} {tag : Tag} {code : Nat} {c : InFlight} {i : Instr}

/-- A row that is a query reads, where its reply is OK. -/
theorem reads_of_query {reply : State → Reply} (hrow : exec i s = .next (s.query tag code none reply)) (hok : (reply s).status = .ok)
    (hwaits : Waits s tag code c) : Reads i s c :=
  ⟨reply s, hok, hrow.trans (congrArg Host.Outcome.next (query_any hwaits reply))⟩

/-- A query that refuses a number above `m` reads for a number up to it. -/
theorem reads_of_bound {reply : State → Reply} {m n : Nat} {x y : Reply} (hrow : exec i s = .next (s.query tag code none reply))
    (hreply : reply s = if m < n then x else y) (hok : y.status = .ok) (hwaits : Waits s tag code c) (hn : n ≤ m) : Reads i s c :=
  reads_of_query hrow (hreply ▸ status_of_passed (Nat.not_lt.mpr hn) hok) hwaits

/-- A query that refuses a range by its check `b` reads for a range that passes. -/
theorem reads_of_range {reply : State → Reply} {b : Bool} {x y : Reply} (hrow : exec i s = .next (s.query tag code none reply))
    (hreply : reply s = if !b then x else y) (hok : y.status = .ok) (hwaits : Waits s tag code c) (hrange : b = true) : Reads i s c :=
  reads_of_query hrow (hreply ▸ status_of_passed (by simp [hrange]) hok) hwaits

/-- A row that is a query with no payload reads, where its reply is OK. -/
theorem reads_of_asks {reply : State → Reply} (hrow : exec i s = .next (s.query tag code (some 0) reply)) (hok : (reply s).status = .ok)
    (hasks : Asks s tag code c) : Reads i s c :=
  ⟨reply s, hok, hrow.trans (congrArg Host.Outcome.next (query_asks hasks reply))⟩

/-- A row that takes free values for its reply measures, where its reply is OK (log 8). -/
theorem measures_of_serve {body : State → State × Reply} {r : Reply} (hrow : exec i s = .next (s.serve tag code true none body))
    (hbody : body s = (s.drawn, r)) (hok : r.status = .ok) (hwaits : Waits s tag code c) : Measures i s c :=
  ⟨r, hok, hrow.trans (congrArg Host.Outcome.next ((serve_any hwaits true body).trans (by rw [hbody])))⟩

theorem measures_of_asks {body : State → State × Reply} {r : Reply} (hrow : exec i s = .next (s.serve tag code true (some 0) body))
    (hbody : body s = (s.drawn, r)) (hok : r.status = .ok) (hasks : Asks s tag code c) : Measures i s c :=
  ⟨r, hok, hrow.trans (congrArg Host.Outcome.next ((serve_asks hasks true body).trans (by rw [hbody])))⟩

end

/-! Rows whose reply rests on what the state holds. -/

section
variable {s : State} {tag : Tag} {c : InFlight}

/-- The path of a carried connection is read (R104). -/
theorem reads_fabricGetPath {p j i : Nat} {cs : List (Nat × Nat × CellPath)} {k : Nat} (hwaits : Waits s tag 0x0302 c)
    (hp : p ≤ 1) (hj : j ≤ 511) (hcarried : carried s.loops.elems s.fabric.failed p j = some i)
    (hpath : tracePath s.loops.elems s.fabric.failed p 19 i = some (cs, k)) : Reads (.fabricGetPath tag p j) s c := by
  refine reads_of_query rfl (status_of_passed (Nat.not_lt.mpr hp) (status_of_passed (Nat.not_lt.mpr hj) ?_)) hwaits
  simp only [hcarried, hpath]
  rfl

theorem exec_sheafGetStatus {id : BitVec 16} {x : Sheaf} (hwaits : Waits s tag 0x0404 c) (hx : s.sheaf? id.toNat = some x) :
    exec (.sheafGetStatus tag id) s =
      .next (s.answer c (Reply.ok [x.phase.code, x.outcome, x.detail, x.hostTag.toNat, x.instant])) := by
  refine congrArg Host.Outcome.next ((query_any hwaits _).trans ?_)
  simp only [hx]

/-- The first page is there for every sheaf, a later one where it lists an element (R176). -/
theorem reads_sheafGetResult {id : BitVec 16} {x : Sheaf} {page : Nat} (hwaits : Waits s tag 0x0405 c) (hx : s.sheaf? id.toNat = some x)
    (hpage : page = 0 ∨ 480 * page < x.excluded.length) : Reads (.sheafGetResult tag id page) s c := by
  refine reads_of_query rfl ?_ hwaits
  simp only [hx]
  exact status_of_passed (by simpa [or_iff_not_imp_left] using hpage) rfl

theorem reads_solveGetReport {page : Nat} (hwaits : Waits s tag 0x040B c) (hpage : page = 0 ∨ 128 * page < s.sheaves.report.length) :
    Reads (.solveGetReport tag page) s c :=
  reads_of_query rfl (status_of_passed (by simpa [or_iff_not_imp_left] using hpage) rfl) hwaits

theorem reads_stookGetStatus {id : BitVec 16} {k : Stook} (hk : k ∈ s.sheaves.stooks) (hwaits : Waits s tag 0x040F c)
    (hid : k.id = id.toNat) : Reads (.stookGetStatus tag id) s c := by
  obtain ⟨x, hx⟩ : ∃ x, (s.sheaves.stooks.find? fun k => k.id = id.toNat) = some x :=
    Option.isSome_iff_exists.mp (List.find?_isSome.mpr ⟨k, hk, by simpa using hid⟩)
  refine reads_of_query rfl ?_ hwaits
  simp only [hx]
  rfl

/-- A page of a capture is read once the capture is complete, or holds the page (R134). -/
theorem reads_loopGetCapture {e page : Nat} {x : Capture} (hwaits : Waits s tag 0x0507 c)
    (hx : mapGet none s.loops.captures (regionOf e) = some x) (helem : x.element = e) (hpage : 128 * page < x.count)
    (hheld : x.state = .complete ∨ min x.count (128 * (page + 1)) ≤ x.samples.length) : Reads (.loopGetCapture tag e page) s c := by
  refine reads_of_query rfl ?_ hwaits
  simp only [hx]
  refine status_of_passed (by simpa [helem] using hpage) (status_of_passed ?_ rfl)
  obtain hdone | hlong := hheld
  · simp [hdone]
  · simp [Nat.not_lt.mpr hlong]

/-- The log is read from a SEQ on up to which it reaches (16 R484). -/
theorem reads_faultGetLog {seq : Nat} {x : Record} (hwaits : Waits s tag 0x0D07 c) (hx : x ∈ s.gl.log) (hseq : seq ≤ x.seq.toNat) :
    Reads (.faultGetLog tag seq) s c := by
  have hfrom : (s.gl.log.reverse.dropWhile fun r => decide (r.seq.toNat < seq)) ≠ [] := fun hnil => by
    have hbelow := List.dropWhile_eq_nil_iff.mp hnil x (List.mem_reverse.mpr hx)
    exact Nat.not_lt.mpr hseq (by simpa using hbelow)
  refine reads_of_query rfl ?_ hwaits
  split
  · next hnone => exact absurd hnone (by simpa [List.take_eq_nil_iff] using hfrom)
  · rfl

theorem exec_faultGetRecord (hwaits : Waits s tag 0x0D05 c) :
    exec (.faultGetRecord tag 0) s = .next (s.answer c (Reply.bytes (recordBytes s.gl.record))) ∧
    exec (.faultGetRecord tag 1) s = .next (s.answer c (Reply.bytes (recordBytes s.gl.lastClosed))) ∧
    exec (.faultGetRecord tag 2) s = .next (s.answer c (Reply.bytes (recordBytes s.power.ret.record))) :=
  have row (reply : State → Reply) := congrArg Host.Outcome.next (query_any hwaits reply)
  ⟨row _, row _, row _⟩

theorem exec_loopGetFlags {first count : Nat} (hwaits : Waits s tag 0x0504 c) (hrange : rangeOk first count 1024 = true) :
    exec (.loopGetFlags tag first count) s =
      .next (s.answer c (Reply.ok ((List.range count).map fun k => ((s.elem (first + k)).flags.toNat : Int)))) := by
  refine congrArg Host.Outcome.next ((query_any hwaits _).trans ?_)
  rw [if_neg (by simp [hrange])]

end

/-- Settles O6: each row is a query or measures, and passes the check of its operands where they lie in range. -/
theorem queriesAnswerOk : Obligations.QueriesAnswerOk := by
  unfold Obligations.QueriesAnswerOk
  refine ⟨fun s tag c first count => ⟨reads_of_asks rfl rfl,
    -- FABRIC
    reads_of_asks rfl rfl,
    fun p j i cs k => reads_fabricGetPath,
    fun p hwaits hp h1 h2 h3 => reads_of_query rfl (status_of_passed (Nat.not_lt.mpr hp) (status_of_passed (by simp; omega) rfl)) hwaits,
    fun p => reads_of_bound rfl rfl rfl,
    fun o hwaits h1 h2 => measures_of_serve rfl (if_neg (by simp; omega)) rfl hwaits,
    -- SHEAF, SOLVE and STOOK
    fun id x => exec_sheafGetStatus,
    fun id x page => reads_sheafGetResult,
    fun page => reads_of_query rfl rfl,
    fun page => reads_solveGetReport,
    fun id k => reads_stookGetStatus,
    -- LOOP
    reads_of_range rfl rfl rfl,
    reads_of_range rfl rfl rfl,
    exec_loopGetFlags,
    fun x page => reads_loopGetCapture,
    reads_of_range rfl rfl rfl,
    fun g => reads_of_bound rfl rfl rfl,
    -- CAL
    reads_of_asks rfl rfl,
    fun seq hwaits hseq => reads_of_query rfl (status_of_passed (Nat.not_le.mpr hseq) rfl) hwaits⟩,
    fun s tag c first count port => ⟨
    -- PORT
    fun hwaits hport => measures_of_serve rfl (if_neg (Nat.not_lt.mpr hport)) rfl hwaits,
    reads_of_bound rfl rfl rfl,
    fun hwaits h1 h2 h3 => reads_of_query rfl (status_of_passed (by simp; omega) rfl) hwaits,
    fun page hwaits hport hpage => reads_of_query rfl (status_of_passed (by simp; omega) rfl) hwaits,
    -- GATE
    reads_of_bound rfl rfl rfl,
    fun o hwaits hport h1 h2 => reads_of_query rfl (status_of_passed (by simp; omega) rfl) hwaits,
    reads_of_bound rfl rfl rfl,
    -- STREAM
    reads_of_asks rfl rfl,
    fun hwaits h1 h2 h3 => reads_of_query rfl (status_of_passed (by simp; omega) rfl) hwaits,
    fun n hwaits h1 h2 => reads_of_query rfl (status_of_passed (by simp; omega) rfl) hwaits,
    -- RULE
    reads_of_asks rfl rfl,
    fun sh => reads_of_range rfl rfl rfl,
    fun sh => reads_of_range rfl rfl rfl,
    fun sh => reads_of_range rfl rfl rfl,
    fun sh => reads_of_range rfl rfl rfl,
    reads_of_query rfl rfl,
    -- FAULT
    reads_of_asks rfl rfl,
    fun hwaits hrange => reads_of_query rfl (congrArg Reply.status (if_pos hrange)) hwaits,
    exec_faultGetRecord,
    fun seq x => reads_faultGetLog,
    reads_of_asks rfl rfl,
    -- POWER
    measures_of_asks rfl rfl rfl⟩⟩

end Sys2Proof.Machine
end

section
/-! PROOFS. The FABRIC commands that set something, and idle parking (03_fabric R85, R97, R99-R102): a lemma for each row. -/
namespace Sys2Proof.Machine

section
variable {s : State} {tag : Tag} {c : InFlight} {plane stage cell : Nat}

/-- A host's declaration is taken where the plane's list has room (R97, R99). -/
theorem exec_fabricSetFailed {kind : Nat} {k : FailKind} (hwaits : Waits s tag 0x0305 c) (hcontrol : s.inControl = true)
    (hplane : plane < 2) (hstage : stage < 19) (hcell : cell < 256) (hkind : kindOfCode kind = some k)
    (hroom : (s.fabric.failed.filter fun f => f.plane = plane).length < 256) :
    exec (.fabricSetFailed tag plane stage cell kind) s = (s.declareFailed plane stage cell k .host).checkDegraded.ok c := by
  have hp : ¬ 1 < plane := by omega
  have hs : ¬ 18 < stage := by omega
  have hc : ¬ 255 < cell := by omega
  refine congrArg Host.Outcome.next ((serve_any hwaits false _).trans ?_)
  simp only [hcontrol, hp, hs, hc, hkind, Nat.not_le.mpr hroom, decide_false, Bool.and_false, Bool.not_true, Bool.false_eq_true,
    if_false]
  rfl

/-- A listed cell that is in neither a substitution nor a path is tested again, and the figure 0 passes it (R102, log 8). -/
theorem exec_fabricClearFailed {f : FailedCell} (hwaits : Waits s tag 0x0306 c) (hcontrol : s.inControl = true)
    (hplane : plane < 2) (hstage : stage < 19) (hcell : cell < 256) (hlisted : failedAt s.fabric.failed plane stage cell = some f)
    (hlead : s.substituting (gateAt plane stage cell) = false) (htail : s.substituting (gateAt plane stage cell + 1) = false)
    (hunused : cellCarries s.loops.elems s.fabric.failed plane stage cell = false) :
    exec (.fabricClearFailed tag plane stage cell) s =
      if s.measured 2 (gateAt plane stage cell) = 0 then
        .next ((({ s with fabric.failed := s.fabric.failed.filter fun f => !(f.plane = plane && f.stage = stage && f.cell = cell)
            }.logSubst 7 4 0xFFFF (locFabric plane stage cell f.kind.code) (locFabric plane stage cell f.kind.code)
            (locFabric plane stage cell f.kind.code) 0 0 0).modElems
            [gateAt plane stage cell, gateAt plane stage cell + 1] fun _ x => x.parked s.now).drawn.refreshMap.checkDegraded.answer c
              (Reply.ok [0]))
      else .next (s.drawn.answer c (Reply.ok [1, s.measured 2 (gateAt plane stage cell)])) := by
  have hrange : ¬ (decide (1 < plane) || decide (18 < stage) || decide (255 < cell)) = true := by simp; omega
  refine Eq.trans (congrArg Host.Outcome.next (serve_any hwaits false _)) ?_
  simp only [hcontrol, hrange, hlisted, hlead, htail, hunused, Bool.or_self, Bool.not_true, Bool.false_eq_true, if_false]
  -- the test passes or finds something: either way the pair of state and reply is the one of its branch
  split <;> dsimp only

theorem exec_fabricSetRepair (en : Bool) {lead : Nat} (hwaits : Waits s tag 0x0308 c) (hlead : 50000 ≤ lead)
    (hlead' : lead ≤ 100000000) : exec (.fabricSetRepair tag en lead) s =
      ({ s with fabric.repairOn := en, fabric.repairLead := lead }.autoRepair []).ok c := by
  refine congrArg Host.Outcome.next ((serve_any hwaits false _).trans ?_)
  simp only [Nat.not_lt.mpr hlead, Nat.not_lt.mpr hlead', decide_false, Bool.or_self, Bool.false_eq_true, if_false]
  rfl

theorem exec_fabricSetParking (en : Bool) {delay : Nat} (hwaits : Waits s tag 0x0309 c) (hdelay : 10000000 ≤ delay)
    (hdelay' : delay ≤ 3600000000000) : exec (.fabricSetParking tag en delay) s =
      ({ s with fabric.parkOn := en, fabric.parkDelay := delay } : State).ok c := by
  refine congrArg Host.Outcome.next ((serve_any hwaits false _).trans ?_)
  simp only [Nat.not_lt.mpr hdelay, Nat.not_lt.mpr hdelay', decide_false, Bool.or_self, Bool.false_eq_true, if_false]
  rfl

/-- Idle parking that is due parks both gates of the cell (R85). -/
theorem exec_idleParkTimeout (hdue : s.idleParkDue plane stage cell = true) :
    exec (.idleParkTimeout plane stage cell) s =
      .next (s.modElems [gateAt plane stage cell, gateAt plane stage cell + 1] fun _ x => x.parked s.now) :=
  congrArg Host.Outcome.next (if_pos hdue)

end

/-- Settles O7: each clause is the lemma above of its row. -/
theorem fabricCommandsTakeEffect : Obligations.FabricCommandsTakeEffect := by
  unfold Obligations.FabricCommandsTakeEffect
  exact fun s tag c plane stage cell => ⟨fun kind k => exec_fabricSetFailed, fun f => exec_fabricClearFailed,
    fun en lead => exec_fabricSetRepair en, fun en delay => exec_fabricSetParking en, exec_idleParkTimeout⟩

end Sys2Proof.Machine
end

section
/-! PROOFS. The LOOP commands that set something (04_element_loops R127, R129-R134, 05_loop_modes R145, R149-R157): a lemma for each
row, and what LOOP_CLEAR_FLAGS leaves of each element. -/
namespace Sys2Proof.Machine

section
variable {s : State} {tag : Tag} {c : InFlight} {first count : Nat}

/-! Rows whose operands are ranges of elements. -/

/-- Records that pass R130, on elements in no substitution, wait for the next loop frame start (R131). -/
theorem exec_loopSetParams {recs : List ParamRec} (hwaits : Waits s tag 0x0502 c) (hmode : s.unit.mode ≠ .factoryTest)
    (hrange : rangeOk first recs.length 64 = true) (hrecs : firstBad first recs = none)
    (hfree : ∀ k < recs.length, s.substituting (first + k) = false) :
    exec (.loopSetParams tag first recs) s =
      .next ((s.atFrame (.params first recs)).answer c (Reply.ok [s.nextFrame])) := by
  have hnone : ¬ ((List.range recs.length).any fun k => s.substituting (first + k)) = true := by simpa using hfree
  refine congrArg Host.Outcome.next ((serve_any hwaits false _).trans ?_)
  simp only [hmode, hrange, hrecs, hnone, Bool.not_true, Bool.false_eq_true, if_false]

theorem exec_loopClearFlags (mask : BitVec 16) (hwaits : Waits s tag 0x0505 c) (hrange : rangeOk first count 21504 = true) :
    exec (.loopClearFlags tag first count mask) s =
      (s.modElems (List.range' first count) fun _ x => { x with flags := x.flags &&& ~~~(mask &&& 0xEFFF#16) }).ok c := by
  refine congrArg Host.Outcome.next ((serve_any hwaits false _).trans ?_)
  simp only [hrange, Bool.not_true, Bool.false_eq_true, if_false]
  rfl

theorem exec_loopRetryLock (hwaits : Waits s tag 0x050A c) (hcontrol : s.inControl = true)
    (hrange : rangeOk first count 21504 = true) :
    exec (.loopRetryLock tag first count) s =
      (s.modElems (List.range' first count) fun _ x => x.retry s.now).ok c := by
  refine congrArg Host.Outcome.next ((serve_any hwaits false _).trans ?_)
  simp only [hcontrol, hrange, Bool.not_true, Bool.false_eq_true, if_false]
  rfl

/-! Captures and regions. -/

/-- A region with no capture armed or running takes one, at least 50 us after the command arrived (R134). -/
theorem exec_loopCapture {e n at_ : Nat} (hwaits : Waits s tag 0x0506 c) (hstepped : s.tb.stepped = true)
    (he : e < numElements) (hn : 1 ≤ n) (hn' : n ≤ 4096) (hat : s.arrivalOf tag + 50000 ≤ at_)
    (hfree : s.capturing (regionOf e) = false) :
    exec (.loopCapture tag e n at_) s =
      ({ s with
          loops.captures := mapSet none s.loops.captures (regionOf e)
            (some { element := e, start := at_, count := n, samples := [], state := .armed }) } : State).ok c := by
  have hrange : ¬ (decide (numElements ≤ e) || decide (n = 0) || decide (4096 < n) ||
      decide (at_ < s.arrivalOf tag + 50000)) = true := by
    simp only [Bool.or_eq_true, decide_eq_true_eq]
    omega
  refine congrArg Host.Outcome.next ((serve_any hwaits false _).trans ?_)
  simp only [hstepped, hrange, hfree, Bool.not_true, Bool.false_eq_true, if_false]
  rfl

/-- The hold of a region acts at the next loop frame start, whose time is the answer (R156). -/
theorem exec_loopHoldRegion {region : Nat} (hold : Bool) (hwaits : Waits s tag 0x050B c) (hregion : region ≤ 3) :
    exec (.loopHoldRegion tag region hold) s =
      .next ((({ s with
          loops.regionHold := if hold then s.loops.regionHold ||| BitVec.ofNat 4 (2 ^ region)
            else s.loops.regionHold &&& ~~~BitVec.ofNat 4 (2 ^ region) } : State).atFrame (.region region)).answer c
              (Reply.ok [s.nextFrame])) := by
  refine congrArg Host.Outcome.next ((serve_any hwaits false _).trans ?_)
  simp only [Nat.not_lt.mpr hregion, if_false]

/-! Hand-over times and VOA groups. -/

/-- The bounds of DWELL are those of its kind of element (R157). -/
theorem exec_loopSetHandover {voa : Bool} {dwell retry tol : Nat} (hwaits : Waits s tag 0x0509 c)
    (hdwell : (if voa then 10 else 1) ≤ dwell) (hdwell' : dwell ≤ if voa then 10000 else 100)
    (hretry : 1 ≤ retry) (hretry' : retry ≤ 1000) (htol : 1 ≤ tol) (htol' : tol ≤ 65535) :
    exec (.loopSetHandover tag voa dwell retry tol) s =
      (if voa then ({ s with loops.voa := { dwell := 1000 * dwell, retry := 1000 * retry, tol := tol } } : State)
        else { s with loops.gate := { dwell := 1000 * dwell, retry := 1000 * retry, tol := tol } }).ok c := by
  refine congrArg Host.Outcome.next ((serve_any hwaits false _).trans ?_)
  cases voa
  all_goals
    simp only [Bool.false_eq_true, if_true, if_false] at hdwell hdwell'
    simp only [Nat.not_lt.mpr hdwell, Nat.not_lt.mpr hdwell', Nat.not_lt.mpr hretry, Nat.not_lt.mpr hretry', Nat.not_lt.mpr htol,
      Nat.not_lt.mpr htol', decide_false, Bool.or_self, Bool.false_eq_true, if_true, if_false]
    rfl

/-- A configuration whose fields are in range is taken, or refused where it clashes with another group (R149, R157). -/
theorem exec_loopSetVoaGroup {g : Nat} {cfg : VoaGroupCfg} (hwaits : Waits s tag 0x050C c) (hg : g ≤ 7) (hpin : cfg.pin ≤ 3)
    (hlo : cfg.aLo ≤ 2000) (hhi : cfg.aHi ≤ 2000) (hdup : hasDup cfg.fibres = false) (hfibres : ∀ f ∈ cfg.fibres, f ≤ 511) :
    exec (.loopSetVoaGroup tag g cfg) s =
      if s.groupClash g cfg then s.no c .notPermitted else (s.setGroup g cfg).ok c := by
  have hany : (cfg.fibres.any fun f => decide (511 < f)) = false := by simpa using hfibres
  refine (congrArg Host.Outcome.next (serve_any hwaits false _)).trans ?_
  simp only [Nat.not_lt.mpr hg, Nat.not_lt.mpr hpin, Nat.not_lt.mpr hlo, Nat.not_lt.mpr hhi, hdup, hany, decide_false, Bool.or_self,
    Bool.false_eq_true, if_false]
  split <;> rfl

end

/-! What one element reads as. -/

@[simp] theorem answer_elem (c : InFlight) (r : Reply) (s : State) (e : Nat) : (s.answer c r).elem e = s.elem e := by
  simp [State.elem]

/-- After a change of a range of elements, those of the range read changed and all others as before. -/
theorem elem_modElems_range' {s : State} (h : s.tidy) (first count : Nat) (f : Nat → Elem → Elem) (e : Nat) :
    (s.modElems (List.range' first count) f).elem e =
      if first ≤ e ∧ e < first + count then f e (s.elem e) else s.elem e := by
  unfold State.elem State.modElems
  simp only [mapGet_mapModAll _ f _ List.nodup_range' _ h.elems, List.mem_range'_1]

/-- Settles O10: the row changes the range and nothing else (`exec_loopClearFlags`), an element of it in its flags alone. -/
theorem clearFlagsSparesUnlockable : Obligations.ClearFlagsSparesUnlockable := by
  unfold Obligations.ClearFlagsSparesUnlockable
  intro s tag c first count mask htidy hwaits hrange
  refine ⟨_, exec_loopClearFlags mask hwaits hrange, fun e => ?_⟩
  rw [answer_elem, elem_modElems_range' htidy]
  split
  · exact ⟨rfl, rfl⟩
  · rfl

/-- Settles O8: each clause is the lemma above of its row. -/
theorem loopCommandsTakeEffect : Obligations.LoopCommandsTakeEffect := by
  unfold Obligations.LoopCommandsTakeEffect
  refine fun s tag c => ⟨fun first recs => exec_loopSetParams, fun first count mask => exec_loopClearFlags mask,
    fun e n at_ => exec_loopCapture, fun dwell retry tol => exec_loopSetHandover (voa := true),
    fun dwell retry tol => exec_loopSetHandover (voa := false), fun first count => exec_loopRetryLock,
    fun region hwaits hregion => ⟨exec_loopHoldRegion true hwaits hregion, exec_loopHoldRegion false hwaits hregion⟩,
    fun g cfg hwaits hg hpin hlo hhi hdup hfibres => ?_⟩
  have hrow := exec_loopSetVoaGroup hwaits hg hpin hlo hhi hdup hfibres
  exact ⟨fun hfree => hrow.trans (if_neg (by simp [hfree])), fun hclash => hrow.trans (if_pos hclash)⟩

end Sys2Proof.Machine
end

section
/-! PROOFS. Samples of the elements, the heater power and the pins of the VOA groups (04_element_loops R110, R116-R122,
05_loop_modes R142-R152): a lemma for each row. -/
namespace Sys2Proof.Machine

section
variable {s : State} {e g pin : Nat}

/-! Rows of an element. -/

theorem exec_loopSample (m1 m2 : BitVec 12) (res : Bool) {t : Nat × Nat} (he : e < numElements) (hstrobe : s.sampleAt e = some t) :
    exec (.loopSample e m1 m2 res) s = .next (s.sampleElem e m1 m2 res t) := by
  refine congrArg Host.Outcome.next ((if_neg (Nat.not_le.mpr he)).trans ?_)
  simp only [hstrobe]

/-- The attempt that is due at a strobe is the evaluation of its sample (R142, log 4). -/
theorem exec_handoverAttempt (m1 m2 : BitVec 12) {t : Nat × Nat} (he : e < numElements) (hstrobe : s.sampleAt e = some t)
    (hdue : (s.elem e).due t.2 = true) : exec (.handoverAttempt e m1 m2) s = .next (s.sampleElem e m1 m2 false t) := by
  refine congrArg Host.Outcome.next ((if_neg (Nat.not_le.mpr he)).trans ?_)
  simp only [hstrobe, hdue, if_true]

theorem exec_heaterPowerMeasure {nw : Nat} (he : e < numElements) (hnw : 0 < nw)
    (hdue : s.periodDue (s.elem e).capAt 10000000000 = true) :
    exec (.heaterPowerMeasure e nw) s = .next (s.modElem e fun x => { x with uCap := some (uCapOf nw), capAt := some s.up }) :=
  congrArg Host.Outcome.next (if_pos (by simp [he, hnw, hdue]))

/-! Rows of a VOA group and its pin. -/

/-- An analogue group that has not formed its value of this multiple of 10 us forms it (R150). -/
theorem exec_trimInSample_analogue (uv : Nat) (hg : g ≤ 7) (hen : (mapGet VoaGroup.dflt s.loops.groups g).cfg.enabled = true)
    (hanalogue : (mapGet VoaGroup.dflt s.loops.groups g).cfg.pulse = false)
    (hformed : (mapGet VoaGroup.dflt s.loops.groups g).formedAt ≠ some (s.now / 10000 * 10000)) :
    exec (.trimInSample g uv) s = .next ((s.putGroup g { mapGet VoaGroup.dflt s.loops.groups g with
      formedAt := some (s.now / 10000 * 10000) }).groupValue g (min 255 (min uv 1200000 * 256 / 1200000))) := by
  have hrow : ¬ (decide (7 < g) || !(mapGet VoaGroup.dflt s.loops.groups g).cfg.enabled ||
      decide ((mapGet VoaGroup.dflt s.loops.groups g).formedAt = some (s.now / 10000 * 10000))) = true := by
    simp [Nat.not_lt.mpr hg, hen, hformed]
  exact congrArg Host.Outcome.next ((if_neg hrow).trans (if_pos (by simp [hanalogue])))

theorem exec_trimInPulseEdge_fall (ps : Nat) (hpin : pin ≤ 3) : exec (.trimInPulseEdge pin false ps) s =
    .next (s.putTrim pin { mapGet TrimPin.dflt s.loops.trim pin with lastFall := some (s.up + ps / 100) }) :=
  congrArg Host.Outcome.next (if_neg (Nat.not_lt.mpr hpin))

/-- A rising edge closes the period that the last one began, with the fall between them; from 10 us to 1 ms it is valid
(R150). -/
theorem exec_trimInPulseEdge_rise {ps r f : Nat} (hpin : pin ≤ 3) (hrise : (mapGet TrimPin.dflt s.loops.trim pin).lastRise = some r)
    (hfall : (mapGet TrimPin.dflt s.loops.trim pin).lastFall = some f) (horder : r ≤ f) (hlong : r + 100000 ≤ s.up + ps / 100)
    (hshort : s.up + ps / 100 ≤ r + 10000000) :
    exec (.trimInPulseEdge pin true ps) s =
      .next (s.putTrim pin { mapGet TrimPin.dflt s.loops.trim pin with
        lastRise := some (s.up + ps / 100), period := some (s.up + ps / 100 - r, f - r) }) := by
  have hvalid : badPeriod (s.up + ps / 100 - r) = false := by
    simp only [badPeriod, Bool.or_eq_false_iff, decide_eq_false_iff_not]
    omega
  refine congrArg Host.Outcome.next ((if_neg (Nat.not_lt.mpr hpin)).trans ?_)
  simp only [hrise, hfall, horder, hvalid, if_true, Option.any_some, Bool.false_eq_true, if_false]
  rfl

/-- A pulsed group with no valid value for 2 ms is LOST (R152). -/
theorem exec_voaGroupLost (hg : g < 8) (hen : (mapGet VoaGroup.dflt s.loops.groups g).cfg.enabled = true)
    (hpulse : (mapGet VoaGroup.dflt s.loops.groups g).cfg.pulse = true) (hfound : (mapGet VoaGroup.dflt s.loops.groups g).lost = false)
    (hlate : (mapGet VoaGroup.dflt s.loops.groups g).lastValid + 20000000 ≤ s.up) :
    exec (.voaGroupLost g) s =
      .next ((s.putGroup g { mapGet VoaGroup.dflt s.loops.groups g with lost := true, good := 0 }).raise 154) :=
  congrArg Host.Outcome.next (if_pos (by simp [hg, hen, hpulse, hfound, hlate]))

end

/-- Settles O9: each clause is the lemma above of its row. -/
theorem loopEvents : Obligations.LoopEvents := by
  unfold Obligations.LoopEvents
  exact fun s e m1 m2 => ⟨fun res t => exec_loopSample m1 m2 res, fun t => exec_handoverAttempt m1 m2,
    fun nw => exec_heaterPowerMeasure, fun g uv => exec_trimInSample_analogue uv, fun pin ps => exec_trimInPulseEdge_fall ps,
    fun pin ps r f => exec_trimInPulseEdge_rise, fun g => exec_voaGroupLost⟩

end Sys2Proof.Machine
end

section
/-! PROOFS. The solver commands (06_sheaves R183-R185, R195): what each of them puts to the route solver, and what a solver
command that stages nothing leaves. -/
namespace Sys2Proof.Machine

/-! The lists of a request, by what the map carries at each output. -/

theorem carriedAt_length (s : State) (inst : Nat) : (s.carriedAt inst).length = 512 := by
  simp [State.carriedAt]

/-- The positions of a list whose entries pass a test. -/
theorem mem_positions {α : Type} (l : List α) (p : α × Nat → Bool) (j : Nat) :
    j ∈ (l.zipIdx.filter p).map (·.2) ↔ ∃ a, l[j]? = some a ∧ p (a, j) = true := by
  simp [List.mem_zipIdx_iff_getElem?]

/-- The outputs that SOLVE_DISCONNECT releases: those named, and those that a named input reaches in some plane (R183). -/
def releasedBy (m : List (Option Nat × Option Nat)) (ins outs : List Nat) : List Nat :=
  (m.zipIdx.filter fun p => outs.contains p.2 || p.1.1.any ins.contains || p.1.2.any ins.contains).map (·.2)

theorem mem_releasedBy (m : List (Option Nat × Option Nat)) (ins outs : List Nat) (j : Nat) :
    j ∈ releasedBy m ins outs ↔ j < m.length ∧
      (j ∈ outs ∨ ∃ i ∈ ins, (m.getD j (none, none)).1 = some i ∨ (m.getD j (none, none)).2 = some i) := by
  have hreached (o : Option Nat) : o.any ins.contains = true ↔ ∃ i ∈ ins, o = some i := by
    cases o <;> simp
  rw [releasedBy, mem_positions]
  by_cases hj : j < m.length
  · simp only [hj, List.getElem?_eq_getElem, Option.some.injEq, exists_eq_left', Bool.or_eq_true, List.contains_iff_mem, hreached,
      List.getD_eq_getElem, true_and, and_or_left, exists_or, or_assoc]
  · simp [hj]

/-- The outputs that SOLVE_PERMUTE leaves idle though they carry something (R183). -/
def permuteReleases (m : List (Option Nat × Option Nat)) (target : List (Option Nat)) : List Nat :=
  (target.zipIdx.filter fun p => p.1.isNone && decide (m.getD p.2 (none, none) ≠ (none, none))).map (·.2)

/-- The connections that SOLVE_PERMUTE adds: those of the target that the planes do not both carry (R183). -/
def permuteAdds (m : List (Option Nat × Option Nat)) (target : List (Option Nat)) : List (Nat × Nat) :=
  target.zipIdx.filterMap fun p => p.1.bind fun i => if m.getD p.2 (none, none) = (some i, some i) then none else some (i, p.2)

theorem mem_permuteReleases (m : List (Option Nat × Option Nat)) (target : List (Option Nat)) (j : Nat) :
    j ∈ permuteReleases m target ↔ target[j]? = some none ∧ m.getD j (none, none) ≠ (none, none) := by
  rw [permuteReleases, mem_positions]
  simp

theorem mem_permuteAdds (m : List (Option Nat × Option Nat)) (target : List (Option Nat)) (i j : Nat) :
    (i, j) ∈ permuteAdds m target ↔ target[j]? = some (some i) ∧ m.getD j (none, none) ≠ (some i, some i) := by
  simp only [permuteAdds, List.mem_filterMap, Prod.exists, List.mem_zipIdx_iff_getElem?, Option.bind_eq_some_iff,
    Option.ite_none_left_eq_some, Option.some.injEq, Prod.mk.injEq]
  constructor
  · rintro ⟨_, _, hat, i, rfl, hdiff, rfl, rfl⟩
    exact ⟨hat, hdiff⟩
  · rintro ⟨hat, hdiff⟩
    exact ⟨_, _, hat, i, rfl, hdiff, rfl, rfl⟩

/-! A lemma for each row. -/
section
variable {s : State} {tag : Tag} {c : InFlight} {inst : Nat} {mv dry : Bool}

theorem exec_solveConnect {pairs : List (Nat × Nat)} (hwaits : Waits s tag 0x0408 c) (hsome : 1 ≤ pairs.length)
    (hmany : pairs.length ≤ 512) (hins : hasDup (pairs.map (·.1)) = false) (houts : hasDup (pairs.map (·.2)) = false)
    (hidle : ∀ p ∈ pairs, p.1 < 512 ∧ p.2 < 512 ∧ (s.carriedAt inst).getD p.2 (none, none) = (none, none) ∧
      ∀ q ∈ s.carriedAt inst, q.1 ≠ some p.1 ∧ q.2 ≠ some p.1) :
    exec (.solveConnect tag inst mv dry pairs) s =
      let q := s.solveCommand { instant := inst, move := mv, adds := pairs } dry true
      .next (q.1.answer c q.2) := by
  have hpairs : (pairs.all fun p => decide (p.1 < 512) && decide (p.2 < 512) &&
      decide ((s.carriedAt inst).getD p.2 (none, none) = (none, none)) &&
      !(s.carriedAt inst).any fun q => decide (q.1 = some p.1) || decide (q.2 = some p.1)) = true := by
    simpa [and_assoc] using hidle
  refine congrArg Host.Outcome.next ((serve_any hwaits false _).trans ?_)
  simp only [hsome, hmany, hins, houts, hpairs, decide_true, Bool.not_false, Bool.and_self]

theorem exec_solveDisconnect {ins outs : List Nat} (hwaits : Waits s tag 0x0409 c) (hmany : ins.length + outs.length ≤ 512)
    (hfibres : ∀ f ∈ ins ++ outs, f < 512) :
    exec (.solveDisconnect tag inst mv dry ins outs) s =
      let q := s.solveCommand { instant := inst, move := mv, release := releasedBy (s.carriedAt inst) ins outs } dry true
      .next (q.1.answer c q.2) := by
  have hall : ((ins ++ outs).all fun f => decide (f < 512)) = true :=
    List.all_eq_true.mpr fun f hf => decide_eq_true (hfibres f hf)
  refine congrArg Host.Outcome.next ((serve_any hwaits false _).trans ?_)
  simp only [hmany, hall, decide_true, Bool.and_self]
  rfl

theorem exec_solvePermute {target : List (Option Nat)} (hwaits : Waits s tag 0x040A c) (hlength : target.length = 512)
    (hins : ∀ i, some i ∈ target → i < 512) (honce : hasDup (target.filterMap id) = false) :
    exec (.solvePermute tag inst mv dry target) s =
      let q := s.solveCommand { instant := inst, move := mv, adds := permuteAdds (s.carriedAt inst) target,
                                release := permuteReleases (s.carriedAt inst) target } dry true
      .next (q.1.answer c q.2) := by
  have hall : ((target.filterMap id).all fun i => decide (i < 512)) = true := by
    simpa only [List.all_eq_true, List.mem_filterMap, id, exists_eq_right, decide_eq_true_eq] using hins
  refine congrArg Host.Outcome.next ((serve_any hwaits false _).trans ?_)
  simp only [hlength, hall, honce, decide_true, Bool.not_false, Bool.and_self]
  rfl

end

/-! What a solver command leaves. -/

/-- A solver command changes nothing, or it is answered OK. -/
theorem solveCommand_same_or_ok (r : SolveReq) (dry okReq : Bool) (s : State) :
    (s.solveCommand r dry okReq).1 = s ∨ (s.solveCommand r dry okReq).2.status = .ok := by
  unfold State.solveCommand
  split
  · exact .inl rfl
  split
  · exact .inl rfl
  split
  · exact .inl rfl
  split
  · exact .inl rfl
  dsimp only
  split
  · exact .inl rfl
  split
  · exact .inl rfl
  · exact .inr rfl

/-- A dry solver command writes the report at most. -/
theorem solveCommand_dry (r : SolveReq) (okReq : Bool) (s : State) :
    ∃ rep, (s.solveCommand r true okReq).1 = { s with sheaves.report := rep } := by
  obtain hsame | ⟨l, rep, hrep⟩ := solveCommand_stages r true okReq s
  · exact ⟨s.sheaves.report, hsame⟩
  · exact ⟨rep, hrep⟩

/-- A request that is dry or not answered OK stages nothing and moves no element (R185, R195). -/
theorem solveCommand_stagesNothing {s : State} {r : SolveReq} {dry okReq : Bool}
    (h : dry = true ∨ (s.solveCommand r dry okReq).2.status ≠ .ok) :
    (s.solveCommand r dry okReq).1.sheaves.store = s.sheaves.store ∧ (s.solveCommand r dry okReq).1.loops = s.loops := by
  obtain rfl | hrefused := h
  · obtain ⟨rep, hrep⟩ := solveCommand_dry r okReq s
    rw [hrep]
    exact ⟨rfl, rfl⟩
  · rw [(solveCommand_same_or_ok r dry okReq s).resolve_right hrefused]
    exact ⟨rfl, rfl⟩

theorem solveCommand_notInControl {s : State} (h : s.inControl = false) (r : SolveReq) (dry okReq : Bool) :
    s.solveCommand r dry okReq = (s, Reply.no .notPermitted) :=
  if_pos (by simp [h])

/-- Settles O12: each row puts its request to the solver (the lemmas above of the three rows, and the lists of a request by
their members), and a request that stages nothing leaves store and loops (`solveCommand_stagesNothing`). -/
theorem solveCommandsAskTheSolver : Obligations.SolveCommandsAskTheSolver := by
  unfold Obligations.SolveCommandsAskTheSolver
  refine ⟨fun s tag c inst mv dry => ⟨fun pairs => exec_solveConnect, fun ins outs hwaits hmany hfibres => ?_,
      fun target hwaits hlength hins honce => ?_⟩,
    fun s r dry => solveCommand_stagesNothing, fun s r ok hcontrol dry => solveCommand_notInControl hcontrol r dry ok⟩
  · exact ⟨releasedBy (s.carriedAt inst) ins outs, fun j => by rw [mem_releasedBy, carriedAt_length],
      exec_solveDisconnect hwaits hmany hfibres⟩
  · exact ⟨permuteAdds (s.carriedAt inst) target, permuteReleases (s.carriedAt inst) target, mem_permuteAdds _ target,
      mem_permuteReleases _ target, exec_solvePermute hwaits hlength hins honce⟩

end Sys2Proof.Machine
end

section
/-! PROOFS. The SHEAF and STOOK commands (06_sheaves R159-R166, R177, R188, R189, R195): what a submission and a cancel answer,
and a lemma for each row. -/
namespace Sys2Proof.Machine

/-! A submission of host software (R162), and a cancel (R177). -/
section
variable {s : State} {words : List Word} (by_ : Submitter)

theorem submit_badFormat (hhost : by_ ≠ .firmware) (hformat : formatOk words true = false) :
    s.submit words by_ = (s, some 1) := by
  simp [State.submit, hhost, hformat]

theorem submit_refused {r : Nat} (hhost : by_ ≠ .firmware) (hformat : formatOk words true = true)
    (hreason : s.sheafReason { readSheaf words with submitter := by_ } false = some r) : s.submit words by_ = (s, some r) := by
  simp [State.submit, hhost, hformat, hreason]

theorem submit_accepted (hhost : by_ ≠ .firmware) (hformat : formatOk words true = true)
    (hreason : s.sheafReason { readSheaf words with submitter := by_ } false = none) :
    s.submit words by_ = (s.acceptSheaf { readSheaf words with submitter := by_ }, none) := by
  simp [State.submit, hhost, hformat, hreason]

/-- A cancel of a staged sheaf, or of one that waits for its instant before its cut-off, ends it CANCELLED. -/
theorem cancelSheaf_taken {id : Nat} {x : Sheaf} (hx : s.sheaf? id = some x)
    (hearly : x.phase = .staged ∨ x.pending = true ∧ s.pastCutoff x = false) :
    s.cancelSheaf id = (s.failSheaf id 0x06 0, none) := by
  simp [State.cancelSheaf, hx, hearly]

end

/-! SHEAF commands. -/
section
variable {s : State} {tag : Tag} {c : InFlight} {words : List Word}

/-- A record staged in one part is submitted whole. -/
theorem exec_sheafStage_whole (hwaits : Waits s tag 0x0401 c) (hheader : 8 ≤ words.length)
    (hpart : partOk (words.drop 8) = true) :
    exec (.sheafStage tag false words) s =
      .next ((s.submit words .mailbox).1.answer c (submitReply (readSheaf words).id (s.submit words .mailbox).2)) := by
  refine congrArg Host.Outcome.next ((serve_any hwaits false _).trans ?_)
  simp only [Nat.not_lt.mpr hheader, hpart, decide_false, Bool.not_true, Bool.or_self, Bool.false_eq_true, if_false]

/-- A first part with MORE opens a sheaf, where fewer than 16 are open and none of this ID is (R195). -/
theorem exec_sheafStage_more (hwaits : Waits s tag 0x0401 c) (hheader : 8 ≤ words.length)
    (hpart : partOk (words.drop 8) = true) (hroom : s.sheaves.opened.length < 16)
    (hnew : ∀ p ∈ s.sheaves.opened, p.1 ≠ (readSheaf words).id) :
    exec (.sheafStage tag true words) s =
      .next ({ s with sheaves.opened := s.sheaves.opened ++ [((readSheaf words).id, words)] }.answer c
        (Reply.ok [(readSheaf words).id])) := by
  have hnone : ¬ (s.sheaves.opened.any fun p => decide (p.1 = (readSheaf words).id)) = true := by
    simpa only [List.any_eq_true, decide_eq_true_eq, not_exists, not_and] using hnew
  refine congrArg Host.Outcome.next ((serve_any hwaits false _).trans ?_)
  simp only [Nat.not_lt.mpr hheader, Nat.not_le.mpr hroom, hpart, hnone, decide_false, Bool.not_true, Bool.or_self,
    Bool.false_eq_true, if_false, if_true]

/-! A further part of an open sheaf. -/
section
variable {id : BitVec 16} {p : Nat × List Word} (hwaits : Waits s tag 0x0402 c)
  (hopen : (s.sheaves.opened.find? fun p => p.1 = id.toNat) = some p) (hpart : partOk words = true)
  (hlength : p.2.length + words.length ≤ 21504 * 2 + 8)
include hwaits hopen hpart hlength

/-- The last part closes the open sheaf and submits it whole (R195). -/
theorem exec_sheafAppend_last :
    exec (.sheafAppend tag id false words) s =
      let q := { s with sheaves.opened := s.sheaves.opened.filter (· ≠ p) }.submit (p.2 ++ words) .mailbox
      .next (q.1.answer c (submitReply id.toNat q.2)) := by
  refine congrArg Host.Outcome.next ((serve_any hwaits false _).trans ?_)
  simp only [hopen, hpart, Nat.not_lt.mpr hlength, decide_false, Bool.not_true, Bool.or_self, Bool.false_eq_true, if_false]

/-- A part with MORE stays with the open sheaf, which becomes the newest one. -/
theorem exec_sheafAppend_more :
    exec (.sheafAppend tag id true words) s =
      .next ({ s with sheaves.opened := s.sheaves.opened.filter (· ≠ p) ++ [(p.1, p.2 ++ words)] }.answer c
        (Reply.ok [id.toNat])) := by
  refine congrArg Host.Outcome.next ((serve_any hwaits false _).trans ?_)
  simp only [hopen, hpart, Nat.not_lt.mpr hlength, decide_false, Bool.not_true, Bool.or_self, Bool.false_eq_true, if_false, if_true]

end

theorem exec_sheafCancel {id : BitVec 16} {x : Sheaf} (hwaits : Waits s tag 0x0403 c) (hx : s.sheaf? id.toNat = some x)
    (hearly : x.phase = .staged ∨ x.pending = true ∧ s.pastCutoff x = false) :
    exec (.sheafCancel tag id) s = (s.failSheaf id.toNat 0x06 0).ok c := by
  refine congrArg Host.Outcome.next ((serve_any hwaits false _).trans ?_)
  simp only [cancelSheaf_taken hx hearly]
  rfl

theorem exec_sheafSetTiming {arm prep : Nat} (hwaits : Waits s tag 0x0407 c) (harm : 20000 ≤ arm) (harm' : arm ≤ 100000000)
    (hprep : 70000 ≤ prep) (hprep' : prep ≤ 10000000) :
    exec (.sheafSetTiming tag arm prep) s = { s with sheaves.armLead := arm, sheaves.prepLead := prep }.ok c := by
  refine congrArg Host.Outcome.next ((serve_any hwaits false _).trans ?_)
  simp only [Nat.not_lt.mpr harm, Nat.not_lt.mpr harm', Nat.not_lt.mpr hprep, Nat.not_lt.mpr hprep', decide_false, Bool.or_self,
    Bool.false_eq_true, if_false]
  rfl

end

/-! STOOK commands. -/
section
variable {s : State} {tag : Tag} {c : InFlight} {id : BitVec 16}

/-- The members of a stook that the records of its definition spell, in order of STEP (R188). -/
def stookMembers (id : Nat) (members : List (List Word)) : List Sheaf :=
  byStep (members.map fun ws => { readSheaf ws with submitter := .stook id })

/-- The bytes of a stook definition that its signature covers (18 R518). -/
def stookContent (id : BitVec 16) (name : BitVec 128) (stop : Bool) (members : List (List Word)) : List Byte :=
  Config.payloadBytes 0x040C ([(id.toNat : Int), name.toNat, b2i stop] ++ members.flatten.map fun w => (w.toNat : Int))

/-- A stook whose form, members, room and signature are in order is stored. -/
theorem exec_stookDefine {name : BitVec 128} {stop : Bool} {members : List (List Word)} {sig : Option AxaroBlock}
    (hwaits : Waits s tag 0x040C c) (hid : id ≠ 0) (hsome : members ≠ []) (hmany : members.length ≤ 256)
    (hformat : ∀ ws ∈ members, formatOk ws true = true)
    (hown : ∀ x ∈ stookMembers id.toNat members, x.rel = true ∧ x.stook = id.toNat)
    (hrise : stepsRise (stookMembers id.toNat members) = true) (hnew : ∀ k ∈ s.sheaves.stooks, k.id ≠ id.toNat)
    (hstooks : s.sheaves.stooks.length < 64) (hsheaves : s.storeLoad.1 + (stookMembers id.toNat members).length ≤ 16384)
    (hchanges : s.storeLoad.2 + ((stookMembers id.toNat members).map (·.changes.length)).sum ≤ 4194304)
    (hsig : s.axaroVerdict 1 (stookContent id name stop members) sig = .good) :
    exec (.stookDefine tag id name stop members sig) s =
      { s with sheaves.stooks := s.sheaves.stooks ++ [({
          id := id.toNat, name := name, stop := stop, members := stookMembers id.toNat members, sig := sig
          content := stookContent id name stop members } : Stook)] }.ok c := by
  have hall : (members.all fun ws => formatOk ws true) = true := List.all_eq_true.mpr hformat
  have hmembers : ((stookMembers id.toNat members).all fun x => x.rel && decide (x.stook = id.toNat)) = true := by simpa using hown
  have hfree : (s.sheaves.stooks.any fun k => decide (k.id = id.toNat)) = false := by simpa using hnew
  unfold stookContent at hsig
  unfold stookMembers at hmembers hrise hsheaves hchanges
  refine congrArg Host.Outcome.next ((serve_any hwaits false _).trans ?_)
  simp only [hid, hsome, Nat.not_lt.mpr hmany, hall, hmembers, hrise, hfree, Nat.not_le.mpr hstooks, Nat.not_lt.mpr hsheaves,
    Nat.not_lt.mpr hchanges, hsig, decide_false, Bool.not_true, Bool.or_self, Bool.false_eq_true, if_false]
  rfl

/-- A stook that does not run starts where fewer than four run and R162 takes all its members at their instants (R188). -/
theorem exec_stookStart {ts : Nat} {k : Stook} {t : State} (hwaits : Waits s tag 0x040D c)
    (hk : (s.sheaves.stooks.find? fun k => k.id = id.toNat) = some k) (hstepped : s.tb.stepped = true)
    (hidle : s.stookRuns k.id = false) (hfew : (s.sheaves.stooks.filter fun y => s.stookRuns y.id).length < 4)
    (hsig : s.axaroVerdict 1 k.content k.sig = .good) (hstart : s.startMembers ts k.members = (t, none)) :
    exec (.stookStart tag id ts) s =
      .next ({ t with sheaves.stooks := t.sheaves.stooks.map fun (y : Stook) =>
        if y.id = k.id then { y with running := true, ts := ts } else y }.answer c (Reply.ok [0x0B, 0, 0])) := by
  refine congrArg Host.Outcome.next ((serve_any hwaits false _).trans ?_)
  simp only [hk, hstepped, hidle, Nat.not_le.mpr hfew, hsig, hstart, decide_false, Bool.not_true, Bool.or_self, ne_eq,
    not_true_eq_false, Bool.false_eq_true, if_false]

theorem exec_stookStop {k : Stook} (hk : k ∈ s.sheaves.stooks) (hwaits : Waits s tag 0x040E c) (hid : k.id = id.toNat) :
    exec (.stookStop tag id) s = (s.abandonStook id.toNat).ok c := by
  have hdefined : (s.sheaves.stooks.any fun k => decide (k.id = id.toNat)) = true :=
    List.any_eq_true.mpr ⟨k, hk, decide_eq_true hid⟩
  refine congrArg Host.Outcome.next ((serve_any hwaits false _).trans ?_)
  simp only [hdefined, if_true]
  rfl

theorem exec_stookDelete {k : Stook} (hwaits : Waits s tag 0x0410 c)
    (hk : (s.sheaves.stooks.find? fun k => k.id = id.toNat) = some k) (hidle : s.stookRuns k.id = false) :
    exec (.stookDelete tag id) s =
      { s with sheaves.stooks := s.sheaves.stooks.filter (·.id ≠ k.id)
               sheaves.store := s.sheaves.store.filter fun (x : Sheaf) =>
                 !(x.submitter = Submitter.stook k.id && x.phase = SheafPhase.done) }.ok c := by
  refine congrArg Host.Outcome.next ((serve_any hwaits false _).trans ?_)
  simp only [hk, hidle, Bool.false_eq_true, if_false]
  rfl

end

/-- Settles O11: SHEAF_STAGE and the last SHEAF_APPEND answer what the submission of the whole record does, and each other
clause is the lemma above of its row. -/
theorem sheafCommandsTakeEffect : Obligations.SheafCommandsTakeEffect := by
  unfold Obligations.SheafCommandsTakeEffect
  refine ⟨fun s tag c => ⟨fun words hwaits hheader hpart => ?_, fun id p words hwaits hopen hpart hlength => ?_,
      fun id x => exec_sheafCancel, fun arm prep => exec_sheafSetTiming⟩,
    fun s tag c id => ⟨fun name stop members sig => exec_stookDefine, fun ts k t => exec_stookStart,
      fun k => exec_stookStop, fun k => exec_stookDelete⟩⟩
  · have hwhole := exec_sheafStage_whole hwaits hheader hpart
    refine ⟨fun hformat hreason => ?_, fun r hformat hreason => ?_, fun hformat => ?_,
      exec_sheafStage_more hwaits hheader hpart⟩
    · rw [hwhole, submit_accepted .mailbox nofun hformat hreason]; rfl
    · rw [hwhole, submit_refused .mailbox nofun hformat hreason]; rfl
    · rw [hwhole, submit_badFormat .mailbox nofun hformat]; rfl
  · have hlast := exec_sheafAppend_last hwaits hopen hpart hlength
    refine ⟨fun hformat hreason => ?_, fun r hformat hreason => ?_, exec_sheafAppend_more hwaits hopen hpart hlength⟩
    · rw [hlast, submit_accepted .mailbox nofun hformat hreason]; rfl
    · rw [hlast, submit_refused .mailbox nofun hformat hreason]; rfl

end Sys2Proof.Machine
end

section
/-! PROOFS. The course of a sheaf from its arming to its horizon (06_sheaves R166-R172, R175, R180, R182), and its submission and
cancel on a fabric command queue (R177, R192-R194): a lemma for each row. -/
namespace Sys2Proof.Machine

section
variable {s : State} {id : BitVec 16} {x : Sheaf}

/-- The next sheaf to be armed takes the lowest free slot from ARM_LEAD before its instant on, where its cover check passes
and its changes find room (R166, R182). -/
theorem exec_sheafArmStart {j : Nat} (hnext : s.nextToArm = some x) (hid : x.id = id.toNat) (hstepped : s.tb.stepped = true)
    (hunit : s.inControl = true ∨ x.mirrored = true) (hlead : x.instant ≤ s.now + s.sheaves.armLead)
    (hcover : s.covered x = true) (hslot : s.freeArmSlot = some j) (hroom : s.listRoom x = true) :
    exec (.sheafArmStart id) s =
      .next ({ s.modSheaf x.id (fun y => { y with
                 phase := .arming, slot := some j, changes := y.changes.map fun (k : Change) => { k with ff := s.voaFf k } }) with
               sheaves.slots := s.sheaves.slots ++ [j] }.noticeFor x 1 0) := by
  have hdue : (decide (x.id = id.toNat) && s.tb.stepped && (s.inControl || x.mirrored) &&
      decide (x.instant ≤ s.now + s.sheaves.armLead)) = true := by
    simp [hid, hstepped, hunit, hlead]
  change execSheafArmStart id s = _
  simp only [execSheafArmStart, hnext, hdue, hcover, hslot, hroom, Bool.not_true, Bool.false_eq_true, if_true, if_false]

/-- With every acknowledgement in before the cut-off an arming sheaf is committed (R167). -/
theorem exec_sheafArmCommit_acked (hx : s.sheaf? id.toNat = some x) (hphase : x.phase = .arming) (hearly : s.pastCutoff x = false) :
    exec (.sheafArmCommit id true) s = .next (s.modSheaf x.id fun y => { y with phase := .committed, armedAt := s.now }) := by
  change execSheafArmCommit id true s = _
  simp [execSheafArmCommit, hx, hphase, hearly]

/-- A failed acknowledgement is an event of source 186 (R167, 16 R466). -/
theorem exec_sheafArmCommit_failed (hx : s.sheaf? id.toNat = some x) (hphase : x.phase = .arming) :
    exec (.sheafArmCommit id false) s = .next (s.raise 186) := by
  change execSheafArmCommit id false s = _
  simp [execSheafArmCommit, hx, hphase]

/-- At its cut-off a sheaf that is not committed ends LATE (R168). -/
theorem exec_sheafCutoff_late (hx : s.sheaf? id.toNat = some x) (hphase : x.phase = .staged ∨ x.phase = .arming)
    (hstepped : s.tb.stepped = true) (hcutoff : s.pastCutoff x = true) :
    exec (.sheafCutoff id) s = .next (s.failSheaf x.id 0x02 0) := by
  change execSheafCutoff id s = _
  simp [execSheafCutoff, hx, hphase, hstepped, hcutoff]

/-- Outside HOLD a committed sheaf is applied at its instant if its guard passes, and ends with outcome 0x04 if not (R170, R180). -/
theorem exec_sheafInstant_outsideHold (faults : List Nat) (hx : s.sheaf? id.toNat = some x) (hphase : x.phase = .committed)
    (hreached : s.reached x.instant = true) (hmode : s.unit.mode ≠ .hold) :
    exec (.sheafInstant id faults) s =
      .next (if s.guardPasses x then (s.launched x.instant).fire x faults else (s.meets x).failSheaf x.id 0x04 0) := by
  change execSheafInstant id faults s = _
  cases hguard : s.guardPasses x <;> simp [execSheafInstant, hx, hphase, hreached, hmode, hguard]

/-- A slot that waits to be freed is free once its time has come, and no sheaf names it any longer (R170). -/
theorem exec_armSlotFree {slot u : Nat} (hlisted : (slot, u) ∈ s.sheaves.freeing) (hdue : u < s.tb.run + s.tb.incr.toNat) :
    exec (.armSlotFree slot) s =
      .next { s with
        sheaves.slots := s.sheaves.slots.filter (· ≠ slot)
        sheaves.freeing := s.sheaves.freeing.filter fun p => p.1 ≠ slot
        sheaves.store := s.sheaves.store.map fun (y : Sheaf) => if y.slot = some slot then { y with slot := none } else y } :=
  congrArg Host.Outcome.next (if_pos (List.any_eq_true.mpr ⟨(slot, u), hlisted, by simp [hdue]⟩))

end

/-! Fabric command queues. -/
section
variable {s : State} {q : Nat} {slot : Slot}

section
variable {words : List Word} {ack : Bool} {t : State} (hready : s.fcqReady q 1 = some slot) (hrecord : slot.record = some words)
  (hack : ack = (byteAt slot.desc 13).getLsbD 0)
include hready hrecord hack

/-- The record of the oldest descriptor is taken: the descriptor is retired, with a completion where its ACK asks for one (R193,
R194). -/
theorem exec_fcqSubmit_accepted (hsubmit : s.submit words (.fcq q slot.lastIdx.toNat) = (t, none)) :
    exec (.fcqSubmit q ack words) s = .next (t.fcqRetire q slot
      (if ack then some (sheafCompletion (readSheaf words).id 0x0B 0 (readSheaf words).instant 0 0) else none)) := by
  change execFcqSubmit q ack words s = _
  simp only [execFcqSubmit, hready, hrecord, ← hack, hsubmit, ne_eq, not_true_eq_false, decide_false,
    Bool.or_self, Bool.false_eq_true, if_false]

/-- The record is refused: the descriptor is retired with a completion that carries the reason (R193, R194). -/
theorem exec_fcqSubmit_refused {r : Nat} (hsubmit : s.submit words (.fcq q slot.lastIdx.toNat) = (t, some r)) :
    exec (.fcqSubmit q ack words) s = .next (t.fcqRetire q slot
      (some (sheafCompletion (readSheaf words).id 0x0A r (readSheaf words).instant 0 0))) := by
  change execFcqSubmit q ack words s = _
  simp only [execFcqSubmit, hready, hrecord, ← hack, hsubmit, ne_eq, not_true_eq_false, decide_false,
    Bool.or_self, Bool.false_eq_true, if_false]

end

/-- A descriptor cancels a sheaf as SHEAF_CANCEL does, and is retired with a completion (R177, R194). -/
theorem exec_fcqCancel {id : BitVec 16} {x : Sheaf} (hready : s.fcqReady q 2 = some slot)
    (hid : ofLe (slice slot.desc 14 2) = id.toNat) (hx : s.sheaf? id.toNat = some x)
    (hearly : x.phase = .staged ∨ x.pending = true ∧ s.pastCutoff x = false) :
    exec (.fcqCancel q id) s =
      .next ((s.failSheaf id.toNat 0x06 0).fcqRetire q slot (some (sheafCompletion id.toNat 0 0 0 0 0))) := by
  change execFcqCancel q id s = _
  simp only [execFcqCancel, hready, hid, ne_eq, not_true_eq_false, if_false, cancelSheaf_taken hx hearly]

end

/-- Settles O13: each clause is the lemma of its row, and what a descriptor submits is judged as the mailbox's record is. -/
theorem sheafCourse : Obligations.SheafCourse := by
  unfold Obligations.SheafCourse
  refine ⟨fun s id x => ⟨fun j => exec_sheafArmStart, exec_sheafArmCommit_acked, exec_sheafArmCommit_failed,
      exec_sheafCutoff_late, fun faults hx hphase hreached hmode => ?_, fun slot u => exec_armSlotFree,
      fun u => exec_sheafHorizon_done⟩,
    fun s q slot => ⟨fun words ack hready hrecord hack hformat => ?_, fun id x => exec_fcqCancel⟩⟩
  · have hinstant := exec_sheafInstant_outsideHold faults hx hphase hreached hmode
    exact ⟨fun hguard => by rw [hinstant, if_pos hguard], fun hguard => by rw [hinstant, if_neg (by simp [hguard])]⟩
  · exact ⟨fun hreason => exec_fcqSubmit_accepted hready hrecord hack (submit_accepted _ nofun hformat hreason),
      fun r hreason => exec_fcqSubmit_refused hready hrecord hack (submit_refused _ nofun hformat hreason)⟩

end Sys2Proof.Machine
end

section
/-! PROOFS. The CAL commands and their refusal without an image (07_calibration_spares R200, R208, R213-R220, R227): a lemma for
each row. -/
namespace Sys2Proof.Machine

/-! A row that is carried out answers what its body answers. -/

section
variable {s t : State} {tag : Tag} {code : Nat} {c : InFlight} {i : Instr} {reads : Bool} {body : State → State × Reply} {r : Reply}

theorem exec_of_serve (hrow : exec i s = .next (s.serve tag code reads none body)) (hwaits : Waits s tag code c)
    (hbody : body s = (t, r)) : exec i s = .next (t.answer c r) :=
  hrow.trans (congrArg Host.Outcome.next ((serve_any hwaits reads body).trans (by rw [hbody])))

theorem exec_of_serve_asks (hrow : exec i s = .next (s.serve tag code reads (some 0) body)) (hasks : Asks s tag code c)
    (hbody : body s = (t, r)) : exec i s = .next (t.answer c r) :=
  hrow.trans (congrArg Host.Outcome.next ((serve_asks hasks reads body).trans (by rw [hbody])))

end

section
variable {s : State} {tag : Tag} {c : InFlight} {first count r b k : Nat}

/-! Rows with an image. -/

theorem exec_calSave (himage : s.noImage = false) (hasks : Asks s tag 0x0603 c) (hidle : s.cal.saving = false) :
    exec (.calSave tag) s = s.startSave.ok c :=
  exec_of_serve_asks rfl hasks (by simp only [himage, hidle, Bool.false_eq_true, if_false, Reply.done])

/-- No element of the range may lie in a block in which a substitution runs (R217). -/
theorem exec_calRecalElement (himage : s.noImage = false) (hwaits : Waits s tag 0x0604 c) (hrange : rangeOk first count 64 = true)
    (hfree : ∀ x ∈ s.cal.subst, ∀ e ∈ List.range' first count, ¬(x.region = regionOf e ∧ x.block = blockOf e)) :
    exec (.calRecalElement tag first count) s =
      ((List.range' first count).foldl (fun t e => t.recalElement e) s).ok c := by
  have hnone : ((List.range' first count).any fun e =>
      s.cal.subst.any fun x => x.region = regionOf e && x.block = blockOf e) = false := by
    simp only [List.any_eq_false, List.any_eq_true, Bool.and_eq_true, decide_eq_true_eq, not_exists, not_and]
    exact fun e he x hx hregion hblock => hfree x hx e he ⟨hregion, hblock⟩
  exact exec_of_serve rfl hwaits (by
    simp only [himage, hrange, hnone, Bool.not_true, Bool.false_eq_true, if_false, Reply.done])

theorem exec_calSetBackground (en : Bool) {p : Nat} (himage : s.noImage = false) (hwaits : Waits s tag 0x0605 c) (hp : 1000 ≤ p)
    (hp' : p ≤ 3600000) :
    exec (.calSetBackground tag en p) s = ({ s with cal.bgOn := en, cal.periodMs := p } : State).ok c :=
  exec_of_serve rfl hwaits (by
    simp only [himage, Nat.not_lt.mpr hp, Nat.not_lt.mpr hp', decide_false, Bool.or_self, Bool.false_eq_true, if_false, Reply.done])

theorem exec_calSetSparePolicy {p : SparePolicy} (himage : s.noImage = false) (hwaits : Waits s tag 0x0606 c) (hp : p.ok = true) :
    exec (.calSetSparePolicy tag p) s = ({ s with cal.policy := p } : State).ok c :=
  exec_of_serve rfl hwaits (by simp only [himage, hp, Bool.not_true, Bool.false_eq_true, if_false, Reply.done])

/-- A loop cell whose block has its cell 21 free, with no proof of it failed, is substituted at once (R219, R220). -/
theorem exec_calSubstitute_cell (himage : s.noImage = false) (hwaits : Waits s tag 0x0607 c) (hr : r ≤ 3) (hb : b ≤ 15) (hk : k ≤ 20)
    (hfree : s.cell21Used (s.location r b) = false) (hgood : s.location r b ∉ s.cal.badCell21) :
    exec (.calSubstitute tag false r b k) s = (s.startSubst r b k false 4 0xFFFF 0).ok c :=
  exec_of_serve rfl hwaits (by
    simp only [himage, hfree, hgood, Nat.not_lt.mpr hr, Nat.not_lt.mpr hb, Nat.not_lt.mpr hk, List.contains_eq_mem, decide_false,
      Bool.or_self, Bool.false_eq_true, if_false, Reply.done])

/-- A block likewise, by block 16 of its region (R221). -/
theorem exec_calSubstitute_block (himage : s.noImage = false) (hwaits : Waits s tag 0x0607 c) (hr : r ≤ 3) (hb : b ≤ 15) (hk : k ≤ 20)
    (hfree : s.block16Used r = false) (hgood : r ∉ s.cal.badBlock16) :
    exec (.calSubstitute tag true r b k) s = (s.startSubst r b 0 true 4 0xFFFF 0).ok c :=
  exec_of_serve rfl hwaits (by
    simp only [himage, hfree, hgood, Nat.not_lt.mpr hr, Nat.not_lt.mpr hb, Nat.not_lt.mpr hk, List.contains_eq_mem, decide_false,
      Bool.or_self, Bool.false_eq_true, if_false, if_true, Reply.done])

theorem reads_calGetElement (himage : s.noImage = false) (hwaits : Waits s tag 0x0602 c) (hrange : rangeOk first count 64 = true) :
    Reads (.calGetElement tag first count) s c :=
  reads_of_query rfl (status_of_passed (by simp [himage]) (status_of_passed (by simp [hrange]) rfl)) hwaits

theorem reads_calGetSpares (himage : s.noImage = false) (hasks : Asks s tag 0x0609 c) : Reads (.calGetSpares tag) s c :=
  reads_of_asks rfl (status_of_passed (by simp [himage]) rfl) hasks

end

/-- Settles O15: with an image each clause is the lemma above of its row; without one the first check of the row refuses. -/
theorem calCommandsTakeEffect : Obligations.CalCommandsTakeEffect := by
  unfold Obligations.CalCommandsTakeEffect
  refine ⟨fun s tag c himage => ⟨exec_calSave himage, fun first count => exec_calRecalElement himage,
    fun en p => exec_calSetBackground en himage, fun p => exec_calSetSparePolicy himage, fun r b k => exec_calSubstitute_cell himage,
    fun r b k => exec_calSubstitute_block himage, fun first count => reads_calGetElement himage, reads_calGetSpares himage⟩,
    fun s tag c hstage => ?_⟩
  have hno : s.noImage = true := by simp [State.noImage, hstage]
  exact ⟨fun f n hwaits => congrArg Host.Outcome.next ((query_any hwaits _).trans (congrArg (s.answer c) (if_pos hno))),
    fun hasks => exec_of_serve_asks rfl hasks (if_pos hno),
    fun f n hwaits => exec_of_serve rfl hwaits (if_pos hno),
    fun en p hwaits => exec_of_serve rfl hwaits (if_pos hno),
    fun p hwaits => exec_of_serve rfl hwaits (if_pos hno),
    fun w r b k hwaits => exec_of_serve rfl hwaits (if_pos hno),
    fun hasks => congrArg Host.Outcome.next ((query_asks hasks _).trans (congrArg (s.answer c) (if_pos hno)))⟩

end Sys2Proof.Machine
end

section
/-! PROOFS. Saves, start-up, spares and the background visit (07_calibration_spares R197-R203, R209-R224): what the shared
operations change of the calibration block, and a lemma for each row. -/
namespace Sys2Proof.Machine

/-! What the shared operations change of the calibration block. -/

@[simp] theorem raise_cal (src : Nat) (s : State) : (s.raise src).cal = s.cal := by simp [State.raise, State.raiseN]
@[simp] theorem repairDone_cal (src : Nat) (s : State) : (s.repairDone src).cal = s.cal := rfl
@[simp] theorem abortFor_cal (es : List Nat) (s : State) : (s.abortFor es).cal = s.cal := rfl
@[simp] theorem clearBlock_cal (es : List Nat) (s : State) : (s.clearBlock es).cal = s.cal := rfl

@[simp] theorem setMode_cal (m : Mode) (s : State) : (s.setMode m).cal = s.cal := by
  obtain ⟨_, _, _, _, _, _, h⟩ := setMode_frame m s
  rw [h]

@[simp] theorem checkDegraded_cal (s : State) : s.checkDegraded.cal = s.cal := by
  unfold State.checkDegraded
  split
  · exact setMode_cal _ s
  · rfl

section
variable (time kind cause source logical frm dest outcome left events : Nat) (s : State)

/-- An entry of the substitution log changes neither the spare map nor the substitutions that run (R224). -/
@[simp] theorem logSubstAt_map : (s.logSubstAt time kind cause source logical frm dest outcome left events).cal.map = s.cal.map := rfl
@[simp] theorem logSubstAt_subst : (s.logSubstAt time kind cause source logical frm dest outcome left events).cal.subst = s.cal.subst := rfl
@[simp] theorem logSubst_map : (s.logSubst kind cause source logical frm dest outcome left events).cal.map = s.cal.map := rfl

end

section
variable {s : State} {r b : Nat}

/-! Saves (R200-R202). -/

/-- A copy whose digest is made is valid for the unit that it was made for. -/
theorem sealed_valid (c : ImgCopy) : c.sealed.valid c.sealed.serial c.sealed.phoRev = true := by
  have hdigest : c.sealed.digest = some c.sealed.contents := rfl
  simp [ImgCopy.valid, hdigest]

theorem exec_calAutoSave (hchanged : s.cal.changed = true) (hday : s.cal.lastSave + 864000000000000 ≤ s.up)
    (hmode : s.unit.mode ≠ .hold) (hidle : s.cal.saving = false) : exec .calAutoSave s = .next s.startSave :=
  congrArg Host.Outcome.next (if_pos (by simp [hchanged, hday, hmode, hidle]))

/-- A save that ends well makes the digest of the copy that it wrote and puts that copy into use. -/
theorem exec_calSaveComplete_written (hsaving : s.cal.saving = true) :
    ∃ t, exec (.calSaveComplete true) s = .next t ∧ t.cal.saving = false ∧
      t.cal.inUse = !s.cal.inUse ∧ t.cal.copy.seq = s.cal.copy.seq + 1 ∧
      t.cal.copy.valid t.cal.copy.serial t.cal.copy.phoRev = true ∧
      t.cal.copy.els = (if s.cal.inUse then s.cal.copy0 else s.cal.copy1).els := by
  refine ⟨_, congrArg Host.Outcome.next ((if_neg (by simp [hsaving])).trans (if_neg (by simp))), ?_⟩
  dsimp only
  cases hinUse : s.cal.inUse
  all_goals exact ⟨rfl, rfl, rfl, sealed_valid _, rfl⟩

theorem exec_calSaveComplete_failed (hsaving : s.cal.saving = true) :
    exec (.calSaveComplete false) s = .next ({ s with cal.saving := false }.raise 148) :=
  congrArg Host.Outcome.next ((if_neg (by simp [hsaving])).trans (if_pos rfl))

/-! The stages of start-up (R203). -/

theorem exec_calStageComplete_load (hmode : s.unit.mode = .calibrate) (hstage : s.cal.stage = 1) :
    exec .calStageComplete s = .next s.calLoad :=
  congrArg Host.Outcome.next ((if_neg (not_not.mpr hmode)).trans (if_pos hstage))

theorem exec_calStageComplete_elements (hmode : s.unit.mode = .calibrate) (hstage : s.cal.stage = 4)
    (hover : s.power.dark = true ∨ s.handedOver = true) : exec .calStageComplete s = .next s.elementsStage := by
  change execCalStageComplete s = _
  have hcond : (s.power.dark || s.handedOver) = true := by simpa using hover
  simp [execCalStageComplete, hmode, hstage, hcond]

theorem exec_calStageComplete_lock (hmode : s.unit.mode = .calibrate) (hstage : s.cal.stage = 5) (hwait : s.unit.waiting = none)
    (hover : s.handedOver = true) : exec .calStageComplete s = .next s.roleDecision := by
  change execCalStageComplete s = _
  simp [execCalStageComplete, hmode, hstage, hwait, hover]

/-! Flash (R202, R224). -/

theorem exec_logEntryWrite {x : LogEntry} {rest : List LogEntry} (hpend : s.cal.logPend = x :: rest) :
    exec .logEntryWrite s = .next { s with cal.log := (x :: s.cal.log).take 4096, cal.logPend := rest } := by
  change execLogEntryWrite s = _
  simp only [execLogEntryWrite, hpend]

/-! Spares (R218-R223). -/

theorem exec_spareThresholdMet_cell {k : Nat} (hr : r ≤ 3) (hb : b ≤ 15) (hk : k ≤ 20)
    (hmet : s.thresholdMet (.loopCell r b k) = true) (hsubst : s.cal.subst = []) (hlost : s.cal.lost = []) :
    exec (.spareThresholdMet (.loopCell r b k)) s = .next (s.wantCell r b k 1 (s.location r b)
      (s.partCount (.loopCell r b k) (s.cal.policy.cellWindowMin * 600000000000))) :=
  congrArg Host.Outcome.next ((if_neg (by simp [hmet])).trans (if_neg (by simp [hsubst, hlost]; omega)))

theorem exec_spareProof_block16 (hr : r ≤ 3) (hfree : s.block16Used r = false) :
    exec (.spareProof r 16 true) s =
      .next { s with cal.badBlock16 := s.cal.badBlock16.filter (· ≠ r) } :=
  congrArg Host.Outcome.next ((if_neg (by simp; omega)).trans ((if_pos (by simp [hfree])).trans (if_pos rfl)))

/-- A location number that does not stand for block 16 itself stands for the cell 21 there (R219, R221). -/
theorem exec_spareProof_cell21 (hr : r ≤ 3) (hb : b ≤ 16) (hcell : b = 16 → s.block16Used r = true)
    (hfree : s.cell21Used (blockSource r b) = false) :
    exec (.spareProof r b true) s =
      .next { s with cal.badCell21 := s.cal.badCell21.filter (· ≠ blockSource r b) } :=
  congrArg Host.Outcome.next ((if_neg (by simp; omega)).trans ((if_neg (by simpa using hcell)).trans
    ((if_neg (by simp [hfree])).trans (if_pos rfl))))

/-- A loop cell's spare that passes its self-test serves its slots from the switch on (R220). -/
theorem exec_loopCellSwitch_passed {k : Nat} {x : Subst} (hfind : (s.cal.subst.find? fun x =>
      x.region = r && x.block = b && x.cell = k && !x.whole && decide (x.switchAt ≤ s.now)) = some x) :
    ∃ t, exec (.loopCellSwitch r b k true) s = .next t ∧ t.cal.subst = s.cal.subst.filter (· ≠ x) ∧
      t.cal.map = { s.cal.map with cellSub := mapSet 0 s.cal.map.cellSub (s.location r b) (k + 1) } := by
  change ∃ t, execLoopCellSwitch r b k true s = .next t ∧ _
  unfold execLoopCellSwitch
  rw [hfind]
  exact ⟨_, rfl, by simp, by simp⟩

theorem exec_blockSwitch_passed {x : Subst} (hfind : (s.cal.subst.find? fun x =>
      x.region = r && x.block = b && x.whole && decide (x.switchAt ≤ s.now)) = some x) :
    ∃ t, exec (.blockSwitch r b true) s = .next t ∧ t.cal.subst = s.cal.subst.filter (· ≠ x) ∧
      t.cal.map = { s.cal.map with blockSub := mapSet 0 s.cal.map.blockSub r (b + 1) } := by
  change ∃ t, execBlockSwitch r b true s = .next t ∧ _
  unfold execBlockSwitch
  rw [hfind]
  exact ⟨_, rfl, by simp, by simp⟩

/-- While a spare row is left, a repair takes the next one (R222). -/
theorem repairRow_map {i row : Nat} (cause events : Nat) (hi : i < numMemories)
    (hroom : (mapGet [] s.cal.map.rows i).length < 16) : (s.repairRow i row cause events).cal.map =
      { s.cal.map with rows := mapSet [] s.cal.map.rows i (mapGet [] s.cal.map.rows i ++ [row]) } := by
  unfold State.repairRow
  rw [if_neg (by simp [hi, hroom])]
  dsimp only
  split
  · rw [raise_cal, logSubst_map]
  · rw [logSubst_map]

theorem exec_rowRepair {i row : Nat} (hmet : s.thresholdMet (.row i row) = true) (hi : i < numMemories)
    (hroom : (mapGet [] s.cal.map.rows i).length < 16) :
    ∃ t, exec (.rowRepair i row) s = .next t ∧
      t.cal.map = { s.cal.map with rows := mapSet [] s.cal.map.rows i (mapGet [] s.cal.map.rows i ++ [row]) } :=
  ⟨_, congrArg Host.Outcome.next (if_pos hmet), repairRow_map 1 _ hi hroom⟩

/-! References (R197, R198). -/

/-- Three band-gaps of which no two agree are all lost (R197). -/
theorem bandgapCheck_lost {a b d : Nat} (hheld : s.cal.bandgapLost = false) (hnone : s.cal.map.bandgap = none)
    (hab : within a b = false) (hba : within b a = false) (hbd : within b d = false) (hdb : within d b = false)
    (had : within a d = false) (hda : within d a = false) :
    s.bandgapCheck a b d = ({ s with cal.bandgapLost := true } : State).raise 147 := by
  unfold State.bandgapCheck
  rw [if_neg (by simp [hheld])]
  simp [hnone, hab, hba, hbd, hdb, had, hda]

theorem exec_bandgapCheck_lost {a b d : Nat} (hdue : s.periodDue s.cal.bandgapAt 1000000000 = true) (hheld : s.cal.bandgapLost = false)
    (hnone : s.cal.map.bandgap = none) (hab : within a b = false) (hba : within b a = false) (hbd : within b d = false)
    (hdb : within d b = false) (had : within a d = false) (hda : within d a = false) :
    exec (.bandgapCheck a b d) s = .next ({ s with cal.bandgapAt := some s.up, cal.bandgapLost := true }.raise 147) :=
  congrArg Host.Outcome.next ((if_pos hdue).trans
    (bandgapCheck_lost (s := { s with cal.bandgapAt := some s.up }) hheld hnone hab hba hbd hdb had hda))

/-- A junction up to its limit, with no diode read, raises nothing. -/
theorem temperatures_cool {j : Int} (hj : j ≤ 1100) :
    s.temperatures j [] = { s with cal.junction := j, cal.diodes := [], cal.tempAt := some s.up } := by
  simp [State.temperatures, Int.not_lt.mpr hj]

theorem exec_temperatureSample_cool {j : Int} (hj : j ≤ 1100) (hdue : s.periodDue s.cal.tempAt 100000000 = true) :
    exec (.temperatureSample j []) s =
      .next ({ s with cal.junction := j, cal.diodes := [], cal.tempAt := some s.up } : State).smbUpdate :=
  congrArg Host.Outcome.next ((if_pos hdue).trans (congrArg State.smbUpdate (temperatures_cool hj)))

/-! Delay lines (R210, R211). -/

/-- The period of a delay line in which its exchange has come. -/
def State.exchangeCame (line : Nat) (s : State) : State :=
  { s with cal.exchangedAt := mapSet none s.cal.exchangedAt line (some s.up) }

section
variable {line : Nat} (hline : line < numLines) (hdue : s.periodDue (mapGet none s.cal.exchangedAt line) 100000000 = true)
include hline hdue

/-- With no action near, an exchange that is due comes. -/
theorem exchange_comes :
    ¬(false || decide (numLines ≤ line) || !s.periodDue (mapGet none s.cal.exchangedAt line) 100000000) = true := by
  simp [Nat.not_le.mpr hline, hdue]

theorem exec_delayLineExchange_twin (hboth : line ∉ s.cal.alone) (hgood : (s.measured 26 line).natAbs % 2 = 0) :
    exec (.delayLineExchange line false) s =
      .next ({ (s.exchangeCame line).retable line (!mapGet false s.cal.twin line) with
        cal.twin := mapSet false s.cal.twin line (!mapGet false s.cal.twin line) } : State).drawn :=
  congrArg Host.Outcome.next ((if_neg (exchange_comes hline hdue)).trans
    ((if_neg (by simpa using hboth)).trans (if_neg (by omega))))

theorem exec_delayLineExchange_fallback (hboth : line ∉ s.cal.alone) (hbad : (s.measured 26 line).natAbs % 2 = 1) :
    exec (.delayLineExchange line false) s = .next ((s.exchangeCame line).lineFallback line).drawn :=
  congrArg Host.Outcome.next ((if_neg (exchange_comes hline hdue)).trans ((if_neg (by simpa using hboth)).trans (if_pos hbad)))

theorem exec_delayLineExchange_alone (halone : line ∈ s.cal.alone) :
    exec (.delayLineExchange line false) s =
      .next ((s.exchangeCame line).retable line (mapGet false s.cal.twin line)).drawn :=
  congrArg Host.Outcome.next ((if_neg (exchange_comes hline hdue)).trans (if_pos (by simpa using halone)))

end

/-! The background visit (R213-R216). -/

/-- The rotation of a block moves on to its next element. -/
def State.rotationMoved (key : Nat) (s : State) : State :=
  { s with
    cal.rotation := mapSet 0 s.cal.rotation key (mapGet 0 s.cal.rotation key + 1)
    cal.visitAt := mapSet none s.cal.visitAt key (some s.up) }

/-- The element of a block that the rotation visits next. -/
def State.nextVisited (region block : Nat) (s : State) : Nat :=
  elementAt region block 0 0 + mapGet 0 s.cal.rotation (region * 16 + block)

/-- The next element of a block is visited, unless a change or capture of it takes precedence (R215). -/
def State.visitNext (region block : Nat) (s : State) : State :=
  if s.visitBlocked (s.nextVisited region block) then s.rotationMoved (region * 16 + block)
  else (s.rotationMoved (region * 16 + block)).visit (s.nextVisited region block)

/-- A rotation that has visited every block to its end is counted, and begins again (R216). -/
def State.rotationCounted (s : State) : State :=
  { s with cal.rotation := [], cal.globalCount := (s.cal.globalCount + 1) % 2 ^ 32, cal.globalTime := s.steppedTime }

/-- A visit that is due takes the next element, and may end the rotation. -/
theorem exec_backgroundVisit (hr : r ≤ 3) (hb : b ≤ 15) (hmode : s.unit.mode = .active) (hon : s.cal.bgOn = true)
    (hsubst : s.cal.subst = []) (hdue : s.visitDue (r * 16 + b) = true) (hleft : mapGet 0 s.cal.rotation (r * 16 + b) < 336) :
    exec (.backgroundVisit r b) s =
      .next (if (s.visitNext r b).cal.rotated then (s.visitNext r b).rotationCounted else s.visitNext r b) :=
  congrArg Host.Outcome.next ((if_neg (by simp [hmode, hon, hsubst, hdue]; omega)).trans (if_neg (Nat.not_le.mpr hleft)))

end

/-- Settles O16: each clause is the lemma above of its row; a proof of cell 21 serves the blocks and, once it is used, block 16. -/
theorem calibrationAndSpareEvents : Obligations.CalibrationAndSpareEvents := by
  unfold Obligations.CalibrationAndSpareEvents
  refine ⟨fun s => ⟨exec_calAutoSave, exec_calSaveComplete_written, exec_calSaveComplete_failed, exec_calStageComplete_load,
      exec_calStageComplete_elements, exec_calStageComplete_lock, rfl, fun x rest => exec_logEntryWrite⟩,
    fun s => ⟨fun r b k => exec_spareThresholdMet_cell,
      fun r b hr hb => exec_spareProof_cell21 hr (by omega) (by omega),
      fun r => exec_spareProof_block16,
      fun r hr hused => exec_spareProof_cell21 hr le_rfl fun _ => hused,
      fun r b k x => exec_loopCellSwitch_passed, fun r b x => exec_blockSwitch_passed, fun i r => exec_rowRepair,
      fun a b d => exec_bandgapCheck_lost, fun j => exec_temperatureSample_cool,
      fun line hline hdue => ⟨exec_delayLineExchange_twin hline hdue, exec_delayLineExchange_fallback hline hdue,
        exec_delayLineExchange_alone hline hdue⟩,
      fun r b hr hb hmode hon hsubst hdue hleft => ?_⟩⟩
  have hvisit := exec_backgroundVisit hr hb hmode hon hsubst hdue hleft
  refine ⟨fun hblocked hgoes => ?_, fun hfree hgoes => ?_, fun hfree hends => ?_⟩
  · have hnext : s.visitNext r b = s.rotationMoved (r * 16 + b) := if_pos hblocked
    rw [hvisit, hnext]
    exact congrArg Host.Outcome.next (if_neg (Bool.eq_false_iff.mp hgoes))
  all_goals
    have hnext : s.visitNext r b = (s.rotationMoved (r * 16 + b)).visit (s.nextVisited r b) := if_neg (Bool.eq_false_iff.mp hfree)
    rw [hvisit, hnext]
  · exact congrArg Host.Outcome.next (if_neg (Bool.eq_false_iff.mp hgoes))
  · exact congrArg Host.Outcome.next (if_pos hends)

end Sys2Proof.Machine
end

section
/-! PROOFS. The PORT commands that set something, and the choice of a spare lane (08_network_ports R228, R233, R234, R242-R244, R247,
R249, R251, R254): a lemma for each row, and what the choice of a spare lane promises. -/
namespace Sys2Proof.Machine

/-! The spare lanes. -/

/-- A spare lane that is not taken serves no port, is not dead, and no port is changing to it (R234). -/
theorem spare_free_of_not_taken {s : State} {k : Nat} (hfree : s.spareTaken k = false) :
    ∀ p ∈ s.ports.port, p.2.lane ≠ k ∧ k ∉ p.2.dead ∧ ∀ x ∈ p.2.subst, x.lane ≠ k := by
  intro p hp
  have hport := List.any_eq_false.mp hfree p hp
  simp only [Bool.or_eq_true, decide_eq_true_eq, List.contains_iff_mem, Option.any_eq_true, not_or, not_exists, not_and] at hport
  obtain ⟨⟨hlane, hdead⟩, hsubst⟩ := hport
  exact ⟨hlane, hdead, hsubst⟩

/-- The spare lane chosen for a port is SL0 or SL1, is wired to the port, and is not taken (R233, R234). -/
theorem spareFor_some {s : State} {port k : Nat} (hspare : s.spareFor port = some k) :
    (k = 1 ∨ k = 2) ∧ (s.spareMask k).getLsbD port = true ∧ s.spareTaken k = false := by
  have hmem : k ∈ [1, 2] := List.mem_of_find?_eq_some hspare
  have hfits := List.find?_some hspare
  simp only [Bool.and_eq_true, Bool.not_eq_true'] at hfits
  obtain ⟨hwired, hfree⟩ := hfits
  exact ⟨by simpa using hmem, hwired, hfree⟩

section
variable {s : State} {tag : Tag} {c : InFlight} {port : Nat}

theorem exec_portSubstLane {k : Nat} (hport : port ≤ 3) (hwaits : Waits s tag 0x070B c) (hidle : (s.prt port).subst = none)
    (hspare : s.spareFor port = some k) : exec (.portSubstLane tag port) s = (s.startLane port k 4 false).ok c :=
  exec_of_serve rfl hwaits (by
    simp only [Nat.not_lt.mpr hport, hidle, hspare, Option.isSome_none, Bool.false_eq_true, if_false, Reply.done])

theorem exec_portSubstLane_noSpare (hport : port ≤ 3) (hwaits : Waits s tag 0x070B c) (hidle : (s.prt port).subst = none)
    (hspare : s.spareFor port = none) : exec (.portSubstLane tag port) s = s.no c .inUse :=
  exec_of_serve rfl hwaits (by
    simp only [Nat.not_lt.mpr hport, hidle, hspare, Option.isSome_none, Bool.false_eq_true, if_false, refuse])

/-! Settings. -/

/-- A mode within range, with headroom for its frames, is taken, and a port that is up goes down where its line changes (R228). -/
theorem exec_portSetMode {cfg : PortModeCfg} (hport : port ≤ 3) (hwaits : Waits s tag 0x0702 c)
    (hline : lineOk cfg.mode cfg.fec cfg.clause37 = true) (hlen : cfg.maxLen ≠ 3) (hbadq : cfg.badq ≤ 63)
    (hroom : headroomOk cfg.mode cfg.maxLen (s.prt port).pauseNext = true) (hidle : (s.prt port).subst = none) :
    exec (.portSetMode tag port cfg) s =
      ((if ((s.prt port).cfg.mode ≠ cfg.mode ∨ (s.prt port).cfg.fec ≠ cfg.fec) ∧ (s.prt port).up = true then s.linkDown port false
        else s).modPort port fun x => { x with
          cfg := cfg, addressSet := true
          maxLenWas := if x.cfg.maxLen = cfg.maxLen then x.maxLenWas else some (s.up, x.cfg.maxLen) }).ok c :=
  exec_of_serve rfl hwaits (by
    simp only [Nat.not_lt.mpr hport, hline, hlen, Nat.not_lt.mpr hbadq, hroom, hidle, decide_false, Bool.not_true, Bool.or_self,
      Bool.and_eq_true, Bool.or_eq_true, decide_eq_true_eq, Option.isSome_none, Bool.false_eq_true, if_false, Reply.done])

/-- Pause settings within range and headroom wait for the end of the frame in transmission; a share below the occupancy is in force at
once (R247, R254). -/
theorem exec_portSetPause {cfg : PauseCfg} (hport : port ≤ 3) (hwaits : Waits s tag 0x0704 c) (hcfg : PauseCfg.ok cfg = true)
    (hroom : headroomOk (s.prt port).cfg.mode (s.prt port).cfg.maxLen cfg = true)
    (hshares : ((([0, 1, 2, 3] : List Nat).filter (· ≠ port)).map fun p => (s.prt p).pauseNext.share).sum + cfg.share ≤ 10485760) :
    exec (.portSetPause tag port cfg) s =
      (let s1 := s.modPort port fun x => { x with
        pausePend := some cfg
        pause := if cfg.share < s.occupancy port then { x.pause with share := cfg.share } else x.pause }
      if (s.prt port).wire.isSome then s1 else s1.applyPortPend port).ok c :=
  exec_of_serve rfl hwaits (by
    simp only [Nat.not_lt.mpr hport, hcfg, hroom, Nat.not_lt.mpr hshares, decide_false, Bool.not_true, Bool.or_self,
      Bool.false_eq_true, if_false, Reply.done])

theorem exec_portSetFilter {first : Nat} {entries : List (List Word)} (hwaits : Waits s tag 0x0705 c) (hsome : 1 ≤ entries.length)
    (hmost : entries.length ≤ 16) (hrange : first + entries.length ≤ 256) (hok : ∀ e ∈ entries, filterOk e = true) :
    exec (.portSetFilter tag first entries) s =
      { s with ports.filters := mapSetList filterDflt s.ports.filters first (entries.map filterKept)
               ports.hits := mapSetList 0 s.ports.hits first (entries.map fun _ => 0) }.ok c := by
  have hnone : (entries.zipIdx.find? fun p => !filterOk p.1) = none := by
    refine List.find?_eq_none.mpr fun p hp => ?_
    simp [hok p.1 (List.fst_mem_of_mem_zipIdx hp)]
  exact exec_of_serve rfl hwaits (by
    simp only [Nat.one_le_iff_ne_zero.mp hsome, Nat.not_lt.mpr hmost, Nat.not_lt.mpr hrange, hnone, decide_false, Bool.or_self,
      Bool.false_eq_true, if_false, Reply.done])

/-- OFF suits every line mode, and the other modes of low-power idle the line modes that have it (R249). -/
theorem exec_portSetLpi {m idle : Nat} (hport : port ≤ 3) (hwaits : Waits s tag 0x0707 c) (hm : m ≤ 2)
    (hline : m = 0 ∨ (lpiTimes (s.prt port).cfg.mode (s.prt port).cfg.fec).isSome = true) (hidle : 10000 ≤ idle)
    (hidle' : idle ≤ 100000000) :
    exec (.portSetLpi tag port m idle) s =
      (let s1 := s.modPort port fun x => { x with lpiPend := some (m, idle) }
      if (s.prt port).wire.isSome then s1 else s1.applyPortPend port).ok c := by
  have hsuits : (decide (m ≠ 0) && (lpiTimes (s.prt port).cfg.mode (s.prt port).cfg.fec).isNone) = false := by
    rcases hline with hoff | hhas
    · simp [hoff]
    · simp [← Option.not_isSome, hhas]
  exact exec_of_serve rfl hwaits (by
    simp only [Nat.not_lt.mpr hport, Nat.not_lt.mpr hm, hsuits, Nat.not_lt.mpr hidle, Nat.not_lt.mpr hidle', decide_false,
      Bool.or_self, Bool.false_eq_true, if_false, Reply.done])

/-- The counters are read with what the FEC has counted, and restart (R251). -/
theorem exec_portGetStats (hport : port ≤ 3) (hwaits : Waits s tag 0x0708 c) :
    exec (.portGetStats tag (some port)) s =
      .next (((s.fecCounts port).modPort port fun x => { x with ctr := [] }).answer c
        (Reply.ok (counterFields ((s.fecCounts port).prt port).ctr ++ [(s.now : Int)]))) :=
  exec_of_serve rfl hwaits (by
    simp only [List.any_cons, List.any_nil, Nat.not_lt.mpr hport, decide_false, Bool.or_self, Bool.false_eq_true, if_false,
      List.foldl_cons, List.foldl_nil, List.flatMap_cons, List.flatMap_nil, List.append_nil])

theorem exec_portSetSpares {m0 m1 : BitVec 4} (hwaits : Waits s tag 0x070A c) (hkept0 : s.spareKept 1 m0 = true)
    (hkept1 : s.spareKept 2 m1 = true) :
    exec (.portSetSpares tag m0 m1) s = ({ s with ports.mask0 := m0, ports.mask1 := m1 } : State).checkDegraded.ok c :=
  exec_of_serve rfl hwaits (by
    simp only [hkept0, hkept1, Bool.not_true, Bool.or_self, Bool.false_eq_true, if_false, Reply.done])

end

/-- Settles O19: the refusal is the row's last check, and a spare lane that is chosen is not taken. -/
theorem spareLaneServesOnePort : Obligations.SpareLaneServesOnePort := by
  unfold Obligations.SpareLaneServesOnePort
  intro s tag c port hwaits hport hidle
  refine ⟨exec_portSubstLane_noSpare hport hwaits hidle, fun k hspare => ?_⟩
  obtain ⟨hlane, hwired, hfree⟩ := spareFor_some hspare
  exact ⟨hlane, hwired, spare_free_of_not_taken hfree⟩

/-- Settles O17: each clause is the lemma above of its row. -/
theorem portCommandsTakeEffect : Obligations.PortCommandsTakeEffect := by
  unfold Obligations.PortCommandsTakeEffect
  exact fun s tag c port hport => ⟨fun cfg => exec_portSetMode hport, fun cfg => exec_portSetPause hport,
    fun first entries => exec_portSetFilter, fun m idle => exec_portSetLpi hport, exec_portGetStats hport,
    fun m0 m1 => exec_portSetSpares, fun k => exec_portSubstLane hport⟩

end Sys2Proof.Machine
end

section
/-! PROOFS. Links and lanes (08_network_ports R229, R232, R234, R235, R237, R252, 09_gates_preemption R277): what a link that goes down
leaves of the calibration block, and a lemma for each row. -/
namespace Sys2Proof.Machine

/-! A fault of a link changes nothing of the calibration block: the spare map keeps its lanes (R234). -/

section
variable (p : Nat) (s : State)

@[simp] theorem count_cal (i n : Nat) : (s.count p i n).cal = s.cal := rfl

@[simp] theorem copyDone_cal (owner : Option (Nat × Nat)) (st : Nat) (stamp : Option Nat) : (s.copyDone owner p st stamp).cal = s.cal := by
  unfold State.copyDone
  split <;> rfl

@[simp] theorem endSleep_cal : (s.endSleep p).cal = s.cal := by
  unfold State.endSleep
  split <;> rfl

@[simp] theorem cutFrame_cal : (s.cutFrame p).cal = s.cal := by
  simp only [State.cutFrame, count_cal, cal_foldl, copyDone_cal, modPort_cal, implies_true]

@[simp] theorem linkDown_cal (remote : Bool) : (s.linkDown p remote).cal = s.cal := by
  unfold State.linkDown
  dsimp only
  repeat' split
  all_goals simp only [raise_cal, count_cal, modGate_cal, emit_cal, modPort_cal, cutFrame_cal, endSleep_cal]

@[simp] theorem setLsel_cal (k v : Nat) : (s.setLsel k v).cal = s.cal := by
  obtain ⟨_, _, h⟩ := setLsel_frame k v s
  rw [h]

end

section
variable {s : State} {port : Nat}

/-! Reception. -/

theorem exec_frameReceived (frame : RxFrame) (ps : Int) (hport : port ≤ 3) (hup : (s.prt port).up = true) :
    exec (.frameReceived port frame ps) s =
      .next (s.receive port frame (s.ingressStamp port ps) ((s.prt port).maxLenAt (s.upPs + ps))) :=
  congrArg Host.Outcome.next (if_pos (by simp [hup]; omega))

theorem exec_mpacketReceived (m : MPacket) (hport : port ≤ 3) (hup : (s.prt port).up = true)
    (henable : (s.gate port).cfg.enable = true) : exec (.mpacketReceived port m) s = .next (s.mpacket port m) :=
  congrArg Host.Outcome.next ((if_pos (by simp [hup]; omega)).trans (if_pos henable))

/-! Links. -/

/-- Without a substitution of its lane a port that comes up only starts its preemption handshake anew (R229, 09 R272). -/
theorem exec_portLinkUp (hport : port ≤ 3) (hdown : (s.prt port).up = false) (hmode : (s.prt port).cfg.mode ≠ 0)
    (hlane : (s.prt port).lane ∉ (s.prt port).dead) (hidle : (s.prt port).subst = none) (hsleep : s.power.sleep ≠ .shutdown) :
    exec (.portLinkUp port) s = .next ((s.modPort port fun x => { x with
      up := true, localFault := false, remoteFault := false, idleSince := s.up }).modGate port (GatePort.unverified s.up)).checkDegraded := by
  have hgoes : ¬ (decide (3 < port) || (s.prt port).up || decide ((s.prt port).cfg.mode = 0) ||
      (s.prt port).dead.contains (s.prt port).lane || decide (s.power.sleep = .shutdown)) = true := by
    simp [hdown, hmode, hlane, hsleep]
    omega
  refine congrArg Host.Outcome.next ((if_neg hgoes).trans ?_)
  rw [hidle]
  rfl

theorem exec_portLinkDown (remote : Bool) (hport : port ≤ 3) : exec (.portLinkDown port remote) s = .next (s.linkDown port remote) :=
  congrArg Host.Outcome.next (if_neg (Nat.not_lt.mpr hport))

/-! Lanes. -/

/-- A lane that loses lock takes its port down and is substituted; on a port that is down already the loss is an event of its own
(R234, R235). -/
theorem exec_laneLossOfLock {k : Nat} (hport : port ≤ 3) (hmode : (s.prt port).cfg.mode ≠ 0) (hidle : (s.prt port).subst = none)
    (hspare : s.spareFor port = some k) :
    exec (.laneLossOfLock port) s =
      .next ((if (s.prt port).up then s.linkDown port false
        else (s.linkDown port false).raise (156 + port)).startLane port k 2 true) := by
  refine congrArg Host.Outcome.next ((if_neg (by simp [hmode]; omega)).trans ?_)
  rw [hidle, hspare]

/-- A lane that has lost lock and waits for no schedule boundary switches at once, and the spare map notes the lane that takes over
(R234). -/
theorem exec_laneSwitch_lanes {x : LaneSubst} (hport : port ≤ 3) (hsubst : (s.prt port).subst = some x) (hwaits : x.switched = false)
    (hat : x.t2 = none) (hcause : x.cause = 2) :
    ∃ t, exec (.laneSwitch port) s = .next t ∧ t.cal.map.lanes = s.cal.map.lanes ++ [(port, x.lane)] := by
  have hdue : s.switchDue x = true := by simp [State.switchDue, hwaits, hat]
  have hgoes : ¬ (decide (3 < port) || !s.switchDue x ||
      (decide (x.cause ≠ 2) && ((s.prt port).wire.isSome || (s.prt port).held.isSome))) = true := by
    simp [hdue, hcause]
    omega
  change ∃ t, execLaneSwitch port s = .next t ∧ _
  simp only [execLaneSwitch, hsubst, if_neg hgoes]
  refine ⟨_, rfl, ?_⟩
  rw [checkDegraded_cal]
  dsimp only
  split
  all_goals simp only [setLsel_cal, modPort_cal, linkDown_cal]

/-! The history of the counters. -/

theorem exec_statsHistoryTick (hup : s.functionUp = true)
    (hdue : s.periodDue (some (s.ports.historyAt.getD s.power.releasedAt)) 10000000000 = true) :
    exec .statsHistoryTick s = .next (([0, 1, 2, 3] : List Nat).foldl (fun (t : State) p =>
      (t.fecCounts p).modPort p fun x => { x with history := (x.tick :: x.history).take 900, tick := [] })
      { s with ports.historyAt := some s.up }) :=
  congrArg Host.Outcome.next (if_neg (by simp [hup, hdue]))

end

/-- Settles O18: each clause is the lemma above of its row; a lane's loss of lock is split by whether its port is up. -/
theorem linkAndLaneEvents : Obligations.LinkAndLaneEvents := by
  unfold Obligations.LinkAndLaneEvents
  refine fun s port hport => ⟨fun frame ps => exec_frameReceived frame ps hport, fun m => exec_mpacketReceived m hport,
    exec_portLinkUp hport, fun remote => exec_portLinkDown remote hport, fun k hmode hidle hspare => ?_,
    fun x => exec_laneSwitch_lanes hport, exec_statsHistoryTick⟩
  have hloss := exec_laneLossOfLock hport hmode hidle hspare
  exact ⟨fun hup => by rw [hloss, if_pos hup], fun hdown => by rw [hloss, if_neg (Bool.eq_false_iff.mp hdown)]⟩

end Sys2Proof.Machine
end

section
/-! PROOFS. Transmission: selection, frames that have left, gates on time and verification (08_network_ports R230, R234,
09_gates_preemption R255-R275, 12_host_queues R357): a lemma for each row. -/
namespace Sys2Proof.Machine

section
variable {s : State} {port : Nat}

/-! Selection (R255). -/

/-- A port that is down discards what is queued, unless a lane substitution holds it (R230, R234). -/
theorem exec_txSelect_down (hport : port ≤ 3) (hdown : (s.prt port).up = false) :
    exec (.txSelect port) s = .next (if s.holdsFrames port then s else s.discardQueued port 34 1) :=
  congrArg Host.Outcome.next ((if_neg (Nat.not_lt.mpr hport)).trans (if_pos (by rw [hdown]; rfl)))

/-- A port that is up, awake and free, with no lane substitution, takes what waits for the end of a frame and selects the next one. -/
theorem exec_txSelect_free (hport : port ≤ 3) (hup : (s.prt port).up = true) (hawake : (s.prt port).txAsleep = false)
    (hwoken : (s.prt port).wakeEnd = none) (hwire : (s.prt port).wire = none) (hfree : (s.prt port).freeAt ≤ s.upPs)
    (hidle : (s.prt port).subst = none) :
    exec (.txSelect port) s = .next (((s.applyPortPend port).dropTooLong port
      ((((s.applyPortPend port).prt port).classes.map (·.2.length)).sum)).choose port) := by
  change execTxSelect port s = _
  simp only [execTxSelect, Nat.not_lt.mpr hport, hup, hawake, hwoken, hwire, Nat.not_lt.mpr hfree, hidle, Bool.not_true,
    Option.isSome_none, Option.any_none, Bool.and_false, Bool.or_self, Bool.false_eq_true, if_false]

/-! The end of a frame. -/

/-- A frame sent whole, no message of gPTP, leaves the port, is counted and completed; the port then takes what waits for the end of a
frame, and pause generation looks at the buffer (R251, R254, 12 R357). -/
theorem exec_txFrameDone_whole {w : OnWire} (hport : port ≤ 3) (hwire : (s.prt port).wire = some w) (hwhole : w.sent = 0)
    (hplain : w.frame.gptp = none) (hdone : w.start + (8 + w.frame.bytes.length) * byteTime (s.prt port).cfg.mode ≤ s.upPs) :
    exec (.txFrameDone port) s = .next ((((((s.modPort port fun x => { x with
        wire := none, idleSince := s.up
        freeAt := w.start + (8 + w.frame.bytes.length) * byteTime (s.prt port).cfg.mode + 12 * byteTime (s.prt port).cfg.mode }).emit
      (.frame port w.frame.tc w.frame.bytes)).countSent port w.frame.bytes).copyDone w.frame.owner port 0 (some w.stamp)).applyPortPend
        port).pauseChecks) := by
  change execTxFrameDone port s = _
  simp only [execTxFrameDone, hwire, hwhole, hplain, Nat.sub_zero, Nat.not_lt.mpr hport, Nat.not_lt.mpr hdone, decide_false,
    Bool.or_self, Bool.false_eq_true, if_false, if_true]

/-! Gates on time (R262, R275). -/

theorem exec_gateEvent {o : Nat} {e : GateEntry} (hnext : s.nextGateEvent port = some (o, e))
    (hreached : s.reached (s.tb.start + o) = true) :
    exec (.gateEvent port) s =
      .next ((((s.launched (s.tb.start + o)).applyEntry port e).modGate port fun g => { g with done := g.done + 1 }).preempt port) := by
  change execGateEvent port s = _
  simp only [execGateEvent, hnext, hreached, if_true]

/-- Hold is asserted HOLD_ADVANCE before the next SET_HOLD entry (R275). -/
theorem exec_gateHoldAssert {q : Nat × GateEntry} (hport : port ≤ 3) (hactive : s.preemptive port = true)
    (hhold : (s.gate port).hold = false) (hnext : ((s.gateTimeline port).find? fun q => q.2.op = 1) = some q)
    (hreached : s.reached (q.1 - s.holdAdvance port) = true) :
    exec (.gateHoldAssert port) s =
      .next (((s.modGate port fun g => { g with hold := true }).count port 53 1).preempt port) := by
  change execGateHoldAssert port s = _
  simp only [execGateHoldAssert, Nat.not_lt.mpr hport, hactive, hhold, hnext, hreached, decide_false, Bool.not_true, Bool.or_self,
    Bool.false_eq_true, if_false, if_true]

/-! Verification (R272). -/

theorem verifyDue_of (hup : (s.prt port).up = true) (henable : (s.gate port).cfg.enable = true)
    (hverify : (s.gate port).cfg.verifyEn = true) (hsucceeded : (s.gate port).succeeded = false)
    (hfailed : (s.gate port).failed = false) (hat : (s.gate port).verifyAt ≤ s.up) : s.verifyDue port = true := by
  simp [State.verifyDue, hup, henable, hverify, hsucceeded, hfailed, hat]

/-- The handshake that is due on a port that is awake sends a verify mPacket, and fails once three are sent. -/
theorem exec_verifyTimer (hport : port ≤ 3) (hdue : s.verifyDue port = true) (hawake : (s.prt port).txAsleep = false)
    (hwoken : (s.prt port).wakeEnd = none) :
    exec (.verifyTimer port) s = .next (
      if (s.gate port).tries < 3 then ((s.modGate port fun g => { g with
        verifying := true, tries := g.tries + 1, verifyAt := s.up + g.cfg.verifyTimeMs * 10000000 }).emit (.mpacket port false)).count port 54 1
      else (s.modGate port fun g => { g with verifying := false, failed := true }).raise (160 + port)) :=
  congrArg Host.Outcome.next (if_neg (by simp [hdue, hawake, hwoken]; omega))

end

/-- Settles O20: each clause is the lemma above of its row; selection on a port that is down is split by whether it holds its frames,
and the verify timer by its tries. -/
theorem transmitEvents : Obligations.TransmitEvents := by
  unfold Obligations.TransmitEvents
  intro s port hport
  refine ⟨fun hdown hfree => ?_, fun hdown hholds => ?_, exec_txSelect_free hport,
    fun w hwire hwhole hplain hdone => ⟨_, exec_txFrameDone_whole hport hwire hwhole hplain hdone, rfl⟩, fun o e => exec_gateEvent,
    fun q => exec_gateHoldAssert hport, fun hup henable hverify hsucceeded hfailed hat hawake hwoken => ?_⟩
  · rw [exec_txSelect_down hport hdown, if_neg (Bool.eq_false_iff.mp hfree)]
  · rw [exec_txSelect_down hport hdown, if_pos hholds]
  · have htimer := exec_verifyTimer hport (verifyDue_of hup henable hverify hsucceeded hfailed hat) hawake hwoken
    exact ⟨fun hleft => by rw [htimer, if_pos hleft], fun hspent => by rw [htimer, if_neg (Nat.not_lt.mpr hspent)]⟩

end Sys2Proof.Machine
end

section
/-! PROOFS. Pause in both directions and low-power idle (08_network_ports R244-R250): a lemma for each row. -/
namespace Sys2Proof.Machine

section
variable {s : State} {port : Nat}

/-! Received pause (R246, R248). -/

theorem exec_rxPause (q : BitVec 16) (hport : port ≤ 3) (hup : (s.prt port).up = true) :
    exec (.rxPause port q) s = .next ((s.countGood64 port).rxPause port q.toNat) :=
  congrArg Host.Outcome.next (if_pos (by simp [hup]; omega))

theorem exec_pauseExpiry {e : Nat} (hpaused : (s.prt port).rxPauseEnd = some e) (hend : e ≤ s.up) :
    exec (.pauseExpiry port) s = .next (s.resumePause port) := by
  change execPauseExpiry port s = _
  simp only [execPauseExpiry, hpaused, hend, if_true]

theorem exec_rxpWatchdog (hpaused : (s.prt port).rxPauseEnd.isSome = true) (harmed : (s.prt port).rxpTripped = false)
    (hlong : (s.prt port).rxPauseSince + (s.prt port).pause.rxpWdMs * 10000000 < s.up) :
    exec (.rxpWatchdog port) s =
      .next ((((s.resumePause port).modPort port fun x => { x with rxpTripped := true }).count port 36 1).raise (160 + port)) :=
  congrArg Host.Outcome.next (if_pos (by simp [hpaused, harmed, hlong]))

theorem exec_rearmExpiry (htripped : (s.prt port).rxpTripped = true)
    (hquiet : (s.prt port).lastRxPauseAt + (s.prt port).pause.rearmMs * 10000000 ≤ s.up) :
    exec (.rearmExpiry port) s = .next (s.modPort port fun x => { x with rxpTripped := false }) :=
  congrArg Host.Outcome.next (if_pos (by simp [htripped, hquiet]))

/-! The device's own pause (R245, R248). -/

theorem exec_pauseRefresh (hgenerates : (s.prt port).pause.generate = true) (hpausing : (s.prt port).ownPauseSince.isSome = true)
    (hfull : (s.prt port).marks.2 ≤ s.occupancy port) (hnone : (s.prt port).pauseDue = none)
    (hdue : (s.prt port).lastPauseAt + (s.prt port).pause.pq / 2 * quantumPs (s.prt port).cfg.mode / 100 ≤ s.up) :
    exec (.pauseRefresh port) s =
      .next (s.modPort port fun x => { x with pauseDue := some (s.prt port).pause.pq, lastPauseAt := s.up }) :=
  congrArg Host.Outcome.next (if_pos (by simp [hgenerates, hpausing, hfull, hnone, hdue]))

theorem exec_txpWatchdog {t : Nat} (hpausing : (s.prt port).ownPauseSince = some t)
    (hlong : t + (s.prt port).pause.txpWdMs * 10000000 < s.up) :
    exec (.txpWatchdog port) s =
      .next (((s.modPort port fun x => { x with ownPauseSince := none, txpTripped := true, pauseDue := some 0 }).count port 37 1).raise
        (160 + port)) := by
  change execTxpWatchdog port s = _
  simp only [execTxpWatchdog, hpausing, hlong, if_true]

/-! Sleep (R249, R250). -/

/-- Mode IDLE: the port sleeps once its path has been idle for IDLE_T (R249). -/
theorem exec_lpiIdleTimeout (hport : port ≤ 3) (hup : (s.prt port).up = true) (hmode : (s.prt port).lpiMode = 1)
    (hline : (lpiTimes (s.prt port).cfg.mode (s.prt port).cfg.fec).isSome = true) (hawake : (s.prt port).txAsleep = false)
    (hwoken : (s.prt port).wakeEnd = none) (hidle : s.pathIdle port = true) (hempty : (s.prt port).classes = [])
    (hlong : (s.prt port).idleSince + (s.prt port).idleNs * 10 ≤ s.up) :
    exec (.lpiIdleTimeout port) s = .next (s.sleepTx port) :=
  congrArg Host.Outcome.next (if_pos (by simp [hup, hmode, hline, hawake, hwoken, hidle, hempty, hlong]; omega))

/-- Mode SCHEDULED: the port sleeps where nothing waits at an open gate and the next gate event leaves time to sleep and wake (R250). -/
theorem exec_lpiSleepEntry {sl wk : Nat} {q : Nat × GateEntry} {rest : List (Nat × GateEntry)} (hport : port ≤ 3)
    (hup : (s.prt port).up = true) (hmode : (s.prt port).lpiMode = 2) (hlist : (s.gate port).list = .running)
    (hawake : (s.prt port).txAsleep = false) (hwoken : (s.prt port).wakeEnd = none) (hidle : s.pathIdle port = true)
    (hempty : ∀ k < 8, (s.gate port).gates.getLsbD k = true → (s.prt port).head k = none)
    (hline : lpiTimes (s.prt port).cfg.mode (s.prt port).cfg.fec = some (sl, wk)) (hnext : s.gateTimeline port = q :: rest)
    (hfar : s.now + sl + wk + 2000 ≤ q.1) :
    exec (.lpiSleepEntry port) s = .next (s.sleepTx port) := by
  have hclasses : ([0, 1, 2, 3, 4, 5, 6, 7].all fun k => !(s.gate port).gates.getLsbD k || ((s.prt port).head k).isNone) = true := by
    refine List.all_eq_true.mpr fun k hk => ?_
    have hlt : k < 8 := by simp at hk; omega
    cases hgate : (s.gate port).gates.getLsbD k
    · rfl
    · rw [hempty k hlt hgate]
      rfl
  have hin : port < 4 := by omega
  change execLpiSleepEntry port s = _
  simp only [execLpiSleepEntry, hline, hnext, hin, hup, hmode, hlist, hawake, hwoken, hidle, hclasses, hfar, decide_true, Bool.not_false,
    Option.isNone_none, Bool.and_self, if_true]

/-! Waking (R250). -/

/-- The end of a sleep counts the microseconds in it (R251). -/
theorem endSleep_asleep (hasleep : (s.prt port).txAsleep = true) :
    s.endSleep port =
      (s.modPort port fun x => { x with txAsleep := false }).count port 39 ((s.up - (s.prt port).asleepSince) / 10000) :=
  if_pos hasleep

/-- A port of 1000BASE-X wakes in 16.5 us (R228, R250). -/
theorem wakeTx_asleep (hasleep : (s.prt port).txAsleep = true) (hline : (s.prt port).cfg.mode = 2) :
    s.wakeTx port =
      (((s.modPort port fun x => { x with txAsleep := false }).count port 39 ((s.up - (s.prt port).asleepSince) / 10000)).modPort
        port fun x => { x with wakeEnd := some (s.up + 165000) }).emit (.lpi port false) := by
  have htimes : lpiTimes 2 (s.prt port).cfg.fec = some (20000, 16500) := rfl
  simp only [State.wakeTx, endSleep_asleep hasleep, hline, htimes, Option.map_some, Option.getD_some, Nat.reduceMul]

/-- A port of 1000BASE-X in mode IDLE with something to send wakes early, and only mode SCHEDULED counts an early wake (R250, R251). -/
theorem exec_lpiWake_early (hasleep : (s.prt port).txAsleep = true) (hwants : s.wantsWake port = true)
    (hline : (s.prt port).cfg.mode = 2) (hmode : (s.prt port).lpiMode = 1) :
    exec (.lpiWake port true) s =
      .next ((((((s.modPort port fun x => { x with txAsleep := false }).count port 39 ((s.up - (s.prt port).asleepSince) / 10000)).modPort
        port fun x => { x with wakeEnd := some (s.up + 165000) }).emit (.lpi port false)).count port 40 0)) := by
  have hlasts : s.sleepEnds port = false := by simp [State.sleepEnds, hmode]
  change execLpiWake port true s = _
  simp only [execLpiWake, hasleep, hlasts, hwants, hmode, wakeTx_asleep hasleep hline, if_true, Bool.false_eq_true, if_false,
    OfNat.one_ne_ofNat]

/-- A port whose waking has ended is active, and idle from then on (R250). -/
theorem exec_lpiWake_awake {e : Nat} (early : Bool) (hawake : (s.prt port).txAsleep = false) (hwaking : (s.prt port).wakeEnd = some e)
    (hend : e ≤ s.up) (hrespond : (s.gate port).respondDue = false) :
    exec (.lpiWake port early) s = .next (s.modPort port fun x => { x with wakeEnd := none, idleSince := s.up }) := by
  have hplain : s.awake port = s.modPort port fun x => { x with wakeEnd := none, idleSince := s.up } :=
    if_neg (Bool.eq_false_iff.mp hrespond)
  change execLpiWake port early s = _
  simp only [execLpiWake, hawake, hwaking, hend, hplain, Bool.false_eq_true, if_false, if_true]

/-! The peer's low-power idle (R249). -/

/-- The peer's low-power idle is honoured on a port that is up, and its entry counted. -/
theorem exec_receivedLpi (entering : Bool) (hport : port ≤ 3) (hup : (s.prt port).up = true) :
    exec (.receivedLpi port entering) s = .next (
      if entering && !(s.prt port).rxLpi then (s.modPort port fun x => { x with rxLpi := entering }).count port 41 1
      else s.modPort port fun x => { x with rxLpi := entering }) :=
  congrArg Host.Outcome.next (if_pos (by simp [hup]; omega))

end

/-- Settles O21: each clause is the lemma above of its row. -/
theorem pauseAndLowPowerIdle : Obligations.PauseAndLowPowerIdle := by
  unfold Obligations.PauseAndLowPowerIdle
  refine ⟨fun s port hport => ⟨fun q => exec_rxPause q hport, fun e => exec_pauseExpiry, exec_pauseRefresh, exec_rxpWatchdog,
      exec_rearmExpiry, fun t => exec_txpWatchdog⟩,
    fun s port hport hup => ⟨exec_lpiIdleTimeout hport hup, fun sl wk q rest => exec_lpiSleepEntry hport hup, exec_lpiWake_early,
      fun e b => exec_lpiWake_awake b, fun hnew => ?_, exec_receivedLpi false hport hup⟩⟩
  rw [exec_receivedLpi true hport hup, hnew]
  rfl

end Sys2Proof.Machine
end

section
/-! PROOFS. The GATE commands that set something, and the re-anchor's effect on the gates (09_gates_preemption R261-R271, R281,
02_network_time R49): what the gates of a port read as after a change, and a lemma for each row. -/
namespace Sys2Proof.Machine

/-! Maps: what a key reads as is the default or listed. -/

theorem mapGet_default_or_mem {α : Type} (d : α) (m : SMap α) (k : Nat) : mapGet d m k = d ∨ (k, mapGet d m k) ∈ m := by
  induction m with
  | nil => exact .inl rfl
  | cons p m ih =>
    obtain ⟨a, v⟩ := p
    unfold mapGet
    split
    · next h => exact .inr (h ▸ List.mem_cons_self)
    · split
      · exact .inl rfl
      · exact ih.imp_right (List.mem_cons_of_mem _)

/-- What holds of the default and of every updated value holds of what any key reads as after an update of all listed entries. -/
theorem mapGet_mapListed_of {α : Type} [DecidableEq α] {d : α} {f : Nat → α → α} {P : α → Prop} {m : SMap α}
    {k : Nat} (hd : P d) (hf : ∀ k x, P (f k x)) : P (mapGet d (mapListed d f m) k) := by
  obtain h | h := mapGet_default_or_mem d (mapListed d f m) k
  · rwa [h]
  · obtain ⟨x, hx⟩ := mem_mapListed h
    rw [show mapGet d (mapListed d f m) k = f k x from hx]
    exact hf k x

/-! What the gates of one port read as. -/

section
variable {s : State} {port : Nat}

@[simp] theorem answer_gate (c : InFlight) (r : Reply) (p : Nat) : (s.answer c r).gate p = s.gate p := by
  simp only [State.gate, answer_gates]

/-- After a change of one port's gates, those of that port read changed and all others as before. -/
theorem gate_modGate (h : s.tidy) (f : GatePort → GatePort) (p : Nat) :
    (s.modGate port f).gate p = if p = port then f (s.gate port) else s.gate p :=
  mapGet_mapMod _ _ h.gates _ _ _

end

/-! The re-anchor (R267, 02 R49). -/

/-- The change of the gates cancels what is pending at every port, listed or not. -/
theorem gatesReanchor_pend (s : State) (p : Nat) : (s.gatesReanchor.gate p).pend = none := by
  simp only [State.gate, State.gatesReanchor]
  exact mapGet_mapListed_of (P := fun g : GatePort => g.pend = none) rfl fun _ _ => rfl

@[simp] theorem withdrawSwap_gates (s : State) : s.withdrawSwap.gates = s.gates := by
  unfold State.withdrawSwap
  split <;> rfl

@[simp] theorem setSyncOut_gates (high : Bool) (s : State) : (s.setSyncOut high).gates = s.gates := by
  unfold State.setSyncOut
  split <;> rfl

/-- The steps of the re-anchor behind the gates leave them as they are. -/
theorem reanchor_gate (tag : Tag) (v : BitVec 96) (s : State) (p : Nat) :
    (s.reanchor tag v).gate p = s.reanchorSheaves.gatesReanchor.gate p := by
  have hgates : (s.reanchor tag v).gates = s.reanchorSheaves.gatesReanchor.gates :=
    (setSyncOut_gates false _).trans (withdrawSwap_gates _)
  simp only [State.gate, hgates]

/-- Settles O24: the re-anchor runs up to its step, and its change of the gates is the last that they take. -/
theorem reanchorCancelsCommits : Obligations.ReanchorCancelsCommits := by
  unfold Obligations.ReanchorCancelsCommits
  intro s tag c time frac hwaits hstepped hload hidle
  refine ⟨_, exec_timeReanchor time frac hwaits hstepped hload hidle, fun port => ?_⟩
  rw [reanchor_gate, gatesReanchor_pend]

section
variable {s : State} {tag : Tag} {c : InFlight} {port : Nat}

/-! GATE_COMMIT (R264). -/

/-- Whatever its operands, the row answers its command, and sets the pending change of its port or nothing. -/
theorem exec_gateCommit_cases (ct : Nat) (sig : Option AxaroBlock) (hwaits : Waits s tag 0x0805 c) :
    ∃ t r, exec (.gateCommit tag port ct sig) s = .next (t.answer c r) ∧
      (t = s ∨ t = s.modGate port fun g => { g with pend := some (ct, false) }) := by
  refine ⟨_, _, congrArg Host.Outcome.next (serve_any hwaits false _), ?_⟩
  dsimp only
  repeat' split
  case h_3 => exact .inr rfl
  all_goals exact .inl rfl

theorem exec_gateCommit {ct : Nat} {sig : Option AxaroBlock} (hport : port ≤ 3) (hwaits : Waits s tag 0x0805 c)
    (hstepped : s.tb.stepped = true) (hchange : s.changeOk (s.arrivalOf tag) ct = true)
    (hlist : (s.gate port).admin.broken (s.cycleAt ct).2 (s.gate port).cfg.guardSafe = none)
    (hsig : s.axaroVerdict 2 (gateContent port (s.gate port).admin) sig = .good) :
    exec (.gateCommit tag port ct sig) s = (s.modGate port fun g => { g with pend := some (ct, false) }).ok c :=
  exec_of_serve rfl hwaits (by
    simp only [Nat.not_lt.mpr hport, hstepped, hchange, hlist, hsig, Bool.not_true, Bool.false_eq_true, if_false]
    rfl)

/-! GATE_CANCEL_COMMIT (R265). -/

theorem exec_gateCancelCommit {ct : Nat} (hport : port ≤ 3) (hwaits : Waits s tag 0x0806 c)
    (hpend : (s.gate port).pend = some (ct, false)) (htime : (s.now : Int) + 100000 ≤ (ct : Int) + s.tb.shiftS) :
    exec (.gateCancelCommit tag port) s = (s.modGate port fun g => { g with pend := none }).ok c :=
  exec_of_serve rfl hwaits (by
    simp only [Nat.not_lt.mpr hport, hpend, htime, if_false, if_true]
    rfl)

theorem exec_gateCancelCommit_late {ct : Nat} (hport : port ≤ 3) (hwaits : Waits s tag 0x0806 c)
    (hpend : (s.gate port).pend = some (ct, false)) (hlate : (ct : Int) + s.tb.shiftS < (s.now : Int) + 100000) :
    exec (.gateCancelCommit tag port) s = s.no c .tooLate :=
  exec_of_serve rfl hwaits (by
    simp only [Nat.not_lt.mpr hport, hpend, Int.not_le.mpr hlate, if_false]
    rfl)

/-! GATE_SET_CONFIG (R271), GATE_SET_ADMIN (R281) and GATE_DISABLE (R265). -/

theorem exec_gateSetConfig {cfg : GateCfg} (hport : port ≤ 3) (hwaits : Waits s tag 0x0802 c) (hcfg : cfg.offends = none) :
    exec (.gateSetConfig tag port cfg) s =
      (let s1 := s.modGate port fun g => { g with cfgPend := some cfg }
      if (s.prt port).wire.isSome then s1 else s1.applyPortPend port).ok c :=
  exec_of_serve rfl hwaits (by
    simp only [Nat.not_lt.mpr hport, hcfg, if_false]
    rfl)

/-- The admin bank is written where no commit waits at the port; a disable that waits does not read it (R264, R265). -/
theorem exec_gateSetAdmin {start n lct : Nat} {lt : Word} {es : List GateEntry} (hport : port ≤ 3) (hwaits : Waits s tag 0x0803 c)
    (hlen : es.length ≤ 480) (hend : start + es.length ≤ 1024) (hdisable : ∀ q ∈ (s.gate port).pend, q.2 = true) :
    exec (.gateSetAdmin tag port start n lct lt es) s =
      (s.modGate port (GatePort.setAdmin (Bank.write start n lct lt es))).ok c := by
  have hnone : ((s.gate port).pend.any fun q => !q.2) = false := by
    cases hpend : (s.gate port).pend with
    | none => rfl
    | some q => simp [hdisable q hpend]
  refine exec_of_serve rfl hwaits ?_
  simp only [Nat.not_lt.mpr hport, Nat.not_lt.mpr hlen, Nat.not_lt.mpr hend, hnone, decide_false, Bool.or_self, Bool.false_eq_true,
    if_false]
  rfl

theorem exec_gateDisable {ct : Nat} (hport : port ≤ 3) (hwaits : Waits s tag 0x0807 c) (hstepped : s.tb.stepped = true)
    (hchange : s.changeOk (s.arrivalOf tag) ct = true) :
    exec (.gateDisable tag port ct) s = (s.modGate port fun g => { g with pend := some (ct, true) }).ok c :=
  exec_of_serve rfl hwaits (by
    simp only [Nat.not_lt.mpr hport, hstepped, hchange, Bool.not_true, Bool.false_eq_true, if_false]
    rfl)

end

/-- Settles O23: a commit sets at most the pending change of its port (`exec_gateCommit_cases`), which is neither a list nor a gate. -/
theorem commitLeavesOperList : Obligations.CommitLeavesOperList := by
  unfold Obligations.CommitLeavesOperList
  refine fun s tag c port htidy => ⟨fun ct sig hwaits => ?_,
    fun ct hwaits hport => exec_gateCancelCommit_late hport hwaits⟩
  obtain ⟨t, r, hexec, rfl | rfl⟩ := exec_gateCommit_cases (port := port) ct sig hwaits
  · exact ⟨_, hexec, fun p => by simp only [answer_gate, and_self]⟩
  · refine ⟨_, hexec, fun p => ?_⟩
    rw [answer_gate, gate_modGate htidy]
    split
    · next h => exact h ▸ ⟨rfl, rfl, rfl⟩
    · exact ⟨rfl, rfl, rfl⟩

/-- Settles O22: each clause is the lemma above of its row. -/
theorem gateCommandsTakeEffect : Obligations.GateCommandsTakeEffect := by
  unfold Obligations.GateCommandsTakeEffect
  exact fun s tag c port hport => ⟨fun cfg => exec_gateSetConfig hport, fun start n lct lt es => exec_gateSetAdmin hport,
    fun ct sig => exec_gateCommit hport, fun ct => exec_gateCancelCommit hport, fun ct => exec_gateDisable hport⟩

end Sys2Proof.Machine
end

section
/-! PROOFS. The STREAM commands, and the timers of streams and cover sets (10_stream_redundancy R287, R292, R294, R295, R299-R303):
a lemma for each row. -/
namespace Sys2Proof.Machine

section
variable {s : State} {tag : Tag} {c : InFlight} {first count set w0 w1 n : Nat}

/-! STREAM_SET (R287). -/

/-- Entries of which none offends have no first one that does. -/
theorem findSome?_entryOffends_eq_none {entries : List (List Word)} (h : ∀ e ∈ entries, s.entryOffends e = none) :
    (entries.zipIdx.findSome? fun p => (s.entryOffends p.1).map fun o => detailOf p.2 o) = none :=
  List.findSome?_eq_none_iff.mpr fun p hp => by rw [h p.1 (List.fst_mem_of_mem_zipIdx hp), Option.map_none]

theorem exec_streamSet {entries : List (List Word)} (hwaits : Waits s tag 0x0902 c) (hcontrol : s.inControl = true)
    (hpos : 1 ≤ entries.length) (hlen : entries.length ≤ 16) (hend : first + entries.length ≤ 1024)
    (hentries : ∀ e ∈ entries, s.entryOffends e = none) :
    exec (.streamSet tag first entries) s =
      (entries.zipIdx.foldl (fun (t : State) p => t.modStream (first + p.2) (Stream.replaced s.up p.1)) s).ok c :=
  exec_of_serve rfl hwaits (by
    simp only [hcontrol, Nat.ne_of_gt hpos, Nat.not_lt.mpr hlen, Nat.not_lt.mpr hend, findSome?_entryOffends_eq_none hentries,
      decide_false, Bool.or_self, Bool.not_true, Bool.false_eq_true, if_false, Reply.done])

/-! STREAM_GET_STATS (R302), STREAM_RESET_RECOVERY (R294) and STREAM_CLEAR_LATENT (R295). -/

theorem exec_streamGetStats (hwaits : Waits s tag 0x0904 c) (hpos : 1 ≤ count) (hcount : count ≤ 16) (hend : first + count ≤ 1024) :
    exec (.streamGetStats tag first count) s =
      .next ({ (List.range count).foldl (fun (t : State) i => t.modStream (first + i) fun x => { x with ctr := [] }) s with
          streams.noEntry := 0 }.answer c
        (Reply.ok ((mapRead Stream.dflt s.streams.table first count).flatMap streamCounters ++ [(s.streams.noEntry : Int), s.now]))) :=
  exec_of_serve rfl hwaits (by
    simp only [Nat.ne_of_gt hpos, Nat.not_lt.mpr hcount, Nat.not_lt.mpr hend, decide_false, Bool.or_self, Bool.false_eq_true,
      if_false])

theorem exec_streamResetRecovery (hwaits : Waits s tag 0x0905 c) (hend : first + count ≤ 1024) :
    exec (.streamResetRecovery tag first count) s =
      ((List.range count).foldl (fun (t : State) i => t.modStream (first + i) Stream.takeAgain) s).ok c :=
  exec_of_serve rfl hwaits (if_neg (Nat.not_lt.mpr hend))

theorem exec_streamClearLatent (hwaits : Waits s tag 0x0908 c) (hend : first + count ≤ 1024) :
    exec (.streamClearLatent tag first count) s =
      ((List.range count).foldl (fun (t : State) i => t.modStream (first + i) fun x => { x with latent := false }) s).ok c :=
  exec_of_serve rfl hwaits (if_neg (Nat.not_lt.mpr hend))

/-! STREAM_SET_COVER (R299). -/

/-- A set that is off, and that no armed sheaf names, takes a window that has not ended: the state of the set follows from whether
the window has begun, and members of a set that opens have a latent error period that is not evaluated (R300, R301; opened at once,
log 22). -/
theorem exec_streamSetCover_enable (hwaits : Waits s tag 0x0906 c) (hcontrol : s.inControl = true) (hset : 1 ≤ set)
    (hset' : set ≤ 255) (hunused : s.coverUsed set = false) (hoff : (mapGet Cover.dflt s.streams.covers set).enable = false)
    (hwindow : w0 < w1) (hlen : w1 ≤ w0 + 100000000) (hahead : s.arrivalOf tag < w1) :
    exec (.streamSetCover tag set true w0 w1) s =
      (if s.now < w0 then s.putCover set { enable := true, wStart := w0, wEnd := w1, state := .pending }
      else (s.putCover set { enable := true, wStart := w0, wEnd := w1, state := .opened }).spoil set).ok c := by
  have hlen' : ¬ 100000000 < w1 - w0 := by omega
  refine exec_of_serve rfl hwaits ?_
  simp only [hcontrol, hunused, hoff, hlen', Nat.ne_of_gt hset, Nat.not_lt.mpr hset', Nat.not_le.mpr hwindow,
    Nat.not_le.mpr hahead, decide_false, Bool.or_self, Bool.and_false, Bool.false_and, Bool.not_true, Bool.false_eq_true, if_false,
    if_true]
  split <;> rfl

theorem exec_streamSetCover_disable (hwaits : Waits s tag 0x0906 c) (hcontrol : s.inControl = true) (hset : 1 ≤ set)
    (hset' : set ≤ 255) (hunused : s.coverUsed set = false) (hon : (mapGet Cover.dflt s.streams.covers set).enable = true) :
    exec (.streamSetCover tag set false w0 w1) s =
      (s.putCover set { mapGet Cover.dflt s.streams.covers set with enable := false, state := .off }).ok c :=
  exec_of_serve rfl hwaits (by
    simp only [hcontrol, hunused, hon, Nat.ne_of_gt hset, Nat.not_lt.mpr hset', decide_false, Bool.or_self, Bool.false_and,
      Bool.not_true, Bool.false_eq_true, if_false]
    rfl)

/-! The timers of a stream (R292, R295). -/

/-- The reset timer of a stream is due from the tick after its expiry (R294, log 22). -/
theorem recoveryDue_of_expired {x : Stream} {t : Nat} (htimer : x.timer = some t) (hvalid : x.valid = true) (hrcvy : x.rcvyEn = true)
    (hexpired : t + x.resetMs * 10000000 + 64 ≤ s.up) (hclosed : s.coverOpen x s.now = false) : s.recoveryDue x = true := by
  have hrun : x.timer.any (fun t => decide (t + x.resetMs * 10000000 + 64 ≤ s.up)) = true := by
    rw [htimer, Option.any_some]
    exact decide_eq_true hexpired
  simp only [State.recoveryDue, hvalid, hrcvy, hrun, hclosed, Bool.not_false, Bool.and_self]

theorem exec_recoveryResetTimer (hdue : s.recoveryDue (s.stream n) = true) :
    exec (.recoveryResetTimer n) s = .next (s.modStream n fun x => x.takeAgain.count 6 1) :=
  congrArg Host.Outcome.next (if_pos hdue)

/-- A latent error period that ends, that is evaluated and in which too few duplicates were discarded, sets LATENT (R295). -/
theorem exec_latentPeriod (hvalid : (s.stream n).valid = true) (hpaths : (s.stream n).ledPaths ≠ 0)
    (hend : (s.stream n).ledStart + (s.stream n).ledPeriod * 10000000 ≤ s.up) (hspoilt : (s.stream n).ledSpoilt = false)
    (hcover : s.coverOverlaps (s.stream n) = false)
    (hfew : (s.stream n).ledDiscarded + (s.stream n).ledDiff < (s.stream n).ledPassed * ((s.stream n).ledPaths - 1)) :
    exec (.latentPeriod n) s = .next ((((s.modStream n fun x =>
        { x with ledStart := s.up, ledPassed := 0, ledDiscarded := 0, ledSpoilt := false }).modStream n fun x =>
        { x with latent := true }).countStream n 7 1).raise 164) :=
  congrArg Host.Outcome.next (by
    simp only [hvalid, hpaths, hspoilt, hcover, Nat.not_lt.mpr hend, Nat.not_le.mpr hfew, decide_false, Bool.or_self, Bool.not_true,
      Bool.false_eq_true, if_false])

/-! The window of a cover set (R301). -/

theorem exec_coverWindowStart {k : Cover} (hk : mapGet Cover.dflt s.streams.covers n = k) (hon : k.enable = true)
    (hpending : k.state = .pending) (hstart : k.wStart ≤ s.now) :
    exec (.coverWindowStart n) s = .next ((s.putCover n { k with state := .opened }).spoil n) := by
  subst hk
  exact congrArg Host.Outcome.next (if_pos (by simp only [hon, hpending, hstart, decide_true, Bool.and_self]))

/-- A window that ends closes its set, whether or not it was seen to open. -/
theorem exec_coverWindowEnd {k : Cover} (hk : mapGet Cover.dflt s.streams.covers n = k) (hon : k.enable = true)
    (hstate : k.state = .opened ∨ k.state = .pending) (hend : k.wEnd ≤ s.now) :
    exec (.coverWindowEnd n) s = .next ((s.putCover n { k with state := .closed, hits := k.lost.length }).spoil n) := by
  subst hk
  refine congrArg Host.Outcome.next (if_pos ?_)
  simp only [Bool.and_eq_true, Bool.or_eq_true, decide_eq_true_eq]
  exact ⟨⟨hon, hstate.symm⟩, hend⟩

end

/-- Settles O25: each clause is the lemma above of its row. -/
theorem streamCommandsAndTimers : Obligations.StreamCommandsAndTimers := by
  unfold Obligations.StreamCommandsAndTimers
  refine ⟨fun s tag c first count => ⟨fun entries => exec_streamSet, exec_streamGetStats, exec_streamResetRecovery,
      fun set w0 w1 hwaits hcontrol hset hset' hunused => ⟨fun hoff hwindow hlen hahead => ?_,
        exec_streamSetCover_disable hwaits hcontrol hset hset' hunused⟩, exec_streamClearLatent⟩,
    fun s n => ⟨fun t htimer hvalid hrcvy hexpired hclosed =>
        exec_recoveryResetTimer (recoveryDue_of_expired htimer hvalid hrcvy hexpired hclosed),
      exec_latentPeriod, fun k => exec_coverWindowStart, fun k => exec_coverWindowEnd⟩⟩
  have henable := exec_streamSetCover_enable hwaits hcontrol hset hset' hunused hoff hwindow hlen hahead
  exact ⟨fun hbefore => by rw [henable, if_pos hbefore], fun hbegun => by rw [henable, if_neg (Nat.not_lt.mpr hbegun)]⟩

end Sys2Proof.Machine
end

section
/-! PROOFS. The instructions of a Thresher thread (11_thresher R305, R309-R319, R329-R331): what a row of a thread does when it
runs, what the end of a pass does to the packets in flight, and a lemma for each row that is more than its operation. -/
namespace Sys2Proof.Machine

/-- What is written at a key, and is not the default, reads back in every map. -/
theorem mapGet_mapSet_same {α : Type} [DecidableEq α] {d v : α} (hv : v ≠ d) (m : SMap α) (k : Nat) :
    mapGet d (mapSet d m k v) k = v := by
  induction m with
  | nil => simp [mapSet, mapGet, hv]
  | cons p m ih =>
    obtain ⟨a, x⟩ := p
    unfold mapSet
    split
    · simp [mapGet]
    · split <;> simp [mapGet, *]

/-! Packets in flight. -/

section
variable {s u : State} {port id : Nat} {p : Pkt} {f : Pkt → Pkt}

/-- A change of one packet that leaves its number is what looking packets up finds changed. -/
theorem pkt?_modPkt (h : s.tidy) (hid : ∀ x, (f x).id = x.id) (port' id' : Nat) :
    (s.modPkt port id f).pkt? port' id' =
      (s.pkt? port' id').map fun x => if port' = port ∧ x.id = id then f x else x := by
  simp only [State.pkt?, State.modPkt, mapGet_mapMod _ _ h.flight]
  split
  · next hport =>
    subst hport
    have hsame : (fun x : Pkt => decide (x.id = id')) ∘ (fun x => if x.id = id then f x else x) = fun x => decide (x.id = id') := by
      funext x
      dsimp only [Function.comp_apply]
      split <;> simp only [hid]
    rw [List.find?_map, hsame]
    simp only [true_and]
  · next hport => simp only [hport, false_and, if_false, Option.map_id']

theorem pkt?_modPkt_same (h : s.tidy) (hid : ∀ x, (f x).id = x.id) (hp : s.pkt? port id = some p) :
    (s.modPkt port id f).pkt? port id = some (f p) := by
  have hpid : p.id = id := by simpa using List.find?_some hp
  rw [pkt?_modPkt h hid, hp, Option.map_some, if_pos ⟨rfl, hpid⟩]

/-- Every packet in flight remains, with its octets and its time stamp. -/
def State.KeepsPackets (s u : State) : Prop :=
  ∀ port id p, s.pkt? port id = some p → ∃ q, u.pkt? port id = some q ∧ q.bytes = p.bytes ∧ q.ts = p.ts

theorem keepsPackets_of_flight (h : u.rules.flight = s.rules.flight) : s.KeepsPackets u :=
  fun port id p hp => ⟨p, by simpa only [State.pkt?, h] using hp, rfl, rfl⟩

theorem modPkt_keepsPackets (h : s.tidy) (port id : Nat) (hf : ∀ x, (f x).id = x.id ∧ (f x).bytes = x.bytes ∧ (f x).ts = x.ts) :
    s.KeepsPackets (s.modPkt port id f) := by
  intro port' id' p hp
  rw [pkt?_modPkt h fun x => (hf x).1, hp, Option.map_some]
  refine ⟨_, rfl, ?_⟩
  split
  · exact (hf p).2
  · exact ⟨rfl, rfl⟩

end

/-! The end of a pass (R329-R331). -/

/-- `t` is `s` but for the counters of R336. -/
def CtrFrame (s t : State) : Prop := ∃ ctr, t = { s with rules.ctr := ctr }

section
variable {s t : State}

theorem countRule_ctrFrame (i : Nat) (h : CtrFrame s t) : CtrFrame s (t.countRule i) := by
  obtain ⟨_, rfl⟩ := h
  exact ⟨_, rfl⟩

theorem countRule_if_ctrFrame {b : Prop} [Decidable b] (i : Nat) (h : CtrFrame s t) : CtrFrame s (if b then t.countRule i else t) := by
  split
  · exact countRule_ctrFrame i h
  · exact h

theorem countFound_ctrFrame (x : RuleSource) (s : State) : CtrFrame s (s.countFound x) := by
  cases x <;> exact ⟨_, rfl⟩

theorem modPkt_ctrFrame (port id : Nat) (f : Pkt → Pkt) (h : CtrFrame s t) :
    ∃ ctr, t.modPkt port id f = ({ s with rules.ctr := ctr } : State).modPkt port id f := by
  obtain ⟨ctr, rfl⟩ := h
  exact ⟨ctr, rfl⟩

end

/-- A packet whose last pass has ended is classified, and all else that changes is counters. A pass that ends as DEPTH_EXCEEDED
sets bit 1 of FLAGS. -/
theorem classify_eq (t : Thread) (e : PassEnd) (s : State) :
    ∃ v : Verdict, (∃ ctr, s.classify t e =
        ({ s with rules.ctr := ctr } : State).modPkt t.port t.pkt fun p => { p with stage := .classified, verdict := some v }) ∧
      (e = .depth → v.flags = t.flags ||| 0x02#8) := by
  unfold State.classify
  dsimp only
  refine ⟨_, modPkt_ctrFrame _ _ _ (countRule_if_ctrFrame _ (countRule_if_ctrFrame _ (countRule_if_ctrFrame _ ?_))), ?_⟩
  · cases e with
    | fault => exact ⟨_, rfl⟩
    | done | recirc => exact countFound_ctrFrame _ _
    | frag | depth | len => exact countRule_ctrFrame _ (countFound_ctrFrame _ _)
  · rintro rfl
    rfl

section
variable {s : State}

/-- A packet whose pass ends as DEPTH_EXCEEDED is classified, with bit 1 of FLAGS set (R329). -/
theorem classify_depth_pkt? {t : Thread} {p : Pkt} (h : s.tidy) (hp : s.pkt? t.port t.pkt = some p) :
    ∃ v : Verdict, v.flags.getLsbD 1 = true ∧
      (s.classify t .depth).pkt? t.port t.pkt = some { p with stage := .classified, verdict := some v } := by
  obtain ⟨v, ⟨ctr, hclassify⟩, hflags⟩ := classify_eq t .depth s
  refine ⟨v, ?_, ?_⟩
  · rw [hflags rfl, BitVec.getLsbD_or, Bool.or_eq_true]
    exact .inr rfl
  · rw [hclassify]
    exact pkt?_modPkt_same (s := { s with rules.ctr := ctr }) h (fun _ => rfl) hp

theorem classify_keepsPackets (h : s.tidy) (t : Thread) (e : PassEnd) : s.KeepsPackets (s.classify t e) := by
  obtain ⟨v, ⟨ctr, hclassify⟩, -⟩ := classify_eq t e s
  rw [hclassify]
  exact modPkt_keepsPackets (s := { s with rules.ctr := ctr }) h _ _ fun _ => ⟨rfl, rfl, rfl⟩

theorem endPass_keepsPackets (h : s.tidy) (n : Nat) (t : Thread) (e : PassEnd) : s.KeepsPackets (s.endPass n t e) := by
  cases e with
  | recirc target =>
    exact modPkt_keepsPackets (s := { s with
      rules.threads := mapSet none s.rules.threads n none, rules.recirc := s.rules.recirc ++ [_] }) h _ _ fun _ => ⟨rfl, rfl, rfl⟩
  | done | frag | depth | len | fault =>
    exact classify_keepsPackets (s := { s with rules.threads := mapSet none s.rules.threads n none }) h t _

end

/-! What a row of a thread does (R309, R310). -/

section
variable {s : State} {n op : Nat} {t t' : Thread} {w : Word} {bs : List Byte} {i : Instr}
  {f : List Byte → Word → Thread → Thread × Option PassEnd}

/-- A row of a thread does nothing, ends the pass or changes the thread alone. -/
theorem runThread_cases (n op : Nat) (f : List Byte → Word → Thread → Thread × Option PassEnd) (s : State) :
    s.runThread n op f = s ∨ (∃ t e, s.runThread n op f = s.endPass n t e) ∨
      ∃ t, s.runThread n op f = { s with rules.threads := mapSet none s.rules.threads n (some t) } := by
  unfold State.runThread
  dsimp only
  split
  · exact .inl rfl
  split
  · exact .inl rfl
  split
  · exact .inl rfl
  split
  · exact .inr (.inl ⟨_, _, rfl⟩)
  split
  · exact .inr (.inl ⟨_, _, rfl⟩)
  · exact .inr (.inr ⟨_, rfl⟩)

theorem runThread_keepsPackets (h : s.tidy) (n op : Nat) (f : List Byte → Word → Thread → Thread × Option PassEnd) :
    s.KeepsPackets (s.runThread n op f) := by
  obtain hrun | ⟨t, e, hrun⟩ | ⟨t, hrun⟩ := runThread_cases n op f s <;> rw [hrun]
  · exact keepsPackets_of_flight rfl
  · exact endPass_keepsPackets h n t e
  · exact keepsPackets_of_flight rfl

/-- The thread goes on, and all else is as before. -/
theorem exec_of_runThread (hrow : exec i s = .next (s.runThread n op f)) (hruns : Runs s n op t w bs)
    (hf : f bs w t = (t', none)) : exec i s = s.threadIs n t' := by
  rw [hrow, runThread_runs hruns, hf]
  rfl

/-- The pass ends. -/
theorem exec_of_runThread_end {e : PassEnd} (hrow : exec i s = .next (s.runThread n op f)) (hruns : Runs s n op t w bs)
    (hf : f bs w t = (t', some e)) : exec i s = .next (s.endPass n t' e) := by
  rw [hrow, runThread_runs hruns, hf]

/-- A thread that has spent its budget executes nothing: its pass ends (R309). -/
theorem exec_of_runThread_spent {p : Pkt} (hrow : exec i s = .next (s.runThread n op f))
    (hthread : mapGet none s.rules.threads n = some t) (hwait : t.pmWait = none)
    (hop : opOf (mapGet 0 (s.rules.store t.gen).program t.pc) = op) (hp : s.pkt? t.port t.pkt = some p)
    (hspent : 512 ≤ t.executed) : exec i s = .next (s.endPass n t .depth) := by
  rw [hrow, ← hop, runThread_spent hthread hwait hspent hp]

end

/-! The rows that are more than the operation of their instruction. -/

section
variable {s : State} {n : Nat} {t t' : Thread} {w : Word} {bs : List Byte}

/-! CMP, LDB, LDH and KLD (R311). -/

theorem exec_thCmp (h : Runs s n 0x08 t w bs) : exec (.thCmp n) s = s.threadIs n
    { t with z := decide (t.reg (fld w 25 23) = t.operand w), lt := decide ((t.reg (fld w 25 23)).toNat < (t.operand w).toNat)
             executed := t.executed + 1, pc := (t.pc + 1) % 4096 } :=
  exec_of_runThread rfl h rfl

theorem ofNat_ofBe_byte (b : Byte) : BitVec.ofNat 16 (ofBe [b]) = b.setWidth 16 := by
  simp [ofBe, BitVec.ofNat_toNat]

theorem ofNat_ofBe_halfword (a b : Byte) : BitVec.ofNat 16 (ofBe [a, b]) = a ++ b := by
  apply BitVec.eq_of_toNat_eq
  rw [BitVec.toNat_append, ← Nat.shiftLeft_add_eq_or_of_lt b.isLt]
  simp only [ofBe, List.foldl, BitVec.toNat_ofNat, Nat.shiftLeft_eq]
  omega

theorem load_inside {k : Nat} (hwindow : t.cur + fld w 15 8 + k ≤ 256) :
    t.load k bs w = ((t.short bs (t.cur + fld w 15 8) k).wrote w
      (BitVec.ofNat 16 (ofBe (t.read bs (t.cur + fld w 15 8) k))), none) :=
  if_neg (Nat.not_lt.mpr hwindow)

theorem exec_thLdb (h : Runs s n 0x10 t w bs) (hwindow : t.cur + fld w 15 8 + 1 ≤ 256) : exec (.thLdb n) s = s.threadIs n
    ((t.short bs (t.cur + fld w 15 8) 1).wrote w ((byteAt bs (t.wbase + (t.cur + fld w 15 8))).setWidth 16)) :=
  exec_of_runThread rfl h ((load_inside hwindow).trans (by rw [← ofNat_ofBe_byte]; rfl))

theorem exec_thLdb_outside (h : Runs s n 0x10 t w bs) (hwindow : 256 < t.cur + fld w 15 8 + 1) :
    exec (.thLdb n) s = .next (s.endPass n t .depth) :=
  exec_of_runThread_end rfl h (if_pos hwindow)

theorem exec_thLdh (h : Runs s n 0x11 t w bs) (hwindow : t.cur + fld w 15 8 + 2 ≤ 256) : exec (.thLdh n) s = s.threadIs n
    ((t.short bs (t.cur + fld w 15 8) 2).wrote w
      (byteAt bs (t.wbase + (t.cur + fld w 15 8)) ++ byteAt bs (t.wbase + (t.cur + fld w 15 8) + 1))) :=
  exec_of_runThread rfl h ((load_inside hwindow).trans (by rw [← ofNat_ofBe_halfword]; rfl))

theorem exec_thKld (h : Runs s n 0x18 t w bs) (hwindow : t.cur + fld w 15 8 + (fld w 19 16 + 1) ≤ 256) :
    exec (.thKld n) s = s.threadIs n (((t.short bs (t.cur + fld w 15 8) (fld w 19 16 + 1)).setKey (fld w 25 20)
      (t.read bs (t.cur + fld w 15 8) (fld w 19 16 + 1))).next) :=
  exec_of_runThread rfl h (if_neg (Nat.not_lt.mpr hwindow))

/-! BR (R312), HDR (R314) and MARK (R316). -/

theorem exec_thBr (h : Runs s n 0x20 t w bs) : exec (.thBr n) s = s.threadIs n
    { t with executed := t.executed + 1, pc := if t.holds (fld w 25 23) then fld w 11 0 else (t.pc + 1) % 4096 } :=
  exec_of_runThread rfl h (by
    unfold Thread.br
    split <;> rfl)

/-- An HDR that does not end the pass closes one header, at CUR. -/
theorem hdr_closes (h : t.hdr bs w = (t', none)) :
    t'.headers = t.headers + 1 ∧ t'.stack = (fld w 25 20, t.wbase + t.cur) :: t.stack := by
  unfold Thread.hdr at h
  extract_lets type byte x l t1 t2 at h
  split at h
  · cases h
  split at h
  · cases h
  split at h
  · cases h
  · obtain rfl : _ = t' := congrArg Prod.fst h
    exact ⟨rfl, rfl⟩

theorem exec_thMark_l2 (h : Runs s n 0x31 t w bs) (hl2 : bit w 0 = false) : exec (.thMark n) s = s.threadIs n
    { t with executed := t.executed + 1, pc := (t.pc + 1) % 4096, l2 := some ⟨t.key, t.profile⟩ } :=
  exec_of_runThread rfl h (by
    simp only [Thread.mark, hl2, Bool.false_eq_true, if_false]
    rfl)

theorem exec_thMark_outer (h : Runs s n 0x31 t w bs) (houter : bit w 0 = true) : exec (.thMark n) s = s.threadIs n
    { t with executed := t.executed + 1, pc := (t.pc + 1) % 4096, outer := some ⟨t.key, t.profile⟩ } :=
  exec_of_runThread rfl h (by
    simp only [Thread.mark, houter, if_true]
    rfl)

/-! PM and its result (R317-R319). -/

/-- The row of PM runs its instruction, and counts the one that makes its thread wait. -/
theorem exec_thPm_eq (n : Nat) (s : State) : exec (.thPm n) s = .next (
    if !s.scanning n && (s.runThread n 0x32 fun _ w t => t.pm w).scanning n
    then (s.runThread n 0x32 fun _ w t => t.pm w).countRule 10 else s.runThread n 0x32 fun _ w t => t.pm w) := rfl

/-- A thread that waits for the matcher is scanning. -/
theorem scanning_put (s : State) (n : Nat) (t : Thread) :
    ({ s with rules.threads := mapSet none s.rules.threads n (some t) } : State).scanning n = t.pmWait.isSome := by
  simp only [State.scanning, mapGet_mapSet_same (Option.some_ne_none t)]

/-- A PM in the window, the first of its packet, makes the thread wait, and counts. -/
theorem exec_thPm (h : Runs s n 0x32 t w bs) (hcur : t.cur < 256) (hfirst : t.pmDone = false) : exec (.thPm n) s =
    .next ({ s with rules.threads := mapSet none s.rules.threads n (some { t with
      executed := t.executed + 1, pc := (t.pc + 1) % 4096, pmDone := true
      pmWait := some (fld w 25 23, fld w 15 0) }) }.countRule 10) := by
  obtain ⟨hthread, hwait, -⟩ := id h
  have hidle : s.scanning n = false := by simp only [State.scanning, hthread, hwait, Option.isSome_none]
  have hrun : s.runThread n 0x32 (fun _ w t => t.pm w) = { s with rules.threads := mapSet none s.rules.threads n (some { t with
      executed := t.executed + 1, pc := (t.pc + 1) % 4096, pmDone := true, pmWait := some (fld w 25 23, fld w 15 0) }) } := by
    rw [runThread_runs h]
    simp only [Thread.pm, Nat.not_le.mpr hcur, hfirst, Bool.false_eq_true, if_false]
    rfl
  have hwaits : (s.runThread n 0x32 fun _ w t => t.pm w).scanning n = true := by
    rw [hrun]
    exact scanning_put s n _
  rw [exec_thPm_eq, if_pos (by rw [hidle, hwaits]; rfl), hrun]

theorem exec_pmResult {d g : Nat} {p : Pkt} (hthread : mapGet none s.rules.threads n = some t) (hwait : t.pmWait = some (d, g))
    (hp : s.pkt? t.port t.pkt = some p) :
    ∃ r, r = (s.rules.store t.gen).search g (noFcs p.bytes) (t.wbase + t.cur) ∧
      exec (.pmResult n) s = s.threadIs n { t.setReg d (BitVec.ofNat 16 r) with pmWait := none, pmHit := decide (r ≠ 0xFFFF) } := by
  refine ⟨_, rfl, congrArg Host.Outcome.next ?_⟩
  simp only [hthread, hwait, hp]

/-! RECIRC (R331). -/

theorem exec_thRecirc_first (h : Runs s n 0x33 t w bs) (hpass : t.pass2 = false) :
    exec (.thRecirc n) s = .next (s.endPass n t.next (.recirc (fld w 11 0))) :=
  exec_of_runThread_end rfl h (if_neg (by simp [hpass]))

theorem exec_thRecirc_second (h : Runs s n 0x33 t w bs) (hpass : t.pass2 = true) :
    exec (.thRecirc n) s = .next (s.endPass n t .fault) :=
  exec_of_runThread_end rfl h (if_pos hpass)

end

/-- Settles O26: each clause is the operation of its instruction (`exec_of_runThread`) or the lemma above of its row. -/
theorem thresherInstructions : Obligations.ThresherInstructions := by
  unfold Obligations.ThresherInstructions
  exact ⟨fun s n t w bs => ⟨fun h => exec_of_runThread rfl h rfl, fun h => exec_of_runThread rfl h rfl,
      fun h => exec_of_runThread rfl h rfl, fun h => exec_of_runThread rfl h rfl, fun h => exec_of_runThread rfl h rfl,
      fun h => exec_of_runThread rfl h rfl, fun h => exec_of_runThread rfl h rfl, exec_thCmp⟩,
    fun s n t w bs => ⟨exec_thLdb, exec_thLdb_outside, exec_thLdh, fun h => exec_of_runThread rfl h rfl, exec_thKld,
      fun h => exec_of_runThread rfl h rfl, exec_thBr, fun t' h hhdr => ⟨exec_of_runThread rfl h hhdr, hdr_closes hhdr⟩,
      fun h => exec_of_runThread rfl h rfl, exec_thMark_l2, exec_thMark_outer, exec_thPm, exec_thRecirc_first,
      exec_thRecirc_second, fun h => exec_of_runThread_end rfl h rfl, fun d g p => exec_pmResult⟩⟩

/-- Settles O27: the instruction is not executed (`exec_of_runThread_spent`), and the end of the pass changes its packet's stage and
verdict alone (`classify_eq`). -/
theorem budgetEndsThePass : Obligations.BudgetEndsThePass := by
  unfold Obligations.BudgetEndsThePass
  intro s n t w p htidy hthread hwait hw hp hspent hop
  refine ⟨exec_of_runThread_spent rfl hthread hwait (hw ▸ hop) hp hspent, ?_⟩
  obtain ⟨v, hflags, hpkt⟩ := classify_depth_pkt? (s := { s with rules.threads := mapSet none s.rules.threads n none }) htidy hp
  exact ⟨_, v, hpkt, rfl, rfl, hflags, rfl⟩

section
variable {s : State} {n : Nat}

theorem exec_thPm_keepsPackets (h : s.tidy) : ∃ u, exec (.thPm n) s = .next u ∧ s.KeepsPackets u := by
  refine ⟨_, exec_thPm_eq n s, ?_⟩
  split
  · exact runThread_keepsPackets h n _ _
  · exact runThread_keepsPackets h n _ _

/-- The result of the matcher changes no more than its thread. -/
theorem exec_pmResult_keepsPackets : ∃ u, exec (.pmResult n) s = .next u ∧ s.KeepsPackets u := by
  refine ⟨_, rfl, keepsPackets_of_flight ?_⟩
  split
  · rfl
  · split <;> rfl

end

/-- Settles O28: every row of a thread runs its instruction (`runThread_keepsPackets`) and may count it, or changes its thread alone. -/
theorem threadNeverAltersFrame : Obligations.ThreadNeverAltersFrame := by
  unfold Obligations.ThreadNeverAltersFrame
  intro s u n port id p i hi htidy hexec hp
  have hrun (op : Nat) (f : List Byte → Word → Thread → Thread × Option PassEnd) :
      ∃ v, (.next (s.runThread n op f) : Host.Outcome State Fault Refusal) = .next v ∧ s.KeepsPackets v :=
    ⟨_, rfl, runThread_keepsPackets htidy n op f⟩
  obtain ⟨v, hv, hkeeps⟩ : ∃ v, exec i s = .next v ∧ s.KeepsPackets v := by
    clear hexec
    revert i
    simp only [List.forall_mem_cons]
    exact ⟨hrun _ _, hrun _ _, hrun _ _, hrun _ _, hrun _ _, hrun _ _, hrun _ _, hrun _ _, hrun _ _, hrun _ _, hrun _ _, hrun _ _,
      hrun _ _, hrun _ _, hrun _ _, hrun _ _, hrun _ _, hrun _ _, exec_thPm_keepsPackets htidy, hrun _ _, exec_pmResult_keepsPackets,
      fun _ h => nomatch h⟩
  cases hv.symm.trans hexec
  exact hkeeps port id p hp

end Sys2Proof.Machine
end

section
/-! PROOFS. Dispatch, release and swap in the Thresher (11_thresher R306, R308, R320, R326, R327, R331-R336): a lemma for each row. -/
namespace Sys2Proof.Machine

section
variable {s u : State} {n p port : Nat} {x : Pkt} {v : Verdict}

/-! Dispatch (R306, R331, R332). -/

/-- A free thread takes the oldest recirculated packet before any new one. -/
theorem exec_thresherDispatch_recirc {t : Thread} {rest : List Thread} (hdue : s.swapDue = u) (hn : n < 32)
    (hfree : mapGet none u.rules.threads n = none) (hrecirc : u.rules.recirc = t :: rest) :
    exec (.thresherDispatch n) s = .next ({ u with
      rules.recirc := rest, rules.threads := mapSet none u.rules.threads n (some t) }.modPkt t.port t.pkt fun p =>
        { p with stage := .thread }) := by
  subst hdue
  refine congrArg Host.Outcome.next ?_
  simp only [hfree, hrecirc, Nat.not_le.mpr hn, decide_false, Option.isSome_none, Bool.or_self, Bool.false_eq_true, if_false]

theorem exec_thresherDispatch_new (hdue : s.swapDue = u) (hn : n < 32) (hfree : mapGet none u.rules.threads n = none)
    (hrecirc : u.rules.recirc = []) (hnext : u.nextPort = some (p, x)) :
    exec (.thresherDispatch n) s = .next (({ u with
      rules.rr := p
      rules.threads := mapSet none u.rules.threads n (some {
        port := p, pkt := x.id, gen := u.rules.active1
        profile := mapGet 0 (u.rules.store u.rules.active1).profileDef p
        pc := mapGet 0 (u.rules.store u.rules.active1).entry p }) }.modPkt p x.id fun y =>
          { y with stage := .thread, gen := u.rules.active1 }).countRule 0) := by
  subst hdue
  refine congrArg Host.Outcome.next ?_
  simp only [hfree, hrecirc, hnext, Nat.not_le.mpr hn, decide_false, Option.isSome_none, Bool.or_self, Bool.false_eq_true, if_false]

/-! Release (R306, R326, R327). -/

@[simp] theorem countAction_prt (a : List Word) (octets : Nat) (s : State) (p : Nat) : (s.countAction a octets).prt p = s.prt p := by
  unfold State.countAction
  dsimp only
  split <;> rfl

/-- The packet at the head of its port, whose action makes no copy, leaves flight, is counted, and is disposed of. -/
theorem exec_thresherRelease {rest : List Pkt} (hhead : mapGet [] s.rules.flight port = x :: rest) (hverdict : x.verdict = some v)
    (hcopy : bit (v.action.getD 0 0) 7 = false) (hmirror : fld (v.action.getD 0 0) 6 4 = 0)
    (hdisp : fld (v.action.getD 0 0) 31 29 ≠ 3) :
    exec (.thresherRelease port) s = .next (((({ s with rules.flight := mapSet [] s.rules.flight port rest } : State).countAction
      v.action x.bytes.length).dispose port x v).pauseChecks) := by
  refine congrArg Host.Outcome.next ?_
  simp only [hhead, hverdict, hcopy, hmirror, hdisp, decide_false, Bool.and_false, Bool.false_and, Bool.false_eq_true, if_false,
    Nat.reduceLeDiff]

/-! Dispositions (R327): a frame whose action has DECAP clear is sent whole. -/

theorem dispose_drop (hsource : v.source ≠ .fault) (hdisp : fld (v.action.getD 0 0) 31 29 = 0) :
    s.dispose p x v = s.countRule 12 := by
  simp only [State.dispose, hsource, hdisp, if_false, Nat.reduceEqDiff]

theorem dispose_port (hsource : v.source ≠ .fault) (hwhole : bit (v.action.getD 0 0) 3 = false)
    (hdisp : fld (v.action.getD 0 0) 31 29 = 1) (hlen : x.bytes.length ≤ (s.prt (fld (v.action.getD 0 0) 28 27)).maxLen) :
    s.dispose p x v = s.enqueue (fld (v.action.getD 0 0) 28 27)
      { bytes := x.bytes, tc := fld (v.action.getD 0 0) 26 24, ingress := some p } := by
  simp only [State.dispose, State.forward, hsource, hwhole, hdisp, Nat.not_lt.mpr hlen, Bool.false_and, Bool.false_eq_true, if_false,
    if_true]

theorem dispose_host (hsource : v.source ≠ .fault) (hwhole : bit (v.action.getD 0 0) 3 = false)
    (hdisp : fld (v.action.getD 0 0) 31 29 = 2) :
    s.dispose p x v = s.toHost (fld (v.action.getD 0 0) 23 18)
      (s.rxCopy p x.bytes (some x.ts) 1 (fld (v.action.getD 2 0) 31 16) 0 0) := by
  simp only [State.dispose, hsource, hwhole, hdisp, Bool.false_and, Bool.false_eq_true, if_false, if_true, Nat.reduceEqDiff]

/-! Swaps (R333). -/

theorem exec_ruleSwapAt {t : Nat} (hswap : s.rules.swap = .scheduled t) (hdue : t ≤ s.now) :
    exec .ruleSwapAt s = .next { s with
      rules.active1 := !s.rules.active1, rules.genNum := s.rules.genNum + 1, rules.swappedAt := t, rules.swap := .draining t } :=
  congrArg Host.Outcome.next (by
    simp only [State.swapDue, hswap, hdue, if_true]
    rfl)

theorem exec_ruleSwapDrain {t : Nat} (hswap : s.rules.swap = .draining t) (hdrained : s.latched (!s.rules.active1) = false) :
    exec .ruleSwapDrain s = .next { s with rules.swap := .none } :=
  congrArg Host.Outcome.next (by
    simp only [State.swapDrained, hswap, hdrained, Bool.false_eq_true, if_false])

end

/-- Settles O29: each clause is the lemma above of its row; a release is `exec_thresherRelease` with the lemma of its disposition. -/
theorem thresherEvents : Obligations.ThresherEvents := by
  unfold Obligations.ThresherEvents
  refine fun s => ⟨fun u n t rest => exec_thresherDispatch_recirc, fun u n p x => exec_thresherDispatch_new,
    fun port x rest v w0 hhead hverdict hw0 hcopy hmirror hwhole hsource => ?_, fun t => exec_ruleSwapAt, fun t => exec_ruleSwapDrain⟩
  subst hw0
  have hrelease := exec_thresherRelease hhead hverdict hcopy hmirror
  refine ⟨_, rfl, fun hdrop => ?_, fun hport hlen => ?_, fun hhost => ?_⟩
  · rw [hrelease (by omega), dispose_drop hsource hdrop]
  · rw [hrelease (by omega), dispose_port hsource hwhole hport (by rwa [countAction_prt])]
  · rw [hrelease (by omega), dispose_host hsource hwhole hhost]

end Sys2Proof.Machine
end

section
/-! PROOFS. The RULE commands (11_thresher R317, R319, R323-R328, R333-R337): when a swap makes the commands BUSY, and a lemma for
each row. -/
namespace Sys2Proof.Machine

section
variable {s : State} {tag : Tag} {c : InFlight} {t : Nat}

/-! A swap that is scheduled (R334). -/

theorem swapBusy_scheduled (hswap : s.rules.swap = .scheduled t) : s.swapBusy = true := by
  simp [State.swapBusy, State.swapDrained, hswap]

theorem exec_ruleCancelSwap (hasks : Asks s tag 0x0A0A c) (hswap : s.rules.swap = .scheduled t) (hahead : s.now + 100000 < t) :
    exec (.ruleCancelSwap tag) s = ({ s with rules.swap := .none } : State).ok c :=
  exec_of_serve_asks rfl hasks (by
    simp only [hswap, hahead, if_true]
    rfl)

theorem exec_ruleCancelSwap_late (hasks : Asks s tag 0x0A0A c) (hswap : s.rules.swap = .scheduled t) (hlate : t ≤ s.now + 100000) :
    exec (.ruleCancelSwap tag) s = s.no c .tooLate :=
  exec_of_serve_asks rfl hasks (by
    simp only [hswap, Nat.not_lt.mpr hlate, if_false]
    rfl)

section
variable (hbusy : s.swapBusy = true)
include hbusy

theorem exec_ruleLoadProgram_busy (start : Nat) (words : List Word) (hwaits : Waits s tag 0x0A02 c) :
    exec (.ruleLoadProgram tag start words) s = s.no c .busy := exec_of_serve rfl hwaits (if_pos hbusy)

theorem exec_ruleAddHash_busy (recs : List (List Byte)) (hwaits : Waits s tag 0x0A04 c) :
    exec (.ruleAddHash tag recs) s = s.no c .busy := exec_of_serve rfl hwaits (if_pos hbusy)

theorem exec_ruleClone_busy (hasks : Asks s tag 0x0A08 c) :
    exec (.ruleClone tag) s = s.no c .busy := exec_of_serve_asks rfl hasks (if_pos hbusy)

theorem exec_ruleSwap_busy (swapAt : Nat) (hwaits : Waits s tag 0x0A09 c) :
    exec (.ruleSwap tag swapAt) s = s.no c .busy := exec_of_serve rfl hwaits (if_pos hbusy)

end

/-! The shadow generation is written (R317-R325, R334, R337). -/

/-- Records of which none offends have no first one that does. -/
theorem findSome?_offends_eq_none {α : Type} {offends : α → Option Nat} {recs : List α} (h : ∀ r ∈ recs, offends r = none) :
    (recs.zipIdx.findSome? fun p => (offends p.1).map fun o => detailOf p.2 o) = none :=
  List.findSome?_eq_none_iff.mpr fun p hp => by rw [h p.1 (List.fst_mem_of_mem_zipIdx hp), Option.map_none]

/-- Items that all pass a check have no first one that does not. -/
theorem find?_not_ok_eq_none {α : Type} {ok : α → Bool} {items : List α} (h : ∀ a ∈ items, ok a = true) :
    (items.zipIdx.find? fun p => !ok p.1) = none :=
  List.find?_eq_none.mpr fun p hp => by simp [h p.1 (List.fst_mem_of_mem_zipIdx hp)]

section
variable (hidle : s.swapBusy = false)
include hidle

theorem exec_ruleLoadProgram {start : Nat} {words : List Word} (hwaits : Waits s tag 0x0A02 c) (hlen : words.length ≤ 960)
    (hend : start + words.length ≤ 4096) (hwords : ∀ w ∈ words, wordOk w = true) :
    exec (.ruleLoadProgram tag start words) s =
      (s.modShadow fun g => { g with program := mapSetList 0 g.program start words }).ok c :=
  exec_of_serve rfl hwaits (by
    simp only [hidle, Nat.not_lt.mpr hlen, Nat.not_lt.mpr hend, find?_not_ok_eq_none hwords, decide_false, Bool.or_self,
      Bool.false_eq_true, if_false, Reply.done])

theorem exec_ruleSetProfile {cfg : ProfileCfg} (hwaits : Waits s tag 0x0A03 c) (hcfg : cfg.ok = true) :
    exec (.ruleSetProfile tag cfg) s = (s.modShadow (Generation.profiled cfg)).ok c :=
  exec_of_serve rfl hwaits (by simp only [hidle, hcfg, Bool.not_true, Bool.false_eq_true, if_false, Reply.done])

theorem exec_ruleAddHash {recs : List (List Byte)} {m : SMap (List Byte)} (hwaits : Waits s tag 0x0A04 c) (hpos : 1 ≤ recs.length)
    (hlen : recs.length ≤ 32) (hrecs : ∀ r ∈ recs, hashedOk r = true)
    (hroom : addAll 0 (s.rules.store (!s.rules.active1)).hashed recs = .inr m) :
    exec (.ruleAddHash tag recs) s = (s.modShadow fun g => { g with hashed := m }).ok c :=
  exec_of_serve rfl hwaits (by
    simp only [hidle, Nat.ne_of_gt hpos, Nat.not_lt.mpr hlen, find?_not_ok_eq_none hrecs, hroom, decide_false, Bool.or_self,
      Bool.false_eq_true, if_false, Reply.done])

theorem exec_ruleDelHash {keys : List (BitVec 6 × Byte × BitVec 320)} (hwaits : Waits s tag 0x0A05 c) (hpos : 1 ≤ keys.length)
    (hlen : keys.length ≤ 32) :
    exec (.ruleDelHash tag keys) s = (s.modShadow fun g =>
      { g with hashed := keys.foldl (fun m q => delHashed m (lookKey q.1 q.2.1 q.2.2)) g.hashed }).ok c :=
  exec_of_serve rfl hwaits (by
    simp only [hidle, Nat.ne_of_gt hpos, Nat.not_lt.mpr hlen, decide_false, Bool.or_self, Bool.false_eq_true, if_false, Reply.done])

theorem exec_ruleSetTernary {first : Nat} {recs : List (List Byte)} (hwaits : Waits s tag 0x0A06 c) (hpos : 1 ≤ recs.length)
    (hlen : recs.length ≤ 16) (hend : first + recs.length ≤ 2048) (hrecs : ∀ r ∈ recs, ternaryOffends r = none) :
    exec (.ruleSetTernary tag first recs) s =
      (s.modShadow fun g => { g with ternary := mapSetList [] g.ternary first (recs.map ternaryKept) }).ok c :=
  exec_of_serve rfl hwaits (by
    simp only [hidle, Nat.ne_of_gt hpos, Nat.not_lt.mpr hlen, Nat.not_lt.mpr hend, findSome?_offends_eq_none hrecs, decide_false,
      Bool.or_self, Bool.false_eq_true, if_false, Reply.done])

theorem exec_ruleSetPattern {first : Nat} {recs : List (List Byte)} (hwaits : Waits s tag 0x0A07 c) (hpos : 1 ≤ recs.length)
    (hlen : recs.length ≤ 32) (hend : first + recs.length ≤ 4096) (hrecs : ∀ r ∈ recs, patternOffends r = none) :
    exec (.ruleSetPattern tag first recs) s =
      (s.modShadow fun g => { g with patterns := mapSetList [] g.patterns first recs }).ok c :=
  exec_of_serve rfl hwaits (by
    simp only [hidle, Nat.ne_of_gt hpos, Nat.not_lt.mpr hlen, Nat.not_lt.mpr hend, findSome?_offends_eq_none hrecs, decide_false,
      Bool.or_self, Bool.false_eq_true, if_false, Reply.done])

theorem exec_ruleClone (hasks : Asks s tag 0x0A08 c) :
    exec (.ruleClone tag) s = (s.modShadow fun _ => s.rules.store s.rules.active1).ok c :=
  exec_of_serve_asks rfl hasks (if_neg (by simp [hidle]))

/-! RULE_SWAP (R333). -/

theorem exec_ruleSwap_now (hwaits : Waits s tag 0x0A09 c) : exec (.ruleSwap tag 0) s = (s.swapNow s.now).ok c :=
  exec_of_serve rfl hwaits (if_neg (by simp [hidle]))

theorem exec_ruleSwap_scheduled {swapAt : Nat} (hwaits : Waits s tag 0x0A09 c) (hlater : swapAt ≠ 0) (hstepped : s.tb.stepped = true)
    (hahead : s.arrivalOf tag + 1000000 ≤ swapAt) :
    exec (.ruleSwap tag swapAt) s = ({ s with rules.swap := .scheduled swapAt } : State).ok c :=
  exec_of_serve rfl hwaits (by
    simp only [hidle, hlater, hstepped, Nat.not_lt.mpr hahead, Bool.not_true, Bool.false_eq_true, if_false, Reply.done])

end

/-! RULE_SET_MIRROR, RULE_SET_MP (R328) and RULE_GET_STATS (R336). -/

theorem exec_ruleSetMirror {k n : Nat} {d : MirrorDest} (hwaits : Waits s tag 0x0A0D c) (hk : k ≤ 3) (hdest : d.ok = true)
    (htrunc : n = 0 ∨ 64 ≤ n ∧ n ≤ 9216) :
    exec (.ruleSetMirror tag k d n) s =
      ({ s with rules.sessions := mapSet {} s.rules.sessions k { dest := d, trunc := n } } : State).ok c :=
  exec_of_serve rfl hwaits (if_neg (by simp [hdest]; omega))

theorem exec_ruleSetMp {r : Nat} (hwaits : Waits s tag 0x0A0E c) (hr : 100 ≤ r) (hr' : r ≤ 100000) :
    exec (.ruleSetMp tag r) s = ({ s with
      rules.mpTokens := min (256 * 10 ^ 10) (s.rules.mpTokens + (s.up - s.rules.mpAt) * s.rules.mpRate)
      rules.mpAt := s.up, rules.mpRate := r } : State).ok c :=
  exec_of_serve rfl hwaits (if_neg (by simp; omega))

theorem exec_ruleGetStats {first count : Nat} (hwaits : Waits s tag 0x0A0C c) (hcount : count ≤ 240) (hend : first + count ≤ 4096) :
    exec (.ruleGetStats tag first count) s = .next (({ s with
      rules.ctr := []
      rules.ruleCtr := (List.range count).foldl (fun m i => mapSet (0, 0) m (first + i) (0, 0)) s.rules.ruleCtr } : State).answer c
      (Reply.ok ((List.range 18).map (fun i => ((mapGet (0 : Nat) s.rules.ctr i : Nat) : Int)) ++
        (mapRead (0, 0) s.rules.ruleCtr first count).flatMap (fun q => [(q.1 : Int), q.2]) ++ [(s.now : Int)]))) :=
  exec_of_serve rfl hwaits (if_neg (by simp; omega))

end

/-- Settles O30: each clause is the lemma above of its row; a swap that is scheduled makes the rows that need the shadow BUSY. -/
theorem ruleCommandsTakeEffect : Obligations.RuleCommandsTakeEffect := by
  unfold Obligations.RuleCommandsTakeEffect
  refine ⟨fun s tag c hidle => ⟨fun start words => exec_ruleLoadProgram hidle, fun cfg => exec_ruleSetProfile hidle,
      fun recs m => exec_ruleAddHash hidle, fun keys => exec_ruleDelHash hidle, fun first recs => exec_ruleSetTernary hidle,
      fun first recs => exec_ruleSetPattern hidle, exec_ruleClone hidle, exec_ruleSwap_now hidle,
      fun swapAt => exec_ruleSwap_scheduled hidle, fun k d n => exec_ruleSetMirror, fun r => exec_ruleSetMp,
      fun first count => exec_ruleGetStats⟩,
    fun s tag c swapAt hswap => ?_⟩
  have hbusy := swapBusy_scheduled hswap
  exact ⟨fun hasks => exec_ruleCancelSwap hasks hswap, fun hasks => exec_ruleCancelSwap_late hasks hswap,
    exec_ruleLoadProgram_busy hbusy, exec_ruleAddHash_busy hbusy, exec_ruleClone_busy hbusy, exec_ruleSwap_busy hbusy⟩

end Sys2Proof.Machine
end

section
/-! PROOFS. What every step keeps: the limit of the commands in flight (13_ilucy R378, R380, R382), the canonical form of the
tables, and what is fused (17_power_reset R508); and that the state after reset has them. -/
namespace Sys2Proof.Machine

/-- A step keeps the tables in canonical form: each command does, and so does an edge of TB_REF. -/
theorem tidy_of_step_next {s t : State} (htidy : s.tidy) (h : step s = .next t) : t.tidy := by
  obtain ⟨-, rfl⟩ | ⟨c, rest, -, hexec⟩ := step_next_cases h
  · exact tbTick_tidy s htidy
  · obtain ⟨u, hu, hkept⟩ := exec_tidy c { s with pending := rest } htidy
    cases hexec.symm.trans hu
    exact hkept

/-- Settles O58: what every command keeps of the commands in flight, over a step. -/
theorem inFlightLimitIsKept : Obligations.InFlightLimitIsKept := by
  unfold Obligations.InFlightLimitIsKept
  intro s t hok hstep
  exact (keeps_of_step_next hstep).inFlight hok

/-- Settles O59: a step keeps the bodies and the key slots (`keeps_of_step_next`) and the tables (`tidy_of_step_next`). -/
theorem canonicalFormIsKept : Obligations.CanonicalFormIsKept := by
  unfold Obligations.CanonicalFormIsKept
  rintro s t ⟨hbodies, hkeys, htidy⟩ hstep
  have hkeeps := keeps_of_step_next hstep
  exact ⟨hkeeps.bodies hbodies, (hkeeps.keys hkeys).1, tidy_of_step_next htidy hstep⟩

/-- Settles O57: what every command keeps of the fuses, over a step. -/
theorem fusesAreOnlyBlown : Obligations.FusesAreOnlyBlown := by
  unfold Obligations.FusesAreOnlyBlown
  intro s t hkeys hstep
  have hkeeps := keeps_of_step_next hstep
  exact ⟨hkeeps.lc, hkeeps.minSvn, hkeeps.crevoke, hkeeps.arevoke, (hkeeps.keys hkeys).2, hkeeps.policy, hkeeps.seed⟩

/-- Settles O60: after reset each of the tables is empty, or is written out in canonical form. -/
theorem resetHasInvariants : Obligations.ResetHasInvariants := by
  unfold Obligations.ResetHasInvariants
  exact ⟨⟨rfl, rfl, rfl, rfl, rfl, rfl, rfl⟩, ⟨by decide, by decide⟩, rfl, rfl⟩

/-- Settles O55: a step is the meaning of the front command, by its definition. -/
theorem stepRunsFrontCommand : Obligations.StepRunsFrontCommand := by
  unfold Obligations.StepRunsFrontCommand
  intro i rest s
  rfl

end Sys2Proof.Machine
end

section
/-! PROOFS. The registers of the host queues, moderation and the power states of the function (12_host_queues R342-R348,
R362-R371): a lemma for each row, and what an invalid HQ_TAIL and a blocked vector leave. -/
namespace Sys2Proof.Machine

/-! What a submission queue reads as after its update. -/

theorem sub_modSub_same {s : State} (hwf : mapWf SubQ.dflt s.host.subq = true) (k : Nat) (f : SubQ → SubQ) :
    (s.modSub k f).sub k = f (s.sub k) := by
  unfold State.sub
  rw [modSub_host, mapGet_mapMod _ _ hwf, if_pos rfl]

theorem sub_queueError_same {s : State} (hwf : mapWf SubQ.dflt s.host.subq = true) (k code : Nat) (index : Word) :
    (s.queueError k code index).sub k = SubQ.failed code index s.host.nextOutcome (s.sub k) := by
  unfold State.sub State.queueError
  rw [mapGet_mapMod _ _ hwf, if_pos rfl]

/-! Rows of a submission queue, while BAR0 answers. -/

section
variable {s : State} {q : QId} (hopen : s.barOpen = true) (hok : q.ok = true)
include hopen hok

theorem exec_hqEnable_legal (hstate : (s.sub q.key).state = .disabled) (hcfg : s.configOk q.kind (s.sub q.key) = true) :
    exec (.hqEnable q) s = .next (((s.modSub q.key fun x =>
      { x with enable := true, err := 0, errIndex := 0, fetch := (s.sub q.key).restartAt, partTail := none }).modSub q.key fun x =>
      { x with state := .running }).noteFailures q.key) := by
  exact congrArg Host.Outcome.next ((if_neg (by simp [hopen, hok, hstate])).trans (if_pos hcfg))

theorem exec_hqEnable_illegal (hstate : (s.sub q.key).state = .disabled) (hcfg : s.configOk q.kind (s.sub q.key) = false) :
    exec (.hqEnable q) s = .next ((s.modSub q.key fun x =>
      { x with enable := true, err := 0, errIndex := 0, fetch := (s.sub q.key).restartAt, partTail := none }).queueError q.key 9
        (s.sub q.key).head) := by
  exact congrArg Host.Outcome.next ((if_neg (by simp [hopen, hok, hstate])).trans (if_neg (by simp [hcfg])))

theorem exec_hqDisable (hstate : (s.sub q.key).state ≠ .disabled) :
    exec (.hqDisable q) s = .next (s.modSub q.key SubQ.disabled) :=
  congrArg Host.Outcome.next (if_neg (by simp [hopen, hok, hstate]))

theorem exec_hqIdxReset (hstate : (s.sub q.key).state = .disabled) :
    exec (.hqIdxReset q) s = .next (s.modSub q.key fun x => { x with head := 0, tail := 0, fetch := 0, merged := [] }) :=
  congrArg Host.Outcome.next (if_pos (by simp [hopen, hok, hstate]))

/-- A legal HQ_TAIL is taken (R346). -/
theorem exec_hqTailWrite_legal {v : Word} (htail : (v - (s.sub q.key).tail).toNat ≤ (s.sub q.key).size)
    (hhead : (v - (s.sub q.key).head).toNat ≤ (s.sub q.key).size) :
    exec (.hqTailWrite q v) s =
      .next ((s.modSub q.key fun x => { x with dropping := false }).modSub q.key fun x => { x with tail := v }) :=
  congrArg Host.Outcome.next ((if_neg (by simp [hopen, hok])).trans (if_pos (by
    simp only [htail, hhead, decide_true, Bool.and_self])))

/-- An HQ_TAIL outside the ring is not taken, and stops a running queue (R346, R364). -/
theorem exec_hqTailWrite_invalid {v : Word}
    (hout : (s.sub q.key).size < (v - (s.sub q.key).tail).toNat ∨ (s.sub q.key).size < (v - (s.sub q.key).head).toNat) :
    exec (.hqTailWrite q v) s =
      .next (if (s.sub q.key).state = .running then
          (s.modSub q.key fun x => { x with dropping := false }).queueError q.key 8 (s.sub q.key).head
        else s.modSub q.key fun x => { x with dropping := false }) := by
  refine congrArg Host.Outcome.next ((if_neg (by simp [hopen, hok])).trans (if_neg ?_))
  simp only [Bool.and_eq_true, decide_eq_true_eq]
  omega

end

/-- Settles O32: the row on an invalid tail (`exec_hqTailWrite_invalid`), and what the queue reads as after it. -/
theorem invalidTailStopsQueue : Obligations.InvalidTailStopsQueue := by
  unfold Obligations.InvalidTailStopsQueue
  intro s t q v htidy hopen hok hout hexec
  have hrow := (exec_hqTailWrite_invalid hopen hok hout).symm.trans hexec
  have hdrop : (s.modSub q.key fun x => { x with dropping := false }).sub q.key = { s.sub q.key with dropping := false } :=
    sub_modSub_same htidy.subq _ _
  split at hrow
  · cases hrow
    rw [sub_queueError_same (modSub_tidy _ _ s htidy).subq, hdrop]
    exact ⟨rfl, fun _ => ⟨rfl, rfl⟩⟩
  · next hstate =>
    cases hrow
    rw [hdrop]
    exact ⟨rfl, fun hrunning => absurd hrunning hstate⟩

/-! HQ_DROP and the completion queues. -/

theorem exec_hqDropRead {s : State} {n a b : Nat} (hn : n < 64)
    (ha : min (s.sub (64 + n)).shareDrop (mapGet 0 s.cycle.shareDrops (64 + n)) = a)
    (hb : min (s.sub (64 + n)).delayDrop (mapGet 0 s.cycle.delayDrops (64 + n)) = b) :
    exec (.hqDropRead n) s = .next ((s.modSub (64 + n) fun x => { x with shareDrop := a, delayDrop := b }).emit
      (.readData (BitVec.ofNat 32 (((s.sub (64 + n)).shareDrop - a) * 65536 + ((s.sub (64 + n)).delayDrop - b))))) := by
  subst ha hb
  exact congrArg Host.Outcome.next (if_neg (Nat.not_le.mpr hn))

section
variable {s : State} {n : Nat} (hopen : s.barOpen = true) (hn : n < 64)
include hopen hn

theorem exec_cqEnableWrite (en irq : Bool) :
    exec (.cqEnableWrite n en irq) s = .next (s.modCq n fun k => { k with enable := en, irqEn := irq }) :=
  congrArg Host.Outcome.next (if_neg (by simp [hopen, hn]))

theorem exec_cqIdxReset (hoff : (s.cqn n).enable = false) :
    ∃ t, exec (.cqIdxReset n) s = .next t ∧
      t.host.cq = (s.modCq n fun k => { k with head := 0, tail := 0, err := false, late := [] }).host.cq :=
  ⟨_, congrArg Host.Outcome.next (if_neg (by simp [hopen, hn, hoff])), rfl⟩

theorem exec_cqHeadWrite (v : Word) :
    exec (.cqHeadWrite n v) s = .next (s.modCq n fun k =>
      { k with head := v, err := k.err || decide ((k.tail - k.head).toNat < (v - k.head).toNat) }) :=
  congrArg Host.Outcome.next (if_neg (by simp [hopen, hn]))

end

/-! Vectors. -/

theorem exec_moderationTimer {s : State} {v : Nat} (hv : v < 128) (hsince : (mapGet Vec.dflt s.host.vecs v).since.isSome = true)
    (hdue : (mapGet Vec.dflt s.host.vecs v).modTime ≤ s.elapsedUs (mapGet Vec.dflt s.host.vecs v)) :
    exec (.moderationTimer v) s = .next (s.trigger v) :=
  congrArg Host.Outcome.next (if_pos (by simp [hv, hsince, hdue]))

theorem exec_pendingVectorDeliver {s : State} {v : Nat} (hv : v < 128) (hpending : (mapGet Vec.dflt s.host.vecs v).pending = true)
    (hmask : s.masked v = false) (hmaster : s.canMaster = true) :
    exec (.pendingVectorDeliver v) s =
      .next ((s.putVec v { mapGet Vec.dflt s.host.vecs v with pending := false, d3Pend := false }).sendMsix v) :=
  congrArg Host.Outcome.next ((if_pos hv).trans (if_pos (by simp [hpending, hmask, hmaster])))

/-- A vector that triggers: its count is cleared, and it is pending where it may not be sent (R371). -/
def Vec.triggered (masked blocked : Bool) (x : Vec) : Vec :=
  { x with pendN := 0, since := none, pending := x.pending || masked || blocked, d3Pend := x.d3Pend || blocked }

theorem trigger_vecs (v : Nat) (s : State) :
    (s.trigger v).host.vecs = mapMod Vec.dflt s.host.vecs v (Vec.triggered (s.masked v) (!s.canMaster)) := by
  unfold State.trigger
  dsimp only
  repeat' split
  all_goals rfl

/-- A vector that may not be sent adds no output but PME# (R343, R371). -/
theorem trigger_out_of_blocked {s : State} {v : Nat} (h : s.canMaster = false ∨ s.masked v = true) :
    (s.trigger v).out = s.out ∨ (s.trigger v).out = .pme :: s.out := by
  unfold State.trigger
  dsimp only
  split
  · split
    · exact .inr rfl
    · exact .inl rfl
  · next hmaster =>
    split
    · exact .inl rfl
    · next hmask => simp_all

/-- Settles O34: a trigger sets the vector (`trigger_vecs`), and adds no message while it is blocked
(`trigger_out_of_blocked`). -/
theorem blockedVectorPends : Obligations.BlockedVectorPends := by
  unfold Obligations.BlockedVectorPends
  intro s t v htidy hv hsince hdue hblocked hexec
  cases (exec_moderationTimer hv hsince hdue).symm.trans hexec
  rw [trigger_vecs, mapGet_mapMod _ _ htidy.vecs, if_pos rfl]
  refine ⟨?_, rfl, fun x hx => ?_⟩
  · obtain hmaster | hmask := hblocked
    · simp [Vec.triggered, hmaster]
    · simp [Vec.triggered, hmask]
  · obtain hout | hout := trigger_out_of_blocked hblocked <;> rw [hout] at hx
    · exact .inr hx
    · obtain rfl | hmem := List.mem_cons.mp hx
      · exact .inl fun _ _ _ h => nomatch h
      · exact .inr hmem

/-- Settles O31: each clause is the lemma above of its row; the rows of the power states of the function have no condition
but that D0 is returned to from D3hot. -/
theorem queueAndFunctionEvents : Obligations.QueueAndFunctionEvents := by
  unfold Obligations.QueueAndFunctionEvents
  refine ⟨fun s q hopen hok => ⟨exec_hqEnable_legal hopen hok, exec_hqEnable_illegal hopen hok, exec_hqDisable hopen hok,
      exec_hqIdxReset hopen hok, fun v => exec_hqTailWrite_legal hopen hok, fun n a b => exec_hqDropRead,
      fun n en irq hn => exec_cqEnableWrite hopen hn en irq, fun n hn => exec_cqIdxReset hopen hn,
      fun n v hn _ => exec_cqHeadWrite hopen hn v⟩,
    fun s => ⟨fun v => exec_moderationTimer, fun v => exec_pendingVectorDeliver, rfl,
      fun hd3 => congrArg Host.Outcome.next (if_pos hd3), rfl, rfl⟩⟩

end Sys2Proof.Machine
end

section
/-! PROOFS. The service of the host queues (12_host_queues R341, R353-R369): fetches, answers of host memory, reservations and
completions. -/
namespace Sys2Proof.Machine

/-! Fetches (R361). -/

section
variable {s t : State} {q : QId} (hok : q.ok = true)
include hok

theorem exec_txChainFetch_tx {es : List Descriptor} {bs : List Byte} (hkind : q.kind = .tx) (hlen : ∀ d ∈ es, d.length = 32)
    (hpub : es.length ≤ (s.sub q.key).published) (hturn : s.nextServed = some (t, q.idx)) :
    exec (.txChainFetch q es bs) s = .next (t.fetchTx q.idx es bs) := by
  refine congrArg Host.Outcome.next ((if_neg (by simpa [hok, hkind, hpub] using hlen)).trans ?_)
  simp [hturn, hkind]

theorem exec_txChainFetch_fcq {d : Descriptor} (bs : List Byte) (hkind : q.kind = .fcq) (hlen : d.length = 32)
    (hpub : 1 ≤ (s.sub q.key).published) (hturn : s.nextServed = some (t, 64 + q.idx)) :
    exec (.txChainFetch q [d] bs) s = .next (t.fetchFcq (64 + q.idx) d) := by
  have hsome : (s.sub q.key).published ≠ 0 := by omega
  change execTxChainFetch q [d] bs s = _
  simp [execTxChainFetch, hok, hkind, hlen, hsome, hturn]

/-! Answers of host memory (R364). -/

theorem exec_memoryRequestAnswered_buffer (ok : Bool) (hkind : q.kind = .tx) :
    exec (.memoryRequestAnswered (.buffer q ok)) s = .next (s.bufferAnswered q.key ok) :=
  congrArg Host.Outcome.next (if_pos (by simp [hok, hkind]))

theorem exec_memoryRequestAnswered_sheafRecord (ok : Bool) (ws : List Word) (hkind : q.kind = .fcq) :
    exec (.memoryRequestAnswered (.sheafRecord q ok ws)) s = .next (s.recordAnswered q.key ok ws) :=
  congrArg Host.Outcome.next (if_pos (by simp [hok, hkind]))

theorem exec_memoryRequestAnswered_descriptorsFailed (hstate : (s.sub q.key).state = .running)
    (hpub : 0 < (s.sub q.key).published) :
    exec (.memoryRequestAnswered (.descriptors q false)) s = .next ((s.queueError q.key 7 (s.sub q.key).fetch).dmaEvent) :=
  congrArg Host.Outcome.next (if_pos (by simp [hok, hstate, hpub]))

theorem exec_queueDrainComplete (hstate : (s.sub q.key).state = .draining) (hreq : (s.sub q.key).requests = 0) :
    exec (.queueDrainComplete q) s = .next (s.modSub q.key fun x => { x with state := .disabled }) :=
  congrArg Host.Outcome.next (if_pos (by simp [hok, hstate, hreq]))

end

/-! Receive queues (R368, R369). -/

section
variable {s : State} {n : Nat} {w : RxWait} {rest : List RxWait} (hn : n < 64) (hwait : (s.sub (64 + n)).waiting = w :: rest)
  (hreserving : s.reserving (s.sub (64 + n)) = true)
include hn hwait hreserving

theorem exec_rxDropDelay {t : Nat} (hfail : w.firstFail = some t) (hfull : (s.sub (64 + n)).reservable = false)
    (hdue : t + min 10000 (s.sub (64 + n)).dropDelay * 10000 ≤ s.up) :
    exec (.rxDropDelay n) s = .next ((({ s with
      cycle.delayDrops := mapMod 0 s.cycle.delayDrops (64 + n) (· + 1) } : State).modSub (64 + n) fun x =>
      { x with waiting := rest, delayDrop := min 65535 (x.delayDrop + 1), dropping := true }).pauseChecks) := by
  change execRxDropDelay n s = _
  simp only [execRxDropDelay, hwait, hfail, hn, hreserving, hfull, hdue, decide_true, Bool.not_false, Bool.and_self, if_true]

theorem exec_rxReservation {es : List Descriptor} (hslots : (s.sub (64 + n)).slots.length < 64)
    (hneeds : es.length = (s.sub (64 + n)).needs w.len) (hpub : es.length ≤ (s.sub (64 + n)).published)
    (hlen : ∀ d ∈ es, d.length = 32)
    (hlegal : ∀ p ∈ es.zipIdx,
      rxEntryError (s.sub (64 + n)).size ((s.sub (64 + n)).fetch + BitVec.ofNat 32 p.2) p.1 = 0) :
    exec (.rxReservation n es) s =
      .next ((((s.writeBuffers ((s.sub (64 + n)).bufUnits * 256) es w.bytes).modSub (64 + n) fun x => { x with
        waiting := rest, fetch := x.fetch + BitVec.ofNat 32 es.length
        slots := x.slots ++ [({
          firstIdx := (s.sub (64 + n)).fetch, ready := true, body := rxBody w
          lastIdx := (s.sub (64 + n)).fetch + BitVec.ofNat 32 es.length - 1 } : Slot)] }).noteFailures (64 + n)).pauseChecks) := by
  have hany : (es.any fun d => decide (d.length ≠ 32)) = false := by simpa using hlen
  have hnone : (es.zipIdx.find? fun p =>
      decide (rxEntryError (s.sub (64 + n)).size ((s.sub (64 + n)).fetch + BitVec.ofNat 32 p.2) p.1 ≠ 0)) = none :=
    List.find?_eq_none.mpr fun p hp => by simpa using hlegal p hp
  change execRxReservation n es s = _
  simp only [execRxReservation, hwait, ← hneeds, hreserving, hany, hnone, Nat.not_le.mpr hn, Nat.not_le.mpr hslots,
    Nat.not_lt.mpr hpub, ne_eq, not_true_eq_false, decide_false, Bool.not_true, Bool.or_self, Bool.false_eq_true, if_false]

end

/-! Completions (R359, R366). -/

/-- The free choice among the completions that may be written takes one of them. -/
theorem exec_completionWrite {s : State} {q : Nat} (htakes : s.cqTakes q = true) (hready : s.candidates q ≠ []) :
    ∃ n ∈ s.candidates q, exec (.completionWrite q) s = .next (s.drawn.writeCompl q n) := by
  have hpos := List.length_pos_of_ne_nil hready
  have hlt : (s.measured 13 q).toNat % max 1 (s.candidates q).length < (s.candidates q).length := by
    rw [Nat.max_eq_right hpos]
    exact Nat.mod_lt _ hpos
  refine ⟨_, List.getElem_mem hlt, ?_⟩
  change execCompletionWrite q s = _
  simp only [execCompletionWrite, State.completeOne, List.getElem?_eq_getElem hlt, htakes, if_true]

/-- Settles O33: each clause is the lemma above of its row. -/
theorem queueServiceEvents : Obligations.QueueServiceEvents := by
  unfold Obligations.QueueServiceEvents
  exact ⟨fun s => ⟨fun q es bs t hok => exec_txChainFetch_tx hok, fun q d bs t hok => exec_txChainFetch_fcq hok bs,
      fun q ok hok => exec_memoryRequestAnswered_buffer hok ok, fun q ok ws hok => exec_memoryRequestAnswered_sheafRecord hok ok ws,
      fun q hok => exec_memoryRequestAnswered_descriptorsFailed hok,
      fun n w rest t hn hwait hfail hreserving => exec_rxDropDelay hn hwait hreserving hfail,
      fun n w rest es hn hwait hreserving => exec_rxReservation hn hwait hreserving,
      fun q hok => exec_queueDrainComplete hok⟩,
    fun s q => exec_completionWrite⟩

end Sys2Proof.Machine
end

section
/-! PROOFS. Mailboxes, doorbells and answers (13_ilucy R375-R384, R386, R391, R392): what an answer in the mailbox writes, what it
leaves of the other commands, and a lemma for each row. -/
namespace Sys2Proof.Machine

/-! An answer. -/

/-- Nothing waits for the push of a record of this tag. -/
theorem afterPush_of_unasked {s : State} {tag : Tag} (hreset : s.il.resetAsked ≠ some tag) (hsleep : s.power.sleepAsked ≠ some tag) :
    s.afterPush tag = s := by
  simp [State.afterPush, hreset, hsleep]

/-- An answer in the mailbox, without an interrupt, that no reset and no SLEEP waits for (R379, R381). -/
theorem answer_in_mailbox {s : State} {c : InFlight} (r : Reply) (hlive : c.orphan = false)
    (hflight : s.il.inflight.contains c = true) (hmb : c.rhost = false) (hnoint : c.noint = true)
    (hreset : s.il.resetAsked ≠ some c.tag) (hsleep : s.power.sleepAsked ≠ some c.tag) :
    s.answer c r = { s with
      il.inflight := s.il.inflight.map fun x => if x = c then { x with answered := true } else x
      il.bar2 := mapSetList 0 (mapSetList 0 s.il.bar2 (4096 * c.mailbox) (wordsBytes (answerHeader c.hdr c.gen r
        ((r.payload.toBytes c.code).take 4064).length))) (4096 * c.mailbox + 32) ((r.payload.toBytes c.code).take 4064)
      il.mb := mapMod Mailbox.dflt s.il.mb c.mailbox fun m => { m with state := .answered }
      il.answers := s.il.answers ++ [{ rhost := false, mailbox := c.mailbox, tag := c.tag }] } := by
  simp only [State.answer, State.markAnswered, State.pushRecord, hlive, hflight, hmb, hnoint, Bool.not_true, Bool.false_eq_true,
    if_false, if_true]
  exact afterPush_of_unasked hreset hsleep

@[simp] theorem emit_inflight (x : Emit) (s : State) : (s.emit x).il.inflight = s.il.inflight := rfl

@[simp] theorem trigger_il (v : Nat) (s : State) : (s.trigger v).il = s.il := by
  unfold State.trigger
  dsimp only
  repeat' split
  all_goals rfl

@[simp] theorem countEvent_il (v : Nat) (s : State) : (s.countEvent v).il = s.il := by
  unfold State.countEvent
  extract_lets
  split
  · exact trigger_il _ _
  · rfl

@[simp] theorem mbEvent_il (s : State) : s.mbEvent.il = s.il := by
  unfold State.mbEvent
  split
  · exact countEvent_il _ _
  · rfl

@[simp] theorem afterPush_inflight (tag : Tag) (s : State) : (s.afterPush tag).il.inflight = s.il.inflight := by
  unfold State.afterPush
  dsimp only
  repeat' split
  all_goals rfl

@[simp] theorem pushRecord_inflight (c : InFlight) (s : State) : (s.pushRecord c).il.inflight = s.il.inflight := by
  unfold State.pushRecord
  dsimp only
  rw [afterPush_inflight]
  split
  · rfl
  · rw [mbEvent_il]

@[simp] theorem writeHostAnswer_inflight (h : HeldAnswer) (s : State) : (s.writeHostAnswer h).il.inflight = s.il.inflight := by
  unfold State.writeHostAnswer
  dsimp only
  rw [pushRecord_inflight, emit_inflight]
  split <;> rfl

/-- Of the commands in flight, an answer changes what marking its command changes. -/
theorem answer_inflight (c : InFlight) (r : Reply) (s : State) :
    (s.answer c r).il.inflight = (s.markAnswered c).il.inflight := by
  unfold State.answer
  dsimp only
  split
  · rfl
  · split
    · rfl
    · split
      · split
        · exact writeHostAnswer_inflight _ _
        · rfl
      · exact pushRecord_inflight _ _

/-- Marking one command leaves each other one in flight as it was. -/
theorem mem_markAnswered {s : State} {c d : InFlight} (hmem : d ∈ s.il.inflight) (hne : d ≠ c) :
    d ∈ (s.markAnswered c).il.inflight := by
  unfold State.markAnswered
  split
  · exact List.mem_filter.mpr ⟨hmem, by simpa using hne⟩
  · exact List.mem_map.mpr ⟨d, hmem, if_neg hne⟩

/-! A command behind another one of its group (R384). -/

/-- A command that does not only read is not found while an earlier one of its group is not answered. -/
theorem findServed_behind {tag : Tag} {code : Nat} {d : InFlight} (hd : d.answered = false)
    (hgroup : d.code.toNat / 256 = code / 256) (htag : d.tag ≠ tag) (l : List InFlight) :
    findServed (d :: l) tag code false = none := by
  unfold findServed
  split
  · rfl
  · next x hfind =>
    have hmem := List.mem_of_find?_eq_some hfind
    have hx := List.find?_some hfind
    simp only [Bool.and_eq_true, decide_eq_true_eq] at hx
    have hdx : d ≠ x := fun h => htag (h ▸ hx.1.1)
    simp [hdx, hd, hgroup]

/-- Settles O37: an answer changes what marking its command changes (`answer_inflight`, `mem_markAnswered`); a TIME_SET behind
a TIME_FOLD_SHIFT is not found (`findServed_behind`), and the row does nothing. -/
theorem answersKeepTheOthers : Obligations.AnswersKeepTheOthers := by
  unfold Obligations.AnswersKeepTheOthers
  refine ⟨fun s c r d hmem hne => by rw [answer_inflight]; exact mem_markAnswered hmem hne,
    fun s tag c d l hflight hd hdcode _ _ hdtag _ _ time frac => congrArg Host.Outcome.next (serve_none ?_)⟩
  rw [hflight]
  exact findServed_behind hd (by rw [hdcode]; decide) hdtag _

/-! Doorbells (R380). -/

section
variable {s : State} {m : Nat} {v : Word} (hm : m < 32) (hbit : bit v 0 = true) (hready : s.ident.fwReady = true)
include hm hbit hready

theorem exec_mbDoorbellRing_posted (hposted : (mapGet Mailbox.dflt s.il.mb m).state = .posted) :
    exec (.mbDoorbellRing m v) s = .next (s.modMb m fun x => { x with overrun := true }) := by
  refine congrArg Host.Outcome.next ((if_pos (by simp [hm, hbit])).trans ?_)
  simp [State.ring, hready, hposted]

/-- A command that nothing refuses is in flight, with the time at which it came. -/
theorem exec_mbDoorbellRing_taken (hfree : (mapGet Mailbox.dflt s.il.mb m).state ≠ .posted)
    (hmb : (readHeader m (s.bodyHeader m)).rhost = false) (hnone : s.postRefused (readHeader m (s.bodyHeader m)) = none) :
    exec (.mbDoorbellRing m v) s = .next { s.modMb m (Mailbox.posted (readHeader m (s.bodyHeader m))) with
      il.inflight := s.il.inflight ++ [{ readHeader m (s.bodyHeader m) with arrived := s.now }] } := by
  refine congrArg Host.Outcome.next ((if_pos (by simp [hm, hbit])).trans ?_)
  simp only [State.ring, hready, hfree, hnone, Bool.not_true, Bool.false_eq_true, if_false]
  exact if_neg (by simp [hmb])

/-- A command that is refused is answered in the body (R380 steps 4 to 6). -/
theorem exec_mbDoorbellRing_refused {r : Reply} (hfree : (mapGet Mailbox.dflt s.il.mb m).state ≠ .posted)
    (hrefused : s.postRefused (readHeader m (s.bodyHeader m)) = some r) :
    exec (.mbDoorbellRing m v) s =
      .next (((s.modMb m (Mailbox.posted (readHeader m (s.bodyHeader m)))).writeBody m 0
        (wordsBytes (answerHeader (readHeader m (s.bodyHeader m)).hdr (readHeader m (s.bodyHeader m)).gen r 0))).modMb m
          fun x => { x with state := .answered }) := by
  refine congrArg Host.Outcome.next ((if_pos (by simp [hm, hbit])).trans ?_)
  simp only [State.ring, hready, hfree, hrefused, Bool.not_true, Bool.false_eq_true, if_false]

end

/-- What a key reads as after it was set to a value that is listed, whatever the form of the map. -/
theorem mapGet_mapSet_listed {α : Type} [DecidableEq α] {d v : α} (hv : v ≠ d) (m : SMap α) (k : Nat) :
    mapGet d (mapSet d m k v) k = v := by
  induction m with
  | nil => simp [mapSet, mapGet, hv]
  | cons p m ih =>
    unfold mapSet
    by_cases hk : k = p.1
    · simp [hk, hv, mapGet]
    · by_cases hlt : k < p.1
      · simp [hk, hlt, hv, mapGet]
      · simp [hk, hlt, mapGet, ih]

/-- A mailbox that is answered reads as ANSWERED. -/
theorem state_of_answered (mb : SMap Mailbox) (m : Nat) :
    (mapGet Mailbox.dflt (mapMod Mailbox.dflt mb m fun x => { x with state := .answered }) m).state = .answered := by
  have hlisted (x : Mailbox) : { x with state := .answered } ≠ Mailbox.dflt := fun h => nomatch congrArg Mailbox.state h
  unfold mapMod
  rw [mapGet_mapSet_listed (hlisted _)]

/-- 256 commands in flight refuse any other with FULL (R382). -/
theorem postRefused_full {s : State} (c : InFlight) (h : 256 ≤ (s.il.inflight.filter fun d => !d.orphan).length) :
    s.postRefused c = some (Reply.no .full) := if_pos h

theorem postRefused_tagInUse {s : State} {c d : InFlight} (hroom : (s.il.inflight.filter fun d => !d.orphan).length < 256)
    (hmem : d ∈ s.il.inflight) (hlive : d.orphan = false) (htag : d.tag = c.tag) :
    s.postRefused c = some (Reply.no .tagInUse) := by
  refine (if_neg (Nat.not_le.mpr hroom)).trans (if_pos (List.any_eq_true.mpr ⟨d, ?_, by simpa using htag⟩))
  exact List.mem_filter.mpr ⟨hmem, by simp [hlive]⟩

/-! Bodies (R375). -/

section
variable {s : State} {m off : Nat} (v : Word) (hm : m < 32) (hoff : off < 4096) (halign : off % 4 = 0)
include hm hoff halign

theorem exec_mailboxBodyWrite_posted (hposted : (mapGet Mailbox.dflt s.il.mb m).state = .posted) :
    exec (.mailboxBodyWrite m off v) s = .next (s.modMb m fun x => { x with ignoredWrite := true }) :=
  congrArg Host.Outcome.next ((if_neg (by simp [hm, hoff, halign])).trans (if_pos hposted))

theorem exec_mailboxBodyWrite_taken (hfree : (mapGet Mailbox.dflt s.il.mb m).state ≠ .posted) :
    exec (.mailboxBodyWrite m off v) s = .next (s.writeBody m off (leBytes v)) :=
  congrArg Host.Outcome.next ((if_neg (by simp [hm, hoff, halign])).trans (if_neg hfree))

end

/-- Settles O36: the write is that of the word's bytes into the body, and a read after it gives them or what stood there. -/
theorem bodyWriteFrame : Obligations.BodyWriteFrame := by
  unfold Obligations.BodyWriteFrame
  intro s m off v hwf hm hoff halign hfree
  refine ⟨_, exec_mailboxBodyWrite_taken v hm hoff halign hfree, mapSetList_wf _ _ _ _ hwf, fun k hk => ?_, fun a ha => ?_⟩
  all_goals rw [mapGet_mapSetList _ _ hwf]
  · rw [if_pos ⟨by omega, by simp only [leBytes, List.length_cons, List.length_nil]; omega⟩, Nat.add_sub_cancel_left]
    interval_cases k <;> rfl
  · rw [if_neg (by simp only [leBytes, List.length_cons, List.length_nil]; omega)]

/-! Answer records (R377, R392). -/

theorem exec_mbAnswerRead_empty {s : State} (h : s.il.answers = []) : exec .mbAnswerRead s = .next (s.emit (.readData 0)) := by
  change execMbAnswerRead s = _
  simp only [execMbAnswerRead, h]

theorem exec_mbAnswerRead_oldest {s : State} {a : AnswerRec} {rest : List AnswerRec} (h : s.il.answers = a :: rest) :
    exec .mbAnswerRead s = .next ({ s with
      il.answers := rest, il.inflight := s.il.inflight.filter fun x => !(x.tag = a.tag && x.answered) }.emit (.readData a.word)) := by
  change execMbAnswerRead s = _
  simp only [execMbAnswerRead, h]

theorem exec_heldAnswerWrite {s : State} {h : HeldAnswer} {rest : List HeldAnswer} (hheld : s.il.held = h :: rest)
    (hmaster : s.canMaster = true) : exec .heldAnswerWrite s = .next ({ s with il.held := rest }.writeHostAnswer h) := by
  change execHeldAnswerWrite s = _
  simp only [execHeldAnswerWrite, hheld, hmaster, if_true]

/-- Settles O35: each clause is the lemma above of its answer, doorbell, write or record. -/
theorem answersAndMailboxes : Obligations.AnswersAndMailboxes := by
  unfold Obligations.AnswersAndMailboxes
  refine ⟨fun s c r => answer_in_mailbox r, fun s m hm => ⟨fun v hbit hready => ⟨exec_mbDoorbellRing_posted hm hbit hready,
      exec_mbDoorbellRing_taken hm hbit hready⟩, fun v hbit => congrArg Host.Outcome.next (if_neg (by simp [hbit])),
      fun off v hoff halign => ⟨exec_mailboxBodyWrite_posted v hm hoff halign, exec_mailboxBodyWrite_taken v hm hoff halign⟩,
      fun v => congrArg Host.Outcome.next (if_neg (Nat.not_le.mpr hm)), exec_mbAnswerRead_empty, fun a rest => exec_mbAnswerRead_oldest,
      fun h rest => exec_heldAnswerWrite, rfl⟩,
    fun s m v hm hbit hready hfree => ⟨fun r hrefused => ?_, fun hfull => ⟨0, postRefused_full _ hfull⟩,
      fun hroom ⟨d, hmem, hlive, htag⟩ => ⟨0, postRefused_tagInUse hroom hmem hlive htag⟩⟩⟩
  exact ⟨_, exec_mbDoorbellRing_refused hm hbit hready hfree hrefused, rfl, rfl, state_of_answered _ _⟩

end Sys2Proof.Machine
end

section
/-! PROOFS. The DEVICE commands (13_ilucy R391, R393-R398, 18_trust R510): a lemma for each row. -/
namespace Sys2Proof.Machine

/-- A row with the payload length that its command defines answers what its body answers. -/
theorem exec_of_serve_len {s t : State} {tag : Tag} {code n : Nat} {c : InFlight} {i : Instr} {reads : Bool}
    {body : State → State × Reply} {r : Reply} (hrow : exec i s = .next (s.serve tag code reads (some n) body))
    (hwaits : Waits s tag code c) (hlen : c.len = n) (hbody : body s = (t, r)) : exec i s = .next (t.answer c r) := by
  subst hlen
  exact hrow.trans (congrArg Host.Outcome.next ((serve_len hwaits reads body).trans (by rw [hbody])))

section
variable {s : State} {tag : Tag} {c : InFlight}

/-! The update session (R395-R397). -/

theorem exec_deviceFwBegin {size : Nat} (hwaits : Waits s tag 0x0103 c) (hlo : 1024 ≤ size) (hhi : size ≤ 8388608)
    (hidle : s.il.fw.busy = false) (hboot : s.unit.mode ≠ .boot) (htest : s.unit.mode ≠ .factoryTest) :
    exec (.deviceFwBegin tag size) s = ({ s.writeSlot [] with
      ident.updateStaged := false, trust.staged := false
      il.fw := { phase := .erasing, open_ := true, size := size } } : State).ok c :=
  exec_of_serve rfl hwaits (by
    simp only [Nat.not_lt.mpr hlo, Nat.not_lt.mpr hhi, hidle, hboot, htest, decide_false, Bool.or_self, Bool.false_eq_true, if_false,
      Reply.done])

/-- Data at the offset that the session expects are taken (R396). -/
theorem fwData_next {off : Nat} {bs : List Byte} (hopen : s.il.fw.open_ = true) (hphase : s.il.fw.phase ≠ .erasing)
    (hoff : off = s.il.fw.bytes.length) (hfit : off + bs.length ≤ s.il.fw.size) :
    s.fwData off bs = ({ s.writeSlot (s.il.fw.bytes ++ bs) with il.fw.bytes := s.il.fw.bytes ++ bs }, {}) := by
  simp only [State.fwData, hopen, hphase, ← hoff, Nat.not_lt.mpr hfit, Bool.not_true, Bool.false_eq_true, if_false, if_true, Reply.done]

theorem exec_deviceFwData_direct {off : Nat} {bs : List Byte} (hwaits : Waits s tag 0x0104 c) (hlen : c.len = 4 + bs.length)
    (hopen : s.il.fw.open_ = true) (hphase : s.il.fw.phase ≠ .erasing) (hoff : off = s.il.fw.bytes.length)
    (hfit : off + bs.length ≤ s.il.fw.size) : exec (.deviceFwData tag off (.direct bs)) s =
      { s.writeSlot (s.il.fw.bytes ++ bs) with il.fw.bytes := s.il.fw.bytes ++ bs }.ok c :=
  exec_of_serve_len rfl hwaits hlen (fwData_next hopen hphase hoff hfit)

/-- While host memory cannot be read the command goes on waiting (log 32). -/
theorem exec_deviceFwData_host_waits (off : Nat) (a : BitVec 64) (bs : List Byte) (hmaster : s.canMaster = false) :
    exec (.deviceFwData tag off (.host a bs)) s = .next s :=
  congrArg Host.Outcome.next (if_neg (by simp [hmaster]))

theorem exec_deviceFwData_host {off : Nat} {bs : List Byte} (a : BitVec 64) (hwaits : Waits s tag 0x0104 c) (hgen : s.isGen2 tag = true)
    (hmaster : s.canMaster = true) (hlen : bs.length ≤ 1048576) (hopen : s.il.fw.open_ = true) (hphase : s.il.fw.phase ≠ .erasing)
    (hoff : off = s.il.fw.bytes.length) (hfit : off + bs.length ≤ s.il.fw.size) :
    exec (.deviceFwData tag off (.host a bs)) s =
      { s.writeSlot (s.il.fw.bytes ++ bs) with il.fw.bytes := s.il.fw.bytes ++ bs }.ok c :=
  exec_of_serve (congrArg Host.Outcome.next (if_pos (by simp [hgen, hmaster]))) hwaits
    ((if_neg (Nat.not_lt.mpr hlen)).trans (fwData_next hopen hphase hoff hfit))

/-- A whole image is staged, or refused by the stage that it fails (18 R510). -/
theorem exec_deviceFwCommit (hasks : Asks s tag 0x0105 c) (hopen : s.il.fw.open_ = true)
    (hwhole : s.il.fw.size ≤ s.il.fw.bytes.length) :
    exec (.deviceFwCommit tag) s =
      if s.trust.failing s.il.fw.bytes = 0 then (s.stageImage s.il.fw.bytes).ok c
      else if s.trust.failing s.il.fw.bytes = 8 then { s with il.fw.phase := .verifying }.no c .rollback s.trust.minSvn
      else { s with il.fw.phase := .verifying }.no c .signature (s.trust.failing s.il.fw.bytes) := by
  refine (congrArg Host.Outcome.next (serve_asks hasks false _)).trans ?_
  simp only [hopen, Nat.not_lt.mpr hwhole, Bool.not_true, Bool.false_eq_true, if_false]
  split
  · next hzero => rw [if_pos hzero]; rfl
  · next height => rw [height]; rfl
  · next hzero height => rw [if_neg hzero, if_neg height]; rfl

theorem exec_deviceFwAbort (hasks : Asks s tag 0x0106 c) (hopen : s.il.fw.open_ = true) :
    exec (.deviceFwAbort tag) s = { s.writeSlot [] with il.fw := {} }.ok c :=
  exec_of_serve_asks rfl hasks (if_pos hopen)

/-! Resets (R398). -/

theorem exec_deviceReset_device {force : Bool} (hwaits : Waits s tag 0x0108 c) (hallowed : s.inControl = false ∨ force = true) :
    exec (.deviceReset tag 0xFF 0 force) s = { s with il.resetAsked := some tag }.ok c :=
  exec_of_serve (congrArg Host.Outcome.next (if_neg (by decide))) hwaits
    ((if_pos rfl).trans (if_neg (by obtain h | h := hallowed <;> simp [h])))

theorem exec_deviceReset_subsystem {k : Byte} (hwaits : Waits s tag 0x0108 c) (hlo : 2 ≤ k.toNat) (hhi : k.toNat ≤ 6) :
    exec (.deviceReset tag 0 k false) s = (s.classS k.toNat).ok c := by
  have hloop : k ≠ 1 := fun h => by rw [h] at hlo; exact absurd hlo (by decide)
  refine exec_of_serve (congrArg Host.Outcome.next (if_neg (by simpa using hloop))) hwaits ?_
  simp [hlo, hhi, Reply.done]

/-- That of LOOP is not answered before its end. -/
theorem exec_deviceReset_loop (hwaits : Waits s tag 0x0108 c) :
    exec (.deviceReset tag 0 1 false) s = .next { s.classS 1 with il.loopReset := some tag } := by
  refine congrArg Host.Outcome.next ((if_pos (by decide)).trans ?_)
  unfold Waits at hwaits
  simp only [State.startLoopReset, hwaits]

end

/-- Settles O38: the queries read what the state holds, and each other clause is the lemma above of its row. -/
theorem deviceCommandsTakeEffect : Obligations.DeviceCommandsTakeEffect := by
  unfold Obligations.DeviceCommandsTakeEffect
  exact fun s tag c => ⟨fun hasks => congrArg Host.Outcome.next (query_asks hasks _),
    fun start hwaits hstart => reads_of_query rfl (status_of_passed (Nat.not_le.mpr hstart) rfl) hwaits,
    fun size => exec_deviceFwBegin, fun off bs => exec_deviceFwData_direct,
    fun off bs a => exec_deviceFwData_host_waits off a bs, fun off bs a => exec_deviceFwData_host a,
    exec_deviceFwCommit, exec_deviceFwAbort,
    fun hasks => ⟨_, rfl, congrArg Host.Outcome.next (serve_asks hasks false _)⟩,
    fun force => exec_deviceReset_device, fun k => exec_deviceReset_subsystem, exec_deviceReset_loop,
    fun bs hwaits hlen => exec_of_serve_len rfl hwaits hlen rfl, fun herasing => congrArg Host.Outcome.next (if_pos herasing)⟩

end Sys2Proof.Machine
end

section
/-! PROOFS. The fault-tolerant midpoint (14_hedgerow R424, R426): the values in order, those that remain of them, and how far faulty
ones can pull it. -/
namespace Sys2Proof.Machine

/-! The values in order. -/

theorem insertInt_eq_orderedInsert (x : Int) (l : List Int) : insertInt x l = l.orderedInsert (· ≤ ·) x := by
  induction l with
  | nil => rfl
  | cons y l ih => rw [insertInt, List.orderedInsert_cons, ih]

theorem sortInts_eq_insertionSort (l : List Int) : sortInts l = l.insertionSort (· ≤ ·) := by
  unfold sortInts
  induction l with
  | nil => rfl
  | cons x l ih => rw [List.foldr_cons, ih, insertInt_eq_orderedInsert, List.insertionSort_cons]

theorem sortInts_perm (l : List Int) : (sortInts l).Perm l := sortInts_eq_insertionSort l ▸ List.perm_insertionSort _ l

theorem sortInts_pairwise (l : List Int) : (sortInts l).Pairwise (· ≤ ·) :=
  sortInts_eq_insertionSort l ▸ List.pairwise_insertionSort _ l

/-- Values in order are the same for every order in which they came. -/
theorem sortInts_eq_of_perm {l l' : List Int} (h : l.Perm l') : sortInts l = sortInts l' :=
  List.Perm.eq_of_pairwise' (sortInts_pairwise l) (sortInts_pairwise l') (((sortInts_perm l).trans h).trans (sortInts_perm l').symm)

/-! The values that remain. -/

/-- Of one value or more some remains between those discarded at the two ends. -/
theorem two_discardsOf_lt {n : Nat} (h : 0 < n) : 2 * discardsOf n < n := by
  unfold discardsOf
  split
  · omega
  · split <;> omega

theorem roundDiv_two (x : Int) : roundDiv x 2 = (x + 1) / 2 := by
  unfold roundDiv
  omega

/-- The midpoint is half the sum of the lowest and the highest value that remain, rounded. -/
theorem midpoint_eq {l : List Int} (hne : l ≠ []) :
    midpoint l = some (((sortInts l).getD (discardsOf l.length) 0 +
      (sortInts l).getD (l.length - 1 - discardsOf l.length) 0 + 1) / 2) := by
  have hk := two_discardsOf_lt (List.length_pos_of_ne_nil hne)
  have hlen := (sortInts_perm l).length_eq
  unfold midpoint
  generalize discardsOf l.length = k at hk
  have hhead : (((sortInts l).drop k).take (l.length - 2 * k)).head? = some ((sortInts l).getD k 0) := by
    rw [List.head?_eq_getElem?, List.getElem?_take_of_lt (by omega), List.getElem?_drop, List.getD_eq_getElem?_getD,
      Nat.add_zero, List.getElem?_eq_getElem (by omega), Option.getD_some]
  have hlast : (((sortInts l).drop k).take (l.length - 2 * k)).getLast? = some ((sortInts l).getD (l.length - 1 - k) 0) := by
    have hsize : (((sortInts l).drop k).take (l.length - 2 * k)).length = l.length - 2 * k := by
      rw [List.length_take, List.length_drop]
      omega
    rw [List.getLast?_eq_getElem?, hsize, List.getElem?_take_of_lt (by omega), List.getElem?_drop, List.getD_eq_getElem?_getD,
      show k + (l.length - 2 * k - 1) = l.length - 1 - k by omega, List.getElem?_eq_getElem (by omega), Option.getD_some]
  simp only [hhead, hlast, roundDiv_two]

/-! Faulty values. -/

/-- In a list in order, one value that lies below a bound has as many below it as stand up to it. -/
theorem prefix_le_filter {r : List Int} (hsorted : r.Pairwise (· ≤ ·)) {i : Nat} (hi : i < r.length) (p : Int → Bool)
    (hdown : ∀ x, x ≤ r[i] → p x = true) : i + 1 ≤ (r.filter p).length := by
  have hall : (r.take (i + 1)).filter p = r.take (i + 1) := by
    refine List.filter_eq_self.mpr fun x hx => hdown x ?_
    obtain ⟨j, hj, rfl⟩ := List.mem_take_iff_getElem.mp hx
    obtain hlt | rfl := Nat.lt_or_eq_of_le (Nat.le_of_lt_succ (Nat.lt_of_lt_of_le hj (Nat.min_le_left _ _)))
    · exact List.pairwise_iff_getElem.mp hsorted _ _ _ _ hlt
    · exact le_refl _
  have hsub := ((List.take_sublist (i + 1) r).filter p).length_le
  rw [hall, List.length_take] at hsub
  omega

/-- Likewise one that lies above a bound. -/
theorem suffix_le_filter {r : List Int} (hsorted : r.Pairwise (· ≤ ·)) {i : Nat} (hi : i < r.length) (p : Int → Bool)
    (hup : ∀ x, r[i] ≤ x → p x = true) : r.length - i ≤ (r.filter p).length := by
  have hall : (r.drop i).filter p = r.drop i := by
    refine List.filter_eq_self.mpr fun x hx => hup x ?_
    obtain ⟨j, hj, rfl⟩ := List.mem_drop_iff_getElem.mp hx
    obtain rfl | hpos := Nat.eq_zero_or_pos j
    · exact le_refl _
    · exact List.pairwise_iff_getElem.mp hsorted _ _ _ _ (by omega)
  have hsub := ((List.drop_sublist i r).filter p).length_le
  rwa [hall, List.length_drop] at hsub

/-- A value that remains lies in a range outside which no more values lie than are discarded at each end. -/
theorem remaining_in_range {l : List Int} {lo hi : Int} {i : Nat}
    (hfew : (l.filter fun x => decide (x < lo) || decide (hi < x)).length ≤ discardsOf l.length)
    (hlow : discardsOf l.length ≤ i) (hhigh : i + discardsOf l.length < l.length) :
    lo ≤ (sortInts l).getD i 0 ∧ (sortInts l).getD i 0 ≤ hi := by
  have hlen := (sortInts_perm l).length_eq
  have hfew' := ((sortInts_perm l).filter fun x => decide (x < lo) || decide (hi < x)).length_eq
  have hi' : i < (sortInts l).length := by omega
  rw [List.getD_eq_getElem _ _ hi']
  constructor
  · by_contra hbelow
    have := prefix_le_filter (sortInts_pairwise l) hi' (fun x => decide (x < lo) || decide (hi < x))
      fun x hx => by simp only [Bool.or_eq_true, decide_eq_true_eq]; omega
    omega
  · by_contra habove
    have := suffix_le_filter (sortInts_pairwise l) hi' (fun x => decide (x < lo) || decide (hi < x))
      fun x hx => by simp only [Bool.or_eq_true, decide_eq_true_eq]; omega
    omega

/-- Settles O43: both values of which the midpoint is half the sum lie in the range (`remaining_in_range`). -/
theorem midpointToleratesFaults : Obligations.MidpointToleratesFaults := by
  unfold Obligations.MidpointToleratesFaults
  refine ⟨fun l lo hi hne _ hfew => ?_, fun l l' hperm => ?_⟩
  · have hk := two_discardsOf_lt (List.length_pos_of_ne_nil hne)
    obtain ⟨ha, ha'⟩ := remaining_in_range hfew (le_refl _) (by omega)
    obtain ⟨hb, hb'⟩ := remaining_in_range hfew (i := l.length - 1 - discardsOf l.length) (by omega) (by omega)
    exact ⟨_, midpoint_eq hne, by omega, by omega⟩
  · unfold midpoint
    rw [sortInts_eq_of_perm hperm, hperm.length_eq]

/-! The row (R426). -/

/-- After the last static slot the midpoint of the values that count is formed, and the rest of the device is as it was. -/
theorem exec_hedgerowMidpoint {s : State} (hcycling : s.hedge.cycling = true) (hnew : s.hedge.midDone = false)
    (hpast : s.pastInCycle (4 * s.hedge.cfg.ns) = true) (hfew : s.hedge.syncNodes.length + (if s.hedge.isSync then 1 else 0) ≤ 8) :
    exec .hedgerowMidpoint s = .next { s with
      hedge.mid := midpoint (s.hedge.counted.map (·.o)), hedge.midDone := true, hedge.lastN := s.hedge.counted.length
      hedge.lastK := discardsOf s.hedge.counted.length
      hedge.lastO := (midpoint (s.hedge.counted.map (·.o))).getD s.hedge.lastO } := by
  change execHedgerowMidpoint s = _
  simp only [execHedgerowMidpoint, hcycling, hnew, hpast, Nat.not_lt.mpr hfew, List.length_map, Bool.not_true, Bool.or_self,
    Bool.false_eq_true, if_false]

/-- Settles O42: the row forms the midpoint, which `midpoint_eq` gives from the values in order. -/
theorem midpointDiscardsExtremes : Obligations.MidpointDiscardsExtremes := by
  unfold Obligations.MidpointDiscardsExtremes
  exact ⟨fun s hcycling hnew hpast hfew => ⟨_, exec_hedgerowMidpoint hcycling hnew hpast hfew, rfl⟩, rfl,
    fun l hne _ => ⟨sortInts l, sortInts_perm l, sortInts_pairwise l, discardsOf l.length, rfl, midpoint_eq hne⟩⟩

end Sys2Proof.Machine
end

section
/-! PROOFS. What a Hedgerow node sends and what it does with a frame (14_hedgerow R402, R409-R423, R433): the static slots, the
notices, the checks of a frame, and a lemma for each thing that a frame can be. -/
namespace Sys2Proof.Machine

/-! The static slots (R413). -/

section
variable {s : State} {slot : Nat}

/-- A node that keeps no cycle of its own, or is out of step, sends nothing. -/
theorem exec_hedgerowSlotSend_silent (slot : Nat)
    (h : s.hedge.hstate = .listen ∨ s.hedge.hstate = .integrating ∨ s.hedge.hstate = .passive) :
    exec (.hedgerowSlotSend slot) s = .next s := by
  refine congrArg Host.Outcome.next (if_pos ?_)
  obtain h | h | h := h <;> simp [h]

variable (hstate : s.hedge.hstate = .coldstart ∨ s.hedge.hstate = .active) (howns : s.hedge.cfg.ownsSlot s.hedge.node slot = true)
  (hslot : slot < s.hedge.cfg.ns) (hnow : s.inSlot slot = true) (hnew : s.hedge.hasSent slot = false)
include hstate howns hslot hnow hnew

/-- In a slot that it owns, once a cycle, a node sends its heartbeat, or what waits of the commit records. -/
theorem exec_hedgerowSlotSend :
    exec (.hedgerowSlotSend slot) s =
      .next (if slot = s.hedge.node then (s.hedgeSend slot (.heartbeat (s.heartbeat (s.hedge.commits.take 2)))).takeCommits 2
        else if s.hedge.commits = [] then s.hedgeSend slot .null
        else (s.hedgeSend slot (.commit (s.hedge.commits.take 4))).takeCommits 4) := by
  refine congrArg Host.Outcome.next (if_neg ?_)
  obtain h | h := hstate <;> simp [h, howns, hslot, hnow, hnew]

theorem exec_hedgerowSlotSend_key (hkey : slot = s.hedge.node) : exec (.hedgerowSlotSend slot) s =
    .next ((s.hedgeSend slot (.heartbeat (s.heartbeat (s.hedge.commits.take 2)))).takeCommits 2) := by
  rw [exec_hedgerowSlotSend hstate howns hslot hnow hnew, if_pos hkey]

theorem exec_hedgerowSlotSend_null (hother : slot ≠ s.hedge.node) (hnone : s.hedge.commits = []) :
    exec (.hedgerowSlotSend slot) s = .next (s.hedgeSend slot .null) := by
  rw [exec_hedgerowSlotSend hstate howns hslot hnow hnew, if_neg hother, if_pos hnone]

theorem exec_hedgerowSlotSend_commits (hother : slot ≠ s.hedge.node) (hsome : s.hedge.commits ≠ []) :
    exec (.hedgerowSlotSend slot) s =
      .next ((s.hedgeSend slot (.commit (s.hedge.commits.take 4))).takeCommits 4) := by
  rw [exec_hedgerowSlotSend hstate howns hslot hnow hnew, if_neg hother, if_neg hsome]

end

/-! Notices (R416, R417). -/

section
variable {s : State} {id mini : Nat} {bs : List Byte} {x y : Bool} (hstate : s.hedge.hstate = .active) (hcontrol : s.inControl = true)
  (howns : s.hedge.cfg.ownsFrame s.hedge.node id = true)
  (hfrom : 1000 * ((4 * s.hedge.cfg.ns + mini - 1 : Nat) : Int) ≤ s.inCycleNs)
  (huntil : s.inCycleNs < 1000 * ((4 * s.hedge.cfg.ns + mini - 1 : Nat) : Int) + 1000)
  (hx : s.hedge.fitsMinislot false id mini bs.length = x) (hy : s.hedge.fitsMinislot true id mini bs.length = y)
  (hfits : (x || y) = true)
include hstate hcontrol howns hfrom huntil hx hy hfits

/-- The oldest notice leaves the queue in a frame that has not gone out in this cycle. -/
theorem exec_noticeSend_first {n : Notice} {rest : List Notice} (hnew : s.hedge.hasSent (31 + id) = false)
    (hqueue : s.hedge.queue = n :: rest) (hbytes : s.hedge.octets (31 + id) (.notice n) = bs) :
    exec (.noticeSend id mini) s = .next ({ s with
      hedge.queue := rest
      hedge.a := if x then s.hedge.a.holds mini bs.length else s.hedge.a
      hedge.b := if y then s.hedge.b.holds mini bs.length else s.hedge.b }.sendOn x y (31 + id) bs) := by
  subst hbytes hx hy
  have hnone : (s.hedge.sent.find? fun f => decide (f.frameId = 31 + id)) = none := by
    simpa [Hedge.hasSent] using hnew
  refine congrArg Host.Outcome.next ((if_neg ?_).trans ?_)
  · simp only [hstate, hcontrol, howns, hfrom, huntil, decide_true, Bool.and_self, Bool.not_true, Bool.false_eq_true, not_false_eq_true]
  · simp only [hnone, hqueue, hfits, Option.map_none, List.head?_cons, Option.map_some, Option.or, Option.isSome_none, List.drop_succ_cons,
      List.drop_zero, Bool.not_true, Bool.false_eq_true, if_false]

/-- A frame that has gone out on one channel goes out on the other as it was. -/
theorem exec_noticeSend_again {f : SentFrame} (hsent : (s.hedge.sent.find? fun f => f.frameId = 31 + id) = some f)
    (hbytes : f.bytes = bs) :
    exec (.noticeSend id mini) s = .next ({ s with
      hedge.a := if x then s.hedge.a.holds mini bs.length else s.hedge.a
      hedge.b := if y then s.hedge.b.holds mini bs.length else s.hedge.b }.sendOn x y (31 + id) bs) := by
  subst hbytes hx hy
  refine congrArg Host.Outcome.next ((if_neg ?_).trans ?_)
  · simp only [hstate, hcontrol, howns, hfrom, huntil, decide_true, Bool.and_self, Bool.not_true, Bool.false_eq_true, not_false_eq_true]
  · simp only [hsent, hfits, Option.map_some, Option.or, Option.isSome_some, Bool.not_true, Bool.false_eq_true, if_false, if_true]

end

/-! The checks of a frame (R410, R411). -/

/-- A length that LEN does not give is the first fault. -/
theorem frameFault_length (h : Hedge) (placed : Bool) (place : Nat) {bs : List Byte}
    (hlen : bs.length ≠ 12 + (byteAt bs 5).toNat ∨ 64 < (byteAt bs 5).toNat) : h.frameFault placed place bs = some 3 := by
  refine if_pos ?_
  obtain hlen | hlen := hlen
  · simp [lenMatches, hlen]
  · simp [lenMatches, Nat.not_le.mpr hlen]

/-- A CRC that is not that of the octets is the second. -/
theorem frameFault_crc (h : Hedge) (placed : Bool) (place : Nat) {bs : List Byte} (hlen : bs.length = 12 + (byteAt bs 5).toNat)
    (hmax : (byteAt bs 5).toNat ≤ 64) (hcrc : bs.drop (bs.length - 4) ≠ leBytes (crc32c (bs.take (bs.length - 4)))) :
    h.frameFault placed place bs = some 2 := by
  refine (if_neg ?_).trans (if_pos ?_)
  · simp only [lenMatches, hmax, ← hlen, decide_true, Bool.and_self, Bool.not_true, Bool.false_eq_true, not_false_eq_true]
  · simp only [crcMatches, hcrc, decide_false, Bool.not_false]

/-! A frame that is received (R411, R412, R420-R423). -/

theorem modChan_hedge (chanB : Bool) (f : Chan → Chan) (s : State) :
    (s.modChan chanB f).hedge.hstate = s.hedge.hstate ∧ (s.modChan chanB f).hedge.cfg = s.hedge.cfg := by
  unfold State.modChan
  split <;> exact ⟨rfl, rfl⟩

/-- A frame that holds the minislot counter of its channel changes neither the node's state nor its configuration. -/
theorem heldBy_hedge (chanB : Bool) (slot n : Nat) (stamp : Int) (s : State) :
    (s.heldBy chanB slot n stamp).hedge.hstate = s.hedge.hstate ∧ (s.heldBy chanB slot n stamp).hedge.cfg = s.hedge.cfg := by
  unfold State.heldBy
  split
  · exact ⟨rfl, rfl⟩
  · exact modChan_hedge _ _ _

section
variable {s : State} {chanB : Bool} {slot place : Nat} {e stamp : Int}
  (hchan : (if chanB then s.hedge.cfg.chanB else s.hedge.cfg.chanA) = true)
  (hstamp : (s.captureAt e : Int) * 16 / 2 ^ 32 = stamp) (hplace : s.placeOf chanB slot stamp = place)
  (hother : s.hedge.awaits chanB place = false)

section
include hchan hstamp

/-- A node that is not OFF reads a channel that its configuration enables. -/
theorem exec_hedgerowFrameReceived (rx : HedgeRx) (hon : s.hedge.hstate ≠ .off) :
    exec (.hedgerowFrameReceived chanB slot rx e) s = .next (s.hedgeFrame chanB slot rx stamp) := by
  subst hstamp
  exact congrArg Host.Outcome.next (if_neg (by simp [hon, hchan]))

end

include hchan hstamp hplace hother

/-- An undecodable frame is counted. -/
theorem exec_hedgerowFrameReceived_undecodable (hstate : s.hedge.hstate = .active ∨ s.hedge.hstate = .passive) :
    exec (.hedgerowFrameReceived chanB slot .undecodable e) s = .next (s.countHedge 1 chanB) := by
  obtain h | h := hstate <;>
  · rw [exec_hedgerowFrameReceived hchan hstamp _ (by simp [h])]
    simp [State.hedgeFrame, hplace, hother, h]

section
variable {bs : List Byte} {t : State} (hheld : s.heldBy chanB slot bs.length stamp = t)
include hheld

/-- A frame that fails a check is counted by its kind. -/
theorem exec_hedgerowFrameReceived_fault {i : Nat} (hstate : s.hedge.hstate = .active)
    (hfault : s.hedge.frameFault true place bs = some i) :
    exec (.hedgerowFrameReceived chanB slot (.frame bs) e) s = .next (t.countHedge i chanB) := by
  rw [exec_hedgerowFrameReceived hchan hstamp _ (by simp [hstate])]
  simp [State.hedgeFrame, hplace, hother, hstate, hfault, hheld]

section
variable (hstate : s.hedge.hstate = .active) (hgood : s.hedge.frameFault true place bs = none) (hsync : (readHead bs).sync = false)
include hstate hgood hsync

/-- Outside PW a frame is a violation, and its content is not used. -/
theorem exec_hedgerowFrameReceived_outside (hout : 16 * (s.hedge.cfg.pw : Int) < mag (s.frameDelta slot chanB stamp)) :
    exec (.hedgerowFrameReceived chanB slot (.frame bs) e) s = .next (t.countHedge 5 chanB) := by
  rw [exec_hedgerowFrameReceived hchan hstamp _ (by simp [hstate])]
  simp [State.hedgeFrame, hplace, hother, hstate, hgood, hsync, hheld, Int.not_le.mpr hout]

/-- Within PW it is accepted. -/
theorem exec_hedgerowFrameReceived_within (hin : mag (s.frameDelta slot chanB stamp) ≤ 16 * (s.hedge.cfg.pw : Int)) :
    exec (.hedgerowFrameReceived chanB slot (.frame bs) e) s =
      .next ((t.accepted chanB false).takeCopy chanB place (readHead bs).node (readHead bs).payload (readBody bs) stamp) := by
  rw [exec_hedgerowFrameReceived hchan hstamp _ (by simp [hstate])]
  simp [State.hedgeFrame, hplace, hother, hstate, hgood, hsync, hheld, hin]

end

/-- A node in LISTEN adopts the shelf from a heartbeat with SYNC, and takes its content. -/
theorem exec_hedgerowFrameReceived_integrates {h : Heartbeat} (hstate : s.hedge.hstate = .listen)
    (hgood : s.hedge.frameFault false place bs = none) (hsync : (readHead bs).sync = true) (hbody : readBody bs = .heartbeat h) :
    exec (.hedgerowFrameReceived chanB slot (.frame bs) e) s =
      .next (((t.integrate h (readHead bs).cycle (s.hedge.cfg.delay chanB) stamp).accepted chanB true).takeCopy chanB place
        (readHead bs).node (readHead bs).payload (.heartbeat h) stamp) := by
  obtain ⟨hkept, hcfg⟩ := heldBy_hedge chanB slot bs.length stamp s
  rw [hheld] at hkept hcfg
  rw [exec_hedgerowFrameReceived hchan hstamp _ (by simp [hstate])]
  simp [State.hedgeFrame, State.foundShelf, hplace, hother, hstate, hgood, hsync, hbody, hheld, hkept, hcfg]

end

end

/-- Settles O40: each clause is the lemma above of the slot, the notice, the frame or the check. -/
theorem hedgerowTraffic : Obligations.HedgerowTraffic := by
  unfold Obligations.HedgerowTraffic
  exact ⟨fun s slot => ⟨fun hstate howns hslot hnow hnew => ⟨exec_hedgerowSlotSend_key hstate howns hslot hnow hnew,
      exec_hedgerowSlotSend_null hstate howns hslot hnow hnew, exec_hedgerowSlotSend_commits hstate howns hslot hnow hnew⟩,
      exec_hedgerowSlotSend_silent slot, fun id mini bs x y hstate hcontrol howns hfrom huntil hx hy hfits =>
      ⟨fun n rest => exec_noticeSend_first hstate hcontrol howns hfrom huntil hx hy hfits,
        fun f => exec_noticeSend_again hstate hcontrol howns hfrom huntil hx hy hfits⟩⟩,
    fun s chanB slot place e stamp hchan hstamp hplace hother =>
      ⟨exec_hedgerowFrameReceived_undecodable hchan hstamp hplace hother, fun bs t hheld =>
      ⟨fun hstate => ⟨fun i => exec_hedgerowFrameReceived_fault hchan hstamp hplace hother hheld hstate, fun hgood hsync =>
        ⟨exec_hedgerowFrameReceived_outside hchan hstamp hplace hother hheld hstate hgood hsync,
          exec_hedgerowFrameReceived_within hchan hstamp hplace hother hheld hstate hgood hsync⟩⟩,
        fun h => exec_hedgerowFrameReceived_integrates hchan hstamp hplace hother hheld⟩⟩,
    fun h placed place bs => ⟨frameFault_length h placed place, frameFault_crc h placed place⟩⟩

end Sys2Proof.Machine
end

section
/-! PROOFS. The HEDGE and UNIT commands (14_hedgerow R417, R418, R435, R436, 15_unit_redundancy R438, R442, R447, R461, R463): what a
setting for the next common boundary leaves of the node, and a lemma for each row. -/
namespace Sys2Proof.Machine

/-! What waits for a common boundary and the node (02_network_time R63, R68). -/

theorem setSyncOut_hedge (high : Bool) (s : State) : (s.setSyncOut high).hedge = s.hedge := by
  unfold State.setSyncOut
  split <;> rfl

/-- Of the node a common boundary changes only the phase and the shift that it counts with. -/
theorem applyAtCommon_hedge (s : State) : ∃ phase shift, s.applyAtCommon.hedge = { s.hedge with phase := phase, shift := shift } := by
  have hfold : ∃ phase shift, (if s.tb.foldPending then s.foldShift else s).hedge = { s.hedge with phase := phase, shift := shift } := by
    split <;> exact ⟨_, _, rfl⟩
  unfold State.applyAtCommon
  extract_lets
  split
  · rw [setSyncOut_hedge]
    exact hfold
  · exact hfold

theorem settleCommon_hedge (s : State) : ∃ phase shift, s.settleCommon.hedge = { s.hedge with phase := phase, shift := shift } := by
  unfold State.settleCommon
  split
  · exact applyAtCommon_hedge s
  · exact ⟨_, _, rfl⟩

section
variable {s : State} {tag : Tag} {c : InFlight}

/-! The HEDGE commands. -/

theorem exec_hedgeSetConfig {cfg : HedgeCfg} (hwaits : Waits s tag 0x0B02 c) (hcfg : s.hedgeCfgOk cfg = true) :
    exec (.hedgeSetConfig tag cfg) s = { s with hedge.pend := cfg }.ok c :=
  exec_of_serve rfl hwaits (if_pos hcfg)

theorem exec_hedgeSetConfig_refused {cfg : HedgeCfg} (hwaits : Waits s tag 0x0B02 c) (hcfg : s.hedgeCfgOk cfg = false) :
    exec (.hedgeSetConfig tag cfg) s = s.no c .outOfRange :=
  exec_of_serve rfl hwaits (if_neg (by simp [hcfg]))

/-- A save waits for none that is under way (log 29). -/
theorem userSave_idle {group : Nat} {f : State → State} (hidle : s.il.saving = none) :
    s.userSave group f = ({ f s with il.saving := some group }, Reply.done) := if_neg (by simp [hidle])

theorem exec_hedgeSaveConfig (hasks : Asks s tag 0x0B04 c) (hidle : s.il.saving = none) : exec (.hedgeSaveConfig tag) s =
    { s with hedge.saved := some s.hedge.pend, il.saving := some 0x0B }.ok c :=
  exec_of_serve_asks rfl hasks (userSave_idle hidle)

/-- A node that runs starts again in LISTEN, with its channels restored. -/
theorem exec_hedgeRestart {force : Bool} (hwaits : Waits s tag 0x0B05 c) (hallowed : s.inControl = false ∨ force = true)
    (hon : s.hedge.hstate ≠ .off) : ∃ t : State, exec (.hedgeRestart tag force) s = t.ok c ∧ t.hedge.cfg = s.hedge.pend ∧
      t.hedge.hstate = .listen ∧ t.hedge.a.held = false ∧ t.hedge.b.held = false := by
  have hguard : ¬ (s.inControl && !force) = true := by obtain h | h := hallowed <;> simp [h]
  obtain ⟨tb, hlost⟩ := checkIntegrated_frame s.hedge.integrated { s with hedge := s.hedge.restart s.up }
  obtain ⟨phase, shift, hsettled⟩ := settleCommon_hedge ({ s with hedge := s.hedge.restart s.up }.checkIntegrated s.hedge.integrated)
  rw [hlost] at hsettled
  refine ⟨_, exec_of_serve rfl hwaits ((if_neg hguard).trans (if_neg hon)), ?_⟩
  rw [hlost, hsettled]
  exact ⟨rfl, rfl, rfl, rfl⟩

/-- A node in OFF stays there (R419). -/
theorem exec_hedgeRestart_off {force : Bool} (hwaits : Waits s tag 0x0B05 c) (hallowed : s.inControl = false ∨ force = true)
    (hoff : s.hedge.hstate = .off) : ∃ t : State, exec (.hedgeRestart tag force) s = t.ok c ∧ t.hedge.cfg = s.hedge.pend ∧
      t.hedge.hstate = .off ∧ t.hedge.a.held = false ∧ t.hedge.b.held = false :=
  have hguard : ¬ (s.inControl && !force) = true := by obtain h | h := hallowed <;> simp [h]
  ⟨_, exec_of_serve rfl hwaits ((if_neg hguard).trans (if_pos hoff)), rfl, hoff, rfl, rfl⟩

theorem exec_hedgeRestart_refused (hwaits : Waits s tag 0x0B05 c) (hcontrol : s.inControl = true) :
    exec (.hedgeRestart tag false) s = s.no c .notPermitted :=
  exec_of_serve rfl hwaits (if_pos (by simp [hcontrol]))

theorem exec_hedgeSetNotice {policy : Nat} (hwaits : Waits s tag 0x0B07 c) (hpolicy : policy ≤ 3) :
    exec (.hedgeSetNotice tag policy) s = { s with hedge.policy := policy }.ok c :=
  exec_of_serve rfl hwaits (if_pos hpolicy)

/-! The UNIT commands. -/

/-- A pairing keeps the mode, whatever becomes of the partner's evidence. -/
theorem paired_pair_mode (cfg : PairCfg) (u : Unit) : (u.paired cfg).pair = cfg ∧ (u.paired cfg).mode = u.mode := by
  unfold Unit.paired
  split <;> exact ⟨rfl, rfl⟩

section
variable {cfg : PairCfg} (hwaits : Waits s tag 0x0C02 c) (hpartner : cfg.partner ≤ 15) (hwaitLo : 1000 ≤ cfg.roleWaitMs)
  (hwaitHi : cfg.roleWaitMs ≤ 60000) (hholdLo : 1000 ≤ cfg.holdoffMs) (hholdHi : cfg.holdoffMs ≤ 3600000)
include hwaits hpartner hwaitLo hwaitHi hholdLo hholdHi

/-- A pairing in its ranges is stored, or refused to a unit in control without FORCE. -/
theorem exec_unitSetPair_ranged (force : Bool) : exec (.unitSetPair tag cfg force) s =
    if (s.inControl && !force) = true then s.no c .notPermitted else ({ s with unit := s.unit.paired cfg } : State).ok c := by
  refine (congrArg Host.Outcome.next (serve_any hwaits false _)).trans ?_
  simp only [Nat.not_lt.mpr hpartner, Nat.not_lt.mpr hwaitLo, Nat.not_lt.mpr hwaitHi, Nat.not_lt.mpr hholdLo, Nat.not_lt.mpr hholdHi,
    decide_false, Bool.or_self, Bool.false_eq_true, if_false]
  split <;> rfl

theorem exec_unitSetPair {force : Bool} (hallowed : s.inControl = false ∨ force = true) :
    exec (.unitSetPair tag cfg force) s = ({ s with unit := s.unit.paired cfg } : State).ok c :=
  (exec_unitSetPair_ranged hwaits hpartner hwaitLo hwaitHi hholdLo hholdHi force).trans
    (if_neg (by obtain h | h := hallowed <;> simp [h]))

theorem exec_unitSetPair_refused (hcontrol : s.inControl = true) : exec (.unitSetPair tag cfg false) s = s.no c .notPermitted :=
  (exec_unitSetPair_ranged hwaits hpartner hwaitLo hwaitHi hholdLo hholdHi false).trans (if_pos (by simp [hcontrol]))

end

theorem exec_unitDrill (hasks : Asks s tag 0x0C03 c) (hcontrol : s.inControl = true) (hready : s.unit.partnerReady = true)
    (hnone : s.unit.handbackAt = none) : exec (.unitDrill tag) s =
      .next (s.startHandback.answer c (Reply.ok [((s.startHandback.unit.handbackAt.getD 0 : Nat) : Int)])) :=
  exec_of_serve_asks rfl hasks ((if_neg (by simp [hcontrol, hready])).trans (if_neg (by simp [hnone])))

theorem exec_unitDrill_refused (hasks : Asks s tag 0x0C03 c) (hcontrol : s.inControl = false) :
    exec (.unitDrill tag) s = s.no c .notPermitted :=
  exec_of_serve_asks rfl hasks (if_pos (by simp [hcontrol]))

theorem exec_unitSaveStartupMap (clear : Bool) (hwaits : Waits s tag 0x0C04 c) (hcontrol : s.inControl = true)
    (hidle : s.il.saving = none) : exec (.unitSaveStartupMap tag clear) s = { s with
      unit.startupMap := if clear then none else some (connectionMap s.loops.elems s.fabric.failed), il.saving := some 0x0C }.ok c :=
  exec_of_serve rfl hwaits ((if_neg (by simp [hcontrol])).trans (userSave_idle hidle))

theorem exec_unitResync (hasks : Asks s tag 0x0C05 c) (hcontrol : s.inControl = false) : exec (.unitResync tag) s =
    ({ s with unit.wantBaseline := true }.emit (.mirror .baselineRequest)).ok c :=
  exec_of_serve_asks rfl hasks (if_neg (by simp [hcontrol]))

theorem exec_unitResync_refused (hasks : Asks s tag 0x0C05 c) (hcontrol : s.inControl = true) :
    exec (.unitResync tag) s = s.no c .notPermitted :=
  exec_of_serve_asks rfl hasks (if_pos hcontrol)

end

/-- Settles O39: the queries read what the state holds, and each other clause is the lemma above of its row. -/
theorem hedgeAndUnitCommands : Obligations.HedgeAndUnitCommands := by
  unfold Obligations.HedgeAndUnitCommands
  exact ⟨fun s tag c => ⟨reads_of_asks rfl rfl, fun cfg => exec_hedgeSetConfig, fun cfg => exec_hedgeSetConfig_refused,
      reads_of_asks rfl rfl, exec_hedgeSaveConfig, fun force => exec_hedgeRestart, fun force => exec_hedgeRestart_off,
      exec_hedgeRestart_refused, fun hasks => exec_of_serve_asks rfl hasks rfl, fun policy => exec_hedgeSetNotice,
      fun seq hwaits hseq => reads_of_bound rfl rfl rfl hwaits hseq⟩,
    fun s tag c => ⟨reads_of_asks rfl rfl, fun cfg force hwaits hpartner hwaitLo hwaitHi hholdLo hholdHi =>
      ⟨fun hallowed => ⟨exec_unitSetPair hwaits hpartner hwaitLo hwaitHi hholdLo hholdHi hallowed, paired_pair_mode cfg s.unit⟩,
        exec_unitSetPair_refused hwaits hpartner hwaitLo hwaitHi hholdLo hholdHi⟩,
      exec_unitDrill, exec_unitDrill_refused, fun hwaits hcontrol hidle =>
      ⟨exec_unitSaveStartupMap false hwaits hcontrol hidle, exec_unitSaveStartupMap true hwaits hcontrol hidle⟩,
      exec_unitResync, exec_unitResync_refused, reads_of_asks rfl rfl⟩⟩

end Sys2Proof.Machine
end

section
/-! PROOFS. Start-up and correction of the Hedgerow (14_hedgerow R407, R420, R421, R426-R431). -/
namespace Sys2Proof.Machine

/-! The correction (R427, R430). -/

section
variable {s : State} (hcycling : s.hedge.cycling = true) (hdone : s.hedge.midDone = true) (hnew : s.hedge.corrected = false)
  (hpast : s.pastInCycle (4 * s.hedge.cfg.ns + s.hedge.cfg.nm + 1) = true)
include hcycling hdone hnew hpast

/-- With no midpoint only the shift of the schedule cycle is taken. -/
theorem exec_hedgerowCorrection_none (hmid : s.hedge.mid = none) :
    exec .hedgerowCorrection s = .next { s with hedge.corrected := true, hedge.shift := s.nitShift } := by
  change execHedgerowCorrection s = _
  simp only [execHedgerowCorrection, hcycling, hdone, hnew, hpast, hmid, Bool.not_true, Bool.or_self, Bool.false_eq_true, if_false]

/-- With one, an ACTIVE node whose slot error is over 1,500 ns goes PASSIVE before the servo takes the midpoint. -/
theorem exec_hedgerowCorrection_some {o e : Int} {t : State} (hmid : s.hedge.mid = some o)
    (he : o + s.thetaAt (s.hedge.start16 + 64000 * s.hedge.cfg.ns) = e)
    (ht : { s with hedge.corrected := true, hedge.shift := s.nitShift, hedge.theta := -o, hedge.thetaAt := s.now, hedge.eps := e } = t) :
    exec .hedgerowCorrection s = .next ((if (s.hedge.hstate = .active && decide (mag e > 24000)) = true then t.goPassive else t).hedgeMeasure
      o s.hedge.rEst) := by
  subst ht he
  change execHedgerowCorrection s = _
  simp only [execHedgerowCorrection, hcycling, hdone, hnew, hpast, hmid, Bool.not_true, Bool.or_self, Bool.false_eq_true, if_false]

end

/-! The end of a cycle (R421, R428). -/

/-- A rate update of a node that is not ACTIVE leaves its state and its cycle, and what is not the node's. -/
theorem rateUpdate_frame {s : State} (hstate : s.hedge.hstate ≠ .active) :
    ∃ h, s.rateUpdate = { s with hedge := h } ∧ h.hstate = s.hedge.hstate ∧ h.cycle = s.hedge.cycle := by
  unfold State.rateUpdate
  dsimp only
  split
  · exact ⟨s.hedge, rfl, rfl, rfl⟩
  · rw [if_neg (by simp [hstate])]
    exact ⟨_, rfl, rfl, rfl⟩

/-- A coldstart node whose timebase has stepped becomes ACTIVE at the end of its third cycle. -/
theorem cycleState_coldstart {s : State} (hstate : s.hedge.hstate = .coldstart) (hthird : 2 ≤ s.hedge.cycle)
    (hstepped : s.tb.stepped = true) : s.cycleState = s.enterActive := by
  have htaken : s.enterActive.stepTaken = true := by
    change (s.tb.stepped || s.tb.load.isSome) = true
    rw [hstepped, Bool.true_or]
  simp only [State.cycleState, hstate, hthird, if_true, State.zeroStep, htaken]

section
variable {s : State} (hheard : s.hedge.heard = []) (halone : s.unit.pair.paired = false)
include hheard halone

/-- Alone a node misses no heartbeat. -/
theorem missedHeartbeats_alone : s.missedHeartbeats = s := by
  simp [State.missedHeartbeats, hheard, halone]

/-- The end of the third cycle of a coldstart node alone. -/
theorem exec_hedgerowCycleEnd_alone (hstate : s.hedge.hstate = .coldstart) (hthird : 2 ≤ s.hedge.cycle) (hsent : s.hedge.sent = [])
    (hstepped : s.tb.stepped = true) (hcycle : s.tb.cycleC ≠ 0)
    (hlong : 8 * ((s.hNs : Nat) : Int) ≤ s.cycleStartNow - s.hedge.start16) :
    ∃ t, exec .hedgerowCycleEnd s = .next t ∧ t.hedge.hstate = .active ∧ t.hedge.cycle = s.hedge.cycle + 1 := by
  have hunread : s.unread = s := by simp [State.unread, hsent]
  have hcycling : s.hedge.cycling = true := by simp [Hedge.cycling, hstate]
  have hout : s.hedge.integrated = false := by simp [Hedge.integrated, Hedge.integratedOn, hstate]
  obtain ⟨h, hrate, hkept, hnumber⟩ := rateUpdate_frame (s := s) (by simp [hstate])
  refine ⟨_, congrArg Host.Outcome.next (if_neg (by simp [hcycling, Int.not_lt.mpr hlong])), ?_⟩
  simp [hunread, missedHeartbeats_alone hheard halone, hrate, cycleState_coldstart, hkept, hstate, hnumber, hthird, hstepped, hout,
    State.checkIntegrated, State.enterActive, Hedge.cycling, State.nextCycle, Hedge.cleared, State.partnerCycle, hcycle, halone]

end

/-- Settles O41: start-up and the midpoint are their rows with the guards met, the correction and the end of the third cycle the lemmas
above. -/
theorem hedgerowSynchronisation : Obligations.HedgerowSynchronisation := by
  unfold Obligations.HedgerowSynchronisation
  refine fun s => ⟨fun hstate hcold hdue => ⟨_, congrArg Host.Outcome.next (if_pos (by simp [hstate, hcold, hdue])), rfl, rfl, rfl, rfl, rfl⟩,
    fun hcycling hnew hpast hfew => ⟨_, exec_hedgerowMidpoint hcycling hnew hpast hfew, rfl, rfl, rfl, rfl, rfl⟩,
    fun hcycling hdone hnew hpast => ⟨exec_hedgerowCorrection_none hcycling hdone hnew hpast, fun o e t hmid he ht => ?_⟩,
    fun hstate hthird hheard hsent halone hstepped hcycle hlong =>
      exec_hedgerowCycleEnd_alone hheard halone hstate hthird hsent hstepped hcycle hlong⟩
  rw [exec_hedgerowCorrection_some hcycling hdone hnew hpast hmid he ht]
  refine ⟨fun hsmall => ?_, fun hactive hlarge => ?_⟩
  · rw [if_neg (by obtain h | h := hsmall <;> simp [h])]
  · rw [if_pos (by simp [hactive, hlarge])]

end Sys2Proof.Machine
end

section
/-! PROOFS. The mirror link, PARTNER_ALIVE, fail-back, hand-back and epochs (15_unit_redundancy R443-R448, R453-R462): a lemma for
each row. -/
namespace Sys2Proof.Machine

section
variable {s : State}

/-! The mirror link (R443). -/

section
variable (hpaired : s.unit.pair.paired = true) (hready : s.ident.fwReady = true)
  (hawake : s.power.sleep = .none ∨ s.power.sleep = .answered)
include hpaired hready hawake

theorem exec_mlKeepaliveSend : exec .mlKeepaliveSend s = .next ({ s with unit.keepaliveAt := s.up }.emit
    (.mirror (.keepalive s.unit.mode s.inControl s.unit.ready Config.mirrorVer))) :=
  congrArg Host.Outcome.next (if_pos (by simp [hpaired, hready, hawake]))

theorem exec_mlFrameReceived (f : MlFrame) : exec (.mlFrameReceived f) s = .next (s.mlHeard.mlFrame f) :=
  congrArg Host.Outcome.next (if_pos (by simp [hpaired, hready, hawake]))

end

theorem wantsBaseline_ml (s : State) : s.wantsBaseline.unit.mlUp = s.unit.mlUp ∧ s.wantsBaseline.unit.mlAt = s.unit.mlAt := by
  unfold State.wantsBaseline
  split <;> exact ⟨rfl, rfl⟩

/-- A frame of the partner brings ML up, from this moment on. -/
theorem mlHeard_ml (s : State) : s.mlHeard.unit.mlUp = true ∧ s.mlHeard.unit.mlAt = s.up := by
  unfold State.mlHeard
  dsimp only
  split
  · exact ⟨rfl, rfl⟩
  · exact wantsBaseline_ml _

theorem exec_mlFrameReceived_unpaired (halone : s.unit.pair.paired = false) (f : MlFrame) : exec (.mlFrameReceived f) s = .next s :=
  congrArg Host.Outcome.next (if_neg (by simp [halone]))

/-- 100 µs after the last frame ML is down. -/
theorem exec_mlDownTimeout (hup : s.unit.mlUp = true) (hdue : s.unit.mlAt + 1000000 ≤ s.up) : exec .mlDownTimeout s =
    .next (if s.unit.hbCycles < 3 then { s with unit.mlUp := false, unit.partnerReady := false }.unSet 5
      else { s with unit.mlUp := false, unit.partnerReady := false }.takeover) :=
  congrArg Host.Outcome.next (if_neg (by simp [hup, hdue]))

theorem exec_mlDownTimeout_early (hearly : s.up < s.unit.mlAt + 1000000) : exec .mlDownTimeout s = .next s :=
  congrArg Host.Outcome.next (if_pos (by simp [hearly]))

/-! PARTNER_ALIVE (R453, R457). -/

/-- 3 ms without an edge are a wire fault while heartbeats of a partner in control still come, and otherwise a takeover. -/
theorem exec_partnerAliveTimeout (hmode : s.unit.mode = .standby) (hpaired : s.unit.pair.paired = true)
    (hnew : s.unit.aliveFault = false) (hdue : s.unit.aliveAt.getD s.power.releasedAt + 30000000 ≤ s.up) :
    exec .partnerAliveTimeout s =
      .next (if s.unit.ctlCycles < 3 then ({ s with unit.aliveFault := true }.unSet 8).raise 169 else s.takeover) :=
  congrArg Host.Outcome.next (if_neg (by simp [hmode, hpaired, hnew, hdue]))

/-- An edge at a unit that is not in control is noted; the hold-off starts anew where none had come. -/
theorem exec_partnerAliveEdge_out (hout : s.inControl = false) : exec .partnerAliveEdge s =
    .next { (if s.aliveOk then s else { s with unit.readySince := s.up, unit.failbackAsked := false }) with
      unit.aliveAt := some s.up, unit.aliveFault := false } :=
  congrArg Host.Outcome.next (if_neg (by simp [hout]))

/-- A unit in control demotes at an edge of a Standby that is silent elsewhere. -/
theorem exec_partnerAliveEdge_silent (hcontrol : s.inControl = true) (hpaired : s.unit.pair.paired = true)
    (hseen : s.unit.partnerSeen = true) (hpartner : s.unit.hbMode = .standby) (hmissed : 3 ≤ s.unit.hbCycles)
    (hdown : s.unit.mlUp = false) (hsilent : s.unit.frameAt + 25000000 < s.up) (hedges : s.aliveOk = true) :
    exec .partnerAliveEdge s = .next { s with unit.aliveAt := some s.up, unit.aliveFault := false }.demote := by
  refine congrArg Host.Outcome.next ((if_pos (by simp [hcontrol, hpaired, hseen, hpartner, hmissed, hdown, hsilent])).trans ?_)
  rw [if_pos hedges]

/-! Fail-back and hand-back (R459, R460). -/

theorem exec_failbackHoldoff (hmode : s.unit.mode = .standby) (hpaired : s.unit.pair.paired = true)
    (hwanted : s.unit.pair.failback = true) (hpref : s.preferred = true) (hready : s.unit.ready = true) (hedges : s.aliveOk = true)
    (hnew : s.unit.failbackAsked = false) (hdue : s.unit.readySince + 10000000 * s.unit.pair.holdoffMs ≤ s.up) :
    exec .failbackHoldoff s = .next ({ s with unit.failbackAsked := true }.emit (.mirror .failbackRequest)) :=
  congrArg Host.Outcome.next (if_pos (by simp [hmode, hpaired, hwanted, hpref, hready, hedges, hnew, hdue]))

section
variable {t : Nat} (hpending : s.unit.handbackAt = some t)
include hpending

/-- At its instant a hand-back acts on the unit in control and on its partner. -/
theorem exec_handbackInstant (hdue : t ≤ s.now) : exec .handbackInstant s = .next (if s.inControl then s.giveControl
    else if s.unit.mode = .standby then s.takeHandback t else { s with unit.handbackAt := none, unit.handback := .failed }) := by
  change execHandbackInstant s = _
  simp only [execHandbackInstant, hpending, Nat.not_lt.mpr hdue, if_false]

theorem exec_handbackInstant_early (hearly : s.now < t) : exec .handbackInstant s = .next s := by
  change execHandbackInstant s = _
  simp only [execHandbackInstant, hpending, hearly, if_true]

theorem exec_handbackInstant_control (hdue : t ≤ s.now) (hcontrol : s.inControl = true) :
    exec .handbackInstant s = .next s.giveControl := by
  rw [exec_handbackInstant hpending hdue, if_pos hcontrol]

theorem exec_handbackInstant_standby (hdue : t ≤ s.now) (hout : s.inControl = false) (hmode : s.unit.mode = .standby) :
    exec .handbackInstant s = .next (s.takeHandback t) := by
  rw [exec_handbackInstant hpending hdue, if_neg (by simp [hout]), if_pos hmode]

end

/-- A unit in control that demotes is in STANDBY. -/
theorem demote_mode (hcontrol : s.inControl = true) : s.demote.unit.mode = .standby := by
  simp [State.demote, hcontrol]

theorem giveControl_handbackAt (s : State) : s.giveControl.unit.handbackAt = none := by
  unfold State.giveControl
  split <;> rfl

/-- Control is given to a partner that is READY, over ML. -/
theorem giveControl_done (hcontrol : s.inControl = true) (hready : s.unit.partnerReady = true) (hup : s.unit.mlUp = true) :
    s.giveControl.inControl = false ∧ s.giveControl.unit.handback = .done := by
  have hmode := demote_mode (s := s.emit (.mirror (.counters s.counterValues))) hcontrol
  simp [State.giveControl, hready, hup, State.inControl, hmode]

/-- Otherwise it is kept. -/
theorem giveControl_failed (hcontrol : s.inControl = true) (hnot : s.unit.partnerReady = false ∨ s.unit.mlUp = false) :
    s.giveControl.inControl = true ∧ s.giveControl.unit.handback = .failed := by
  have hguard : ¬ (s.unit.partnerReady && s.unit.mlUp) = true := by obtain h | h := hnot <;> simp [h]
  unfold State.giveControl
  rw [if_neg hguard]
  exact ⟨hcontrol, rfl⟩

end

/-- Settles O46: at the instant the row gives control, which is done or has failed. -/
theorem handbackGivesControl : Obligations.HandbackGivesControl := by
  unfold Obligations.HandbackGivesControl
  exact fun s t hpending hdue hcontrol => ⟨_, exec_handbackInstant_control hpending hdue hcontrol, giveControl_handbackAt s,
    giveControl_done hcontrol, giveControl_failed hcontrol⟩

/-- Settles O44: each clause is the lemma above of its row. -/
theorem mirrorLinkAndPartner : Obligations.MirrorLinkAndPartner := by
  unfold Obligations.MirrorLinkAndPartner
  refine ⟨fun s => ⟨fun hpaired hready => ⟨fun hawake => ⟨exec_mlKeepaliveSend hpaired hready hawake,
      exec_mlFrameReceived hpaired hready hawake⟩, mlHeard_ml s⟩, exec_mlFrameReceived_unpaired, fun hup hdue => ?_,
      exec_mlDownTimeout_early⟩,
    fun s => ⟨fun hmode hpaired hnew hdue => ?_, fun hout => ?_, exec_partnerAliveEdge_silent, exec_failbackHoldoff,
      fun t hpending hdue => ⟨exec_handbackInstant_control hpending hdue, exec_handbackInstant_standby hpending hdue⟩,
      fun t => exec_handbackInstant_early, fun a b ha hb => by subst ha hb; rfl, fun v => rfl⟩⟩
  · rw [exec_mlDownTimeout hup hdue]
    exact ⟨fun hfew => by rw [if_pos hfew], fun hmany => by rw [if_neg (Nat.not_lt.mpr hmany)]⟩
  · rw [exec_partnerAliveTimeout hmode hpaired hnew hdue]
    exact ⟨fun hfew => by rw [if_pos hfew], fun hmany => by rw [if_neg (Nat.not_lt.mpr hmany)]⟩
  · rw [exec_partnerAliveEdge_out hout]
    exact ⟨fun hedges => by rw [if_pos hedges], fun hnone => by rw [if_neg (by simp [hnone])]⟩

/-! Epochs (R444-R446). -/

section
variable {s : State}

section
variable (hcontrol : s.inControl = true) (hopen : s.unit.epochOpen = true)
include hcontrol hopen

/-- An epoch that has ended closes, sent where the unit mirrors, and the next opens (log 31). -/
theorem exec_epochClose {n : Nat} (hn : (s.epochNow - s.unit.epoch).toNat = n) (hended : 1 ≤ n) (hnear : n < 2 ^ 31) :
    exec .epochClose s = .next ((if s.mirrors then s.sendEpoch ((s.now / 250000 + 1 - n) * 250000) else s).openEpoch
      (s.unit.epoch + 1)) := by
  subst hn
  exact congrArg Host.Outcome.next ((if_neg (by simp only [hcontrol, hopen, Nat.ne_of_gt hended, decide_false, Bool.not_true, Bool.or_self,
    Bool.false_eq_true, not_false_eq_true])).trans (if_neg (Nat.not_le.mpr hnear)))

/-- After a step of the timebase the epochs start anew. -/
theorem exec_epochClose_stepped (hfar : 2 ^ 31 ≤ (s.epochNow - s.unit.epoch).toNat) :
    exec .epochClose s = .next { s.openEpoch s.epochNow with unit.sendBaseline := true } := by
  have hended : (s.epochNow - s.unit.epoch).toNat ≠ 0 := Nat.ne_of_gt (Nat.lt_of_lt_of_le (by decide) hfar)
  exact congrArg Host.Outcome.next ((if_neg (by simp only [hcontrol, hopen, hended, decide_false, Bool.not_true, Bool.or_self,
    Bool.false_eq_true, not_false_eq_true])).trans (if_pos hfar))

end

theorem exec_commitRecordCreate {e : EpochOut} {rest : List EpochOut} (hclosed : s.unit.closed = e :: rest)
    (hcontrol : s.inControl = true) : exec .commitRecordCreate s = .next ({ s with
      unit.closed := rest, unit.committed := e.epoch, hedge.commits := s.hedge.commits ++ [e.record] }.logEpoch
        ⟨e.epoch, e.data.length, e.record.digest, .sent⟩) := by
  change execCommitRecordCreate s = _
  simp only [execCommitRecordCreate, hclosed, hcontrol, Bool.not_true, Bool.false_eq_true, if_false]

section
variable {e : EpochIn} {rest : List EpochIn} {r : CommitRec} (hheld : s.unit.held = e :: rest) (hmode : s.unit.mode = .standby)
  (hrec : (s.unit.recs.find? fun r => r.epoch = e.epoch) = some r) (hended : e.ended = true)
include hheld hmode hrec hended

/-- The Standby applies an epoch that is whole, in order and agrees with its record. -/
theorem exec_epochApply (hbytes : r.bytes = e.data.length % 2 ^ 24) (hdigest : r.digest = digest8 e.data)
    (horder : e.opens = true ∨ s.unit.applied = some (e.epoch - 1)) : exec .epochApply s = .next (s.applyEpoch e r.digest) := by
  have horder' : (e.opens || decide (s.unit.applied = some (e.epoch - 1))) = true := by obtain h | h := horder <;> simp [h]
  change execEpochApply s = _
  simp only [execEpochApply, hheld, hmode, hrec, hended, hbytes, ← hdigest, horder', ne_eq, not_true_eq_false, decide_false, Bool.or_self,
    Bool.not_true, Bool.false_eq_true, if_false, if_true]

/-- It discards one whose digest differs. -/
theorem exec_epochApply_badDigest (hdigest : r.digest ≠ digest8 e.data) :
    exec .epochApply s = .next ((s.discardEpoch e .badDigest r.digest).digestFail).checkReady := by
  change execEpochApply s = _
  simp only [execEpochApply, hheld, hmode, hrec, hended, hdigest, ne_eq, not_true_eq_false, not_false_eq_true, decide_true, Bool.or_true,
    Bool.not_true, Bool.false_eq_true, if_false, if_true]

end

end

/-- Settles O45: each clause is the lemma above of its row. -/
theorem epochEvents : Obligations.EpochEvents := by
  unfold Obligations.EpochEvents
  refine fun s => ⟨fun n hcontrol hopen hn hended hnear => ?_, exec_epochClose_stepped,
    fun e rest => exec_commitRecordCreate, fun e rest r hheld hmode hrec hended =>
    ⟨exec_epochApply hheld hmode hrec hended, exec_epochApply_badDigest hheld hmode hrec hended⟩⟩
  rw [exec_epochClose hcontrol hopen hn hended hnear]
  exact ⟨fun hnone => by rw [if_neg (by simp [hnone])], fun hmirrors => by rw [if_pos hmirrors]⟩

end Sys2Proof.Machine
end

section
/-! PROOFS. The Gleaner's evaluation, its events and registers, and the FAULT commands (16_gleaner R467-R488): a lemma for each row,
and what a lockstep failure leaves. -/
namespace Sys2Proof.Machine

section
variable {s : State} (hruns : s.gleanerRuns = true)
include hruns

/-! Evaluations (R465, R468, R469, R471). -/

section
variable (hdue : s.gl.tick < (s.up - s.power.releasedAt) / 10000)
include hdue

theorem evaluateGl_due : s.evaluateGl false = ({ s with gl.tick := s.gl.tick + 1 }.evaluationSteps).severeNotReady :=
  (if_neg (by simp [hruns, hdue])).trans (if_neg Bool.false_ne_true)

theorem evaluateGl_mismatch : s.evaluateGl true = ({ s with gl.tick := s.gl.tick + 1 }.lockstepFailure).severeNotReady :=
  (if_neg (by simp [hruns, hdue])).trans (if_pos rfl)

end

omit hruns in
/-- A microsecond has one evaluation. -/
theorem evaluateGl_early (hearly : (s.up - s.power.releasedAt) / 10000 ≤ s.gl.tick) (m : Bool) : s.evaluateGl m = s :=
  if_pos (by simp [hearly])

omit hruns in
/-- A Gleaner that has stopped evaluates nothing. -/
theorem evaluateGl_stopped (hstopped : s.gleanerRuns = false) (m : Bool) : s.evaluateGl m = s := if_pos (by simp [hstopped])

/-! Regions, clears, records and the watchdog (R472-R476, R484). -/

omit hruns in
theorem exec_regionReinitComplete {r : Nat} (hphase : mapGet .none s.gl.regionPhase r = .reinit)
    (hstarted : (s.loops.frames.any fun p => p.2 = .region r) = false) (hready : s.ident.fwReady = false) :
    exec (.regionReinitComplete r) s = .next { s.modElems (regionElements r) (fun _ x => x.reinit) with
      gl.regionPhase := mapSet .none s.gl.regionPhase r .reload } :=
  congrArg Host.Outcome.next ((if_neg (by simp only [hphase, hstarted, ne_eq, not_true_eq_false, decide_false, Bool.or_self,
    Bool.false_eq_true, not_false_eq_true])).trans (if_neg (by simp [hready])))

/-- Firmware clears a member 1 ms after its repair, where no event came since (R473). -/
theorem exec_firmwareClear {n : Nat} {r : Record} (hrecord : s.gl.record = some r) (hready : s.ident.fwReady = true) (hn : n ≠ 144)
    (hsevere : (s.src n).severe = true) (hclear : ((s.src n).running n).fwClear = true) {t : Nat} (hrepaired : (s.src n).repaired = some t)
    (hlater : t + 1000 < s.gl.tick ∨ (t + 1000 = s.gl.tick ∧ (s.src n).waiting = 0)) :
    exec (.firmwareClear n) s = .next { s with gl.clears := s.gl.clears ++ [({
      source := some n, seqLo := r.seq.toNat % 65536, by_ := 1 } : Clear)] } := by
  have hpast : (decide (t + 1000 < s.gl.tick) || (t + 1000 = s.gl.tick && (s.src n).waiting = 0)) = true := by simpa using hlater
  change execFirmwareClear n s = _
  simp only [execFirmwareClear, hrecord, hready, hruns, hn, hsevere, hclear, hrepaired, Option.any_some, hpast, ne_eq, not_false_eq_true,
    decide_true, Bool.and_self, if_true]

omit hruns in
theorem exec_recordFlashWrite {r : Record} {rest : List Record} (hpending : s.gl.logPending = r :: rest) (hready : s.ident.fwReady = true) :
    exec .recordFlashWrite s = .next { s with gl.log := (r :: s.gl.log).take 256, gl.logPending := rest } := by
  change execRecordFlashWrite s = _
  simp only [execRecordFlashWrite, hpending, hready, if_true]

theorem exec_watchdogExpiry (hon : s.gl.wdRun = true) (hdue : s.gl.wdLast + 10000000 * s.gl.wdPeriodMs ≤ s.up) :
    exec .watchdogExpiry s = .next ({ s with gl.wdLast := s.up }.raise 144) :=
  congrArg Host.Outcome.next (if_pos (by simp [hon, hruns, hdue]))

/-! The comparator and ALIVE (R478, R479). -/

/-- A self-test that the comparator does not flag is an event. -/
theorem exec_comparatorSelfTest (flagged : Bool) (hdue : s.gl.testTick / 10000 < s.gl.tick / 10000) :
    exec (.comparatorSelfTest flagged) s = .next (if flagged then { s with gl.testTick := s.gl.tick }
      else ({ s with gl.testTick := s.gl.tick, gl.compFail := true }.glSet 5).raise 145) :=
  congrArg Host.Outcome.next (if_neg (by simp only [hruns, Nat.not_le.mpr hdue, decide_false, Bool.not_true, Bool.or_self,
    Bool.false_eq_true, not_false_eq_true]))

theorem exec_aliveEdge (hwave : s.alive = 0) (hmultiple : s.gl.tick % 500 = 0) (hnew : s.gl.edgeTick ≠ s.gl.tick) :
    exec .aliveEdge s = .next { s.setAlive (s.gl.aliveResume || !s.gl.aliveHigh) with
      gl.aliveResume := false, gl.edgeTick := s.gl.tick } :=
  congrArg Host.Outcome.next (if_pos (by simp [hruns, hwave, hmultiple, hnew]))

/-! Injection (R481). -/

/-- An event of an injection that is not its last. -/
theorem exec_faultInjectEvent {i : Injection} (hinj : s.gl.inj = some i) (hdue : i.nextTick ≤ s.gl.tick) (hmore : 1 < i.left) :
    exec .faultInjectEvent s = .next { s.injectOne i.source with
      gl.inj := some { i with left := i.left - 1, nextTick := i.nextTick + i.intervalUs } } := by
  change execFaultInjectEvent s = _
  simp only [execFaultInjectEvent, hinj, hruns, Nat.not_lt.mpr hdue, Nat.not_le.mpr hmore, decide_false, Bool.not_true, Bool.or_self,
    Bool.false_eq_true, if_false]

/-! GL_CLEAR (R472). -/

theorem exec_glClearSource {v : Word} (hone : bit v 8 = false) (hsource : fld v 7 0 < 192) :
    exec (.glClearSource v) s = .next { s with gl.clears := s.gl.clears ++ [({
      source := some (fld v 7 0), seqLo := fld v 31 16, by_ := 2 } : Clear)] } := by
  change Host.Outcome.next (s.glClear v) = _
  simp only [State.glClear, hruns, hone, Nat.not_le.mpr hsource, decide_false, Bool.not_true, Bool.and_false, Bool.or_self,
    Bool.false_eq_true, if_false]

omit hruns in
/-- The ALL bit is not part of the SEQ field. -/
theorem fld_seq_or_all (v : Word) : fld (v ||| 0x100#32) 31 16 = fld v 31 16 := by
  simp [fld, Nat.shiftRight_or_distrib]

omit hruns in
theorem bit_or_all (v : Word) : bit (v ||| 0x100#32) 8 = true := by
  simp [bit, fld, Nat.shiftRight_or_distrib, Nat.or_mod_two_eq_one]

theorem exec_glClearAll (v : Word) : exec (.glClearAll v) s = .next { s with gl.clears := s.gl.clears ++ [({
    source := none, seqLo := fld v 31 16, by_ := 2 } : Clear)] } := by
  change Host.Outcome.next (s.glClear (v ||| 0x100#32)) = _
  simp only [State.glClear, hruns, bit_or_all, fld_seq_or_all, Bool.not_true, Bool.false_and, Bool.or_self, Bool.false_eq_true, if_false,
    if_true]

end

/-! A lockstep failure (R477). -/

theorem retain_gl (s : State) : s.retain.gl = s.gl := by
  unfold State.retain
  split <;> rfl

theorem severeNotReady_frame (s : State) : ∃ ready, s.severeNotReady = { s with unit.ready := ready } := by
  unfold State.severeNotReady
  split <;> exact ⟨_, rfl⟩

theorem lockstepFailure_gl (s : State) : s.lockstepFailure.gl = { s.gl with
    lockstep := true, wdRun := false, clears := [], record := s.gl.record.map (Record.flagged 8#8) } := retain_gl _

/-- The lockstep bit of HOLD_CAUSE sets. -/
theorem lockstepFailure_cause (s : State) : s.lockstepFailure.power.ret.cause.getLsbD 6 = true := by
  simp [State.lockstepFailure, State.atFrame]

/-- Settles O48: a failure sets `lockstep`, without which no Gleaner runs, and one that does not run evaluates nothing. -/
theorem lockstepFailureStops : Obligations.LockstepFailureStops := by
  unfold Obligations.LockstepFailureStops
  intro s hruns hdue
  obtain ⟨ready, hready⟩ := severeNotReady_frame { s with gl.tick := s.gl.tick + 1 }.lockstepFailure
  have hgl := lockstepFailure_gl { s with gl.tick := s.gl.tick + 1 }
  have hstopped : ({ { s with gl.tick := s.gl.tick + 1 }.lockstepFailure with unit.ready := ready } : State).gleanerRuns = false := by
    simp only [State.gleanerRuns, hgl, Bool.not_true, Bool.false_and]
  refine ⟨_, congrArg Host.Outcome.next ((evaluateGl_mismatch hruns hdue).trans hready), ?_, ?_, hstopped, ?_, lockstepFailure_cause _,
    fun m => congrArg Host.Outcome.next (evaluateGl_stopped hstopped m)⟩
  all_goals simp only [hgl]

/-! The FAULT commands (R487). -/

section
variable {s : State} {tag : Tag} {c : InFlight}

theorem exec_faultSetSource {first : Nat} {ps : List SrcParams} (hwaits : Waits s tag 0x0D03 c)
    (hrange : sourcesOk first ps.length = true) (hparams : ∀ q ∈ ps.zipIdx, s.paramsRefused (first + q.2) q.1 = none) :
    exec (.faultSetSource tag first ps) s =
      (ps.zipIdx.foldl (fun t q => t.modSrc (first + q.2) fun x => { x with params := some q.1 }) s).ok c := by
  have hnone : (ps.zipIdx.findSome? fun q => (s.paramsRefused (first + q.2) q.1).map fun st => (st, q.2)) = none :=
    List.findSome?_eq_none_iff.mpr fun q hq => by rw [hparams q hq, Option.map_none]
  refine exec_of_serve rfl hwaits ((if_neg (by simp [hrange])).trans ?_)
  dsimp only
  rw [hnone]
  rfl

/-- A clear with the open record's SEQ is taken. -/
theorem exec_faultClear {r : Record} {n : Nat} (hwaits : Waits s tag 0x0D04 c) (hlockstep : s.gl.lockstep = false) (hn : n < 192)
    (hrecord : s.gl.record = some r) : exec (.faultClear tag (some n) r.seq) s = { s with gl.clears := s.gl.clears ++ [({
      source := some n, seqLo := r.seq.toNat % 65536, by_ := 3 } : Clear)] }.ok c :=
  exec_of_serve rfl hwaits ((if_neg (by simp [hlockstep])).trans ((if_neg (by simp [hn])).trans (if_neg (by simp [hrecord]))))

theorem exec_faultSaveConfig (hasks : Asks s tag 0x0D06 c) (hidle : s.il.saving = none) : exec (.faultSaveConfig tag) s = { s with
    gl.saved := s.gl.srcs.filterMap fun (p : Nat × Src) => p.2.params.map fun x => (p.1, x), il.saving := some 0x0D }.ok c :=
  exec_of_serve_asks rfl hasks (userSave_idle hidle)

theorem exec_faultRaise (hasks : Asks s tag 0x0D08 c) (hlockstep : s.gl.lockstep = false) :
    exec (.faultRaise tag) s = (s.raise 191).ok c :=
  exec_of_serve_asks rfl hasks (if_neg (by simp [hlockstep]))

section
variable (hwaits : Waits s tag 0x0D09 c) (hmode : s.unit.mode = .factoryTest) (hlockstep : s.gl.lockstep = false)
include hwaits hmode hlockstep

theorem exec_faultInject_start {n k us : Nat} (hn : n < 192) (hlocked : n ≠ 146) (hk : 1 ≤ k) (hkMax : k ≤ 255) (hus : 1 ≤ us)
    (husMax : us ≤ 1000) (hidle : s.gl.inj = none) : exec (.faultInject tag (.start n k us)) s =
      { s with gl.inj := some { source := n, left := k, intervalUs := us, nextTick := s.gl.tick } }.ok c :=
  exec_of_serve rfl hwaits ((if_neg (by simp [hmode, hlockstep])).trans ((if_neg (by simp; omega)).trans (if_neg (by simp [hidle]))))

theorem exec_faultInject_resetShadow :
    exec (.faultInject tag .resetShadow) s = { s with gl.shadow := [], gl.shRecord := none, gl.injMasked := 0 }.ok c :=
  exec_of_serve rfl hwaits (if_neg (by simp [hmode, hlockstep]))

end

end

/-- Settles O47: an evaluation is `evaluateGl`, and each other clause is the lemma above of its row. -/
theorem gleanerAndFaultCommands : Obligations.GleanerAndFaultCommands := by
  unfold Obligations.GleanerAndFaultCommands
  refine ⟨fun s hruns => ⟨fun hdue => ⟨congrArg Host.Outcome.next (evaluateGl_due hruns hdue),
      congrArg Host.Outcome.next (evaluateGl_mismatch hruns hdue)⟩,
      fun hearly m => congrArg Host.Outcome.next (evaluateGl_early hearly m),
      fun n hsevere hcounts hends => congrArg Host.Outcome.next (if_pos (by simp [hsevere, hcounts, hends])),
      fun n hbefore hafter => congrArg Host.Outcome.next (if_pos (by simp [hbefore, hafter])),
      fun n d hsevere hdeadline hends => congrArg Host.Outcome.next (if_pos (by simp [hsevere, hdeadline, hends])),
      fun r => exec_regionReinitComplete, fun n r hrecord hready hn hsevere hclear t hrepaired =>
      exec_firmwareClear hruns hrecord hready hn hsevere hclear hrepaired, fun r rest => exec_recordFlashWrite, exec_watchdogExpiry hruns,
      fun hdue => ⟨exec_comparatorSelfTest hruns true hdue, exec_comparatorSelfTest hruns false hdue⟩, exec_aliveEdge hruns,
      fun i => exec_faultInjectEvent hruns⟩,
    fun s => ⟨fun v hruns => exec_glClearSource hruns, fun v hruns => ⟨_, exec_glClearAll hruns v, rfl, rfl, rfl⟩, rfl, fun v => rfl⟩,
    fun s tag c => ⟨fun first ps => exec_faultSetSource, fun r n => exec_faultClear, exec_faultSaveConfig, exec_faultRaise,
      fun n k us hwaits hmode hlockstep => exec_faultInject_start hwaits hmode hlockstep, exec_faultInject_resetShadow⟩⟩

end Sys2Proof.Machine
end

section
/-! PROOFS. The TRUST commands (18_trust R508-R524, 17_power_reset R503): the fuses, the verification of an image, attestation, and
what a life-cycle transition leaves. -/
namespace Sys2Proof.Machine

/-! Images (R510-R513). -/

/-- An image below MIN_SVN fails some stage, and the rollback stage only where every other one passes. -/
theorem failing_of_svn_lt {t : Trust} {img : List Byte} (h : imageSvn img < t.minSvn) :
    t.failing img ≠ 0 ∧ (t.failing img = 8 ∨ ∃ p ∈ t.stages img, p.1 ≠ 8 ∧ p.2 = false) := by
  have hrollback : (8, false) ∈ t.stages img := by simp [Trust.stages, h]
  obtain ⟨p, hfind⟩ : ∃ p, (t.stages img).find? (fun p => !p.2) = some p :=
    Option.isSome_iff_exists.mp (List.find?_isSome.mpr ⟨_, hrollback, rfl⟩)
  have hmem := List.mem_of_find?_eq_some hfind
  have hfails : p.2 = false := by simpa using List.find?_some hfind
  have hcode : p.1 ∈ [1, 2, 3, 4, 5, 6, 7, 8] := List.mem_map_of_mem (f := Prod.fst) hmem
  have hfailing : t.failing img = p.1 := by simp only [Trust.failing, hfind]
  rw [hfailing]
  exact ⟨fun hzero => absurd (hzero ▸ hcode) (by decide), or_iff_not_imp_left.mpr fun hother => ⟨p, hmem, hother, hfails⟩⟩

/-- The boot ROM runs no slot whose image fails its verification. -/
theorem failing_of_bootSlot {s : State} (h : s.bootSlot.trust.loaded = true) :
    s.trust.failing (s.slotBytes s.bootSlot.trust.runSlot) = 0 := by
  simp only [State.bootSlot, Bool.or_eq_true, decide_eq_true_eq] at h ⊢
  by_cases hfirst : s.trust.failing (s.slotBytes s.trust.boot.started.slot) = 0
  · simp [hfirst]
  · simpa [hfirst] using h

/-- The seed that the ROM draws is no part of an image, nor of MIN_SVN. -/
theorem seeded_images (s : State) : s.seeded.trust.minSvn = s.trust.minSvn ∧ ∀ slot, s.seeded.slotBytes slot = s.slotBytes slot := by
  unfold State.seeded
  split <;> exact ⟨rfl, fun _ => rfl⟩

theorem bootRom_not_below_minSvn {s : State} {slot : Bool} (hbelow : imageSvn (s.slotBytes slot) < s.trust.minSvn) :
    ¬ (s.bootRom.trust.loaded = true ∧ s.bootRom.trust.runSlot = slot) := by
  rintro ⟨hloaded, rfl⟩
  obtain ⟨hmin, hbytes⟩ := seeded_images s
  rw [← hmin, ← hbytes] at hbelow
  exact (failing_of_svn_lt hbelow).1 (failing_of_bootSlot hloaded)

section
variable {s : State} {tag : Tag} {c : InFlight}

/-! Fuses (R513, R514, R522). -/

theorem exec_trustAdvanceSvn (hasks : Asks s tag 0x0F04 c) (hconfirmed : s.trust.confirmed = true) : exec (.trustAdvanceSvn tag) s =
    { s with trust.minSvn := max s.trust.minSvn (min 127 (imageSvn s.runningImage)) }.ok c :=
  exec_of_serve_asks rfl hasks (if_neg (by simp [hconfirmed]))

theorem exec_trustAdvanceSvn_refused (hasks : Asks s tag 0x0F04 c) (htrial : s.trust.confirmed = false) :
    exec (.trustAdvanceSvn tag) s = s.no c .notPermitted :=
  exec_of_serve_asks rfl hasks (if_pos (by simp [htrial]))

/-- MIN_SVN at the running image's SVN or higher stays. -/
theorem exec_trustAdvanceSvn_same (hasks : Asks s tag 0x0F04 c) (hconfirmed : s.trust.confirmed = true)
    (hsvn : imageSvn s.runningImage ≤ s.trust.minSvn) : exec (.trustAdvanceSvn tag) s = s.ok c := by
  rw [exec_trustAdvanceSvn hasks hconfirmed, Nat.max_eq_left (by omega)]

theorem exec_trustAdvanceSvn_blows (hasks : Asks s tag 0x0F04 c) (hconfirmed : s.trust.confirmed = true)
    (hsvn : s.trust.minSvn < imageSvn s.runningImage) (hmax : imageSvn s.runningImage ≤ 127) :
    exec (.trustAdvanceSvn tag) s = { s with trust.minSvn := imageSvn s.runningImage }.ok c := by
  rw [exec_trustAdvanceSvn hasks hconfirmed, Nat.min_eq_right hmax, Nat.max_eq_right hsvn.le]

/-- Settles O53: the row's three cases, and the verification of an image below MIN_SVN. -/
theorem advanceSvnBlowsMinSvn : Obligations.AdvanceSvnBlowsMinSvn := by
  unfold Obligations.AdvanceSvnBlowsMinSvn
  exact fun s tag c hasks => ⟨exec_trustAdvanceSvn_refused hasks, exec_trustAdvanceSvn_same hasks, exec_trustAdvanceSvn_blows hasks,
    fun img => failing_of_svn_lt, fun t slot => bootRom_not_below_minSvn⟩

section
variable {k : Nat} {rec_ : Option SignedRecord} (hwaits : Waits s tag 0x0F05 c) (hk : k ≤ 3)
include hwaits hk

theorem exec_trustRevokeKey_axaro (hrecord : s.revocationOk true k rec_ = true) : exec (.trustRevokeKey tag true k rec_) s =
    { s with trust.arevoke := s.trust.arevoke ||| BitVec.ofNat 4 (2 ^ k) }.ok c :=
  exec_of_serve rfl hwaits ((if_neg (Nat.not_lt.mpr hk)).trans ((if_neg (by simp [hrecord])).trans (if_pos rfl)))

/-- A Claord slot is revoked where the record verifies, no image is signed with it and another slot is left. -/
theorem exec_trustRevokeKey_claord : exec (.trustRevokeKey tag false k rec_) s =
    if s.revocationOk false k rec_ = false then s.no c .signature 4
    else if s.signedImage k = true then s.no c .inUse
    else if (([0, 1, 2, 3] : List Nat).any fun j => j ≠ k && s.trust.claordOk j) then
      { s with trust.crevoke := s.trust.crevoke ||| BitVec.ofNat 4 (2 ^ k) }.ok c
    else s.no c .notPermitted := by
  refine (congrArg Host.Outcome.next (serve_any hwaits false _)).trans ?_
  simp only [Nat.not_lt.mpr hk, if_false]
  generalize ([0, 1, 2, 3] : List Nat).any (fun j => j ≠ k && s.trust.claordOk j) = other
  cases s.revocationOk false k rec_ with
  | false => rfl
  | true =>
    cases s.signedImage k with
    | true => rfl
    | false => cases other <;> rfl

end

section
variable {k : Nat} (key : BitVec 256) (hwaits : Waits s tag 0x0F06 c) (hk : k ≤ 3) (hlc : s.trust.lc ≤ 1)
include hwaits hk hlc

theorem exec_trustSetAxaroKey (hempty : mapGet 0 s.trust.akey k = 0) : exec (.trustSetAxaroKey tag k key) s =
    { s with trust.akey := mapSet 0 s.trust.akey k key }.ok c :=
  exec_of_serve rfl hwaits ((if_neg (Nat.not_lt.mpr hk)).trans ((if_neg (Nat.not_lt.mpr hlc)).trans (if_neg (not_not.mpr hempty))))

theorem exec_trustSetAxaroKey_written (hwritten : mapGet 0 s.trust.akey k ≠ 0) :
    exec (.trustSetAxaroKey tag k key) s = s.no c .inUse :=
  exec_of_serve rfl hwaits ((if_neg (Nat.not_lt.mpr hk)).trans ((if_neg (Nat.not_lt.mpr hlc)).trans (if_pos hwritten)))

end

theorem exec_trustSetPolicy (hasks : Asks s tag 0x0F07 c) (hlc : s.trust.lc ≤ 1) :
    exec (.trustSetPolicy tag) s = { s with trust.policySigned := true }.ok c :=
  exec_of_serve_asks rfl hasks (if_neg (Nat.not_lt.mpr hlc))

theorem exec_trustSetPolicy_refused (hasks : Asks s tag 0x0F07 c) (hlc : 1 < s.trust.lc) :
    exec (.trustSetPolicy tag) s = s.no c .notPermitted :=
  exec_of_serve_asks rfl hasks (if_pos hlc)

/-! Attestation (R516). -/

theorem exec_trustAttest {nonce : BitVec 256} (hwaits : Waits s tag 0x0F03 c) (hlen : c.len = 32) (hlc : s.trust.lc ≠ 3)
    (hmode : s.unit.mode ≠ .boot) (hnew : s.attesting tag = false) :
    exec (.trustAttest tag nonce) s = .next (s.atFrame (.attest tag nonce)) := by
  unfold Waits at hwaits
  change execTrustAttest tag nonce s = _
  simp only [execTrustAttest, hwaits, hlen, hlc, hmode, hnew, ne_eq, not_true_eq_false, decide_false, Bool.or_self, Bool.false_eq_true,
    if_false]

/-- At the frame start the record is captured, signed and answered, where no sheaf has still to act. -/
theorem frameAct_attest {nonce : BitVec 256} (hfind : (s.il.inflight.find? fun x => x.tag = tag && !x.answered) = some c)
    (hacted : ∀ x ∈ s.sheaves.store, x.phase = .committed → s.now / 1000 * 1000 < x.instant) :
    s.frameAct (.attest tag nonce) = s.answer c (Reply.bytes (s.attested nonce)) := by
  refine (if_neg ?_).trans ?_
  · simpa using hacted
  · simp only [State.answerTag, hfind]

end

/-- Settles O52: the queries read what the state holds, and each other clause is the lemma above of its row. -/
theorem trustCommandsTakeEffect : Obligations.TrustCommandsTakeEffect := by
  unfold Obligations.TrustCommandsTakeEffect
  exact fun s tag c => ⟨reads_of_asks rfl rfl, fun hasks => exec_of_serve_asks rfl hasks rfl, fun nonce => exec_trustAttest,
    fun nonce => frameAct_attest, exec_trustAdvanceSvn, exec_trustAdvanceSvn_refused, fun k rec_ => exec_trustRevokeKey_axaro,
    fun k rec_ => exec_trustRevokeKey_claord, fun k key => exec_trustSetAxaroKey key, fun k key => exec_trustSetAxaroKey_written key,
    exec_trustSetPolicy, exec_trustSetPolicy_refused, fun hasks => exec_of_serve_asks rfl hasks rfl⟩

/-! The life cycle (R503, R520, R523). -/

/-- What flash and fuses hold of the trust block and of the saved settings. -/
def State.lasting (s : State) : Trust × Option HedgeCfg × SMap SrcParams × Option (List (Option Nat)) :=
  (s.trust, s.hedge.saved, s.gl.saved, s.unit.startupMap)

theorem setSyncOut_lasting (high : Bool) (s : State) : (s.setSyncOut high).lasting = s.lasting := by
  unfold State.setSyncOut
  split <;> rfl

theorem setAlive_lasting (high : Bool) (s : State) : (s.setAlive high).lasting = s.lasting := by
  unfold State.setAlive
  split <;> rfl

theorem setLsel_lasting (k v : Nat) (s : State) : (s.setLsel k v).lasting = s.lasting := by
  unfold State.setLsel
  split <;> rfl

theorem clearLsel_lasting (s : State) : s.clearLsel.lasting = s.lasting := by
  unfold State.clearLsel
  dsimp only
  repeat' split
  all_goals simp only [setLsel_lasting]

theorem retain_lasting (s : State) : s.retain.lasting = s.lasting := by
  unfold State.retain
  split <;> rfl

theorem recordReset_lasting (s : State) : s.recordReset.lasting = s.lasting := by
  unfold State.recordReset
  split
  · rfl
  · exact retain_lasting _

/-- A class P or H reset wipes the nonce and the loaded image, and nothing that lasts. -/
theorem classReset_lasting {s : State} (p : Bool) (cause : Nat) (h : s.inReset = false) : (s.classReset p cause).lasting =
    ({ s.trust with nonce := none, loaded := false }, s.hedge.saved, s.gl.saved, s.unit.startupMap) := by
  have hkept : (((s.setSyncOut false).setAlive false).clearLsel.recordReset).lasting = s.lasting := by
    rw [recordReset_lasting, clearLsel_lasting, setAlive_lasting, setSyncOut_lasting]
  obtain ⟨htrust, hrest⟩ := Prod.mk.inj hkept
  unfold State.classReset
  rw [h, ← htrust]
  exact Prod.ext rfl hrest

/-- What the reset of a transition starts from (R503): every element parked, the fuses blown, the user-configuration area erased. -/
def State.transitioned (s : State) : State := { s with
  loops.elems := mapListed Elem.park (fun _ x => x.parked s.now) s.loops.elems
  trust.lc := s.trust.lc + 1, trust.idSeed := if s.trust.lc = 2 then BitVec.allOnes 256 else s.trust.idSeed, trust.nonce := none
  hedge.saved := none, gl.saved := [], unit.pair := PairCfg.dflt, unit.startupMap := none }

/-- A transition is a class H reset of that state, which leaves the fabric dark. -/
theorem advanceLifecycle_eq (s : State) : s.advanceLifecycle = { s.transitioned.classReset false 7 with
    loops := {}, fabric := { failed := (s.transitioned.classReset false 7).fabric.failed }, power.dark := true } := rfl

section
variable {s : State} {tag : Tag} {c : InFlight} {target : Nat} {rec_ : Option SignedRecord}

/-- A transition raises LC_FUSE, destroys ID_SEED on the way to RETURNED, and erases the saved settings. -/
theorem advanceLifecycle_lasting (h : s.inReset = false) : s.advanceLifecycle.lasting = ({ s.trust with
    lc := s.trust.lc + 1, idSeed := if s.trust.lc = 2 then BitVec.allOnes 256 else s.trust.idSeed, nonce := none
    loaded := false }, none, [], none) := by
  rw [advanceLifecycle_eq]
  exact classReset_lasting (s := s.transitioned) false 7 h

theorem advanceLifecycle_commands (h : s.inReset = false) : s.advanceLifecycle.il.inflight = [] := by
  rw [advanceLifecycle_eq]
  exact (classReset_awaits (s := s.transitioned) 7 h).commands

theorem exec_trustSetLifecycle (hwaits : Waits s tag 0x0F09 c) (hopen : s.lifecycleOpen target = true)
    (hupdate : s.il.fw.open_ = false) (hidle : s.il.saving = none) (hcal : s.cal.saving = false)
    (hreturn : target = 3 → s.returnOk rec_ = true) : exec (.trustSetLifecycle tag target rec_) s = s.advanceLifecycle.ok c :=
  exec_of_serve rfl hwaits ((if_neg (by simp [hopen])).trans ((if_neg (by simp [hupdate, hidle, hcal])).trans
    (if_neg (by simpa using hreturn))))

/-- A target that is not the next state, a unit in control and state RETURNED close the transition. -/
theorem lifecycleOpen_closed (h : target ≠ s.trust.lc + 1 ∨ s.inControl = true ∨ 3 ≤ s.trust.lc) : s.lifecycleOpen target = false := by
  obtain h | h | h := h
  · simp [State.lifecycleOpen, h]
  · simp [State.lifecycleOpen, h]
  · simp [State.lifecycleOpen, Nat.not_lt.mpr h]

theorem exec_trustSetLifecycle_refused (hwaits : Waits s tag 0x0F09 c) (hclosed : s.lifecycleOpen target = false) :
    exec (.trustSetLifecycle tag target rec_) s = s.no c .notPermitted :=
  exec_of_serve rfl hwaits (if_pos (by simp [hclosed]))

theorem exec_trustFactoryTest (hasks : Asks s tag 0x0F0A c) (hout : s.inControl = false) (hlc : s.trust.lc = 0 ∨ s.trust.lc = 3) :
    exec (.trustFactoryTest tag) s = ({ s with trust.factoryRequest := some s.trust.lc }.classReset false 7).ok c :=
  exec_of_serve_asks rfl hasks (if_neg (by obtain h | h := hlc <;> simp [hout, h]))

end

/-- Settles O54: the transition is `advanceLifecycle`, whose reset keeps what lasts and ends every command. -/
theorem lifecycleAdvances : Obligations.LifecycleAdvances := by
  unfold Obligations.LifecycleAdvances
  refine fun s tag c target rec_ => ⟨fun hwaits hreset hopen hupdate hidle hcal hreturn => ?_,
    fun hwaits hclosed => exec_trustSetLifecycle_refused hwaits (lifecycleOpen_closed hclosed), exec_trustFactoryTest⟩
  have hlasting := advanceLifecycle_lasting hreset
  simp only [State.lasting, Prod.mk.injEq] at hlasting
  obtain ⟨htrust, hhedge, hgl, hunit⟩ := hlasting
  refine ⟨_, exec_trustSetLifecycle hwaits hopen hupdate hidle hcal hreturn, ?_, hhedge, hgl, hunit, advanceLifecycle_commands hreset,
    fun hlc => ?_⟩
  · rw [htrust]
  · simp only [htrust, hlc, if_true]

end Sys2Proof.Machine
end

section
/-! PROOFS. The TAP, register writes, memory errors, links and clocks (19_package_electrical R538, R546, 12_host_queues R347, R348,
01_architecture R23, 16_gleaner R466). -/
namespace Sys2Proof.Machine

section
variable {s : State}

/-! The TAP (R546). -/

section
variable (hopen : s.tapOpen = true)
include hopen

theorem exec_tapExtest_open : exec .tapExtest s = .next { s with tap := { s.tap with
    ir := .extest, driving := some s.tap.cells, highZ := false } } :=
  congrArg Host.Outcome.next (if_pos hopen)

theorem exec_tapClamp_open : exec .tapClamp s = .next { s with tap := { s.tap with
    ir := .clamp, driving := some s.tap.cells, highZ := false } } :=
  congrArg Host.Outcome.next (if_pos hopen)

theorem exec_tapHighz_open : exec .tapHighz s = .next { s with tap := { s.tap with
    ir := .highz, driving := none, highZ := true } } :=
  congrArg Host.Outcome.next (if_pos hopen)

end

/-- Where the device is closed to them they are BYPASS. -/
theorem exec_tap_closed (hclosed : s.tapOpen = false) {i : Instr} (hi : i ∈ [Instr.tapExtest, .tapClamp, .tapHighz]) :
    exec i s = .next { s with tap := { s.tap with ir := .bypass, driving := none, highZ := false } } := by
  have hguard : ¬ s.tapOpen = true := by simp [hclosed]
  simp only [List.mem_cons, List.not_mem_nil, or_false] at hi
  obtain rfl | rfl | rfl := hi
  all_goals exact congrArg Host.Outcome.next (if_neg hguard)

/-! Writes of configuration registers (R347, R348). -/

section
variable {off : Nat} {v : Word} (hbar : s.barOpen = true) (halign : off % 4 = 0)
include hbar halign

/-- A submission queue's registers take a write while it is DISABLED. -/
theorem exec_registerWrite_queue {q : QId} {o : Nat} (hic : off < 0x4000 ∨ 0x5000 ≤ off) (hcq : off < 0xA000 ∨ 0xB000 ≤ off)
    (hqueue : queueAt off = some (q, o)) (hdisabled : (s.sub q.key).state = .disabled) :
    exec (.registerWrite off v) s = .next (s.modSub q.key (SubQ.configure q.kind o v)) := by
  have hic' : (decide (0x4000 ≤ off) && decide (off < 0x5000)) = false := by obtain h | h := hic <;> simp <;> omega
  have hcq' : (decide (0xA000 ≤ off) && decide (off < 0xB000)) = false := by obtain h | h := hcq <;> simp <;> omega
  change execRegisterWrite off v s = _
  simp only [execRegisterWrite, halign, hbar, hic', hcq', hqueue, hdisabled, ne_eq, not_true_eq_false, decide_false, Bool.not_true,
    Bool.or_self, Bool.false_eq_true, if_false, if_true]

theorem exec_registerWrite_completion (hlo : 0xA000 ≤ off) (hhi : off < 0xB000)
    (hdisabled : (s.cqn ((off - 0xA000) / 64)).enable = false) :
    exec (.registerWrite off v) s = .next (s.modCq ((off - 0xA000) / 64) (ComplQ.configure (off % 64) v)) := by
  refine congrArg Host.Outcome.next ((if_neg (by simp [halign, hbar])).trans ((if_neg ?_).trans ((if_pos ?_).trans
    (if_neg (by simp [hdisabled])))))
  · simp only [Bool.and_eq_true, decide_eq_true_eq]
    omega
  · simp only [hlo, hhi, decide_true, Bool.and_self]

theorem exec_registerWrite_moderation (hlo : 0x4000 ≤ off) (hhi : off < 0x5000) :
    exec (.registerWrite off v) s = .next (s.writeIc (off - 0x4000) v) :=
  congrArg Host.Outcome.next ((if_neg (by simp [halign, hbar])).trans (if_pos (by simp [hlo, hhi])))

end

/-! Memory errors, links and clocks (R23, R466, R538). -/

section
variable (hup : s.functionUp = true)
include hup

theorem exec_memoryError {e : MemErr} (hplaced : e.placed = true) : exec (.memoryError e) s = .next (s.memoryError e) :=
  congrArg Host.Outcome.next (if_pos (by simp [hplaced, hup]))

theorem exec_memoryError_blockUncorrectable {e : Nat} (he : e < numElements) : exec (.memoryError (.blockUncorrectable e)) s =
    .next (((s.holdBlock [e]).raiseBlock e 1).partEvent (.block (regionOf e) (blockOf e))) :=
  exec_memoryError hup (decide_eq_true he)

/-- A link that is lost keeps its last width and speed. -/
theorem exec_pcieLinkChange_down (n v : Nat) :
    exec (.pcieLinkChange false n v) s = .next ({ s with host.linkUp := false }.raise 188) :=
  congrArg Host.Outcome.next (if_neg (by simp [hup]))

theorem exec_mlLaneLossOfLock : exec .mlLaneLossOfLock s = .next (s.raise 189) := congrArg Host.Outcome.next (if_pos hup)

theorem exec_pllLossOfLock : exec .pllLossOfLock s = .next (s.raise 190) := congrArg Host.Outcome.next (if_pos hup)

end

section
variable (hphase : s.power.phase = .wiping ∨ s.functionUp = true)
include hphase

/-- A Granary channel trains once in a period; a failure raises the channel's source. -/
theorem exec_granaryRetrain_a (ok : Bool) (hdue : s.periodDue s.power.retrainA 100000000 = true) :
    exec (.granaryRetrain false ok) s =
      .next (if ok then { s with power.retrainA := some s.up } else { s with power.retrainA := some s.up }.raise 170) :=
  congrArg Host.Outcome.next (if_neg (by simpa [hdue, or_iff_not_imp_left] using hphase))

theorem exec_granaryRetrain_b (ok : Bool) (hdue : s.periodDue s.power.retrainB 100000000 = true) :
    exec (.granaryRetrain true ok) s =
      .next (if ok then { s with power.retrainB := some s.up } else { s with power.retrainB := some s.up }.raise 171) :=
  congrArg Host.Outcome.next (if_neg (by simpa [hdue, or_iff_not_imp_left] using hphase))

end

end

/-- Settles O51: the instructions that leave the pins alone select themselves, and each other clause is the lemma above of its row. -/
theorem tapAndRegisterEvents : Obligations.TapAndRegisterEvents := by
  unfold Obligations.TapAndRegisterEvents
  exact ⟨fun s => ⟨rfl, rfl, fun l => rfl, fun hopen => ⟨exec_tapExtest_open hopen, exec_tapClamp_open hopen, exec_tapHighz_open hopen⟩,
      fun hclosed i => exec_tap_closed hclosed⟩,
    fun s => ⟨fun q o v off hbar halign => exec_registerWrite_queue hbar halign, fun off v => exec_registerWrite_completion,
      fun off v => exec_registerWrite_moderation, fun e hplaced hup => exec_memoryError hup hplaced,
      fun e he hup => exec_memoryError_blockUncorrectable hup he, fun hphase =>
      ⟨fun hdue => ⟨exec_granaryRetrain_a hphase true hdue, exec_granaryRetrain_a hphase false hdue⟩,
        fun hdue => ⟨exec_granaryRetrain_b hphase true hdue, exec_granaryRetrain_b hphase false hdue⟩⟩,
      fun n v hup => exec_pcieLinkChange_down hup n v, exec_mlLaneLossOfLock, exec_pllLossOfLock⟩⟩

end Sys2Proof.Machine
end
